-- ==== Sys2Proof/Word.lean ====
section
/-! DEFINITION. The word types of the WZ480: bytes, 64-byte lines, time values and frame numbers. -/

namespace Sys2Proof

/-- One byte of a record, a line or a link frame. -/
abbrev Byte := BitVec 8

/-- One line: 64 bytes, byte 0 in bits 7..0 (R190: byte 0 is the byte at the lowest frame address). -/
abbrev Line := BitVec 512

/-- A 16-bit sequence, incarnation, tag or pass number; those the rules name as wrapping wrap (R1). -/
abbrev Word16 := BitVec 16

/-- A time value: one unsigned 72-bit count of 1/256 ns (R190). -/
abbrev TimeValue := BitVec 72

/-- A frame number, 0 to 7. -/
abbrev FrameNo := Fin 8

/-- A tap number, 0 to 7. -/
abbrev TapNo := Fin 8

/-- A mirror number, 0 to 7. -/
abbrev MirrorNo := Fin 8

end Sys2Proof
end

