-- ==== Sys2Proof/Config.lean ====
section
/-! DEFINITION. What the manual fixes once: limits, periods and defaults. The part has no implementation-chosen
constant and the manual leaves no value that a rule of it reads undefined, so there is no free value here
(notes/assumptions/4.md says why the store's first contents need none). -/

namespace Sys2Proof.Config

/-- The largest value of a saturating 32-bit count (R1). -/
def countMax : Nat := 2 ^ 32 - 1

/-- Ticks of the 250 MHz oscillator in one nominal millisecond. -/
def ticksPerMs : Nat := 250000

/-- The training timer's 10 ms per attempt, in nominal ticks (R63). -/
def trainingTicks : Nat := 10 * ticksPerMs

/-- The Hello interval of 1 ms while Linked, in nominal ticks (R64). -/
def helloTicks : Nat := ticksPerMs

/-- The refresh timer's 100 ms, in nominal ticks (R93). -/
def refreshTicks : Nat := 100 * ticksPerMs

/-- The refresh timer's 10 ms during an announced leave, in nominal ticks (R93). -/
def leaveRefreshTicks : Nat := 10 * ticksPerMs

/-- The resend timer's 50 ms, in nominal ticks (R159). -/
def resendTicks : Nat := 50 * ticksPerMs

/-- Places of the outbound buffer (R37). -/
def bufferEntries : Nat := 512

/-- Lines of the mirror store (R138). -/
def storeLines : Nat := 65536

/-- Places of a relay queue (R80). -/
def relayPlaces : Nat := 64

/-- Places of a control queue (R81). -/
def controlPlaces : Nat := 16

/-- Places of the recent-broadcast list (R75). -/
def recentPlaces : Nat := 16

/-- Places of the pending list (R158). -/
def pendingPlaces : Nat := 4

/-- The bound of F and F_int, in 2^-32 ns per tick (R114). -/
def trimBound : Int := 3435973

/-- Units of 2^-32 ns in one nanosecond. -/
def nanosecond : Nat := 2 ^ 32

/-- The largest rack time, 2^64 - 1 ns, in units of 2^-32 ns (R114). -/
def rackTimeMax : Nat := (2 ^ 64 - 1) * nanosecond

/-- The largest accepted delay, 8,000 ns in 1/256 ns (R124). -/
def delayMax : Int := 2048000

/-- DESIGN CHOICE (unsafe, notes/assumptions/4.md): what a byte of the mirror store that nothing has written reads as. -/
def storeFill : Byte := 0

end Sys2Proof.Config
end

