-- ==== Sys2Proof/Syntax.lean ====
section
/-! DEFINITION. The commands of the part: one constructor of `Instr` for each row of spec/opcode_table.json, with the
records and link frames they carry (Record and Frame Layouts). Fields a record or a frame holds are raw, as wide as the
layout gives them, so that every value a sender can write is a term. -/

namespace Sys2Proof

/-- The two cable ports. -/
inductive Port where
  | a
  | b
deriving DecidableEq, Repr

/-- One beat of a write burst: eight bytes and the mask over them; mask bit j set masks byte j (R16). -/
structure Beat where
  data : BitVec 64
  mask : BitVec 8
deriving DecidableEq, Repr

/-- A stamp: a time value followed by one quality byte (R190). -/
structure Stamp where
  time : TimeValue
  quality : Byte
deriving DecidableEq, Repr

/-! ### Link frames -/

/-- The common header of a link frame, less its kind. -/
structure Header where
  origin : Byte
  hops : Byte
deriving DecidableEq, Repr

/-- One 6-byte item of a vector. -/
structure VectorItem where
  hops : Byte
  flags : Byte
  state : Byte
  belief : Byte
  incarnation : Word16
deriving DecidableEq, Repr

/-- The fields of a Sample frame; its line count is the number of its lines. -/
structure SampleBody where
  dests : Byte
  tap : Byte
  half : Byte
  pass : Word16
  r : Word16
  x : Word16
  stamp : Stamp
  lines : List Line
deriving DecidableEq, Repr

/-- The fields of a Mark frame. -/
structure MarkBody where
  dests : Byte
  tap : Byte
  half : Byte
  kind : Byte
  pass : Word16
  forwarded : BitVec 32
  stamp : Stamp
deriving DecidableEq, Repr

/-- The fields of a Time Request. -/
structure TimeRequestBody where
  number : Byte
  t1 : TimeValue
deriving DecidableEq, Repr

/-- The fields of a Time Reply. -/
structure TimeReplyBody where
  number : Byte
  quality : Byte
  belief : Byte
  t1 : TimeValue
  t2 : TimeValue
  t3 : TimeValue
deriving DecidableEq, Repr

/-- The fields of a Hello; its frame number is the header's origin (Record and Frame Layouts). -/
structure HelloBody where
  items : Vector VectorItem 8
deriving DecidableEq, Repr

/-- The fields of a Roster Update; its frame number is the header's origin. -/
structure RosterUpdateBody where
  seq : Word16
  items : Vector VectorItem 8
deriving DecidableEq, Repr

/-- The fields of a Leave Ack. -/
structure LeaveAckBody where
  dest : Byte
  acking : Byte
  incarnation : Word16
deriving DecidableEq, Repr

/-- A 16-byte rack directive block: its kind, its frame or group, and the arm time of a Rack Arm. -/
structure RackBlock where
  kind : Byte
  target : Byte
  armTime : TimeValue
deriving DecidableEq, Repr

/-- The fields of a Rack Request. -/
structure RackRequestBody where
  dest : Byte
  seq : Word16
  block : RackBlock
deriving DecidableEq, Repr

/-- The fields of a Rack Order; `origin` is the submitting frame. -/
structure RackOrderBody where
  broadcastSeq : Word16
  rackSeq : BitVec 32
  origin : Byte
  seq : Word16
  block : RackBlock
deriving DecidableEq, Repr

/-- The fields of a Rack Refusal. -/
structure RackRefusalBody where
  dest : Byte
  reason : Byte
  seq : Word16
deriving DecidableEq, Repr

/-- The ten kinds of link frame. -/
inductive Body where
  | sample (f : SampleBody)
  | mark (f : MarkBody)
  | timeRequest (f : TimeRequestBody)
  | timeReply (f : TimeReplyBody)
  | hello (f : HelloBody)
  | rosterUpdate (f : RosterUpdateBody)
  | leaveAck (f : LeaveAckBody)
  | rackRequest (f : RackRequestBody)
  | rackOrder (f : RackOrderBody)
  | rackRefusal (f : RackRefusalBody)
deriving DecidableEq, Repr

/-- A link frame, less the CRC-32 that is computed afresh on every frame sent (R71). -/
structure Frame where
  header : Header
  body : Body
deriving DecidableEq, Repr

/-- Why a frame with a good CRC is turned away before its block sees it (R73): its form (an unknown kind, a wrong length),
or its hop count above 7. -/
inductive FrameFault where
  | form
  | hopLimit
deriving DecidableEq, Repr

/-! ### Directive records -/

/-- The arguments of Bind Tap. -/
structure BindTapArgs where
  tap : Byte
  sizeExp : Byte
  paired : Bool
  preset : Byte
  base : BitVec 64
  recordLen : Word16
  recordCount : Word16
  dests : Byte
  strict : Bool
  armGroup : Byte
  queueSize : Word16
  high : Word16
  low : Word16
  stop : Word16
  passLimit : Word16
deriving DecidableEq, Repr

/-- The arguments of Bind Mirror. -/
structure BindMirrorArgs where
  mirror : Byte
  sourceFrame : Byte
  sourceTap : Byte
  sizeExp : Byte
  paired : Bool
  fill : Byte
  base : BitVec 64
  recordLen : Word16
  recordCount : Word16
  stride : Word16
  ageLimit : BitVec 32
deriving DecidableEq, Repr

/-- The arguments of Set Stride Presets: the change set and the four values. -/
structure PresetArgs where
  set : BitVec 4
  p0 : Word16
  p1 : Word16
  p2 : Word16
  p3 : Word16
deriving DecidableEq, Repr

/-- The arguments of Time Settings: the change set, bits 0 to 8 for k, p, i, S, L, H, c_A, c_B and the master trim. -/
structure TimeSettingsArgs where
  set : BitVec 9
  k : Byte
  p : Byte
  i : Byte
  step : BitVec 32
  lock : Word16
  holdover : BitVec 32
  corrA : BitVec 32
  corrB : BitVec 32
  masterTrim : BitVec 32
deriving DecidableEq, Repr

/-- A taken directive record: what its code names and the fields that directive uses (R173). -/
inductive Directive where
  | bindTap (tag : Word16) (args : BindTapArgs)
  | unbindTap (tag : Word16) (tap : Byte)
  | armTap (tag : Word16) (tap : Byte) (time : TimeValue)
  | startTap (tag : Word16) (tap : Byte)
  | stopTap (tag : Word16) (tap : Byte)
  | haltTap (tag : Word16) (tap : Byte)
  | setStridePresets (tag : Word16) (args : PresetArgs)
  | bindMirror (tag : Word16) (args : BindMirrorArgs)
  | unbindMirror (tag : Word16) (mirror : Byte)
  | admitFrame (tag : Word16) (frame : Byte)
  | barFrame (tag : Word16) (frame : Byte)
  | forgetFrame (tag : Word16) (frame : Byte)
  | acknowledgeRestart (tag : Word16) (frame : Byte)
  | leaveRack (tag : Word16) (force : Bool)
  | rejoinRack (tag : Word16)
  | portControl (tag : Word16) (port : Byte) (action : Byte)
  | timeSettings (tag : Word16) (args : TimeSettingsArgs)
  | masterClaim (tag : Word16) (frame : Byte) (noWait : Bool)
  | rackArm (tag : Word16) (group : Byte) (time : TimeValue) (noWait : Bool)
  | rackHalt (tag : Word16) (group : Byte) (noWait : Bool)
  | acknowledgeEvents (tag : Word16) (count : BitVec 32)
  | clearCounters (tag : Word16)
  | restartPart (tag : Word16)
  | unknown (tag : Word16) (code : Word16)
deriving DecidableEq, Repr

/-! ### Commands -/

/-- The commands of the part: one constructor per row of spec/opcode_table.json, in the table's order. -/
inductive Instr where
  -- resets and start-up
  | partReset (frame : FrameNo) (disableA disableB : Bool)
  | eepromAbsent
  | configurationBlockRead (block : Option (BitVec 448))
  | restartCountRead (count : Option Word16)
  | restartCountWriteDone
  | restartCountWriteFail
  -- the memory channel
  | channelResetAssert
  | channelResetRelease
  | openRow (rank bank : Byte) (row : BitVec 18)
  | read (rank bank : Byte) (column : BitVec 10) (autoClose halfBurst : Bool)
  | write (rank bank : Byte) (column : BitVec 10) (autoClose halfBurst : Bool)
  | writeAccess (beats : List Beat)
  | close (rank bank : Byte)
  | closeAll (rank : Byte)
  | refresh (rank : Byte)
  | selfRefreshEnter (rank : Byte)
  | selfRefreshExit (rank : Byte)
  | powerDownEnter (rank : Byte)
  | powerDownExit (rank : Byte)
  | modeSet (register : Byte) (value : Byte)
  -- directives
  | partialDirective (enabled : Fin 64) (position : BitVec 10)
  | unknownCode (tag code : Word16)
  | bindTap (tag : Word16) (args : BindTapArgs)
  | unbindTap (tag : Word16) (tap : Byte)
  | armTap (tag : Word16) (tap : Byte) (time : TimeValue)
  | startTap (tag : Word16) (tap : Byte)
  | stopTap (tag : Word16) (tap : Byte)
  | haltTap (tag : Word16) (tap : Byte)
  | setStridePresets (tag : Word16) (args : PresetArgs)
  | bindMirror (tag : Word16) (args : BindMirrorArgs)
  | unbindMirror (tag : Word16) (mirror : Byte)
  | admitFrame (tag : Word16) (frame : Byte)
  | barFrame (tag : Word16) (frame : Byte)
  | forgetFrame (tag : Word16) (frame : Byte)
  | acknowledgeRestart (tag : Word16) (frame : Byte)
  | leaveRack (tag : Word16) (force : Bool)
  | rejoinRack (tag : Word16)
  | portEnable (tag : Word16) (port : Byte)
  | portDisable (tag : Word16) (port : Byte)
  | portRetrain (tag : Word16) (port : Byte)
  | timeSettings (tag : Word16) (args : TimeSettingsArgs)
  | masterClaim (tag : Word16) (frame : Byte) (noWait : Bool)
  | rackArm (tag : Word16) (group : Byte) (time : TimeValue) (noWait : Bool)
  | rackHalt (tag : Word16) (group : Byte) (noWait : Bool)
  | acknowledgeEvents (tag : Word16) (count : BitVec 32)
  | clearCounters (tag : Word16)
  | restartPart (tag : Word16)
  -- port events
  | signalDetected (port : Port)
  | lossOfSignal (port : Port)
  | neighbourTraining (port : Port)
  | alignmentComplete (port : Port)
  | trainingTimeout (port : Port)
  | helloTimer (port : Port)
  -- received frames
  | badCrcFrame (port : Port)
  | malformedFrame (port : Port) (fault : FrameFault)
  | sample (port : Port) (header : Header) (body : SampleBody)
  | mark (port : Port) (header : Header) (body : MarkBody)
  | timeRequest (port : Port) (header : Header) (body : TimeRequestBody)
  | timeReply (port : Port) (header : Header) (body : TimeReplyBody)
  | hello (port : Port) (header : Header) (body : HelloBody)
  | rosterUpdate (port : Port) (header : Header) (body : RosterUpdateBody)
  | leaveAck (port : Port) (header : Header) (body : LeaveAckBody)
  | rackRequest (port : Port) (header : Header) (body : RackRequestBody)
  | rackOrder (port : Port) (header : Header) (body : RackOrderBody)
  | rackRefusal (port : Port) (header : Header) (body : RackRefusalBody)
  -- events of the part's own making
  | transmissionComplete (port : Port)
  | tapDrained (tap : TapNo)
  | armTimeReached (tap : TapNo)
  | leaveAnnounced
  | leaveComplete
  | refreshTimerExpiry
  | exchangeTimerExpiry
  | resendTimerExpiry
  | tick
deriving DecidableEq, Repr

end Sys2Proof
end

