-- ==== Sys2Proof/Machine/State.lean ====
section
/-! DEFINITION. The state of the part: one structure per block, as the chapter of each block specifies it, the pins the
manual gives the part, and the queue of waiting commands. Plain data throughout. -/

namespace Sys2Proof.Machine

/-- No command of this part stops the machine with a fault: the manual gives every command an effect in every state.
The type is closed and empty, so nothing raises it (safe). -/
inductive Fault where
deriving DecidableEq, Repr

/-- Why a command is refused a meaning. -/
inductive Refusal where
  /-- Raised by `exec` alone, for a command that has no meaning in the model yet; no arm raises it now (safe). -/
  | notModelled (mnemonic : String)
deriving DecidableEq, Repr

/-- One value for each of the two cable ports. -/
structure PerPort (α : Type) where
  a : α
  b : α
deriving DecidableEq, Repr

/-! ### The Channel Tracker (The Memory Channel) -/

/-- A rank's state (R4, R5). -/
inductive RankState where
  | active
  | activePowerDown
  | prechargePowerDown
  | selfRefresh
deriving DecidableEq, Repr

/-- A Bank Table entry. -/
inductive BankState where
  | closed
  | opened (row : Nat)
  | unknown
deriving DecidableEq, Repr

/-- The additive latency setting (R11). -/
inductive Additive where
  | off
  | clMinus1
  | clMinus2
deriving DecidableEq, Repr

/-- The order of the digits above line-in-row (The Address Map). -/
inductive MapOrder where
  | a
  | b
  | c
  | d
deriving DecidableEq, Repr

/-- The Address Map (R14); the row count is 2^rowBits. -/
structure AddressMap where
  ranks : Nat
  banks : Nat
  rowBits : Nat
  order : MapOrder
deriving DecidableEq, Repr

/-- The decode fault kinds of the memory channel. -/
inductive DecodeFault where
  | outOfMap
  | sleepingRank
  | strayExit
  | reopen
  | openAtRefresh
  | openAtSelfRefresh
  | closedAccess
  | badLatency
deriving DecidableEq, Repr

/-- A Write whose last data beat has not passed (R18): the line of the access that it forms, or none where it forms none (R2, R6, R10,
R12), its start column, and the write latency in force when its command was seen, or none where Unknown (R11). -/
structure WriteBurst where
  line : Option Nat
  column : BitVec 10
  halfBurst : Bool
  latency : Option Nat
deriving DecidableEq, Repr

/-- What the part drives toward the controller for the last Read command (R3): nothing, the DRAM's own beats, or
substituted beats in the burst's own order. -/
inductive ReadDrive where
  | idle
  | dram
  | beats (data : List (BitVec 64))
deriving DecidableEq, Repr

/-- The Channel Tracker. -/
structure Channel where
  ranks : Vector RankState 2
  banks : Vector BankState 32
  readCas : Option Nat
  additive : Option Additive
  writeCas : Option Nat
  map : Option AddressMap
  decodeFaults : Nat
  unservedReads : Nat
  missedWrites : Nat
  lastFault : Option (DecodeFault × Option Byte)
  resetAsserted : Bool
  inFlight : List WriteBurst
deriving DecidableEq, Repr

/-! ### The Region Table (Regions) -/

/-- One of the 18 entries; its kind follows from its index (R21). -/
structure Region where
  valid : Bool
  base : Nat
  size : Nat
  paired : Bool
deriving DecidableEq, Repr

/-! ### The Tap Engine (Sample Taps) -/

/-- A half of a region. -/
inductive Half where
  | even
  | odd
deriving DecidableEq, Repr

/-- The tap states. -/
inductive TapState where
  | unbound
  | idle
  | armed
  | running
  | draining
  | halted
deriving DecidableEq, Repr

/-- The two kinds of mark. -/
inductive MarkKind where
  | passEnd
  | passAbandoned
deriving DecidableEq, Repr

/-- What an entry of a tap queue carries besides its pass, stamp and ports (R51). -/
inductive EntryLoad where
  | line (r x : Nat) (data : Line)
  | mark (kind : MarkKind) (forwarded : Nat)
deriving DecidableEq, Repr

/-- An entry of a tap queue (R51): the destinations through each port and the pending port set. -/
structure QueueEntry where
  pass : Word16
  half : Half
  stamp : Stamp
  load : EntryLoad
  dests : PerPort Byte
  pending : PerPort Bool
deriving DecidableEq, Repr

/-- A tap's six counters (R58). -/
structure TapCounters where
  forwarded : Nat
  dropped : Nat
  marksDropped : Nat
  strays : Nat
  lateWrites : Nat
  unadmitted : Nat
deriving DecidableEq, Repr

/-- The tap record. -/
structure Tap where
  state : TapState
  recordLen : Nat
  recordCount : Nat
  preset : Fin 4
  dests : Byte
  queueSize : Nat
  high : Nat
  low : Nat
  stop : Nat
  strict : Bool
  passLimit : Nat
  armGroup : Fin 16
  armTime : TimeValue
  waiting : List Word16
  half : Half
  r : Nat
  x : Nat
  pass : Word16
  passLines : Nat
  dropSeen : Bool
  passesDone : Nat
  queue : List QueueEntry
  counters : TapCounters
deriving DecidableEq, Repr

/-- The Tap Engine: eight taps and four stride presets. The outbound buffer is the taps' queues together (R37). -/
structure TapEngine where
  taps : Vector Tap 8
  presets : Vector Nat 4
deriving DecidableEq, Repr

/-! ### The Mirror Store (Mirror Windows) -/

/-- The half states (R143). -/
inductive HalfState where
  | empty
  | filling
  | complete
  | partly
  | stale
deriving DecidableEq, Repr

/-- A half record (R143). The present map is the list of the present positions r × X + x, strictly rising. -/
structure HalfRecord where
  state : HalfState
  pass : Word16
  present : List Nat
  received : Nat
  startStamp : Option Stamp
  endStamp : Option Stamp
  forwarded : Option Nat
deriving DecidableEq, Repr

/-- A mirror's six counters (R156). -/
structure MirrorCounters where
  outOfShape : Nat
  abandoned : Nat
  absentReads : Nat
  staleReads : Nat
  ignoredMarks : Nat
  writes : Nat
deriving DecidableEq, Repr

/-- The mirror record. -/
structure Mirror where
  bound : Bool
  sourceFrame : FrameNo
  sourceTap : TapNo
  paired : Bool
  recordLen : Nat
  recordCount : Nat
  stride : Nat
  fill : Byte
  ageLimit : Nat
  extentStart : Nat
  extentLength : Nat
  evenHalf : HalfRecord
  oddHalf : HalfRecord
  counters : MirrorCounters
deriving DecidableEq, Repr

/-- An item of the extent list (R138). -/
structure Extent where
  mirror : MirrorNo
  start : Nat
  length : Nat
deriving DecidableEq, Repr

/-- The mirror store's contents: byte cells at strictly rising addresses, none of them equal to what an unlisted address
reads as (`Memory.wf` says so). -/
abbrev Memory := List Host.Cell

/-- The Mirror Store. Byte i of store line n is the cell at address 64 × n + i; the cells are in one canonical form. -/
structure MirrorStore where
  mirrors : Vector Mirror 8
  store : Memory
  extents : List Extent
deriving DecidableEq, Repr

/-! ### The Link Controller (Ports and Link Frames) -/

/-- The port states. -/
inductive PortState where
  | disabled
  | dark
  | training
  | linked
  | joined
  | fault
deriving DecidableEq, Repr

/-- Why a port is in Fault. -/
inductive FaultCause where
  | none
  | trainFail
  | duplicateFrame
deriving DecidableEq, Repr

/-- A port's sixteen counters, in the order of R86's table. -/
structure PortCounters where
  received : Nat
  crcErrors : Nat
  malformed : Nat
  hopLimited : Nat
  notJoined : Nat
  ownOrigin : Nat
  duplicates : Nat
  unroutable : Nat
  turnedBack : Nat
  unaccepted : Nat
  relayDrops : Nat
  controlDrops : Nat
  flushes : Nat
  sent : Nat
  lostInFlight : Nat
  trainingFailures : Nat
deriving DecidableEq, Repr

/-- The port record. `lastGranted` numbers the rotating requesters: 0 the relay queue, t + 1 tap t (R84). The two timers
hold the period in ticks that they were set to, or none while stopped. `signal` is the pin: whether the cable carries a
signal (R62). -/
structure PortRecord where
  state : PortState
  cause : FaultCause
  attempt : Nat
  neighbour : Option (FrameNo × Word16)
  errorScore : Nat
  goodRun : Nat
  relay : List Frame
  control : List Frame
  slotRequest : Option TimeRequestBody
  slotReply : Option TimeReplyBody
  lastGranted : Fin 9
  inTransmission : Option Frame
  counters : PortCounters
  trainingTimer : Option Nat
  helloTimer : Option Nat
  signal : Bool
deriving DecidableEq, Repr

/-- The Link Controller. -/
structure Link where
  ports : PerPort PortRecord
  broadcastSeq : Word16
  unsentOwn : Nat
deriving DecidableEq, Repr

/-! ### The Roster Unit (Roster and Hot Swap) -/

/-- The own part state (R88); `leaving` and the rest also name an advertised part state. -/
inductive PartState where
  | starting
  | active
  | leaving
  | departed
deriving DecidableEq, Repr

/-- The leave phase. -/
inductive LeavePhase where
  | none
  | draining
  | announced
deriving DecidableEq, Repr

/-- A roster entry's state (R90). -/
inductive EntryState where
  | absent
  | present
  | leaving
  | departed
  | lost
deriving DecidableEq, Repr

/-- A roster entry. -/
structure RosterEntry where
  state : EntryState
  hops : PerPort (Option Nat)
  route : Option Port
  incarnation : Option Word16
  masterCapable : Bool
  sendGate : Bool
  acceptGate : Bool
  restartSeen : Bool
  belief : Option FrameNo
deriving DecidableEq, Repr

/-- The Roster Unit. The entry at the own frame number stays Absent: the own entry is read from the other fields, as
R90 gives it. -/
structure Roster where
  ownState : PartState
  entries : Vector RosterEntry 8
  incarnation : Word16
  heldCount : Word16
  masterCapable : Bool
  autoAdmit : Bool
  belief : Option FrameNo
  phase : LeavePhase
  waitSet : Byte
  leaveTag : Option Word16
  refreshTimer : Option Nat
  recent : List (FrameNo × Word16)
deriving DecidableEq, Repr

/-! ### The Rack Time Unit (Rack Time) -/

/-- The lock states. -/
inductive LockState where
  | freeRun
  | acquiring
  | locked
  | holdover
  | master
deriving DecidableEq, Repr

/-- The nine settings of the settings table. -/
structure Settings where
  k : Nat
  p : Nat
  i : Nat
  step : Nat
  lock : Nat
  holdover : Nat
  corr : PerPort Int
  masterTrim : Int
deriving DecidableEq, Repr

/-- The Time Request awaiting its reply. -/
structure Outstanding where
  number : Byte
  port : Port
deriving DecidableEq, Repr

/-- The four exchange counters (R134). -/
structure TimeCounters where
  accepted : Nat
  rejected : Nat
  steps : Nat
  lateReplies : Nat
deriving DecidableEq, Repr

/-- The Rack Time Unit. Rack time is held in units of 2^-32 ns. The exchange timer holds the interval in ticks it was
last restarted with, or none before it first starts (R120); `exponent` is the k of that interval, which the servo goes by until
the next restart (R117, R126). -/
structure RackTime where
  time : Nat
  trim : Int
  integral : Int
  lock : LockState
  upPort : Option Port
  outstanding : Option Outstanding
  requestNumber : Byte
  lastOffset : Int
  lastDelay : Int
  lastQuality : Option (Byte × Bool)
  missed : Nat
  within : Nat
  outside : Nat
  holdoverAge : Nat
  beenMaster : Bool
  settings : Settings
  counters : TimeCounters
  exchangeTimer : Option Nat
  exponent : Nat
deriving DecidableEq, Repr

/-! ### The Rack Order Unit (Rack Orders) -/

/-- A rack directive. -/
inductive RackDirective where
  | masterClaim (frame : FrameNo)
  | rackArm (group : Fin 16) (time : TimeValue)
  | rackHalt (group : Fin 16)
deriving DecidableEq, Repr

/-- The status of a pending entry. -/
inductive PendingStatus where
  | waiting
  | sent
  | held
deriving DecidableEq, Repr

/-- A pending entry. -/
structure PendingEntry where
  seq : Word16
  directive : RackDirective
  tag : Word16
  status : PendingStatus
deriving DecidableEq, Repr

/-- Why a rack directive is refused; `overtaken` stands in an event alone. -/
inductive RefusalReason where
  | notMaster
  | notCandidate
  | overtaken
deriving DecidableEq, Repr

/-- The seven counters of the Rack Order Unit. -/
structure OrderCounters where
  applied : Nat
  duplicates : Nat
  ordered : Nat
  refusals : Nat
  skippedTaps : Nat
  lateArms : Nat
  malformed : Nat
deriving DecidableEq, Repr

/-- The Rack Order Unit. -/
structure RackOrders where
  pending : List PendingEntry
  nextSeq : Word16
  nextRackSeq : Nat
  lastOrder : Option (Nat × FrameNo)
  applied : Vector (Option Word16) 8
  resendTimer : Option Nat
  counters : OrderCounters
deriving DecidableEq, Repr

/-! ### The Directive and Report Unit (Directives, Reports and Start-up) -/

/-- The results a directive posts (R175). -/
inductive DirectiveResult where
  | done
  | accepted
  | busy
  | badArgument
  | overlap
  | noSpace
  | notBound
  | notMember
  | noMaster
  | noSuccessor
  | leaving
  | rackRefused
  | unknownCode
deriving DecidableEq, Repr

/-- A result record (R175). -/
structure ResultRecord where
  number : Nat
  tag : Word16
  code : Word16
  result : DirectiveResult
deriving DecidableEq, Repr

/-- The causes of a Configuration Fault event. -/
inductive ConfigFault where
  | addressMap
  | regionPlacement
  | restartCount
  | eepromAbsent
  | configUnreadable
deriving DecidableEq, Repr

/-- An event's kind with its subject and detail (R177's table). -/
inductive EventInfo where
  | tapHalted (tap : TapNo) (pass : Word16)
  | linesDropped (tap : TapNo) (pass : Word16)
  | portStateChanged (port : Port) (state : PortState) (cause : FaultCause)
  | entryChanged (frame : FrameNo) (state : EntryState)
  | partStateChanged (own : FrameNo) (state : PartState)
  | beliefChanged (own : FrameNo) (belief : Option FrameNo)
  | restartSeen (frame : FrameNo) (incarnation : Word16)
  | leaveComplete (own : FrameNo) (incarnation : Word16)
  | lockStateChanged (own : FrameNo) (new former : LockState)
  | timeStep (own : FrameNo) (offset : Int)
  | rackApplied (origin : FrameNo) (directive : RackDirective) (seq : Word16) (rackSeq : Nat)
  | rackRefused (frame : FrameNo) (seq : Word16) (reason : RefusalReason)
  | lateArm (group : Fin 16) (rackSeq : Nat) (time : TimeValue)
  | mirrorAged (mirror : MirrorNo) (half : Half) (pass : Word16)
  | decodeFault (rank : Option Byte) (kind : DecodeFault)
  | configurationFault (cause : ConfigFault)
  | partialDirective (enabled position : Nat)
deriving DecidableEq, Repr

/-- An event record (R177). -/
structure EventRecord where
  number : Nat
  info : EventInfo
  stamp : Stamp
deriving DecidableEq, Repr

/-- The load status (R184). -/
inductive LoadStatus where
  | loading
  | loaded
  | absent
  | unreadable
deriving DecidableEq, Repr

/-- How far the start-up has come (R184, R186): the work in flight that the next EEPROM event ends. -/
inductive LoadStep where
  | firstBlock
  | secondBlock
  | restartCount
  | writeBack
  | finished
deriving DecidableEq, Repr

/-- The stored values of a good configuration block, as the EEPROM holds them (R185). -/
structure StoredConfig where
  ranks : Byte
  banks : Byte
  rowBits : Byte
  order : Byte
  directiveBase : BitVec 64
  directiveSize : BitVec 32
  reportBase : BitVec 64
  masterCapable : Bool
  autoAdmit : Bool
  k : Byte
  p : Byte
  i : Byte
  step : BitVec 32
  lock : Word16
  holdover : BitVec 32
  corrA : BitVec 32
  corrB : BitVec 32
  masterTrim : BitVec 32
deriving DecidableEq, Repr

/-- The strap values sampled at part reset (R183). -/
structure Straps where
  frame : FrameNo
  disable : PerPort Bool
deriving DecidableEq, Repr

/-- The Directive and Report Unit. `configFaults` holds bit (cause code - 1) for each cause raised since part reset. -/
structure Reporter where
  results : Vector (Option ResultRecord) 16
  resultsPosted : Nat
  directivesTaken : Nat
  partialDirectives : Nat
  events : Vector (Option EventRecord) 32
  eventCount : Nat
  acknowledged : Nat
  attention : Bool
  straps : Straps
  loadStatus : LoadStatus
  loadStep : LoadStep
  stored : Option StoredConfig
  configFaults : BitVec 5
  countUnreadable : Bool
  writeInProgress : Option Word16
  writeWaiting : Option Word16
deriving DecidableEq, Repr

/-! ### The whole part -/

/-- The state of the part. `toDram` is the last channel command or write burst that left the part toward the DRAM, as it
arrived (R3), and `toController` what the last Read drives toward the controller. `pending` is the queue of the commands
that are waiting, first in, first out: the model's own, not the manual's. -/
structure State where
  channel : Channel
  regions : Vector Region 18
  tapEngine : TapEngine
  mirrorStore : MirrorStore
  link : Link
  roster : Roster
  clock : RackTime
  orders : RackOrders
  reporter : Reporter
  toDram : Option Instr
  toController : ReadDrive
  pending : List Instr
deriving DecidableEq, Repr

/-! ### After part reset -/

/-- R20: the tracker after part reset. -/
def Channel.reset : Channel where
  ranks := Vector.replicate 2 .active
  banks := Vector.replicate 32 .closed
  readCas := none
  additive := none
  writeCas := none
  map := none
  decodeFaults := 0
  unservedReads := 0
  missedWrites := 0
  lastFault := none
  resetAsserted := false
  inFlight := []

/-- R21: an emptied Region Table entry. -/
def Region.empty : Region := ⟨false, 0, 0, false⟩

/-- R33: every counter of a tap at 0. -/
def TapCounters.zero : TapCounters := ⟨0, 0, 0, 0, 0, 0⟩

/-- R33: a tap in Unbound holds no record. -/
def Tap.unbound : Tap where
  state := .unbound
  recordLen := 0
  recordCount := 0
  preset := 0
  dests := 0
  queueSize := 0
  high := 0
  low := 0
  stop := 0
  strict := false
  passLimit := 0
  armGroup := 0
  armTime := 0
  waiting := []
  half := .even
  r := 0
  x := 0
  pass := 0
  passLines := 0
  dropSeen := false
  passesDone := 0
  queue := []
  counters := TapCounters.zero

/-- R59: the Tap Engine after part reset. -/
def TapEngine.reset : TapEngine := ⟨Vector.replicate 8 Tap.unbound, Vector.replicate 4 1⟩

/-- R143: a half as a new binding leaves it. -/
def HalfRecord.empty : HalfRecord := ⟨.empty, 0, [], 0, none, none, none⟩

/-- R156: every counter of a mirror at 0. -/
def MirrorCounters.zero : MirrorCounters := ⟨0, 0, 0, 0, 0, 0⟩

/-- R137: a mirror in Unbound holds no record. -/
def Mirror.unbound : Mirror where
  bound := false
  sourceFrame := 0
  sourceTap := 0
  paired := false
  recordLen := 0
  recordCount := 0
  stride := 0
  fill := 0
  ageLimit := 0
  extentStart := 0
  extentLength := 0
  evenHalf := HalfRecord.empty
  oddHalf := HalfRecord.empty
  counters := MirrorCounters.zero

/-- R157: the Mirror Store after part reset, with nothing listed in the store. -/
def MirrorStore.reset : MirrorStore := ⟨Vector.replicate 8 Mirror.unbound, [], []⟩

/-- R86: every counter of a port at 0. -/
def PortCounters.zero : PortCounters := ⟨0, 0, 0, 0, 0, 0, 0, 0, 0, 0, 0, 0, 0, 0, 0, 0⟩

/-- R61: a port record after part reset, by its disable strap and the signal its cable carries. -/
def PortRecord.reset (disabled signal : Bool) : PortRecord where
  state := if disabled then .disabled else .dark
  cause := .none
  attempt := 1
  neighbour := none
  errorScore := 0
  goodRun := 0
  relay := []
  control := []
  slotRequest := none
  slotReply := none
  lastGranted := 8
  inTransmission := none
  counters := PortCounters.zero
  trainingTimer := none
  helloTimer := none
  signal := signal

/-- R90: the values of an Absent entry. -/
def RosterEntry.absent : RosterEntry where
  state := .absent
  hops := ⟨none, none⟩
  route := none
  incarnation := none
  masterCapable := false
  sendGate := false
  acceptGate := false
  restartSeen := false
  belief := none

/-- R113: the Roster Unit after part reset. DESIGN CHOICE (notes/assumptions/37.md): incarnation and held restart count 0, not
master-capable and no auto-admit until the load sets them (R89, R185). -/
def Roster.reset : Roster where
  ownState := .starting
  entries := Vector.replicate 8 RosterEntry.absent
  incarnation := 0
  heldCount := 0
  masterCapable := false
  autoAdmit := false
  belief := none
  phase := .none
  waitSet := 0
  leaveTag := none
  refreshTimer := none
  recent := []

/-- The defaults of the settings table (R116). -/
def Settings.default : Settings where
  k := 18
  p := 2
  i := 6
  step := 2000
  lock := 16
  holdover := 60000
  corr := ⟨0, 0⟩
  masterTrim := 0

/-- R134: every exchange counter at 0. -/
def TimeCounters.zero : TimeCounters := ⟨0, 0, 0, 0⟩

/-- R135: the Rack Time Unit after part reset. -/
def RackTime.reset : RackTime where
  time := 0
  trim := 0
  integral := 0
  lock := .freeRun
  upPort := none
  outstanding := none
  requestNumber := 0
  lastOffset := 0
  lastDelay := 0
  lastQuality := none
  missed := 0
  within := 0
  outside := 0
  holdoverAge := 0
  beenMaster := false
  settings := Settings.default
  counters := TimeCounters.zero
  exchangeTimer := none
  exponent := 18

/-- Every counter of the Rack Order Unit at 0. -/
def OrderCounters.zero : OrderCounters := ⟨0, 0, 0, 0, 0, 0, 0⟩

/-- R171: the Rack Order Unit after part reset. -/
def RackOrders.reset : RackOrders where
  pending := []
  nextSeq := 0
  nextRackSeq := 0
  lastOrder := none
  applied := Vector.replicate 8 none
  resendTimer := none
  counters := OrderCounters.zero

/-- R189: the Directive and Report Unit after part reset, with the straps as sampled. -/
def Reporter.reset (straps : Straps) : Reporter where
  results := Vector.replicate 16 none
  resultsPosted := 0
  directivesTaken := 0
  partialDirectives := 0
  events := Vector.replicate 32 none
  eventCount := 0
  acknowledged := 0
  attention := false
  straps := straps
  loadStatus := .loading
  loadStep := .firstBlock
  stored := none
  configFaults := 0
  countUnreadable := false
  writeInProgress := none
  writeWaiting := none

/-- The part right after part reset, with the straps as sampled, the signals its cables carry and the commands that
wait outside it (R20, R21, R59, R61, R113, R135, R157, R171, R189). -/
def State.resetWith (straps : Straps) (signal : PerPort Bool) (pending : List Instr) : State where
  channel := Channel.reset
  regions := Vector.replicate 18 Region.empty
  tapEngine := TapEngine.reset
  mirrorStore := MirrorStore.reset
  link := ⟨⟨PortRecord.reset straps.disable.a signal.a, PortRecord.reset straps.disable.b signal.b⟩, 0, 0⟩
  roster := Roster.reset
  clock := RackTime.reset
  orders := RackOrders.reset
  reporter := Reporter.reset straps
  toDram := none
  toController := .idle
  pending := pending

/-- The machine right after part reset. DESIGN CHOICE (unsafe, notes/assumptions/1.md): the straps read frame 0 with no
port disabled, and no cable carries a signal; the manual leaves both to the rack. -/
def State.reset : State := State.resetWith ⟨0, ⟨false, false⟩⟩ ⟨false, false⟩ []

end Sys2Proof.Machine
end

