-- ==== Sys2Proof/Machine/Operands.lean ====
section
/-! DEFINITION. Reading and writing the fields of records, lines and frames (Record and Frame Layouts, R190): byte fields,
codes, saturated values, and the numbers 0 to 7 that name frames, taps and mirrors. -/

namespace Sys2Proof.Machine

/-! ### Fields -/

/-- The field of `w` bits that starts at byte `byte` of a little-endian record (R190). -/
def field {n : Nat} (record : BitVec n) (byte w : Nat) : BitVec w := record.extractLsb' (8 * byte) w

/-- A flag byte: bit 0 gives the value and the other bits are ignored (R190). -/
def flagAt {n : Nat} (record : BitVec n) (byte : Nat) : Bool := record.getLsbD (8 * byte)

/-- A field to be written: its first bit, its width and its value, which fits the width. -/
structure Piece where
  offset : Nat
  width : Nat
  value : Nat
deriving DecidableEq, Repr

/-- The record that holds the pieces and zero elsewhere; no two pieces of a layout overlap. -/
def assemble (n : Nat) (pieces : List Piece) : BitVec n :=
  pieces.foldr (fun p acc => acc ||| (BitVec.ofNat n (p.value % 2 ^ p.width) <<< p.offset)) 0#n

/-- A value written saturated at its field's largest magnitude (R190). -/
def saturate (w v : Nat) : Nat := min v (2 ^ w - 1)

/-- A signed value written saturated at its field's largest magnitude, in two's complement (R190). -/
def saturateSigned (w : Nat) (z : Int) : Nat :=
  (max (-(2 ^ (w - 1))) (min z (2 ^ (w - 1) - 1)) % 2 ^ w).toNat

/-- A field of `w` bits at bit `bit` of byte `byte`, saturated. -/
def bitsAt (byte bit w v : Nat) : Piece := ⟨8 * byte + bit, w, saturate w v⟩

/-- A field of whole bytes at byte `byte`, saturated. -/
def bytesAt (byte len v : Nat) : Piece := ⟨8 * byte, 8 * len, saturate (8 * len) v⟩

/-- A field of whole bytes that shows the low bits of a wider value. -/
def lowBytesAt (byte len v : Nat) : Piece := ⟨8 * byte, 8 * len, v⟩

/-- A signed field of whole bytes at byte `byte`, saturated. -/
def signedAt (byte len : Nat) (z : Int) : Piece := ⟨8 * byte, 8 * len, saturateSigned (8 * len) z⟩

/-- One bit. -/
def bitAt (byte bit : Nat) (b : Bool) : Piece := ⟨8 * byte + bit, 1, b.toNat⟩

/-- A stamp's ten bytes: the time value and the quality (R190). -/
def stampAt (byte : Nat) (s : Stamp) : List Piece := [bytesAt byte 9 s.time.toNat, bytesAt (byte + 9) 1 s.quality.toNat]

/-- `pieces` moved up by whole bytes. -/
def moveBy (byte : Nat) (pieces : List Piece) : List Piece := pieces.map fun p => ⟨p.offset + 8 * byte, p.width, p.value⟩

/-! ### Numbers that name frames, taps and mirrors -/

/-- A raw byte as a number 0 to 7. -/
def toEight (b : Byte) : Option (Fin 8) := if h : b.toNat < 8 then some ⟨b.toNat, h⟩ else none

/-- A raw byte as an arm group 0 to 15. -/
def toGroup (b : Byte) : Option (Fin 16) := if h : b.toNat < 16 then some ⟨b.toNat, h⟩ else none

/-- A raw byte as a preset index 0 to 3. -/
def toPreset (b : Byte) : Option (Fin 4) := if h : b.toNat < 4 then some ⟨b.toNat, h⟩ else none

/-- A number 0 to 7 as a byte. -/
def eightByte (f : Fin 8) : Byte := BitVec.ofNat 8 f.val

/-- A frame number, or FFh for none (R190). -/
def frameByte (f : Option FrameNo) : Byte := match f with
  | some f => eightByte f
  | none => 0xFF#8

/-- A destination set or wait set holds a frame. -/
def inSet (set : Byte) (f : FrameNo) : Bool := set.getLsbD f.val

/-- The set of the one frame. -/
def oneFrame (f : FrameNo) : Byte := 1#8 <<< f.val

/-- The set with a frame taken out. -/
def without (set : Byte) (f : FrameNo) : Byte := set &&& ~~~(oneFrame f)

/-- All eight numbers, lowest first. -/
def eight : List (Fin 8) := [0, 1, 2, 3, 4, 5, 6, 7]

/-- The set of the frames a test holds of. -/
def frameSet (test : FrameNo → Bool) : Byte := eight.foldl (fun acc f => if test f then acc ||| oneFrame f else acc) 0

/-! ### Codes (R190) -/

/-- Quality and lock state codes. -/
def lockCode : LockState → Byte
  | .freeRun => 0
  | .acquiring => 1
  | .locked => 2
  | .holdover => 3
  | .master => 4

/-- Tap state codes. -/
def tapCode : TapState → Nat
  | .unbound => 0
  | .idle => 1
  | .armed => 2
  | .running => 3
  | .draining => 4
  | .halted => 5

/-- Half state codes. -/
def halfStateCode : HalfState → Nat
  | .empty => 0
  | .filling => 1
  | .complete => 2
  | .partly => 3
  | .stale => 4

/-- Half codes: odd 1. -/
def halfCode : Half → Byte
  | .even => 0
  | .odd => 1

/-- A half byte as a half. -/
def toHalf (b : Byte) : Option Half := if b = 0 then some .even else if b = 1 then some .odd else none

/-- Port state codes. -/
def portStateCode : PortState → Nat
  | .disabled => 0
  | .dark => 1
  | .training => 2
  | .linked => 3
  | .joined => 4
  | .fault => 5

/-- Fault cause codes. -/
def causeCode : FaultCause → Nat
  | .none => 0
  | .trainFail => 1
  | .duplicateFrame => 2

/-- Roster entry state codes. -/
def entryCode : EntryState → Nat
  | .absent => 0
  | .present => 1
  | .leaving => 2
  | .departed => 3
  | .lost => 4

/-- Own and advertised part state codes. -/
def partCode : PartState → Nat
  | .starting => 0
  | .active => 1
  | .leaving => 2
  | .departed => 3

/-- Leave phase codes. -/
def phaseCode : LeavePhase → Nat
  | .none => 0
  | .draining => 1
  | .announced => 2

/-- Load status codes. -/
def loadCode : LoadStatus → Nat
  | .loading => 0
  | .loaded => 1
  | .absent => 2
  | .unreadable => 3

/-- Decode fault kind codes. -/
def decodeFaultCode : DecodeFault → Nat
  | .outOfMap => 1
  | .sleepingRank => 2
  | .strayExit => 3
  | .reopen => 4
  | .openAtRefresh => 5
  | .openAtSelfRefresh => 6
  | .closedAccess => 7
  | .badLatency => 8

/-- Configuration fault cause codes. -/
def configFaultCode : ConfigFault → Nat
  | .addressMap => 1
  | .regionPlacement => 2
  | .restartCount => 3
  | .eepromAbsent => 4
  | .configUnreadable => 5

/-- Rack directive kind codes. -/
def rackKindCode : RackDirective → Nat
  | .masterClaim _ => 1
  | .rackArm _ _ => 2
  | .rackHalt _ => 3

/-- Refusal reason codes. -/
def reasonCode : RefusalReason → Byte
  | .notMaster => 1
  | .notCandidate => 2
  | .overtaken => 3

/-- Mark kind codes. -/
def markCode : MarkKind → Byte
  | .passEnd => 1
  | .passAbandoned => 2

/-- A mark kind byte as a mark kind. -/
def toMarkKind (b : Byte) : Option MarkKind :=
  if b = 1 then some .passEnd else if b = 2 then some .passAbandoned else none

/-- Port codes. -/
def portCode : Port → Nat
  | .a => 0
  | .b => 1

/-- A port byte as a port. -/
def toPort (b : Byte) : Option Port := if b = 0 then some .a else if b = 1 then some .b else none

/-- A port or none, in a byte. -/
def portByte : Option Port → Nat
  | some p => portCode p
  | none => 0xFF

/-- Rank state codes. -/
def rankCode : RankState → Nat
  | .active => 1
  | .activePowerDown => 2
  | .prechargePowerDown => 3
  | .selfRefresh => 4

/-- Additive latency setting codes. -/
def additiveCode : Additive → Nat
  | .off => 0
  | .clMinus1 => 1
  | .clMinus2 => 2

/-- Address Map order codes. -/
def orderCode : MapOrder → Nat
  | .a => 0
  | .b => 1
  | .c => 2
  | .d => 3

/-- An order byte as an order. -/
def toOrder (b : Byte) : Option MapOrder :=
  if b = 0 then some .a else if b = 1 then some .b else if b = 2 then some .c else if b = 3 then some .d else none

/-- Pending entry status codes. -/
def statusCode : PendingStatus → Nat
  | .waiting => 0
  | .sent => 1
  | .held => 2

/-- Result codes. -/
def resultCode : DirectiveResult → Nat
  | .done => 1
  | .accepted => 2
  | .busy => 3
  | .badArgument => 4
  | .overlap => 5
  | .noSpace => 6
  | .notBound => 7
  | .notMember => 8
  | .noMaster => 9
  | .noSuccessor => 10
  | .leaving => 11
  | .rackRefused => 12
  | .unknownCode => 13

/-- Link frame kind codes. -/
def kindCode : Body → Byte
  | .sample _ => 1
  | .mark _ => 2
  | .timeRequest _ => 3
  | .timeReply _ => 4
  | .hello _ => 5
  | .rosterUpdate _ => 6
  | .leaveAck _ => 7
  | .rackRequest _ => 8
  | .rackOrder _ => 9
  | .rackRefusal _ => 10

/-- An own or advertised part state as a vector item shows it; Starting is not advertised (R88). -/
def toAdvertised (b : Byte) : Option PartState :=
  if b = 1 then some .active else if b = 2 then some .leaving else if b = 3 then some .departed else none

/-- The entry state an advertised part state gives (R94). -/
def advertisedEntry : PartState → EntryState
  | .starting => .present
  | .active => .present
  | .leaving => .leaving
  | .departed => .departed

/-- The advertised part state of a reachable entry's item (R92). -/
def entryAdvertised : EntryState → PartState
  | .leaving => .leaving
  | .departed => .departed
  | .absent => .active
  | .present => .active
  | .lost => .active

/-! ### Rack directive blocks (R191) -/

/-- The directive of a block, or none for the malformed directive of R160 and R163: a kind byte not 1 to 3, or a frame
or group byte beyond its range. -/
def parseBlock (b : RackBlock) : Option RackDirective :=
  if b.kind = 1 then (toEight b.target).map .masterClaim
  else if b.kind = 2 then (toGroup b.target).map (.rackArm · b.armTime)
  else if b.kind = 3 then (toGroup b.target).map .rackHalt
  else none

/-- The block of a directive; the arm time of any but a Rack Arm is zero. -/
def RackDirective.block : RackDirective → RackBlock
  | .masterClaim f => ⟨1, eightByte f, 0⟩
  | .rackArm g t => ⟨2, BitVec.ofNat 8 g.val, t⟩
  | .rackHalt g => ⟨3, BitVec.ofNat 8 g.val, 0⟩

/-! ### Vector items (R191) -/

/-- What a reachable item says. -/
structure ItemNews where
  hops : Nat
  masterCapable : Bool
  state : PartState
  belief : Option FrameNo
  incarnation : Word16
deriving DecidableEq, Repr

/-- An item as the part takes it (R191): none where it is unreachable, which an item whose hops byte holds 8 or more, or
whose part state is not Active, Leaving or Departed, is taken for; a belief byte above 7 is taken for none. -/
def itemNews (i : VectorItem) : Option ItemNews :=
  if i.hops.toNat < 8 then
    (toAdvertised i.state).map fun st => ⟨i.hops.toNat, i.flags.getLsbD 0, st, toEight i.belief, i.incarnation⟩
  else none

/-- An unreachable item: zero after its hops byte. -/
def unreachableItem : VectorItem := ⟨0xFF, 0, 0, 0, 0⟩

/-- The item of a reachable frame. -/
def ItemNews.item (n : ItemNews) : VectorItem :=
  ⟨BitVec.ofNat 8 n.hops, if n.masterCapable then 1 else 0, BitVec.ofNat 8 (partCode n.state), frameByte n.belief, n.incarnation⟩

end Sys2Proof.Machine
end

