-- ==== Sys2Proof/Decode.lean ====
section
/-! DEFINITION. Reading what arrives as bits: directive records from the 64 bytes of a line, link frames from the bytes
between the link's delimiters, and the configuration block; beside each the encoder of Record and Frame Layouts. The rows of
spec/opcode_table.json give no bits, so a table word spells no command. -/

namespace Sys2Proof

/-- No row of the table gives bits, so no word spells a command. -/
def decodeTableWord (_nbits _w : Nat) : Option Instr := none

namespace Machine

/-! ### Directive records -/

/-- The code of each directive (the table of The directive record). -/
def Directive.codeOf : Directive → Word16
  | .bindTap _ _ => 0x01
  | .unbindTap _ _ => 0x02
  | .armTap _ _ _ => 0x03
  | .startTap _ _ => 0x04
  | .stopTap _ _ => 0x05
  | .haltTap _ _ => 0x06
  | .setStridePresets _ _ => 0x07
  | .bindMirror _ _ => 0x10
  | .unbindMirror _ _ => 0x11
  | .admitFrame _ _ => 0x20
  | .barFrame _ _ => 0x21
  | .forgetFrame _ _ => 0x22
  | .acknowledgeRestart _ _ => 0x23
  | .leaveRack _ _ => 0x24
  | .rejoinRack _ => 0x25
  | .portControl _ _ _ => 0x30
  | .timeSettings _ _ => 0x38
  | .masterClaim _ _ _ => 0x40
  | .rackArm _ _ _ _ => 0x41
  | .rackHalt _ _ _ => 0x42
  | .acknowledgeEvents _ _ => 0x50
  | .clearCounters _ => 0x51
  | .restartPart _ => 0x5A
  | .unknown _ code => code

/-- The codes that name a directive. -/
def knownCodes : List Word16 :=
  [0x01, 0x02, 0x03, 0x04, 0x05, 0x06, 0x07, 0x10, 0x11, 0x20, 0x21, 0x22, 0x23, 0x24, 0x25, 0x30, 0x38, 0x40, 0x41, 0x42,
   0x50, 0x51, 0x5A]

/-- The arguments of Bind Tap, from their places in the record. -/
def readBindTap (l : Line) : BindTapArgs where
  tap := field l 8 8
  sizeExp := field l 9 8
  paired := flagAt l 10
  preset := field l 11 8
  base := field l 12 64
  recordLen := field l 20 16
  recordCount := field l 22 16
  dests := field l 24 8
  strict := flagAt l 25
  armGroup := field l 26 8
  queueSize := field l 28 16
  high := field l 30 16
  low := field l 32 16
  stop := field l 34 16
  passLimit := field l 36 16

/-- The arguments of Bind Mirror, from their places in the record. -/
def readBindMirror (l : Line) : BindMirrorArgs where
  mirror := field l 8 8
  sourceFrame := field l 9 8
  sourceTap := field l 10 8
  sizeExp := field l 11 8
  paired := flagAt l 12
  fill := field l 13 8
  base := field l 16 64
  recordLen := field l 24 16
  recordCount := field l 26 16
  stride := field l 28 16
  ageLimit := field l 32 32

/-- The arguments of Set Stride Presets. -/
def readPresets (l : Line) : PresetArgs where
  set := field l 8 4
  p0 := field l 16 16
  p1 := field l 18 16
  p2 := field l 20 16
  p3 := field l 22 16

/-- The arguments of Time Settings. -/
def readTimeSettings (l : Line) : TimeSettingsArgs where
  set := field l 8 9
  k := field l 12 8
  p := field l 13 8
  i := field l 14 8
  step := field l 16 32
  lock := field l 20 16
  holdover := field l 24 32
  corrA := field l 28 32
  corrB := field l 32 32
  masterTrim := field l 36 32

/-- R173: the directive a record's code names, with the fields that directive uses; a record is read whatever its bytes. -/
def decodeRecord (l : Line) : Directive :=
  let code : Word16 := field l 0 16
  let tag : Word16 := field l 2 16
  let target : Byte := field l 8 8
  let force := l.getLsbD 32
  let noWait := l.getLsbD 33
  let time : TimeValue := field l 16 72
  if code = 0x01 then .bindTap tag (readBindTap l)
  else if code = 0x02 then .unbindTap tag target
  else if code = 0x03 then .armTap tag target time
  else if code = 0x04 then .startTap tag target
  else if code = 0x05 then .stopTap tag target
  else if code = 0x06 then .haltTap tag target
  else if code = 0x07 then .setStridePresets tag (readPresets l)
  else if code = 0x10 then .bindMirror tag (readBindMirror l)
  else if code = 0x11 then .unbindMirror tag target
  else if code = 0x20 then .admitFrame tag target
  else if code = 0x21 then .barFrame tag target
  else if code = 0x22 then .forgetFrame tag target
  else if code = 0x23 then .acknowledgeRestart tag target
  else if code = 0x24 then .leaveRack tag force
  else if code = 0x25 then .rejoinRack tag
  else if code = 0x30 then .portControl tag target (field l 9 8)
  else if code = 0x38 then .timeSettings tag (readTimeSettings l)
  else if code = 0x40 then .masterClaim tag target noWait
  else if code = 0x41 then .rackArm tag target time noWait
  else if code = 0x42 then .rackHalt tag target noWait
  else if code = 0x50 then .acknowledgeEvents tag (field l 8 32)
  else if code = 0x51 then .clearCounters tag
  else if code = 0x5A then .restartPart tag
  else .unknown tag code

/-- The tag of a directive. -/
def Directive.tagOf : Directive → Word16
  | .bindTap tag _ => tag
  | .unbindTap tag _ => tag
  | .armTap tag _ _ => tag
  | .startTap tag _ => tag
  | .stopTap tag _ => tag
  | .haltTap tag _ => tag
  | .setStridePresets tag _ => tag
  | .bindMirror tag _ => tag
  | .unbindMirror tag _ => tag
  | .admitFrame tag _ => tag
  | .barFrame tag _ => tag
  | .forgetFrame tag _ => tag
  | .acknowledgeRestart tag _ => tag
  | .leaveRack tag _ => tag
  | .rejoinRack tag => tag
  | .portControl tag _ _ => tag
  | .timeSettings tag _ => tag
  | .masterClaim tag _ _ => tag
  | .rackArm tag _ _ _ => tag
  | .rackHalt tag _ _ => tag
  | .acknowledgeEvents tag _ => tag
  | .clearCounters tag => tag
  | .restartPart tag => tag
  | .unknown tag _ => tag

/-- The argument and flag pieces of a directive's record. -/
def Directive.pieces : Directive → List Piece
  | .bindTap _ a =>
    [bytesAt 8 1 a.tap.toNat, bytesAt 9 1 a.sizeExp.toNat, bitAt 10 0 a.paired, bytesAt 11 1 a.preset.toNat,
     bytesAt 12 8 a.base.toNat, bytesAt 20 2 a.recordLen.toNat, bytesAt 22 2 a.recordCount.toNat, bytesAt 24 1 a.dests.toNat,
     bitAt 25 0 a.strict, bytesAt 26 1 a.armGroup.toNat, bytesAt 28 2 a.queueSize.toNat, bytesAt 30 2 a.high.toNat,
     bytesAt 32 2 a.low.toNat, bytesAt 34 2 a.stop.toNat, bytesAt 36 2 a.passLimit.toNat]
  | .unbindTap _ t => [bytesAt 8 1 t.toNat]
  | .armTap _ t time => [bytesAt 8 1 t.toNat, bytesAt 16 9 time.toNat]
  | .startTap _ t => [bytesAt 8 1 t.toNat]
  | .stopTap _ t => [bytesAt 8 1 t.toNat]
  | .haltTap _ t => [bytesAt 8 1 t.toNat]
  | .setStridePresets _ a =>
    [bitsAt 8 0 4 a.set.toNat, bytesAt 16 2 a.p0.toNat, bytesAt 18 2 a.p1.toNat, bytesAt 20 2 a.p2.toNat, bytesAt 22 2 a.p3.toNat]
  | .bindMirror _ a =>
    [bytesAt 8 1 a.mirror.toNat, bytesAt 9 1 a.sourceFrame.toNat, bytesAt 10 1 a.sourceTap.toNat, bytesAt 11 1 a.sizeExp.toNat,
     bitAt 12 0 a.paired, bytesAt 13 1 a.fill.toNat, bytesAt 16 8 a.base.toNat, bytesAt 24 2 a.recordLen.toNat,
     bytesAt 26 2 a.recordCount.toNat, bytesAt 28 2 a.stride.toNat, bytesAt 32 4 a.ageLimit.toNat]
  | .unbindMirror _ m => [bytesAt 8 1 m.toNat]
  | .admitFrame _ f => [bytesAt 8 1 f.toNat]
  | .barFrame _ f => [bytesAt 8 1 f.toNat]
  | .forgetFrame _ f => [bytesAt 8 1 f.toNat]
  | .acknowledgeRestart _ f => [bytesAt 8 1 f.toNat]
  | .leaveRack _ force => [bitAt 4 0 force]
  | .rejoinRack _ => []
  | .portControl _ port action => [bytesAt 8 1 port.toNat, bytesAt 9 1 action.toNat]
  | .timeSettings _ a =>
    [bitsAt 8 0 9 a.set.toNat, bytesAt 12 1 a.k.toNat, bytesAt 13 1 a.p.toNat, bytesAt 14 1 a.i.toNat, bytesAt 16 4 a.step.toNat,
     bytesAt 20 2 a.lock.toNat, bytesAt 24 4 a.holdover.toNat, bytesAt 28 4 a.corrA.toNat, bytesAt 32 4 a.corrB.toNat,
     bytesAt 36 4 a.masterTrim.toNat]
  | .masterClaim _ f noWait => [bitAt 4 1 noWait, bytesAt 8 1 f.toNat]
  | .rackArm _ g time noWait => [bitAt 4 1 noWait, bytesAt 8 1 g.toNat, bytesAt 16 9 time.toNat]
  | .rackHalt _ g noWait => [bitAt 4 1 noWait, bytesAt 8 1 g.toNat]
  | .acknowledgeEvents _ count => [bytesAt 8 4 count.toNat]
  | .clearCounters _ => []
  | .restartPart _ => []
  | .unknown _ _ => []

/-- The record of a directive: code, tag, flags and arguments, zero elsewhere. -/
def encodeRecord (d : Directive) : Line :=
  assemble 512 (bytesAt 0 2 (Directive.codeOf d).toNat :: bytesAt 2 2 (Directive.tagOf d).toNat :: Directive.pieces d)

/-! ### The CRC-32 (R191) -/

/-- One bit of the CRC-32's division: generator 04C11DB7h, taken least significant bit first. -/
def crcBit (c : BitVec 32) : BitVec 32 := if c.getLsbD 0 then (c >>> 1) ^^^ 0xEDB88320 else c >>> 1

/-- One byte taken into the remainder. -/
def crcByte (c : BitVec 32) (b : Byte) : BitVec 32 := (List.range 8).foldl (fun acc _ => crcBit acc) (c ^^^ b.setWidth 32)

/-- R191: the CRC-32 of bytes: initial value FFFFFFFFh, the remainder reflected and inverted. -/
def crc32 (bytes : List Byte) : BitVec 32 := ~~~(bytes.foldl crcByte 0xFFFFFFFF)

/-! ### Link frames (R190, R191) -/

/-- A value in `n` bytes, little-endian. -/
def littleEndian : Nat → Nat → List Byte
  | 0, _ => []
  | n + 1, v => BitVec.ofNat 8 v :: littleEndian n (v / 256)

/-- The number a run of bytes holds, little-endian. -/
def numberOf : List Byte → Nat
  | [] => 0
  | b :: bs => b.toNat + 256 * numberOf bs

/-- The number of the `n` bytes from byte `offset` on. -/
def numberAt (bytes : List Byte) (offset n : Nat) : Nat := numberOf ((bytes.drop offset).take n)

/-- The byte at an offset. -/
def byteAt (bytes : List Byte) (offset : Nat) : Byte := bytes.getD offset 0

/-- The 16-bit field at an offset. -/
def wordAt (bytes : List Byte) (offset : Nat) : Word16 := BitVec.ofNat 16 (numberAt bytes offset 2)

/-- The time value at an offset. -/
def timeAt (bytes : List Byte) (offset : Nat) : TimeValue := BitVec.ofNat 72 (numberAt bytes offset 9)

/-- The stamp at an offset. -/
def readStamp (bytes : List Byte) (offset : Nat) : Stamp := ⟨timeAt bytes offset, byteAt bytes (offset + 9)⟩

/-- A stamp's ten bytes. -/
def stampBytes (s : Stamp) : List Byte := littleEndian 9 s.time.toNat ++ [s.quality]

/-- A vector item's six bytes. -/
def itemBytes (i : VectorItem) : List Byte := [i.hops, i.flags, i.state, i.belief] ++ littleEndian 2 i.incarnation.toNat

/-- The vector item at an offset. -/
def itemAt (bytes : List Byte) (offset : Nat) : VectorItem :=
  ⟨byteAt bytes offset, byteAt bytes (offset + 1), byteAt bytes (offset + 2), byteAt bytes (offset + 3), wordAt bytes (offset + 4)⟩

/-- A vector's 48 bytes. -/
def vectorBytes (v : Vector VectorItem 8) : List Byte := v.toList.flatMap itemBytes

/-- The vector at byte 8: the item for frame f at 8 + 6f. -/
def vectorAt (bytes : List Byte) : Vector VectorItem 8 := Vector.ofFn fun f => itemAt bytes (8 + 6 * f.val)

/-- A rack directive block's 16 bytes. -/
def blockBytes (b : RackBlock) : List Byte := [b.kind, b.target, 0, 0] ++ littleEndian 9 b.armTime.toNat ++ [0, 0, 0]

/-- The rack directive block at an offset. -/
def blockAt (bytes : List Byte) (offset : Nat) : RackBlock :=
  ⟨byteAt bytes offset, byteAt bytes (offset + 1), timeAt bytes (offset + 4)⟩

/-- A line's 64 bytes. -/
def lineBytes (l : Line) : List Byte := littleEndian 64 l.toNat

/-- The fields of a frame from byte 4 to the CRC. DESIGN CHOICE (unsafe, notes/assumptions/48.md): on a relayed frame too, the bytes that no row
of the layouts names are written as zero, and a field that is held is written as it is held. -/
def bodyBytes (origin : Byte) : Body → List Byte
  | .sample f =>
    [f.dests, f.tap, f.half, BitVec.ofNat 8 f.lines.length] ++ littleEndian 2 f.pass.toNat ++ littleEndian 2 f.r.toNat
      ++ littleEndian 2 f.x.toNat ++ stampBytes f.stamp ++ f.lines.flatMap lineBytes
  | .mark f =>
    [f.dests, f.tap, f.half, f.kind] ++ littleEndian 2 f.pass.toNat ++ littleEndian 4 f.forwarded.toNat ++ stampBytes f.stamp
  | .timeRequest f => [f.number, 0, 0, 0] ++ littleEndian 9 f.t1.toNat ++ [0, 0, 0]
  | .timeReply f =>
    [f.number, f.quality, f.belief, 0] ++ littleEndian 9 f.t1.toNat ++ littleEndian 9 f.t2.toNat ++ littleEndian 9 f.t3.toNat ++ [0]
  | .hello f => [origin, 0, 0, 0] ++ vectorBytes f.items
  | .rosterUpdate f => [origin, 0] ++ littleEndian 2 f.seq.toNat ++ vectorBytes f.items
  | .leaveAck f => [f.dest, f.acking] ++ littleEndian 2 f.incarnation.toNat
  | .rackRequest f => [f.dest, 0] ++ littleEndian 2 f.seq.toNat ++ blockBytes f.block
  | .rackOrder f =>
    littleEndian 2 f.broadcastSeq.toNat ++ littleEndian 4 f.rackSeq.toNat ++ [f.origin, 0] ++ littleEndian 2 f.seq.toNat ++ [0, 0]
      ++ blockBytes f.block
  | .rackRefusal f => [f.dest, f.reason] ++ littleEndian 2 f.seq.toNat

/-- The bytes of a frame before its CRC. -/
def frameBytes (f : Frame) : List Byte := [kindCode f.body, f.header.origin, f.header.hops, 0] ++ bodyBytes f.header.origin f.body

/-- R71, R191: the bytes of a frame on the cable, its CRC-32 computed afresh. -/
def encodeFrame (f : Frame) : List Byte := frameBytes f ++ littleEndian 4 (crc32 (frameBytes f)).toNat

/-- The lines of a Sample frame, `n` of them from an offset. -/
def linesAt (bytes : List Byte) (offset : Nat) : Nat → List Line
  | 0 => []
  | n + 1 => BitVec.ofNat 512 (numberAt bytes offset 64) :: linesAt bytes (offset + 64) n

/-- The length of a kind's frame (the table of Link frames); a Sample frame's by its line count, and none for no kind. -/
def frameLength (kind count : Byte) : Option Nat :=
  if kind = 1 then (if 1 ≤ count.toNat ∧ count.toNat ≤ 4 then some (28 + 64 * count.toNat) else none)
  else if kind = 2 then some 28
  else if kind = 3 then some 24
  else if kind = 4 then some 40
  else if kind = 5 then some 60
  else if kind = 6 then some 60
  else if kind = 7 then some 12
  else if kind = 8 then some 28
  else if kind = 9 then some 36
  else if kind = 10 then some 12
  else none

/-- The fields of a frame of a kind and the right length. -/
def readBody (b : List Byte) : Body :=
  let kind := byteAt b 0
  if kind = 1 then .sample ⟨byteAt b 4, byteAt b 5, byteAt b 6, wordAt b 8, wordAt b 10, wordAt b 12, readStamp b 14,
    linesAt b 24 (byteAt b 7).toNat⟩
  else if kind = 2 then .mark ⟨byteAt b 4, byteAt b 5, byteAt b 6, byteAt b 7, wordAt b 8, BitVec.ofNat 32 (numberAt b 10 4), readStamp b 14⟩
  else if kind = 3 then .timeRequest ⟨byteAt b 4, timeAt b 8⟩
  else if kind = 4 then .timeReply ⟨byteAt b 4, byteAt b 5, byteAt b 6, timeAt b 8, timeAt b 17, timeAt b 26⟩
  else if kind = 5 then .hello ⟨vectorAt b⟩
  else if kind = 6 then .rosterUpdate ⟨wordAt b 6, vectorAt b⟩
  else if kind = 7 then .leaveAck ⟨byteAt b 4, byteAt b 5, wordAt b 6⟩
  else if kind = 8 then .rackRequest ⟨byteAt b 4, wordAt b 6, blockAt b 8⟩
  else if kind = 9 then .rackOrder ⟨wordAt b 4, BitVec.ofNat 32 (numberAt b 6 4), byteAt b 10, wordAt b 12, blockAt b 16⟩
  else .rackRefusal ⟨byteAt b 4, byteAt b 5, wordAt b 6⟩

/-- What arrives between the delimiters of a link. -/
inductive Arrival where
  | badCrc
  | malformed
  | frame (f : Frame)
deriving DecidableEq, Repr

/-- R73, R191: bytes between the link's delimiters: the CRC is checked first, then the kind and the length. DESIGN CHOICE
(notes/assumptions/46.md): fewer than 4 bytes, which hold no CRC, fail its check. -/
def decodeFrame (b : List Byte) : Arrival :=
  let n := b.length - 4
  if b.length < 4 ∨ numberAt b n 4 ≠ (crc32 (b.take n)).toNat then .badCrc
  else match frameLength (byteAt b 0) (byteAt b 7) with
    | some l => if b.length = l then .frame ⟨⟨byteAt b 1, byteAt b 2⟩, readBody b⟩ else .malformed
    | none => .malformed

/-- The command a frame is when it arrives on a port. -/
def frameCommand (p : Port) (f : Frame) : Instr := match f.body with
  | .sample b => .sample p f.header b
  | .mark b => .mark p f.header b
  | .timeRequest b => .timeRequest p f.header b
  | .timeReply b => .timeReply p f.header b
  | .hello b => .hello p f.header b
  | .rosterUpdate b => .rosterUpdate p f.header b
  | .leaveAck b => .leaveAck p f.header b
  | .rackRequest b => .rackRequest p f.header b
  | .rackOrder b => .rackOrder p f.header b
  | .rackRefusal b => .rackRefusal p f.header b

/-- The command that bytes arriving on a port are. -/
def decodeLink (p : Port) (b : List Byte) : Instr := match decodeFrame b with
  | .badCrc => .badCrcFrame p
  | .malformed => .malformedFrame p .form
  | .frame f => frameCommand p f

/-! ### The configuration block (The configuration EEPROM) -/

/-- The stored values of a block, from their places. -/
def readStored (b : BitVec 448) : StoredConfig where
  ranks := field b 2 8
  banks := field b 3 8
  rowBits := field b 4 8
  order := field b 5 8
  directiveBase := field b 6 64
  directiveSize := field b 14 32
  reportBase := field b 18 64
  masterCapable := b.getLsbD 208
  autoAdmit := b.getLsbD 209
  k := field b 27 8
  p := field b 28 8
  i := field b 29 8
  step := field b 30 32
  lock := field b 34 16
  holdover := field b 36 32
  corrA := field b 40 32
  corrB := field b 44 32
  masterTrim := field b 48 32

/-- The block of stored values, less its check value. -/
def storedPieces (c : StoredConfig) : List Piece :=
  [bytesAt 0 2 0x4830, bytesAt 2 1 c.ranks.toNat, bytesAt 3 1 c.banks.toNat, bytesAt 4 1 c.rowBits.toNat, bytesAt 5 1 c.order.toNat,
   bytesAt 6 8 c.directiveBase.toNat, bytesAt 14 4 c.directiveSize.toNat, bytesAt 18 8 c.reportBase.toNat,
   bitAt 26 0 c.masterCapable, bitAt 26 1 c.autoAdmit, bytesAt 27 1 c.k.toNat, bytesAt 28 1 c.p.toNat, bytesAt 29 1 c.i.toNat,
   bytesAt 30 4 c.step.toNat, bytesAt 34 2 c.lock.toNat, bytesAt 36 4 c.holdover.toNat, bytesAt 40 4 c.corrA.toNat,
   bytesAt 44 4 c.corrB.toNat, bytesAt 48 4 c.masterTrim.toNat]

/-- The CRC-32 of bytes 0 to 51 of a block. -/
def blockCheck (b : BitVec 448) : BitVec 32 := crc32 ((List.range 52).map fun i => field b i 8)

/-- The block that a programmer of the EEPROM writes for stored values. -/
def encodeStored (c : StoredConfig) : BitVec 448 :=
  let b := assemble 448 (storedPieces c)
  b ||| (((blockCheck b).setWidth 448) <<< 416)

/-- R184: the stored values of a block whose format mark and check value match. -/
def decodeBlock (b : BitVec 448) : Option StoredConfig :=
  if field b 0 16 = 0x4830#16 ∧ field b 52 32 = blockCheck b then some (readStored b) else none

end Machine
end Sys2Proof
end

