-- ==== Sys2Proof/Machine/Ops.lean ====
section
/-! DEFINITION. The named operations every chapter shares: reading and changing one piece of the state, saturating counts,
the mirror store's memory, and posting results and raising events (R1, R138, R175, R177). -/

namespace Sys2Proof.Machine

/-! ### One piece of the state -/

/-- The value of one port. -/
def PerPort.get {α : Type} (v : PerPort α) : Port → α
  | .a => v.a
  | .b => v.b

/-- The value of one port replaced. -/
def PerPort.set {α : Type} (v : PerPort α) (p : Port) (x : α) : PerPort α := match p with
  | .a => ⟨x, v.b⟩
  | .b => ⟨v.a, x⟩

/-- The port that is not `p`. -/
def otherPort : Port → Port
  | .a => .b
  | .b => .a

/-- The tracker changed. -/
def State.onChannel (f : Channel → Channel) (s : State) : State := { s with channel := f s.channel }

/-- The Region Table changed. -/
def State.onRegions (f : Vector Region 18 → Vector Region 18) (s : State) : State := { s with regions := f s.regions }

/-- The Tap Engine changed. -/
def State.onTapEngine (f : TapEngine → TapEngine) (s : State) : State := { s with tapEngine := f s.tapEngine }

/-- The Mirror Store changed. -/
def State.onMirrorStore (f : MirrorStore → MirrorStore) (s : State) : State := { s with mirrorStore := f s.mirrorStore }

/-- The Link Controller changed. -/
def State.onLink (f : Link → Link) (s : State) : State := { s with link := f s.link }

/-- The Roster Unit changed. -/
def State.onRoster (f : Roster → Roster) (s : State) : State := { s with roster := f s.roster }

/-- The Rack Time Unit changed. -/
def State.onClock (f : RackTime → RackTime) (s : State) : State := { s with clock := f s.clock }

/-- The Rack Order Unit changed. -/
def State.onOrders (f : RackOrders → RackOrders) (s : State) : State := { s with orders := f s.orders }

/-- The Directive and Report Unit changed. -/
def State.onReporter (f : Reporter → Reporter) (s : State) : State := { s with reporter := f s.reporter }

/-- The own frame number: the straps' (R183). -/
def State.own (s : State) : FrameNo := s.reporter.straps.frame

/-- A Region Table entry. -/
def State.region (s : State) (i : Fin 18) : Region := s.regions[i]

/-- A Region Table entry replaced. -/
def State.setRegion (i : Fin 18) (e : Region) (s : State) : State := s.onRegions fun v => v.set i e

/-- The Region Table entry of a tap: entry 2 + tap number (R21). -/
def tapRegion (t : TapNo) : Fin 18 := ⟨2 + t.val, by omega⟩

/-- The Region Table entry of a mirror: entry 10 + mirror number (R21). -/
def mirrorRegion (m : MirrorNo) : Fin 18 := ⟨10 + m.val, by omega⟩

/-- A tap's record. -/
def State.tap (s : State) (t : TapNo) : Tap := s.tapEngine.taps[t]

/-- A tap's record changed. -/
def State.onTap (t : TapNo) (f : Tap → Tap) (s : State) : State :=
  s.onTapEngine fun e => { e with taps := e.taps.set t (f e.taps[t]) }

/-- A mirror's record. -/
def State.mirror (s : State) (m : MirrorNo) : Mirror := s.mirrorStore.mirrors[m]

/-- A mirror's record changed. -/
def State.onMirror (m : MirrorNo) (f : Mirror → Mirror) (s : State) : State :=
  s.onMirrorStore fun e => { e with mirrors := e.mirrors.set m (f e.mirrors[m]) }

/-- A port's record. -/
def State.port (s : State) (p : Port) : PortRecord := s.link.ports.get p

/-- A port's record changed. -/
def State.onPort (p : Port) (f : PortRecord → PortRecord) (s : State) : State :=
  s.onLink fun l => { l with ports := l.ports.set p (f (l.ports.get p)) }

/-- A roster entry as the Roster Unit holds it; the own entry is `ownEntry`. -/
def State.entry (s : State) (f : FrameNo) : RosterEntry := s.roster.entries[f]

/-- A roster entry changed. -/
def State.onEntry (f : FrameNo) (g : RosterEntry → RosterEntry) (s : State) : State :=
  s.onRoster fun r => { r with entries := r.entries.set f (g r.entries[f]) }

/-- The frames other than the own, lowest first. -/
def State.others (s : State) : List FrameNo := eight.filter (· ≠ s.own)

/-! ### Counts (R1) -/

/-- A count of at most `top`, one more, holding at `top`. -/
def countTo (top n : Nat) : Nat := min (n + 1) top

/-- A 32-bit count, one more: it saturates and does not wrap (R1). -/
def countUp (n : Nat) : Nat := countTo Config.countMax n

/-- A 32-bit count, `k` more. -/
def countBy (k n : Nat) : Nat := min (n + k) Config.countMax

/-- A port's counters changed. -/
def State.onPortCounters (p : Port) (f : PortCounters → PortCounters) (s : State) : State :=
  s.onPort p fun r => { r with counters := f r.counters }

/-- A tap's counters changed. -/
def State.onTapCounters (t : TapNo) (f : TapCounters → TapCounters) (s : State) : State :=
  s.onTap t fun r => { r with counters := f r.counters }

/-- A mirror's counters changed. -/
def State.onMirrorCounters (m : MirrorNo) (f : MirrorCounters → MirrorCounters) (s : State) : State :=
  s.onMirror m fun r => { r with counters := f r.counters }

/-- The Rack Order Unit's counters changed. -/
def State.onOrderCounters (f : OrderCounters → OrderCounters) (s : State) : State :=
  s.onOrders fun r => { r with counters := f r.counters }

/-! ### The mirror store's memory (R138) -/

/-- The byte an address reads as: its cell's, or `Config.storeFill` where none is listed. -/
def Memory.read : Memory → Nat → Byte
  | [], _ => Config.storeFill
  | (k, v) :: m, a => if k = a then v else Memory.read m a

/-- A byte written, keeping the canonical form. -/
def Memory.write : Memory → Nat → Byte → Memory
  | [], a, v => if v = Config.storeFill then [] else [(a, v)]
  | (k, w) :: m, a, v =>
    if a < k then (if v = Config.storeFill then (k, w) :: m else (a, v) :: (k, w) :: m)
    else if a = k then (if v = Config.storeFill then m else (a, v) :: m)
    else (k, w) :: Memory.write m a v

/-- The canonical form: addresses strictly rising, no cell equal to what an unlisted address reads as. -/
abbrev Memory.wf (m : Memory) : Prop := m.Pairwise (fun c d => c.1 < d.1) ∧ ∀ c ∈ m, c.2 ≠ Config.storeFill

/-- Byte `i` of a line. -/
def lineByte (l : Line) (i : Nat) : Byte := field l i 8

/-- A line from its bytes, byte 0 first. -/
def lineOf (byte : Nat → Byte) : Line := assemble 512 ((List.range 64).map fun i => ⟨8 * i, 8, (byte i).toNat⟩)

/-- The line at store line `n`. -/
def Memory.readLine (m : Memory) (n : Nat) : Line := lineOf fun i => Memory.read m (64 * n + i)

/-- A line written at store line `n`, byte by byte. -/
def Memory.writeLine (m : Memory) (n : Nat) (l : Line) : Memory :=
  (List.range 64).foldl (fun acc i => Memory.write acc (64 * n + i) (lineByte l i)) m

/-! ### Stamps, results and events -/

/-- Rack time as other blocks take it: whole nanoseconds and 1/256 ns, any finer fraction discarded (R115). -/
def RackTime.now (c : RackTime) : Nat := c.time / 2 ^ 24

/-- A stamp made now: the time value and the lock state as its quality (R115). -/
def State.stamp (s : State) : Stamp := ⟨BitVec.ofNat 72 s.clock.now, lockCode s.clock.lock⟩

/-- The attention line worked out afresh: asserted while the event count exceeds the acknowledged count (R178). -/
def Reporter.rework (r : Reporter) : Reporter := { r with attention := decide (r.acknowledged < r.eventCount) }

/-- R175: posts a result record. -/
def postResult (tag code : Word16) (result : DirectiveResult) (s : State) : State :=
  s.onReporter fun r =>
    let n := countUp r.resultsPosted
    { r with resultsPosted := n, results := r.results.set ((n - 1) % 16) (some ⟨n, tag, code, result⟩) (Nat.mod_lt _ (by decide)) }

/-- R177: raises an event. -/
def raise (info : EventInfo) (s : State) : State :=
  s.onReporter fun r =>
    let n := countUp r.eventCount
    { r with eventCount := n,
             events := r.events.set ((n - 1) % 32) (some ⟨n, info, s.stamp⟩) (Nat.mod_lt _ (by decide)) }.rework

/-- Raises a Configuration Fault event and keeps its cause among the configuration faults since part reset (R180). -/
def raiseConfigFault (cause : ConfigFault) (s : State) : State :=
  raise (.configurationFault cause)
    (s.onReporter fun r => { r with configFaults := r.configFaults ||| (1#5 <<< (configFaultCode cause - 1)) })

/-! ### Directive codes (Record and Frame Layouts) -/

/-- The code of Stop Tap, whose final result is posted later (R176). -/
def codeStopTap : Word16 := 0x05

/-- The code of Leave Rack, whose final result is posted later (R176). -/
def codeLeaveRack : Word16 := 0x24

/-- The code a rack directive is submitted under. -/
def rackCode : RackDirective → Word16
  | .masterClaim _ => 0x40
  | .rackArm _ _ => 0x41
  | .rackHalt _ => 0x42

end Sys2Proof.Machine
end

