-- ==== Sys2Proof/Machine/Flags.lean ====
section
/-! DEFINITION. The conditions and levels the rules read off the state: latencies, gates and candidates, the advertised
part state, request levels, and the standing of the own entry. -/

namespace Sys2Proof.Machine

/-! ### The channel -/

/-- R11: set when each of the three latencies holds a value. -/
def Channel.latenciesKnown (c : Channel) : Bool := c.readCas.isSome && c.additive.isSome && c.writeCas.isSome

/-- R11: the additive latency, derived from the setting together with the current read CAS latency. -/
def Channel.additiveLatency (c : Channel) : Option Nat := match c.readCas, c.additive with
  | _, some .off => some 0
  | some cl, some .clMinus1 => some (cl - 1)
  | some cl, some .clMinus2 => some (cl - 2)
  | _, _ => none

/-- The read latency: read CAS latency plus additive latency. -/
def Channel.readLatency (c : Channel) : Option Nat := do
  let cl ← c.readCas
  let al ← c.additiveLatency
  return cl + al

/-- The write latency: write CAS latency plus additive latency. -/
def Channel.writeLatency (c : Channel) : Option Nat := do
  let cl ← c.writeCas
  let al ← c.additiveLatency
  return cl + al

/-- The number of lines the Address Map gives the channel (R14). -/
def AddressMap.lines (m : AddressMap) : Nat := m.ranks * m.banks * 2 ^ m.rowBits * 128

/-- R14: the defaults: 2 ranks, 16 banks, 2^17 rows and order C. -/
def AddressMap.default : AddressMap := ⟨2, 16, 17, .c⟩

/-- The channel's lines by the map in force. -/
def State.channelLines (s : State) : Nat := (s.channel.map.map AddressMap.lines).getD 0

/-! ### The own part -/

/-- The own part state is Leaving or Departed. -/
def State.away (s : State) : Bool := s.roster.ownState == .leaving || s.roster.ownState == .departed

/-- R88: the advertised part state. -/
def State.advertised (s : State) : PartState := match s.roster.ownState with
  | .leaving => if s.roster.phase = .announced then .leaving else .active
  | st => st

/-- R90: the own entry, which follows the own part state. -/
def State.ownEntry (s : State) : RosterEntry where
  state := advertisedEntry s.roster.ownState
  hops := ⟨some 0, some 0⟩
  route := none
  incarnation := some s.roster.incarnation
  masterCapable := s.roster.masterCapable
  sendGate := false
  acceptGate := false
  restartSeen := false
  belief := s.roster.belief

/-- The roster's eight entries as the report shows them, the own entry among them. -/
def State.shownEntry (s : State) (f : FrameNo) : RosterEntry := if f = s.own then s.ownEntry else s.entry f

/-- R111: a frame counts as Present; the own frame does while the own part state is Active. -/
def State.counted (s : State) (f : FrameNo) : Bool :=
  if f = s.own then s.roster.ownState == .active else (s.entry f).state == .present

/-- The roster records the frame as master-capable. -/
def State.capable (s : State) (f : FrameNo) : Bool :=
  if f = s.own then s.roster.masterCapable else (s.entry f).masterCapable

/-- R110: a candidate is Present and master-capable; the own frame is one when Active and master-capable. -/
def State.candidate (s : State) (f : FrameNo) : Bool := s.counted f && s.capable f

/-- R104: the successor: the lowest candidate other than the own frame. -/
def State.successor (s : State) : Option FrameNo := s.others.find? s.candidate

/-! ### Ports -/

/-- The port is Joined. -/
def State.joined (s : State) (p : Port) : Bool := (s.port p).state == .joined

/-- At least one port is Joined. -/
def State.anyJoined (s : State) : Bool := s.joined .a || s.joined .b

/-- The route port of another frame, when that port is Joined. -/
def State.openRoute (s : State) (f : FrameNo) : Option Port := match (s.entry f).route with
  | some p => if s.joined p then some p else none
  | none => none

/-- R91: the route port two hop counts give. -/
def routeOf (hops : PerPort (Option Nat)) : Option Port := match hops.a, hops.b with
  | none, none => none
  | some _, none => some .a
  | none, some _ => some .b
  | some x, some y => if y < x then some .b else some .a

/-- What of a port the queues, the slot and the arbiter do not move: state, cause, attempt, neighbour, score, timers, signal, and
every counter but the control drops. -/
structure PortStanding where
  state : PortState
  cause : FaultCause
  attempt : Nat
  neighbour : Option (FrameNo × Word16)
  errorScore : Nat
  goodRun : Nat
  trainingTimer : Option Nat
  helloTimer : Option Nat
  signal : Bool
  counters : PortCounters
deriving DecidableEq, Repr

/-- The standing of a port; the control drops of its counters are left out. -/
def PortRecord.standing (r : PortRecord) : PortStanding :=
  ⟨r.state, r.cause, r.attempt, r.neighbour, r.errorScore, r.goodRun, r.trainingTimer, r.helloTimer, r.signal,
    { r.counters with controlDrops := 0 }⟩

/-! ### Taps -/

/-- R49: a pass has begun: the cursor stands past record 0, line 0. -/
def Tap.begun (t : Tap) : Bool := !(t.r == 0 && t.x == 0)

/-- R105: the condition a leave waits for. -/
def Tap.drained (t : Tap) : Bool := match t.state with
  | .idle => true
  | .unbound => true
  | .halted => t.queue.isEmpty
  | _ => false

/-- R55: the number of queue entries pending on a port. -/
def Tap.waitingOn (t : Tap) (p : Port) : Nat := (t.queue.filter fun e => e.pending.get p).length

/-- A queue entry is a mark. -/
def QueueEntry.isMark (e : QueueEntry) : Bool := match e.load with
  | .mark _ _ => true
  | .line _ _ _ => false

/-- R55: a tap's request level on a port. -/
def Tap.level (t : Tap) (p : Port) : Nat :=
  let n := t.waitingOn p
  if t.state = .unbound then 0
  else if t.high ≤ n ∧ 1 ≤ n then 3
  else if t.low ≤ n ∧ 1 ≤ n then 2
  else if t.stop < n then 1
  else if 1 ≤ n ∧ (t.queue.any (fun e => e.isMark && e.pending.get p) ∨ t.state = .draining ∨ t.state = .halted) then 1
  else 0

/-- R36: the reserved sum of the outbound buffer. -/
def State.reserved (s : State) : Nat := (eight.map fun t => (s.tap t).queueSize).sum

/-- R80: the relay queue's request level. -/
def relayLevel (n : Nat) : Nat := if 48 ≤ n then 3 else if 16 ≤ n then 2 else if 1 ≤ n then 1 else 0

/-! ### Mirrors -/

/-- The half record of a half. -/
def Mirror.half (m : Mirror) : Half → HalfRecord
  | .even => m.evenHalf
  | .odd => m.oddHalf

/-- The lines of a mirror's shape, X × Y. -/
def Mirror.shapeLines (m : Mirror) : Nat := m.recordLen * m.recordCount

/-- R138: the store line of a half, record and line-in-record. -/
def Mirror.storeLine (m : Mirror) (h : Half) (r x : Nat) : Nat :=
  m.extentStart + (match h with | .even => 0 | .odd => m.shapeLines) + r * m.recordLen + x

end Sys2Proof.Machine
end

