-- ==== Sys2Proof/Machine/Regions.lean ====
section
/-! DEFINITION. The Region Table: sizes, halves and shapes, lookup, the checks a bind makes, and the placement of the
Directive and Report regions (R21 to R32). -/

namespace Sys2Proof.Machine

/-- The base line of a region. -/
def Region.baseLine (e : Region) : Nat := e.base / 64

/-- The lines a region covers. -/
def Region.lines (e : Region) : Nat := e.size / 64

/-- A valid entry contains a line (R29); an invalid entry contains none (R21). -/
def Region.contains (e : Region) (line : Nat) : Bool :=
  e.valid && decide (e.baseLine ≤ line) && decide (line < e.baseLine + e.lines)

/-- The eighteen entry numbers, lowest first. -/
def entryNumbers : List (Fin 18) := [0, 1, 2, 3, 4, 5, 6, 7, 8, 9, 10, 11, 12, 13, 14, 15, 16, 17]

/-- R29: the valid entry whose range contains a line, or none. -/
def State.lookup (s : State) (line : Nat) : Option (Fin 18) := entryNumbers.find? fun i => (s.region i).contains line

/-- The kinds of region, with the tap or mirror the entry belongs to (R21). -/
inductive Route where
  | directive
  | report
  | tap (t : TapNo)
  | mirror (m : MirrorNo)
deriving DecidableEq, Repr

/-- The kind that an entry's index gives it. -/
def routeOfEntry (i : Fin 18) : Route :=
  if i.val = 0 then .directive
  else if i.val = 1 then .report
  else if h : i.val < 10 then .tap ⟨i.val - 2, by omega⟩
  else .mirror ⟨i.val - 10, by omega⟩

/-- The block a line's accesses go to, if its line lies in a region (R30). -/
def State.routeOfLine (s : State) (line : Nat) : Option Route := (s.lookup line).map routeOfEntry

/-- The coordinates an access carries (R31). -/
structure Coord where
  half : Half
  offset : Nat
  r : Nat
  x : Nat
  inShape : Bool
deriving DecidableEq, Repr

/-- R23, R24: a line of a region mapped by a shape of record length `len`, record count `count` and stride `stride`. -/
def Region.coord (e : Region) (len count stride line : Nat) : Coord :=
  let fromBase := line - e.baseLine
  let halfLines := e.size / 128
  let odd := e.paired && decide (halfLines ≤ fromBase)
  let offset := if odd then fromBase - halfLines else fromBase
  let r := offset / stride
  let x := offset % stride
  ⟨if odd then .odd else .even, offset, r, x, decide (r < count) && decide (x < len)⟩

/-- R23: the lines each half of a region covers. -/
def halfLines (size : Nat) (paired : Bool) : Nat := if paired then size / 128 else size / 64

/-- R25: a shape fits a half. -/
def shapeFits (len count stride lines : Nat) : Bool := decide ((count - 1) * stride + len ≤ lines)

/-- R25: every shape part lies in its range. -/
def shapeInRange (len count stride : Nat) : Bool :=
  decide (1 ≤ len) && decide (len ≤ 1024) && decide (1 ≤ count) && decide (len ≤ stride)

/-- R22: 4 KiB × 4^n. -/
def regionSize (sizeExp : Nat) : Nat := 4096 * 4 ^ sizeExp

/-- R22: the size exponent of a size, for the report lines; 0 for an emptied entry. -/
def sizeExponent (size : Nat) : Nat := Nat.log2 (size / 4096) / 2

/-- R22: a region of a size lies on its boundary and inside the channel. -/
def regionPlaced (base size lines : Nat) : Bool := base % size == 0 && decide (base / 64 + size / 64 ≤ lines)

/-- R26: two regions share a line. -/
def Region.meets (e f : Region) : Bool :=
  decide (e.baseLine < f.baseLine + f.lines) && decide (f.baseLine < e.baseLine + e.lines)

/-- R26, step 4: a region shares a line with a valid entry. -/
def State.overlaps (s : State) (e : Region) : Bool :=
  entryNumbers.any fun i => (s.region i).valid && (s.region i).meets e

/-- Steps 2 to 4 of R26, for the region and shape a bind describes: the result of the first check that fails. -/
def State.bindCheck (s : State) (sizeExp base : Nat) (paired : Bool) (len count stride : Nat) : Option DirectiveResult :=
  let size := regionSize sizeExp
  if 8 < sizeExp then some .badArgument
  else if !regionPlaced base size s.channelLines then some .badArgument
  else if !shapeInRange len count stride then some .badArgument
  else if !shapeFits len count stride (halfLines size paired) then some .badArgument
  else if s.overlaps ⟨true, base, size, paired⟩ then some .overlap
  else none

/-! ### The Directive and Report regions (R28) -/

/-- R28: the stored values are faulty by any of its six checks. -/
def placementFaulty (c : StoredConfig) (lines : Nat) : Bool :=
  let size := c.directiveSize.toNat
  let directive : Region := ⟨true, c.directiveBase.toNat, size, false⟩
  let report : Region := ⟨true, c.reportBase.toNat, 8192, false⟩
  !(size == 4096 || size == 16384 || size == 65536)
    || !regionPlaced directive.base size lines
    || !regionPlaced report.base 8192 lines
    || directive.meets report

/-- R28: entries 0 and 1 filled from the stored values, by the fallback placement where they are faulty, or by the defaults
where no stored value was taken. The fault was raised at the distribution (R185). -/
def placeRegions (s : State) : State := match s.reporter.stored with
  | some c =>
    if placementFaulty c s.channelLines then (s.setRegion 0 ⟨true, 0, 16384, false⟩).setRegion 1 Region.empty
    else (s.setRegion 0 ⟨true, c.directiveBase.toNat, c.directiveSize.toNat, false⟩).setRegion 1
      ⟨true, c.reportBase.toNat, 8192, false⟩
  | none => (s.setRegion 0 ⟨true, 0, 16384, false⟩).setRegion 1 ⟨true, 16384, 8192, false⟩

end Sys2Proof.Machine
end

