-- ==== Sys2Proof/Machine/Taps.lean ====
section
/-! DEFINITION. The Tap Engine's operations: offering entries, the cursor, the state changes of a tap, and the frames a
grant forms (R33 to R60). -/

namespace Sys2Proof.Machine

/-! ### Queue entries (R51 to R54) -/

/-- R52: the destinations an entry made now reaches through a port. -/
def State.destsThrough (s : State) (dests : Byte) (p : Port) : Byte :=
  frameSet fun d => inSet dests d && decide (d ≠ s.own) && (s.entry d).state == .present && (s.entry d).sendGate
    && s.openRoute d == some p

/-- R51, R52: an entry made now for a tap. -/
def State.makeEntry (s : State) (t : TapNo) (load : EntryLoad) : QueueEntry :=
  let tap := s.tap t
  let dests : PerPort Byte := ⟨s.destsThrough tap.dests .a, s.destsThrough tap.dests .b⟩
  ⟨tap.pass, tap.half, s.stamp, load, dests, ⟨dests.a != 0, dests.b != 0⟩⟩

/-- An entry still waits on a port. -/
def QueueEntry.waits (e : QueueEntry) : Bool := e.pending.a || e.pending.b

/-- R52, R53: a line entry is offered: queued, dropped with the first drop of its pass reported, or unadmitted. -/
def offerLine (t : TapNo) (r x : Nat) (data : Line) (s : State) : State :=
  let e := s.makeEntry t (.line r x data)
  if !e.waits then s.onTapCounters t fun c => { c with unadmitted := countUp c.unadmitted }
  else if (s.tap t).queue.length < (s.tap t).queueSize - 2 then
    s.onTap t fun k => { k with queue := k.queue ++ [e], passLines := countUp k.passLines,
                                counters := { k.counters with forwarded := countUp k.counters.forwarded } }
  else
    let s' := s.onTap t fun k => { k with dropSeen := true, counters := { k.counters with dropped := countUp k.counters.dropped } }
    if (s.tap t).dropSeen then s' else raise (.linesDropped t (s.tap t).pass) s'

/-- R52, R53: a mark entry is offered: queued, or counted as a dropped mark. It carries the pass lines of this moment. -/
def offerMark (t : TapNo) (kind : MarkKind) (s : State) : State :=
  let e := s.makeEntry t (.mark kind (s.tap t).passLines)
  if e.waits && decide ((s.tap t).queue.length < (s.tap t).queueSize) then s.onTap t fun k => { k with queue := k.queue ++ [e] }
  else s.onTapCounters t fun c => { c with marksDropped := countUp c.marksDropped }

/-- R49: the Pass Abandoned mark of a begun pass. -/
def abandonPass (t : TapNo) (s : State) : State := if (s.tap t).begun then offerMark t .passAbandoned s else s

/-- R54: a port leaves an entry, with the destinations through it. -/
def QueueEntry.strip (p : Port) (e : QueueEntry) : QueueEntry :=
  { e with dests := e.dests.set p 0, pending := e.pending.set p false }

/-- R54: a port that leaves Joined leaves every entry of every queue, and an entry left with no port goes. -/
def stripPort (p : Port) (s : State) : State :=
  s.onTapEngine fun e => { e with taps := e.taps.map fun k => { k with queue := (k.queue.map (QueueEntry.strip p)).filter QueueEntry.waits } }

/-! ### The cursor (R46 to R50) -/

/-- The other half. -/
def Half.flip : Half → Half
  | .even => .odd
  | .odd => .even

/-- R48, R50: the cursor goes to the first line of the next pass: the pass number wraps and, in a paired region, the half
flips. -/
def nextPass (t : TapNo) (s : State) : State :=
  let paired := (s.region (tapRegion t)).paired
  s.onTap t fun k => { k with pass := k.pass + 1, half := if paired then k.half.flip else k.half, r := 0, x := 0 }

/-- R48: the pass ends. -/
def endPass (t : TapNo) (s : State) : State :=
  (nextPass t (offerMark t .passEnd s)).onTap t fun k =>
    let done := countUp k.passesDone
    { k with passLines := 0, dropSeen := false, passesDone := done,
             state := if k.passLimit ≠ 0 ∧ done = k.passLimit then .draining else k.state }

/-- R46: the cursor advances. -/
def advanceCursor (t : TapNo) (s : State) : State :=
  let tap := s.tap t
  if tap.x + 1 < tap.recordLen then s.onTap t fun k => { k with x := k.x + 1 }
  else if tap.r + 1 < tap.recordCount then s.onTap t fun k => { k with x := 0, r := k.r + 1 }
  else endPass t s

/-- R46: a line at the cursor is captured. -/
def capture (t : TapNo) (data : Line) (s : State) : State :=
  advanceCursor t (offerLine t (s.tap t).r (s.tap t).x data s)

/-- R47: a stray is counted, and halts a strict tap. -/
def stray (t : TapNo) (s : State) : State :=
  let s' := s.onTapCounters t fun c => { c with strays := countUp c.strays }
  if (s.tap t).strict then
    raise (.tapHalted t (s.tap t).pass) ((abandonPass t s').onTap t fun k => { k with state := .halted })
  else s'

/-- R45 to R47: a write routed to a tap, with its coordinates, its bytes and its byte enables. -/
def tapWrite (t : TapNo) (at' : Coord) (data : Line) (enables : BitVec 64) (s : State) : State :=
  let tap := s.tap t
  match tap.state with
  | .running =>
    if enables = BitVec.allOnes 64 ∧ at'.inShape ∧ at'.half = tap.half ∧ at'.r = tap.r ∧ at'.x = tap.x then capture t data s
    else stray t s
  | .draining => s.onTapCounters t fun c => { c with lateWrites := countUp c.lateWrites }
  | .unbound => s
  | .idle => s
  | .armed => s
  | .halted => s

/-! ### State changes (R39 to R44) -/

/-- R50: a tap enters Running, tidying its cursor first. -/
def enterRunning (t : TapNo) (s : State) : State :=
  (if (s.tap t).begun then nextPass t s else s).onTap t fun k =>
    { k with state := .running, r := 0, x := 0, passLines := 0, dropSeen := false, passesDone := 0 }

/-- R40: an Armed tap whose arm time rack time has reached enters Running. -/
def startIfDue (t : TapNo) (s : State) : State :=
  if (s.tap t).state = .armed ∧ (s.tap t).armTime.toNat ≤ s.clock.now then enterRunning t s else s

/-- R40: every Armed tap that is due enters Running. -/
def startDue (s : State) : State := eight.foldl (fun acc t => startIfDue t acc) s

/-- R41, R44: a Running tap enters Draining, abandoning a begun pass. -/
def drainRunning (t : TapNo) (s : State) : State := (abandonPass t s).onTap t fun k => { k with state := .draining }

/-- R42: the effect of Halt Tap, and of a Rack Halt on an Armed or Running tap. -/
def haltTap (t : TapNo) (s : State) : State := match (s.tap t).state with
  | .armed => s.onTap t fun k => { k with state := .idle }
  | .running => (abandonPass t (s.onTap t fun k => { k with queue := [] })).onTap t fun k => { k with state := .draining }
  | .draining => (abandonPass t (s.onTap t fun k => { k with queue := [] })).onTap t fun k => { k with state := .draining }
  | .halted => s.onTap t fun k => { k with queue := [] }
  | .unbound => s
  | .idle => s

/-- R43: a Draining tap whose queue is empty enters Idle, and each waiting Stop Tap receives its Done in order of taking. -/
def settleTap (t : TapNo) (s : State) : State :=
  if (s.tap t).state = .draining ∧ (s.tap t).queue = [] then
    (s.tap t).waiting.foldl (fun acc tag => postResult tag codeStopTap .done acc)
      (s.onTap t fun k => { k with state := .idle, waiting := [] })
  else s

/-- R43, for every tap. DESIGN CHOICE (notes/assumptions/17.md): taps that one event drains are settled from tap 0 to tap 7. -/
def settleTaps (s : State) : State := eight.foldl (fun acc t => settleTap t acc) s

/-- R44: what the part's becoming Leaving does to one tap. -/
def leaveTap (t : TapNo) (s : State) : State := match (s.tap t).state with
  | .running => drainRunning t s
  | .armed => s.onTap t fun k => { k with state := .idle }
  | .unbound => s
  | .idle => s
  | .draining => s
  | .halted => s

/-- R44, for every tap. -/
def leaveTaps (s : State) : State := eight.foldl (fun acc t => leaveTap t acc) s

/-! ### Rack orders on taps (R60) -/

/-- A bound tap belongs to an arm group. -/
def Tap.inGroup (t : Tap) (g : Fin 16) : Bool := t.state != .unbound && t.armGroup == g

/-- R60, R165: one tap of the group of a Rack Arm: armed when Idle in a part that is not leaving, and skipped otherwise. -/
def armTapOf (g : Fin 16) (time : TimeValue) (s : State) (t : TapNo) : State :=
  if (s.tap t).inGroup g then
    if (s.tap t).state = .idle ∧ !s.away then s.onTap t fun k => { k with state := .armed, armTime := time }
    else s.onOrderCounters fun c => { c with skippedTaps := countUp c.skippedTaps }
  else s

/-- R60: at least one tap of the group would be armed. -/
def State.canArm (s : State) (g : Fin 16) : Bool :=
  !s.away && eight.any fun t => (s.tap t).inGroup g && (s.tap t).state == .idle

/-- R43, R60: one tap of the group of a Rack Halt; one whose queue the halt empties is Idle at once. -/
def haltTapOf (g : Fin 16) (s : State) (t : TapNo) : State :=
  if (s.tap t).inGroup g && ((s.tap t).state == .armed || (s.tap t).state == .running) then settleTap t (haltTap t s) else s

/-! ### Frames a grant forms (R56, R57) -/

/-- R56: an entry follows another in one Sample frame through a port. -/
def QueueEntry.follows (p : Port) (prev e : QueueEntry) : Bool := match prev.load, e.load with
  | .line r x _, .line r' x' _ =>
    e.pass == prev.pass && e.half == prev.half && r' == r && x' == x + 1 && e.dests.get p == prev.dests.get p
  | _, _ => false

/-- R57: a port leaves an entry's pending port set once the entry is in a frame. -/
def QueueEntry.sentOn (p : Port) (e : QueueEntry) : QueueEntry := { e with pending := e.pending.set p false }

/-- R56, R57: from a queue, the entries one frame on a port takes, and the queue they leave behind. `prev` is the entry
taken before, `room` how many more the frame takes. -/
def takeRun (p : Port) : Option QueueEntry → Nat → List QueueEntry → List QueueEntry × List QueueEntry
  | _, _, [] => ([], [])
  | prev, room, e :: rest =>
    if !e.pending.get p then
      let (taken, left) := takeRun p prev room rest
      (taken, e :: left)
    else if (match prev with | none => decide (0 < room) | some q => decide (0 < room) && q.follows p e) then
      let (taken, left) := takeRun p (some e) (if e.isMark then 0 else room - 1) rest
      (e :: taken, if (e.sentOn p).waits then e.sentOn p :: left else left)
    else ([], e :: rest)

/-- The data of a line entry; a mark has none. -/
def QueueEntry.lines (e : QueueEntry) : List Line := match e.load with
  | .line _ _ data => [data]
  | .mark _ _ => []

/-- R56, R57: the Sample or Mark frame of the entries taken, from the first of them. -/
def tapFrame (own : FrameNo) (t : TapNo) (p : Port) (taken : List QueueEntry) : Option Frame := match taken with
  | [] => none
  | e :: _ =>
    let header : Header := ⟨eightByte own, 0⟩
    match e.load with
    | .line r x _ =>
      some ⟨header, .sample ⟨e.dests.get p, eightByte t, halfCode e.half, e.pass, BitVec.ofNat 16 r, BitVec.ofNat 16 x, e.stamp,
        taken.flatMap QueueEntry.lines⟩⟩
    | .mark kind forwarded =>
      some ⟨header, .mark ⟨e.dests.get p, eightByte t, halfCode e.half, markCode kind, e.pass, BitVec.ofNat 32 forwarded, e.stamp⟩⟩

end Sys2Proof.Machine
end

