-- ==== Sys2Proof/Machine/Mirrors.lean ====
section
/-! DEFINITION. The Mirror Store's operations: first fit, arrivals, roster changes, and reads with the age check
(R137 to R157). -/

namespace Sys2Proof.Machine

/-! ### The extent list (R138, R139) -/

/-- The free gaps before, between and after the extents, each as its start and length, in order of start line. -/
def freeGaps : Nat → List Extent → List (Nat × Nat)
  | from', [] => [(from', Config.storeLines - from')]
  | from', e :: es => (from', e.start - from') :: freeGaps (e.start + e.length) es

/-- R138: first fit: the start of the first gap long enough. -/
def firstFit (extents : List Extent) (length : Nat) : Option Nat :=
  ((freeGaps 0 extents).find? fun g => decide (length ≤ g.2)).map Prod.fst

/-- R138: an item joins the list in order of start line. -/
def insertExtent (e : Extent) : List Extent → List Extent
  | [] => [e]
  | f :: fs => if e.start < f.start then e :: f :: fs else f :: insertExtent e fs

/-- R139: a mirror's item leaves the list. -/
def removeExtent (m : MirrorNo) (extents : List Extent) : List Extent := extents.filter fun e => e.mirror ≠ m

/-- The store's free lines, for the summary line. -/
def freeLines (extents : List Extent) : Nat := ((freeGaps 0 extents).map Prod.snd).sum

/-- The store's longest free gap, for the summary line. -/
def longestGap (extents : List Extent) : Nat := ((freeGaps 0 extents).map Prod.snd).foldl max 0

/-- R138: the extent length: X × Y, times 2 if paired. -/
def extentLength (len count : Nat) (paired : Bool) : Nat := len * count * (if paired then 2 else 1)

/-! ### Halves -/

/-- A mirror's half record changed. -/
def State.onHalf (m : MirrorNo) (h : Half) (f : HalfRecord → HalfRecord) (s : State) : State :=
  s.onMirror m fun r => match h with
    | .even => { r with evenHalf := f r.evenHalf }
    | .odd => { r with oddHalf := f r.oddHalf }

/-- R143: a half becomes Stale and keeps its other fields. -/
def HalfRecord.toStale (h : HalfRecord) : HalfRecord := { h with state := .stale }

/-- R150: a half in Filling becomes Stale. -/
def HalfRecord.staleFilling (h : HalfRecord) : HalfRecord := if h.state = .filling then h.toStale else h

/-- The halves of every mirror whose source frame is `f` changed; the odd half of an unpaired mirror is left as it is,
since no event changes it (R137). -/
def State.onHalvesOf (f : FrameNo) (g : HalfRecord → HalfRecord) (s : State) : State :=
  s.onMirrorStore fun e => { e with mirrors := e.mirrors.map fun r =>
    if r.bound && r.sourceFrame == f then
      { r with evenHalf := g r.evenHalf, oddHalf := if r.paired then g r.oddHalf else r.oddHalf }
    else r }

/-- R150: a source frame has left Present, or its accept gate has closed. -/
def sourceLeft (f : FrameNo) (s : State) : State := s.onHalvesOf f HalfRecord.staleFilling

/-- R151: a source frame's restart has been seen. -/
def sourceRestarted (f : FrameNo) (s : State) : State := s.onHalvesOf f HalfRecord.toStale

/-! ### Arrivals (R144 to R149) -/

/-- R144: the mirror that accepts a frame of an origin and tap, if one does. -/
def State.acceptor (s : State) (origin : FrameNo) (tap : Byte) : Option MirrorNo :=
  if (s.entry origin).state == .present && (s.entry origin).acceptGate then
    eight.find? fun m => (s.mirror m).bound && (s.mirror m).sourceFrame == origin && eightByte (s.mirror m).sourceTap == tap
  else none

/-- R145: the half an accepted frame is taken into: the even half of a mirror that is not paired. -/
def Mirror.takesHalf (m : Mirror) (h : Half) : Half := if m.paired then h else .even

/-- R146: an in-shape line of a pass opens a new fill of its half. -/
def HalfRecord.opensFill (h : HalfRecord) (pass : Word16) : Bool := h.state != .filling || h.pass != pass

/-- R146: a new fill, opened by a frame of a pass with a stamp. -/
def HalfRecord.opened (pass : Word16) (stamp : Stamp) : HalfRecord := ⟨.filling, pass, [], 0, some stamp, none, none⟩

/-- A position joins a present map, which stays strictly rising. -/
def markPresent (n : Nat) : List Nat → List Nat
  | [] => [n]
  | k :: ks => if n < k then n :: k :: ks else if n = k then k :: ks else k :: markPresent n ks

/-- R146: opens a new fill where the line opens one, counting a Filling half's own pass as abandoned. -/
def openFill (m : MirrorNo) (h : Half) (pass : Word16) (stamp : Stamp) (s : State) : State :=
  let old := (s.mirror m).half h
  if old.opensFill pass then
    let s' := if old.state = .filling then s.onMirrorCounters m fun c => { c with abandoned := countUp c.abandoned } else s
    s'.onHalf m h fun _ => HalfRecord.opened pass stamp
  else s

/-- R147: an in-shape line is written to its store line and marked present. -/
def storeLine (m : MirrorNo) (h : Half) (r x : Nat) (data : Line) (s : State) : State :=
  let mirror := s.mirror m
  let place := r * mirror.recordLen + x
  let s' := s.onMirrorStore fun e => { e with store := Memory.writeLine e.store (mirror.storeLine h r x) data }
  s'.onHalf m h fun k =>
    if place ∈ k.present then k else { k with present := markPresent place k.present, received := k.received + 1 }

/-- R145 to R147: one line of an accepted Sample frame. -/
def takeLine (m : MirrorNo) (h : Half) (pass : Word16) (stamp : Stamp) (r x : Nat) (data : Line) (s : State) : State :=
  let mirror := s.mirror m
  if r < mirror.recordCount ∧ x < mirror.recordLen then storeLine m h r x data (openFill m h pass stamp s)
  else s.onMirrorCounters m fun c => { c with outOfShape := countUp c.outOfShape }

/-- R145: the lines of an accepted Sample frame, in the frame's order. -/
def takeLines (m : MirrorNo) (h : Half) (pass : Word16) (stamp : Stamp) (r : Nat) : Nat → List Line → State → State
  | _, [], s => s
  | x, l :: ls, s => takeLines m h pass stamp r (x + 1) ls (takeLine m h pass stamp r x l s)

/-- R148, R149: an accepted mark is taken into its half. -/
def takeMark (m : MirrorNo) (h : Half) (kind : MarkKind) (pass : Word16) (stamp : Stamp) (forwarded : Nat) (s : State) : State :=
  let half := (s.mirror m).half h
  if half.opensFill pass then s.onMirrorCounters m fun c => { c with ignoredMarks := countUp c.ignoredMarks }
  else
    let closed (st : HalfState) (s : State) : State :=
      s.onHalf m h fun k => { k with state := st, endStamp := some stamp, forwarded := some forwarded }
    match kind with
    | .passEnd => closed (if half.received = (s.mirror m).shapeLines then .complete else .partly) s
    | .passAbandoned => (closed .stale s).onMirrorCounters m fun c => { c with abandoned := countUp c.abandoned }

/-- R144 to R147: a Sample frame delivered to the Mirror Store; none where it is not accepted. -/
def deliverSample (origin : FrameNo) (h : Half) (f : SampleBody) (s : State) : Option State :=
  (s.acceptor origin f.tap).map fun m =>
    takeLines m ((s.mirror m).takesHalf h) f.pass f.stamp f.r.toNat f.x.toNat f.lines s

/-- R144, R148, R149: a Mark frame delivered to the Mirror Store; none where it is not accepted. -/
def deliverMark (origin : FrameNo) (h : Half) (kind : MarkKind) (f : MarkBody) (s : State) : Option State :=
  (s.acceptor origin f.tap).map fun m =>
    takeMark m ((s.mirror m).takesHalf h) kind f.pass f.stamp f.forwarded.toNat s

/-! ### Reads and writes (R152 to R155) -/

/-- 64 copies of a byte. -/
def fillLine (b : Byte) : Line := lineOf fun _ => b

/-- R153: a half is too old at a read. -/
def Mirror.tooOld (m : Mirror) (h : Half) (now : Nat) : Bool :=
  let k := m.half h
  (k.state == .complete || k.state == .partly) && decide (m.ageLimit ≠ 0) &&
    match k.endStamp with
    | some e => decide (e.time.toNat + m.ageLimit * 256000 < now)
    | none => false

/-- R153: the age check made for a read. -/
def ageCheck (m : MirrorNo) (h : Half) (s : State) : State :=
  if (s.mirror m).tooOld h s.clock.now then
    raise (.mirrorAged m h ((s.mirror m).half h).pass) (s.onHalf m h HalfRecord.toStale)
  else s

/-- R152, step 3: an in-shape read served according to the half's state. -/
def serveHalf (m : MirrorNo) (h : Half) (r x : Nat) (s : State) : Line × State :=
  let mirror := s.mirror m
  let k := mirror.half h
  let stale := (fillLine mirror.fill, s.onMirrorCounters m fun c => { c with staleReads := countUp c.staleReads })
  let service :=
    if r * mirror.recordLen + x ∈ k.present then (Memory.readLine s.mirrorStore.store (mirror.storeLine h r x), s)
    else (fillLine mirror.fill, s.onMirrorCounters m fun c => { c with absentReads := countUp c.absentReads })
  match k.state with
  | .empty => stale
  | .stale => stale
  | .filling => service
  | .complete => service
  | .partly => service

/-- R152: a read routed to a mirror, with the coordinates of its line. -/
def mirrorRead (m : MirrorNo) (c : Coord) (s : State) : Line × State :=
  if c.inShape then serveHalf m c.half c.r c.x (ageCheck m c.half s) else (fillLine (s.mirror m).fill, s)

/-- R155: a write routed to a mirror is counted. -/
def mirrorWrite (m : MirrorNo) (s : State) : State := s.onMirrorCounters m fun c => { c with writes := countUp c.writes }

end Sys2Proof.Machine
end

