-- ==== Sys2Proof/Machine/Links.lean ====
section
/-! DEFINITION. The Link Controller's operations: queues, vectors and the frames the part originates, the effects of a
port's change of state, and the transmit arbiter (R61 to R87, R92). -/

namespace Sys2Proof.Machine

/-! ### Vectors and Hellos (R64, R92) -/

/-- R92: the item for a frame in the vector that goes out on a port, with split horizon. -/
def State.vectorItem (s : State) (p : Port) (f : FrameNo) : VectorItem :=
  if f = s.own then
    (ItemNews.mk 0 s.roster.masterCapable s.advertised s.roster.belief s.roster.incarnation).item
  else
    let e := s.entry f
    match e.route with
    | some q =>
      if q = p then unreachableItem
      else (ItemNews.mk ((e.hops.get q).getD 0) e.masterCapable (entryAdvertised e.state) e.belief (e.incarnation.getD 0)).item
    | none => unreachableItem

/-- R92: the vector made for a port. -/
def State.vector (s : State) (p : Port) : Vector VectorItem 8 := Vector.ofFn fun f => s.vectorItem p f

/-- R71: the header of a frame the part originates. -/
def State.ownHeader (s : State) : Header := ⟨eightByte s.own, 0⟩

/-- R64: the Hello the part makes for a port. -/
def State.helloFrame (s : State) (p : Port) : Frame := ⟨s.ownHeader, .hello ⟨s.vector p⟩⟩

/-- A frame is a Hello. -/
def isHello (f : Frame) : Bool := match f.body with
  | .hello _ => true
  | _ => false

/-- A frame is a Roster Update. -/
def isRosterUpdate (f : Frame) : Bool := match f.body with
  | .rosterUpdate _ => true
  | _ => false

/-- R64: a Hello placed at the head of a port's control queue, in place of one unsent; a queue full of other frames loses
its youngest, counted as a control drop. -/
def placeHello (p : Port) (s : State) : State :=
  let rest := (s.port p).control.filter fun f => !isHello f
  let hello := s.helloFrame p
  if rest.length < Config.controlPlaces then s.onPort p fun r => { r with control := hello :: rest }
  else s.onPort p fun r => { r with control := hello :: rest.take (Config.controlPlaces - 1),
                                    counters := { r.counters with controlDrops := countUp r.counters.controlDrops } }

/-! ### Queues (R80, R81) -/

/-- The first Roster Update of a queue replaced by a new one. -/
def replaceUpdate (f : Frame) : List Frame → List Frame
  | [] => []
  | g :: gs => if isRosterUpdate g then f :: gs else g :: replaceUpdate f gs

/-- R81: a frame the part originates joins a port's control queue. -/
def queueControl (p : Port) (f : Frame) (s : State) : State :=
  let q := (s.port p).control
  if isRosterUpdate f && q.any isRosterUpdate then s.onPort p fun r => { r with control := replaceUpdate f q }
  else if q.length < Config.controlPlaces then s.onPort p fun r => { r with control := q ++ [f] }
  else s.onPortCounters p fun c => { c with controlDrops := countUp c.controlDrops }

/-- R80: a frame offered to a port's relay queue. -/
def offerRelay (p : Port) (f : Frame) (s : State) : State :=
  if (s.port p).relay.length < Config.relayPlaces then s.onPort p fun r => { r with relay := r.relay ++ [f] }
  else s.onPortCounters p fun c => { c with relayDrops := countUp c.relayDrops }

/-- R71: a broadcast goes out of every Joined port with one broadcast sequence, which then increases; with no port Joined
nothing is sent and the sequence stands. `make` gives a port's copy. -/
def broadcast (make : Word16 → Port → Body) (s : State) : State :=
  if s.anyJoined then
    let seq := s.link.broadcastSeq
    let copy (p : Port) (acc : State) : State :=
      if s.joined p then queueControl p ⟨s.ownHeader, make seq p⟩ acc else acc
    (copy .b (copy .a s)).onLink fun l => { l with broadcastSeq := seq + 1 }
  else s

/-- R71: a unicast goes out of its destination's route port, or is counted as an unsent own frame. -/
def sendUnicast (dest : FrameNo) (body : Body) (s : State) : State := match s.openRoute dest with
  | some p => queueControl p ⟨s.ownHeader, body⟩ s
  | none => s.onLink fun l => { l with unsentOwn := countUp l.unsentOwn }

/-! ### Changes of a port's state (R62 to R69) -/

/-- R69: a port's state set, with the event of a change. -/
def setPortState (p : Port) (st : PortState) (cause : FaultCause) (s : State) : State :=
  let s' := s.onPort p fun r => { r with state := st, cause := cause }
  if (s.port p).state = st then s' else raise (.portStateChanged p st cause) s'

/-- R66: what a port gives up on leaving Joined, or Linked: the frame in transmission, counted as lost in flight, and the
time slot. -/
def cutOff (p : Port) (s : State) : State :=
  s.onPort p fun r => { r with
    counters := if r.inTransmission.isSome then { r.counters with lostInFlight := countUp r.counters.lostInFlight } else r.counters
    inTransmission := none
    slotRequest := none
    slotReply := none }

/-- R67: every frame of a port's relay and control queue is removed and counted, and the time slot emptied. -/
def flushPort (p : Port) (s : State) : State :=
  s.onPort p fun r => { r with
    counters := { r.counters with flushes := countBy (r.relay.length + r.control.length) r.counters.flushes }
    relay := []
    control := []
    slotRequest := none
    slotReply := none }

/-- R97, its first step: every hop count via a port is forgotten and every route port worked out afresh (R91). -/
def forgetHops (p : Port) (s : State) : State :=
  s.onRoster fun r => { r with entries := r.entries.map fun e =>
    let hops := e.hops.set p none
    { e with hops := hops, route := routeOf hops } }

/-- R62: a port enters Training with attempt 1 and its timer started; its queues are kept (R66). -/
def enterTraining (p : Port) (s : State) : State :=
  setPortState p .training .none ((cutOff p s).onPort p fun r =>
    { r with attempt := 1, trainingTimer := some Config.trainingTicks, helloTimer := none })

/-- R62, R67: a port enters Dark: its timers stop, its neighbour is forgotten and its queues are flushed. -/
def enterDark (p : Port) (s : State) : State :=
  setPortState p .dark .none ((flushPort p (cutOff p s)).onPort p fun r =>
    { r with attempt := 1, trainingTimer := none, helloTimer := none, neighbour := none })

/-- R67, R68: a port enters Disabled, its queues flushed. DEDUCED (notes/assumptions/18.md): its fault cause becomes none. -/
def enterDisabled (p : Port) (s : State) : State :=
  setPortState p .disabled .none ((flushPort p (cutOff p s)).onPort p fun r =>
    { r with trainingTimer := none, helloTimer := none })

/-- R63, R65, R67: a port enters Fault with a cause, its queues flushed. -/
def enterFault (p : Port) (cause : FaultCause) (s : State) : State :=
  setPortState p .fault cause ((flushPort p (cutOff p s)).onPort p fun r =>
    { r with trainingTimer := none, helloTimer := none })

/-- R63, R64: a port enters Linked, and a Hello is placed at once and every 1 ms. -/
def enterLinked (p : Port) (s : State) : State :=
  placeHello p (setPortState p .linked .none (s.onPort p fun r =>
    { r with trainingTimer := none, helloTimer := some Config.helloTicks }))

/-- R65: a port enters Joined: neighbour, score, good run, and a Hello at the head of its control queue. -/
def enterJoined (p : Port) (n : FrameNo) (incarnation : Word16) (s : State) : State :=
  placeHello p (setPortState p .joined .none (s.onPort p fun r =>
    { r with helloTimer := none, neighbour := some (n, incarnation), errorScore := 0, goodRun := 0 }))

/-! ### Transmission (R82 to R85) -/

/-- R83: a frame's transmission starts. -/
def startFrame (p : Port) (f : Frame) (s : State) : State := s.onPort p fun r => { r with inTransmission := some f }

/-- R80, R55: the level of a rotating requester: 0 the relay queue, t + 1 tap t. -/
def State.rotatingLevel (s : State) (p : Port) (i : Fin 9) : Nat :=
  if h : i.val = 0 then relayLevel (s.port p).relay.length
  else (s.tap ⟨i.val - 1, by omega⟩).level p

/-- R84: the nine rotating requesters, counting from the one just after the last granted. -/
def rotation (last : Fin 9) : List (Fin 9) := (List.range 9).map fun j => ⟨(last.val + 1 + j) % 9, Nat.mod_lt _ (by decide)⟩

/-- R83, R84: the rotating requester granted: the first, in rotation, of those at the highest level above 0. -/
def State.rotatingChoice (s : State) (p : Port) : Option (Fin 9) :=
  let order := rotation (s.port p).lastGranted
  let top := (order.map (s.rotatingLevel p)).foldl max 0
  if top = 0 then none else order.find? fun i => s.rotatingLevel p i == top

/-- R56, R57: a tap granted on a port forms its frame and gives up the entries. -/
def grantTap (p : Port) (t : TapNo) (s : State) : State :=
  let (taken, left) := takeRun p none 4 (s.tap t).queue
  match tapFrame s.own t p taken with
  | some f => startFrame p f (s.onTap t fun k => { k with queue := left })
  | none => s

/-- R80: the relay queue granted on a port sends its head. -/
def grantRelay (p : Port) (s : State) : State := match (s.port p).relay with
  | f :: rest => startFrame p f (s.onPort p fun r => { r with relay := rest })
  | [] => s

/-- R84: a rotating requester granted becomes the last granted. -/
def grantRotating (p : Port) (s : State) : State := match s.rotatingChoice p with
  | some i =>
    let s' := s.onPort p fun r => { r with lastGranted := i }
    if h : i.val = 0 then grantRelay p s' else grantTap p ⟨i.val - 1, by omega⟩ s'
  | none => s

/-- R81: the control queue granted sends its head. -/
def grantControl (p : Port) (s : State) : State := match (s.port p).control with
  | f :: rest => startFrame p f (s.onPort p fun r => { r with control := rest })
  | [] => s

/-- R72, R82: the time slot granted sends the Time Reply if present, otherwise the Time Request; the port writes t3 or t1
at the start of transmission. -/
def grantSlot (p : Port) (s : State) : State :=
  let now : TimeValue := BitVec.ofNat 72 s.clock.now
  match (s.port p).slotReply with
  | some f => startFrame p ⟨s.ownHeader, .timeReply { f with t3 := now }⟩ (s.onPort p fun r => { r with slotReply := none })
  | none => match (s.port p).slotRequest with
    | some f => startFrame p ⟨s.ownHeader, .timeRequest { f with t1 := now }⟩ (s.onPort p fun r => { r with slotRequest := none })
    | none => s

/-- R83: the arbiter of an idle port grants one frame: in Joined the time slot, else the control queue, else a rotating
requester; in Linked the control queue while a Hello stands at its head (R64). -/
def grant (p : Port) (s : State) : State :=
  let r := s.port p
  if r.inTransmission.isSome then s
  else match r.state with
    | .joined =>
      if r.slotReply.isSome || r.slotRequest.isSome then grantSlot p s
      else if !r.control.isEmpty then grantControl p s
      else grantRotating p s
    | .linked => if (r.control.head?.map isHello).getD false then grantControl p s else s
    | .disabled => s
    | .dark => s
    | .training => s
    | .fault => s

end Sys2Proof.Machine
end

