-- ==== Sys2Proof/Machine/Times.lean ====
section
/-! DEFINITION. The Rack Time Unit's operations: counting, the up port, exchanges, step and servo, lock states and
mastership (R114 to R136, R192). -/

namespace Sys2Proof.Machine

/-! ### Counting (R114) -/

/-- R114: a value clamped to the trim's range. -/
def clampTrim (z : Int) : Int := max (-Config.trimBound) (min z Config.trimBound)

/-- R114, R125: rack time moved by a signed amount in 2^-32 ns: below 0 it becomes 0, and past 2^64 - 1 ns it holds. -/
def moveTime (time : Nat) (by' : Int) : Nat := min (Int.toNat (time + by')) Config.rackTimeMax

/-- R114: one tick: 4 ns plus F × 2^-32 ns. -/
def RackTime.tick (c : RackTime) : RackTime := { c with time := moveTime c.time (4 * Config.nanosecond + c.trim) }

/-! ### Lock state changes (R129, R131, R132, R133) -/

/-- R133: the lock state of the unit set by `f`, with the event of a change. -/
def changeLock (f : RackTime → RackTime) (s : State) : State :=
  let s' := s.onClock f
  if s'.clock.lock = s.clock.lock then s' else raise (.lockStateChanged s.own s'.clock.lock s.clock.lock) s'

/-- R129: entry to Holdover. -/
def RackTime.toHoldover (c : RackTime) : RackTime :=
  { c with lock := .holdover, trim := clampTrim c.integral, holdoverAge := 0, within := 0, outside := 0 }

/-- R119, R127, R128, R132: entry to Acquiring with the counts at 0. -/
def RackTime.toAcquiring (c : RackTime) : RackTime := { c with lock := .acquiring, within := 0, outside := 0 }

/-- R119: the outstanding request is forgotten without being counted as missed, and the missed count becomes 0. -/
def RackTime.forgetRequest (c : RackTime) : RackTime := { c with outstanding := none, missed := 0 }

/-- R131: the unit becomes master. -/
def RackTime.toMaster (c : RackTime) : RackTime :=
  let trim := clampTrim c.settings.masterTrim
  { c.forgetRequest with
    lock := .master, upPort := none, within := 0, outside := 0, holdoverAge := 0, beenMaster := true
    trim := if c.beenMaster then clampTrim c.integral else trim
    integral := if c.beenMaster then c.integral else trim }

/-- R132: the unit ceases to be master, with the up port worked out afresh. -/
def RackTime.fromMaster (up : Option Port) (c : RackTime) : RackTime :=
  let c' := { c.forgetRequest with upPort := up }
  if up.isSome then c'.toAcquiring else c'.toHoldover

/-- R119: a follower's up port or leader changes. -/
def RackTime.changeLeader (up : Option Port) (c : RackTime) : RackTime :=
  let c' := { c.forgetRequest with upPort := up }
  match c.upPort, up, c.lock with
  | some _, none, .acquiring => c'.toHoldover
  | some _, none, .locked => c'.toHoldover
  | some _, some _, .acquiring => c'.toAcquiring
  | some _, some _, .locked => c'.toAcquiring
  | _, _, _ => c'

/-- R118, R164: the up port that a master belief and the roster give: the route port of the believed frame, once its entry is Present
(R110). DEDUCED (notes/assumptions/39.md): none also where an entry that is not Present has a route port. -/
def State.upPortFor (s : State) : Option FrameNo → Option Port
  | none => none
  | some f => if f ≠ s.own ∧ (s.entry f).state = .present then (s.entry f).route else none

/-- R118: the up port the master belief and the roster give. -/
def State.upPortNow (s : State) : Option Port := s.upPortFor s.roster.belief

/-- R119, R131, R132, R192: the one transition that a change of the belief, from `former` to the belief `left` that the event
leaves, and of the routes brings. A belief in the own frame that the event itself ends again was never followed into Master
(notes/assumptions/40.md), so its end finds the lock state elsewhere and changes nothing. -/
def followMaster (former left : Option FrameNo) (s : State) : State :=
  let up := s.upPortFor left
  if left = some s.own then
    if former = some s.own then s else changeLock RackTime.toMaster s
  else if former = some s.own ∧ s.clock.lock = .master then changeLock (RackTime.fromMaster up) s
  else if up ≠ s.clock.upPort ∨ (former.isSome ∧ left.isSome ∧ former ≠ left ∧ former ≠ some s.own) then
    changeLock (RackTime.changeLeader up) s
  else s

/-! ### Exchanges (R120 to R124) -/

/-- R120, R121: a Time Request is made toward the up port. -/
def makeRequest (s : State) : State := match s.clock.upPort with
  | none => s
  | some p =>
    let n := s.clock.requestNumber
    (s.onClock fun c => { c with requestNumber := n + 1, outstanding := some ⟨n, p⟩ }).onPort p fun r =>
      { r with slotRequest := some ⟨n, 0⟩ }

/-- R120, step 1: a reply that has not come is counted missed. -/
def RackTime.countMissed (c : RackTime) : RackTime :=
  if c.outstanding.isSome then { c with outstanding := none, missed := countTo 255 c.missed } else c

/-- R120, step 2: the leader is lost after three missed replies. -/
def RackTime.leaderLost (c : RackTime) : Bool := decide (3 ≤ c.missed) && (c.lock == .acquiring || c.lock == .locked)

/-- R120, step 3, R129: one more interval in Holdover, and Free-run at the limit. -/
def RackTime.ageHoldover (c : RackTime) : RackTime :=
  let age := countTo 1000000 c.holdoverAge
  { c with holdoverAge := age, lock := if c.settings.holdover ≤ age then .freeRun else c.lock }

/-- R120: what the expiry does before it makes a request. -/
def RackTime.expire (c : RackTime) : RackTime :=
  let c' := c.countMissed
  let c'' := if c'.leaderLost then c'.toHoldover else c'
  if c.lock = .holdover then c''.ageHoldover else c''

/-- R122: the reply to a Time Request, placed in the time slot of the port it arrived on. -/
def answerRequest (p : Port) (f : TimeRequestBody) (s : State) : State :=
  let now : TimeValue := BitVec.ofNat 72 s.clock.now
  s.onPort p fun r => { r with
    slotReply := some ⟨f.number, lockCode s.clock.lock, frameByte s.roster.belief, f.t1, now, 0⟩ }

/-- R123: a reply matches the outstanding request. -/
def RackTime.matches (c : RackTime) (p : Port) (f : TimeReplyBody) : Bool := match c.outstanding with
  | some o => o.port == p && o.number == f.number
  | none => false

/-- R123: a leader quality of Master or Locked, and a leader's belief equal to the own: the reply is good for lock. -/
def State.goodForLock (s : State) (f : TimeReplyBody) : Bool :=
  (f.quality == lockCode .master || f.quality == lockCode .locked) && match toEight f.belief with
    | some b => s.roster.belief == some b
    | none => false

/-- R124: the offset, from the four times and the asymmetry correction of the arrival port. -/
def exchangeOffset (t1 t2 t3 t4 corr : Int) : Int := ((t2 - t1) - (t4 - t3)) / 2 - corr

/-- R124: the one-way delay. -/
def exchangeDelay (t1 t2 t3 t4 : Int) : Int := ((t2 - t1) + (t4 - t3)) / 2

/-- R126: θ × 2^e, a negative exponent meaning an arithmetic right shift. -/
def scaleOffset (offset : Int) (e : Int) : Int := if 0 ≤ e then offset * 2 ^ e.toNat else offset / 2 ^ (-e).toNat

/-- R125: an accepted exchange steps. -/
def RackTime.steps (c : RackTime) (offset : Int) : Bool :=
  c.lock == .freeRun || decide ((c.settings.step * 256 : Nat) ≤ offset.natAbs)

/-- R125: a step. -/
def RackTime.step (offset : Int) (c : RackTime) : RackTime :=
  { c.toAcquiring with time := moveTime c.time (offset * 2 ^ 24), trim := clampTrim c.integral,
                       counters := { c.counters with steps := countUp c.counters.steps } }

/-- R117, R126: the servo, with the k of the interval that runs. -/
def RackTime.servo (offset : Int) (c : RackTime) : RackTime :=
  let pTerm := scaleOffset offset (24 - c.exponent - c.settings.p)
  let iTerm := scaleOffset offset (24 - c.exponent - c.settings.i)
  let integral := clampTrim (c.integral + iTerm)
  { c with integral := integral, trim := clampTrim (integral + pTerm) }

/-- R127: the lock rule of Acquiring and Holdover after a servo exchange. -/
def RackTime.approach (offset : Int) (good : Bool) (c : RackTime) : RackTime :=
  let c' := if c.lock = .holdover then { c with lock := .acquiring, within := 0, holdoverAge := 0 } else c
  let within := if offset.natAbs ≤ c'.settings.lock * 256 then countTo 255 c'.within else 0
  if 8 ≤ within ∧ good then { c' with within := within, lock := .locked, outside := 0 } else { c' with within := within }

/-- R128: the lock rule of Locked after a servo exchange. -/
def RackTime.keepLock (offset : Int) (good : Bool) (c : RackTime) : RackTime :=
  if !good then c.toAcquiring
  else if c.settings.lock * 256 < offset.natAbs then
    let outside := countTo 255 c.outside
    if 4 ≤ outside then c.toAcquiring else { c with outside := outside }
  else { c with outside := 0 }

/-- R126 to R128: an accepted exchange that does not step. -/
def RackTime.steer (offset : Int) (good : Bool) (c : RackTime) : RackTime :=
  let c' := c.servo offset
  match c.lock with
  | .acquiring => c'.approach offset good
  | .holdover => c'.approach offset good
  | .locked => c'.keepLock offset good
  | .freeRun => c'
  | .master => c'

/-- R124 to R128: an accepted exchange. -/
def acceptExchange (offset : Int) (quality : Byte) (good : Bool) (s : State) : State :=
  let s' := s.onClock fun c => { c with missed := 0, lastQuality := some (quality, good),
                                        counters := { c.counters with accepted := countUp c.counters.accepted } }
  if s'.clock.steps offset then startDue (raise (.timeStep s.own offset) (changeLock (RackTime.step offset) s'))
  else changeLock (RackTime.steer offset good) s'

/-- R123, R124: a Time Reply handed on from a port. -/
def takeReply (p : Port) (f : TimeReplyBody) (s : State) : State :=
  if s.clock.matches p f then
    let t4 : Int := s.clock.now
    let offset := exchangeOffset f.t1.toNat f.t2.toNat f.t3.toNat t4 (s.clock.settings.corr.get p)
    let delay := exchangeDelay f.t1.toNat f.t2.toNat f.t3.toNat t4
    let s' := s.onClock fun c => { c with outstanding := none, lastOffset := offset, lastDelay := delay }
    if delay < 0 ∨ Config.delayMax < delay then
      s'.onClock fun c => { c with counters := { c.counters with rejected := countUp c.counters.rejected } }
    else acceptExchange offset f.quality (s.goodForLock f) s'
  else s.onClock fun c => { c with counters := { c.counters with lateReplies := countUp c.counters.lateReplies } }

/-! ### Settings (R116, R117) -/

/-- A value clamped to a range. -/
def clampNat (lo hi v : Nat) : Nat := max lo (min v hi)

/-- A signed value clamped to a range. -/
def clampInt (lo hi v : Int) : Int := max lo (min v hi)

/-- The settings that a change set names, set to their clamped values; the rest as they stand. -/
def Settings.change (a : TimeSettingsArgs) (c : Settings) : Settings where
  k := if a.set.getLsbD 0 then clampNat 12 22 a.k.toNat else c.k
  p := if a.set.getLsbD 1 then clampNat 0 15 a.p.toNat else c.p
  i := if a.set.getLsbD 2 then clampNat 0 15 a.i.toNat else c.i
  step := if a.set.getLsbD 3 then clampNat 100 1000000 a.step.toNat else c.step
  lock := if a.set.getLsbD 4 then clampNat 1 1000 a.lock.toNat else c.lock
  holdover := if a.set.getLsbD 5 then clampNat 1 1000000 a.holdover.toNat else c.holdover
  corr := ⟨if a.set.getLsbD 6 then clampInt (-100000) 100000 a.corrA.toInt else c.corr.a,
           if a.set.getLsbD 7 then clampInt (-100000) 100000 a.corrB.toInt else c.corr.b⟩
  masterTrim := if a.set.getLsbD 8 then clampTrim a.masterTrim.toInt else c.masterTrim

/-- R116: the stored values as a Time Settings directive that names all nine. -/
def StoredConfig.timeArgs (c : StoredConfig) : TimeSettingsArgs :=
  ⟨BitVec.allOnes 9, c.k, c.p, c.i, c.step, c.lock, c.holdover, c.corrA, c.corrB, c.masterTrim⟩

/-- R117: the settings changed, and a named master trim taken at once by a Master. -/
def RackTime.setSettings (a : TimeSettingsArgs) (c : RackTime) : RackTime :=
  let settings := c.settings.change a
  let trim := clampTrim settings.masterTrim
  if a.set.getLsbD 8 ∧ c.lock = .master then { c with settings := settings, trim := trim, integral := trim }
  else { c with settings := settings }

end Sys2Proof.Machine
end

