-- ==== Sys2Proof/Machine/Rosters.lean ====
section
/-! DEFINITION. The Roster Unit's operations: gates and entry states, vectors taken, restart, leave, master belief, and
the notices a roster change gives the other blocks (R88 to R113, R193). The changes themselves raise nothing; `notify` then raises
the events of one roster change in the order of R93. -/

namespace Sys2Proof.Machine

/-! ### Gates and entry states (R101, R106, R107, R150) -/

/-- R101: an accept gate closes; if it was open, the frame's Filling halves become Stale (R150). -/
def closeAccept (f : FrameNo) (s : State) : State :=
  if (s.entry f).acceptGate then sourceLeft f (s.onEntry f fun e => { e with acceptGate := false }) else s

/-- R101: both gates close, and open again if auto-admit. -/
def resetGates (f : FrameNo) (s : State) : State :=
  (closeAccept f s).onEntry f fun e => { e with sendGate := s.roster.autoAdmit, acceptGate := s.roster.autoAdmit }

/-- R107: a frame leaves the wait set. -/
def leaveWaitSet (f : FrameNo) (s : State) : State := s.onRoster fun r => { r with waitSet := without r.waitSet f }

/-- R150: the source frame's halves, when its entry leaves Present. -/
def sourceStanding (f : FrameNo) (old : EntryState) (s : State) : State := if old = .present then sourceLeft f s else s

/-- R90, R101, R107, R150: an entry other than the own enters a state, with what that does to gates, wait set and mirrors;
nothing where it is in that state already. -/
def enterEntry (f : FrameNo) (st : EntryState) (s : State) : State :=
  let old := (s.entry f).state
  if old = st then s
  else
    let s' := s.onEntry f fun e => { e with state := st }
    match st with
    | .present => resetGates f s'
    | .leaving => sourceStanding f old (s'.onEntry f fun e => { e with sendGate := false })
    | .departed => sourceStanding f old (s'.onEntry f fun e => { e with sendGate := false })
    | .lost => leaveWaitSet f (sourceStanding f old s')
    | .absent => leaveWaitSet f (s'.onEntry f fun _ => RosterEntry.absent)

/-- R170: the applied-table record of a frame is cleared. -/
def clearRecord (f : FrameNo) (s : State) : State := s.onOrders fun o => { o with applied := o.applied.set f none }

/-- R99, steps 1 to 4: a restart of a frame is seen, with the announced incarnation. -/
def restartFrame (f : FrameNo) (incarnation : Word16) (s : State) : State :=
  clearRecord f (sourceRestarted f ((resetGates f s).onEntry f fun e =>
    { e with restartSeen := true, incarnation := some incarnation }))

/-- R107: the entries that were members and are no longer reachable become Lost (R96, R97). -/
def loseUnreachable (s : State) : State :=
  s.others.foldl (fun acc f =>
    match (acc.entry f).state with
    | .present => if (acc.entry f).route.isNone then enterEntry f .lost acc else acc
    | .leaving => if (acc.entry f).route.isNone then enterEntry f .lost acc else acc
    | .departed => if (acc.entry f).route.isNone then enterEntry f .lost acc else acc
    | .absent => acc
    | .lost => acc) s

/-! ### Taking a vector (R94 to R96) -/

/-- R91: a frame's hops via a port set, and its route port worked out afresh. -/
def setHops (f : FrameNo) (p : Port) (hops : Option Nat) (s : State) : State :=
  s.onEntry f fun e => let h := e.hops.set p hops; { e with hops := h, route := routeOf h }

/-- R94: an own announcement's incarnation, master-capable and belief are taken; an incarnation that differs from the one
a non-Absent entry records is a restart. -/
def takeAnnouncement (f : FrameNo) (n : ItemNews) (s : State) : State :=
  let e := s.entry f
  let s' := if e.state ≠ .absent ∧ e.incarnation ≠ some n.incarnation then restartFrame f n.incarnation s else s
  s'.onEntry f fun e => { e with incarnation := some n.incarnation, masterCapable := n.masterCapable, belief := n.belief }

/-- R95: the hops via a port of a frame other than the own and the sender's, from its item. -/
def takeHops (p : Port) (f : FrameNo) (item : VectorItem) (s : State) : State := match itemNews item with
  | none => setHops f p none s
  | some n =>
    let e := s.entry f
    if 7 < n.hops + 1 then setHops f p none s
    else if e.state = .absent then setHops f p (some (n.hops + 1)) (s.onEntry f fun e => { e with incarnation := some n.incarnation })
    else if e.incarnation = some n.incarnation then setHops f p (some (n.hops + 1)) s
    else setHops f p none s

/-- R96: the entry of `f` takes the state, master-capable and belief of the arrival port's item. -/
def takesItem (p : Port) (f : FrameNo) (s : State) : Bool := (s.entry f).route == some p

/-- R96: the state change of an entry other than the own and the sender's, after the hop counts. -/
def takeItem (p : Port) (f : FrameNo) (item : VectorItem) (s : State) : State :=
  let e := s.entry f
  if e.route.isNone then
    if e.state = .absent ∨ e.state = .lost then s else enterEntry f .lost s
  else if takesItem p f s then match itemNews item with
    | some n => (enterEntry f (advertisedEntry n.state) s).onEntry f fun e =>
        { e with masterCapable := n.masterCapable, belief := n.belief }
    | none => s
  else s

/-- R94, R95: the frames of a vector other than the own and the sender's. -/
def State.thirds (s : State) (sender : FrameNo) : List FrameNo := s.others.filter (· ≠ sender)

/-- R94: what a neighbour's own item gives its entry before R95: its announcement and one hop. DEDUCED (notes/assumptions/20.md):
an own item that is unreachable announces nothing, and gives its one hop to an entry that is a member alone. -/
def hearNeighbour (p : Port) (sender : FrameNo) (news : Option ItemNews) (s : State) : State := match news with
  | some n => setHops sender p (some 1) (takeAnnouncement sender n s)
  | none => if (s.entry sender).state = .absent ∨ (s.entry sender).state = .lost then s else setHops sender p (some 1) s

/-- R94: the state that an own item advertises, if it advertises one. -/
def enterAdvertised (f : FrameNo) (news : Option ItemNews) (s : State) : State := match news with
  | some n => enterEntry f (advertisedEntry n.state) s
  | none => s

/-- R94 to R96: the vector of a Hello, or of a Roster Update at hop 0, from neighbour `sender` on port `p`. -/
def takeVector (p : Port) (sender : FrameNo) (items : Vector VectorItem 8) (s : State) : State :=
  let news := itemNews items[sender]
  let s1 := hearNeighbour p sender news s
  let s2 := (s.thirds sender).foldl (fun acc f => takeHops p f items[f] acc) s1
  (s.thirds sender).foldl (fun acc f => takeItem p f items[f] acc) (enterAdvertised sender news s2)

/-- R94: the own announcement of a relayed Roster Update: nothing for an Absent entry, no state for an unreachable one, and
nothing from an own item that is unreachable (notes/assumptions/20.md). -/
def takeRelayed (sender : FrameNo) (news : Option ItemNews) (s : State) : State := match news with
  | some n =>
    if (s.entry sender).state = .absent then s
    else
      let s' := takeAnnouncement sender n s
      if (s'.entry sender).route.isSome then enterEntry sender (advertisedEntry n.state) s' else s'
  | none => s

/-! ### Leave acknowledgements (R106, R107, R193) -/

/-- R107: a Leave Ack removes its acking frame from the wait set when it matches; otherwise it is without effect. -/
def takeLeaveAck (acking : Byte) (incarnation : Word16) (s : State) : State := match toEight acking with
  | some f => if s.roster.phase = .announced ∧ incarnation = s.roster.incarnation then leaveWaitSet f s else s
  | none => s

/-- R106: the Leave Ack the part sends a leaver; one for the own frame number would be delivered at once (R78). -/
def sendLeaveAck (f : FrameNo) (s : State) : State :=
  let incarnation := ((s.entry f).incarnation).getD 0
  if f = s.own then takeLeaveAck (eightByte s.own) incarnation s
  else sendUnicast f (.leaveAck ⟨eightByte f, eightByte s.own, incarnation⟩) s

/-- R106, R193: at one arrival, one Leave Ack for each leaver: an entry that entered Leaving, or the announcer of Leaving. DESIGN CHOICE
(notes/assumptions/16.md): the leavers are answered lowest frame number first. -/
def ackLeavers (before : State) (announcer : Option FrameNo) (s : State) : State :=
  s.others.foldl (fun acc f =>
    let entered := decide ((before.entry f).state ≠ .leaving) && decide ((s.entry f).state = .leaving)
    if entered || announcer == some f then sendLeaveAck f acc else acc) s

/-! ### Master belief (R110, R111) -/

/-- R110: an election: the lowest-numbered candidate, or none. -/
def elect (s : State) : State := s.onRoster fun r => { r with belief := eight.find? s.candidate }

/-- R110, R164: the belief an applied Master Claim gives; one for the own frame at a part that is not Active is replaced at
once by an election. DEDUCED (notes/assumptions/38.md): the election's outcome is the one change, and the belief does not pass
through the own frame. -/
def claimBelief (f : FrameNo) (s : State) : State :=
  if f = s.own ∧ s.roster.ownState ≠ .active then elect s else s.onRoster fun r => { r with belief := some f }

/-- R111: merge, for a frame that announces itself as master. -/
def mergeOne (a : FrameNo) (s : State) : State :=
  if (s.entry a).belief = some a then
    match s.roster.belief with
    | none => if s.counted a && s.capable a then s.onRoster fun r => { r with belief := some a } else s
    | some b =>
      let lower := min a b
      if s.counted a && s.counted b && s.capable lower then s.onRoster fun r => { r with belief := some lower } else s
  else s

/-- What of another entry is advertised: a gate and the restart-seen flag are not (R93). -/
structure EntryView where
  state : EntryState
  hops : PerPort (Option Nat)
  route : Option Port
  incarnation : Option Word16
  masterCapable : Bool
  belief : Option FrameNo
deriving DecidableEq, Repr

/-- What a roster change is a change of (R93). -/
structure RosterView where
  advertised : PartState
  belief : Option FrameNo
  entries : List EntryView
deriving DecidableEq, Repr

/-- R93: what of the roster is advertised. -/
def State.view (s : State) : RosterView where
  advertised := s.advertised
  belief := s.roster.belief
  entries := s.others.map fun f =>
    let e := s.entry f
    ⟨e.state, e.hops, e.route, e.incarnation, e.masterCapable, e.belief⟩

/-- R110: the election a roster change from `before` brings, if it brings one. -/
def electIfNeeded (before s : State) : State := match s.roster.belief with
  | none => if s.view = before.view then s else elect s
  | some f =>
    if f = s.own then (if s.roster.ownState = .active then s else elect s)
    else if (before.entry f).state = .present ∧ (s.entry f).state ≠ .present then elect s
    else s

/-- An item announces Leaving. -/
def saysLeaving (news : Option ItemNews) : Bool := match news with
  | some n => decide (n.state = .leaving)
  | none => false

/-- R94 to R96, R106, R110, R111, R193: the own announcement and, from a neighbour, the vector of a Hello or Roster Update.
One that announces the own number is not taken. -/
def takeRoster (p : Port) (neighbour : Bool) (sender : FrameNo) (items : Vector VectorItem 8) (s : State) : State :=
  if sender = s.own then s
  else
    let news := itemNews items[sender]
    let taken := if neighbour then takeVector p sender items s else takeRelayed sender news s
    let announced := saysLeaving news && decide ((taken.entry sender).state ≠ .absent)
    let acked := ackLeavers s (if announced then some sender else none) taken
    let heard := fun f => (decide (f = sender) && news.isSome) || (decide (f ≠ sender) && neighbour && takesItem p f taken)
    electIfNeeded s ((acked.others.filter heard).foldl (fun acc f => mergeOne f acc) acked)

/-- R97: the Roster Unit's changes when a port leaves Joined. -/
def losePort (p : Port) (s : State) : State := electIfNeeded s (loseUnreachable (forgetHops p s))

/-! ### Leaving (R105, R107) -/

/-- R105: the leave is announced at the moment every tap is drained. -/
def announceLeave (s : State) : State :=
  if s.roster.phase = .draining ∧ eight.all (fun t => (s.tap t).drained) then
    s.onRoster fun r => { r with phase := .announced,
                                 waitSet := frameSet fun f => decide (f ≠ s.own) && (s.entry f).state == .present }
  else s

/-- R107, step 1: the leave completes when its wait set is empty. -/
def completeLeave (s : State) : State :=
  if s.roster.phase = .announced ∧ s.roster.waitSet = 0 then
    s.onRoster fun r => { r with ownState := .departed, phase := .none }
  else s

/-- What follows at once from the state an event leaves: draining taps idle, and a leave moves on (R43, R105, R107). -/
def advance (s : State) : State := completeLeave (announceLeave (settleTaps s))

/-! ### Notices of a roster change (R93, R99, R107, R112) -/

/-- R93: the events for one other frame. -/
def notifyFrame (before : State) (s : State) (f : FrameNo) : State :=
  let old := before.entry f
  let new := s.entry f
  let s' := if old.state ≠ .absent ∧ new.state ≠ .absent ∧ old.incarnation ≠ new.incarnation then
      raise (.restartSeen f (new.incarnation.getD 0)) s else s
  if old.state = new.state then s' else raise (.entryChanged f new.state) s'

/-- R88: the event of a change of the own part state. -/
def notifyOwn (before s : State) : State :=
  if before.roster.ownState = s.roster.ownState then s else raise (.partStateChanged s.own s.roster.ownState) s

/-- R112: the event of a change of the master belief. -/
def notifyBelief (before s : State) : State :=
  if before.roster.belief = s.roster.belief then s else raise (.beliefChanged s.own s.roster.belief) s

/-- R107, steps 2 and 3: a leave that has completed is reported, and Leave Rack receives its Done; its tag is then dropped (R104).
DESIGN CHOICE (notes/assumptions/52.md): behind the own result of the directive that brings it about. -/
def notifyDeparture (before s : State) : State :=
  if before.roster.ownState ≠ .departed ∧ s.roster.ownState = .departed then
    let s' := (raise (.leaveComplete s.own s.roster.incarnation) s).onRoster fun r => { r with leaveTag := none }
    match s.roster.leaveTag with
    | some tag => postResult tag codeLeaveRack .done s'
    | none => s'
  else s

/-- R93: the events of one roster change from `before`, in their order, with the Rack Time Unit's transition toward the belief
`left` that the event leaves (R112, R192). -/
def notify (left : Option FrameNo) (before s : State) : State :=
  let s1 := s.others.foldl (notifyFrame before) s
  notifyDeparture before (followMaster before.roster.belief left (notifyBelief before (notifyOwn before s1)))

/-! ### Roster Updates and the refresh timer (R93) -/

/-- R93: the refresh timer's period: 10 ms while an announced leave waits, otherwise 100 ms. -/
def State.refreshPeriod (s : State) : Nat :=
  if s.roster.phase = .announced ∧ s.roster.waitSet ≠ 0 then Config.leaveRefreshTicks else Config.refreshTicks

/-- R93: the refresh timer runs while the own part state is not Starting and at least one port is Joined. -/
def State.refreshRuns (s : State) : Bool := s.roster.ownState != .starting && s.anyJoined

/-- R93: a Roster Update is made, and the refresh timer restarts. -/
def makeRosterUpdate (s : State) : State :=
  (broadcast (fun seq p => .rosterUpdate ⟨seq, s.vector p⟩) s).onRoster fun r =>
    { r with refreshTimer := if s.refreshRuns then some s.refreshPeriod else none }

/-- R93: the refresh timer started or stopped by the state an event leaves. -/
def syncRefresh (s : State) : State :=
  if s.refreshRuns then
    (if s.roster.refreshTimer.isSome then s else s.onRoster fun r => { r with refreshTimer := some s.refreshPeriod })
  else s.onRoster fun r => { r with refreshTimer := none }

end Sys2Proof.Machine
end

