-- ==== Sys2Proof/Machine/Orders.lean ====
section
/-! DEFINITION. The Rack Order Unit's operations: submission, requests, ordering, application, completion and resubmission
(R158 to R171), and what concludes an event: the notices, the Roster Update, the timers and the arbiters' grants. -/

namespace Sys2Proof.Machine

/-! ### Pending entries -/

/-- A pending entry's status set. -/
def setStatus (seq : Word16) (status : PendingStatus) (s : State) : State :=
  s.onOrders fun o => { o with pending := o.pending.map fun e => if e.seq = seq then { e with status := status } else e }

/-- A pending entry removed. -/
def removePending (seq : Word16) (s : State) : State :=
  s.onOrders fun o => { o with pending := o.pending.filter fun e => e.seq ≠ seq }

/-- The pending entry with an origin sequence. -/
def State.pendingEntry (s : State) (seq : Word16) : Option PendingEntry := s.orders.pending.find? fun e => e.seq = seq

/-- A pending entry refused: its directive receives RackRefused, and a Rack Refused event names a frame and a reason. -/
def refuseEntry (e : PendingEntry) (subject : FrameNo) (reason : RefusalReason) (s : State) : State :=
  raise (.rackRefused subject e.seq reason) (postResult e.tag (rackCode e.directive) .rackRefused s)

/-- R167: the applied own order completes its entry with Done, and refuses every older entry as Overtaken, in list order
and ahead of that Done. -/
def completePending (seq : Word16) (s : State) : State := match s.pendingEntry seq with
  | none => s
  | some e =>
    let older := s.orders.pending.takeWhile fun k => k.seq ≠ seq
    let s1 := s.onOrders fun o => { o with pending := o.pending.drop (older.length + 1) }
    postResult e.tag (rackCode e.directive) .done (older.foldl (fun acc k => refuseEntry k s.own .overtaken acc) s1)

/-! ### Requests and refusals (R159, R162, R168) -/

/-- R159: a Rack Request for an entry toward the frame the belief names; the entry becomes Sent. -/
def requestEntry (dest : FrameNo) (e : PendingEntry) (s : State) : State :=
  sendUnicast dest (.rackRequest ⟨eightByte dest, e.seq, e.directive.block⟩) (setStatus e.seq .sent s)

/-- R168: a Rack Refusal matched to the pending entry with its origin sequence. -/
def takeRefusal (sender : FrameNo) (reason : Byte) (seq : Word16) (s : State) : State := match s.pendingEntry seq with
  | none => s
  | some e =>
    if reason = reasonCode .notCandidate then refuseEntry e sender .notCandidate (removePending seq s)
    else if e.status = .sent then setStatus seq .held s
    else s

/-- R160, R162: a Rack Refusal is made and counted; one for the own frame number is delivered at once (R78). -/
def sendRefusal (dest : FrameNo) (seq : Word16) (reason : RefusalReason) (s : State) : State :=
  let s' := s.onOrderCounters fun c => { c with refusals := countUp c.refusals }
  if dest = s.own then takeRefusal s.own (reasonCode reason) seq s'
  else sendUnicast dest (.rackRefusal ⟨eightByte dest, reasonCode reason, seq⟩) s'

/-- R162: a rack directive is valid at the master. -/
def State.validOrder (s : State) : RackDirective → Bool
  | .masterClaim f => s.candidate f
  | .rackArm _ _ => true
  | .rackHalt _ => true

/-! ### Applying orders (R163 to R167) -/

/-- R163: an order of origin `o` and sequence `seq` is new by the applied table. -/
def State.newOrder (s : State) (o : FrameNo) (seq : Word16) : Bool := match s.orders.applied[o] with
  | none => true
  | some r => decide (1 ≤ (seq - r).toNat) && decide ((seq - r).toNat ≤ 32767)

/-- R163, steps 1 to 3: the record, the last order and the orders-applied counter. -/
def recordOrder (rackSeq : Nat) (master o : FrameNo) (seq : Word16) (s : State) : State :=
  s.onOrders fun r => { r with applied := r.applied.set o (some seq), lastOrder := some (rackSeq, master),
                               counters := { r.counters with applied := countUp r.counters.applied } }

/-- R165: an applied Rack Arm. -/
def applyArm (g : Fin 16) (time : TimeValue) (rackSeq : Nat) (s : State) : State :=
  let s' := eight.foldl (armTapOf g time) s
  if s.canArm g ∧ time.toNat ≤ s.clock.now then
    raise (.lateArm g rackSeq time) ((startDue s').onOrderCounters fun c => { c with lateArms := countUp c.lateArms })
  else s'

/-- R164 to R166: an applied directive takes effect. A change of belief is notified here, with what of the event is still to
come as `rest` (R192, notes/assumptions/43.md); R169 follows in `resubmit`. -/
def applyDirective (rest : State → State) (d : RackDirective) (rackSeq : Nat) (s : State) : State := match d with
  | .masterClaim f =>
    if s.roster.belief = some f then s
    else
      let claimed := claimBelief f s
      notify (rest claimed).roster.belief s claimed
  | .rackArm g time => applyArm g time rackSeq s
  | .rackHalt g => eight.foldl (haltTapOf g) s

/-- R163, steps 5 and 6: the Rack Applied event, and the completion of an own entry. -/
def finishOrder (o : FrameNo) (seq : Word16) (d : RackDirective) (rackSeq : Nat) (s : State) : State :=
  let s' := raise (.rackApplied o d seq rackSeq) s
  if o = s.own then completePending seq s' else s'

/-- R163: an order that is not new is discarded and counted. -/
def countDuplicate (s : State) : State := s.onOrderCounters fun c => { c with duplicates := countUp c.duplicates }

/-- R163: an order is applied if new, or counted as a duplicate. `rest` is what of the event follows the order (R192). -/
def applyOrder (rest : State → State) (rackSeq : Nat) (master o : FrameNo) (seq : Word16) (d : RackDirective) (s : State) : State :=
  if s.newOrder o seq then
    finishOrder o seq d rackSeq (applyDirective (fun u => rest (finishOrder o seq d rackSeq u)) d rackSeq
      (recordOrder rackSeq master o seq s))
  else countDuplicate s

/-! ### Ordering at the master (R161) -/

/-- R161, steps 2 and 3: the order takes the next rack sequence and is broadcast. -/
def issueOrder (o : FrameNo) (seq : Word16) (d : RackDirective) (s : State) : State :=
  let rackSeq := s.orders.nextRackSeq
  broadcast (fun bseq _ => .rackOrder ⟨bseq, BitVec.ofNat 32 rackSeq, eightByte o, seq, d.block⟩)
    (s.onOrders fun r => { r with nextRackSeq := countUp r.nextRackSeq })

/-- R161, step 5: the requests-ordered counter. -/
def countOrdered (s : State) : State := s.onOrderCounters fun c => { c with ordered := countUp c.ordered }

/-- R161, steps 2 to 5, for a valid directive. A belief that the master's own order changes is the one the event leaves, since
another frame is then master (R169). -/
def order (o : FrameNo) (seq : Word16) (d : RackDirective) (s : State) : State :=
  countOrdered (applyOrder id s.orders.nextRackSeq s.own o seq d (issueOrder o seq d s))

/-- R161, R162: the master orders its own pending entry, or refuses it. DESIGN CHOICE (notes/assumptions/42.md): an entry whose order
it discards as not new keeps its place and its status. -/
def orderOwn (e : PendingEntry) (s : State) : State :=
  if s.validOrder e.directive then order s.own e.seq e.directive s
  else refuseEntry e s.own .notCandidate (removePending e.seq s)

/-- R169: one pending entry dealt with by the belief of this moment. -/
def dealEntry (s : State) (e : PendingEntry) : State := match s.roster.belief with
  | none => setStatus e.seq .waiting s
  | some f => if f = s.own then orderOwn e s else requestEntry f e s

/-- R169: when the belief has changed since `before`, every pending entry is dealt with in list order. A change of belief
on the way leaves the entries not yet dealt with to the newer belief. -/
def resubmit (before s : State) : State :=
  if before.roster.belief = s.roster.belief then s else s.orders.pending.foldl dealEntry s

/-- R158: a directive that passes the checks becomes a pending entry, and is ordered, requested or left waiting. DESIGN CHOICE
(notes/assumptions/42.md): one whose order the own master discards as not new stays pending in Waiting. -/
def submit (tag : Word16) (d : RackDirective) (s : State) : State :=
  let e : PendingEntry := ⟨s.orders.nextSeq, d, tag, .waiting⟩
  let s' := postResult tag (rackCode d) .accepted
    (s.onOrders fun o => { o with pending := o.pending ++ [e], nextSeq := o.nextSeq + 1 })
  resubmit s (dealEntry s' e)

/-- R158, R174: a rack directive taken under a code: its checks, of which a malformed argument comes first. -/
def takeRack (tag code : Word16) (d : Option RackDirective) (noWait : Bool) (s : State) : State := match d with
  | none => postResult tag code .badArgument s
  | some d =>
    if noWait ∧ s.roster.belief = none then postResult tag code .noMaster s
    else if Config.pendingPlaces ≤ s.orders.pending.length then postResult tag code .busy s
    else submit tag d s

/-- R160: a Rack Request delivered to the unit. -/
def takeRequest (origin : FrameNo) (seq : Word16) (block : RackBlock) (s : State) : State := match parseBlock block with
  | none => s.onOrderCounters fun c => { c with malformed := countUp c.malformed }
  | some d =>
    if s.roster.belief = some s.own then
      if s.validOrder d then resubmit s (order origin seq d s) else sendRefusal origin seq .notCandidate s
    else sendRefusal origin seq .notMaster s

/-- R163: a Rack Order delivered to the unit; `concludeOrder` deals with the pending entries. DESIGN CHOICE (notes/assumptions/13.md):
an origin field above 7 is taken as a malformed rack frame. -/
def takeOrder (master : FrameNo) (f : RackOrderBody) (s : State) : State := match parseBlock f.block, toEight f.origin with
  | some d, some o => applyOrder (resubmit s) f.rackSeq.toNat master o f.seq d s
  | _, _ => s.onOrderCounters fun c => { c with malformed := countUp c.malformed }

/-! ### The resend timer (R159) -/

/-- R159: the resend timer runs while an entry is Sent and the belief names another frame. -/
def State.resendRuns (s : State) : Bool :=
  s.orders.pending.any (fun e => e.status == .sent) && match s.roster.belief with
    | some f => decide (f ≠ s.own)
    | none => false

/-- R159: the resend timer started or stopped by the state an event leaves. -/
def syncResend (s : State) : State :=
  if s.resendRuns then
    (if s.orders.resendTimer.isSome then s else s.onOrders fun o => { o with resendTimer := some Config.resendTicks })
  else s.onOrders fun o => { o with resendTimer := none }

/-! ### Concluding an event -/

/-- What a roster change from `before` brings at once: its notices, with the one lock transition toward the belief that the
pending entries leave (R192), and the pending entries dealt with (R112, R169). DESIGN CHOICE (notes/assumptions/43.md): where the
pending entries change the belief again, the one lock event stands with the first change, ahead of the second belief event and its
Rack Applied. -/
def announce (before s : State) : State := resubmit before (notify (resubmit before s).roster.belief before s)

/-- R93: the one Roster Update of the roster change an event made from `before`. -/
def updateIfChanged (before s : State) : State := if s.view = before.view then s else makeRosterUpdate s

/-- One round of what follows an event: what follows at once, the notices since `noted`, the Roster Update for what changed
since `before`, the timers, and the grants. DESIGN CHOICE (notes/assumptions/41.md): the grants come after everything that the event
queues, so of a control frame and a relayed one that the event offers to an idle port the control frame goes first. DESIGN CHOICE
(notes/assumptions/50.md): `advance` settles the taps that the event's strip drains before `announce` deals with the pending rack entries,
so the Dones of their Stop Taps (R43) stand ahead of the entries' Done or RackRefused (R169), with a directive and without one. -/
def round (before noted s : State) : State :=
  grant .b (grant .a (syncResend (syncRefresh (updateIfChanged before (announce noted (advance s))))))

/-- What concludes an event that began at `before` and whose roster changes are notified up to `noted`. A grant can empty a
draining tap's queue, and the leave that this announces can give an idle port a frame, so a round follows a round. -/
def concludeFrom (before noted s : State) : State :=
  let s1 := round before noted s
  let s2 := round s1 s1 s1
  round s2 s2 s2

/-- What concludes an event that has notified nothing. -/
def conclude (before s : State) : State := concludeFrom before before s

/-- What concludes the arrival of a Rack Order, which has brought the part from `before` to `s`: a change of belief is a roster change
(R93) also where the pending entries, dealt with by R169, change it back in the same event: the Roster Update then goes by a comparison
with the state in between. -/
def concludeOrder (before s : State) : State :=
  let dealt := resubmit before s
  concludeFrom (if dealt.view = before.view then s else before) dealt dealt

end Sys2Proof.Machine
end

