-- ==== Sys2Proof/Machine/Report.lean ====
section
/-! DEFINITION. The report region: every line built from the state at the moment it is read (R179 to R181, and the report line
tables of Record and Frame Layouts). -/

namespace Sys2Proof.Machine

/-- A frame number, belief or hop count that may be none, in a byte (R190). -/
def orNone (v : Option Nat) : Nat := v.getD 0xFF

/-- A belief in a byte. -/
def beliefNat (b : Option FrameNo) : Nat := (frameByte b).toNat

/-- A region base in units of 4 KiB (R190). -/
def baseUnits (e : Region) : Nat := e.base / 4096

/-- The directive size's code on the summary line. -/
def directiveSizeCode (size : Nat) : Nat := sizeExponent size

/-- Line 0 (R180). -/
def summaryLine (s : State) : Line :=
  let r := s.roster
  let d := s.reporter
  assemble 512
    [bytesAt 0 1 s.own.val, bitAt 1 0 d.straps.disable.a, bitAt 1 1 d.straps.disable.b, bitAt 1 2 r.masterCapable, bitAt 1 3 r.autoAdmit,
     bitsAt 2 0 2 (partCode r.ownState), bitsAt 2 2 2 (phaseCode r.phase), bitsAt 2 4 2 (loadCode d.loadStatus),
     bytesAt 3 1 r.waitSet.toNat, bytesAt 4 1 (beliefNat r.belief), bytesAt 5 2 r.incarnation.toNat,
     bytesAt 7 9 s.stamp.time.toNat, bitsAt 16 0 3 s.stamp.quality.toNat, bitsAt 16 3 5 d.configFaults.toNat,
     bitAt 17 0 d.attention, bitAt 17 1 (s.region 0).valid, bitAt 17 2 (s.region 1).valid,
     bitsAt 17 3 2 (directiveSizeCode (s.region 0).size), bitAt 17 5 d.writeInProgress.isSome, bitAt 17 6 d.writeWaiting.isSome,
     bytesAt 18 3 (baseUnits (s.region 0)), bytesAt 21 3 (baseUnits (s.region 1)),
     bytesAt 24 4 d.eventCount, bytesAt 28 4 d.acknowledged, bytesAt 32 4 d.resultsPosted, bytesAt 36 4 d.directivesTaken,
     bytesAt 40 4 d.partialDirectives, bytesAt 44 4 s.link.unsentOwn, bytesAt 48 2 s.reserved,
     bytesAt 50 2 s.tapEngine.presets[0], bytesAt 52 2 s.tapEngine.presets[1], bytesAt 54 2 s.tapEngine.presets[2],
     bytesAt 56 2 s.tapEngine.presets[3],
     bytesAt 58 3 (freeLines s.mirrorStore.extents), bytesAt 61 3 (longestGap s.mirrorStore.extents)]

/-- The up port's two-bit code on line 1: A 0, B 1, none 3. -/
def upPortCode : Option Port → Nat
  | some p => portCode p
  | none => 3

/-- Line 1: the Rack Time Unit. -/
def clockLine (s : State) : Line :=
  let c := s.clock
  let t := c.settings
  assemble 512
    [bytesAt 0 9 c.now, bitsAt 9 0 3 (lockCode c.lock).toNat, bitAt 9 3 c.beenMaster, bitAt 9 4 c.outstanding.isSome,
     bitAt 9 5 c.lastQuality.isSome, bitAt 9 6 ((c.lastQuality.map Prod.snd).getD false),
     bitsAt 10 0 2 (upPortCode c.upPort), bitsAt 10 2 1 ((c.outstanding.map fun o => portCode o.port).getD 0),
     bitsAt 10 3 3 ((c.lastQuality.map fun q => q.1.toNat).getD 0),
     bytesAt 11 1 ((c.outstanding.map fun o => o.number.toNat).getD 0), bytesAt 12 1 c.requestNumber.toNat,
     signedAt 13 3 c.trim, signedAt 16 3 c.integral, signedAt 19 4 c.lastOffset, signedAt 23 3 c.lastDelay,
     bytesAt 26 1 c.missed, bytesAt 27 1 c.within, bytesAt 28 1 c.outside,
     bitsAt 29 0 20 c.holdoverAge, bitsAt 29 20 20 t.holdover, bitsAt 34 0 5 t.k, bitsAt 34 5 10 t.lock, bitsAt 36 0 4 t.p,
     bitsAt 36 4 4 t.i, bytesAt 37 3 t.step, ⟨8 * 40, 18, saturateSigned 18 t.corr.a⟩, ⟨8 * 40 + 18, 18, saturateSigned 18 t.corr.b⟩,
     signedAt 45 3 t.masterTrim, bytesAt 48 4 c.counters.accepted, bytesAt 52 4 c.counters.rejected, bytesAt 56 4 c.counters.steps,
     bytesAt 60 4 c.counters.lateReplies]

/-- Lines 2 and 3: a port. -/
def portLine (p : Port) (s : State) : Line :=
  let r := s.port p
  assemble 512
    [bitsAt 0 0 3 (portStateCode r.state), bitsAt 0 3 2 (causeCode r.cause), bitsAt 0 5 3 r.attempt,
     bytesAt 1 1 (orNone (r.neighbour.map fun n => n.1.val)), bytesAt 2 2 ((r.neighbour.map fun n => n.2.toNat).getD 0),
     bytesAt 4 1 r.errorScore, bytesAt 5 1 r.goodRun, bytesAt 6 1 r.relay.length, bytesAt 7 1 r.control.length,
     bitAt 8 0 r.slotRequest.isSome, bitAt 8 1 r.slotReply.isSome, bitAt 8 2 r.inTransmission.isSome, bitsAt 8 4 4 r.lastGranted.val,
     bytesAt 9 1 ((r.inTransmission.map fun f => (kindCode f.body).toNat).getD 0)]

/-- Lines 4 to 11: a roster entry. -/
def rosterLine (f : FrameNo) (s : State) : Line :=
  let e := s.shownEntry f
  assemble 512
    [bytesAt 0 1 (entryCode e.state), bytesAt 1 1 (orNone e.hops.a), bytesAt 2 1 (orNone e.hops.b), bytesAt 3 1 (portByte e.route),
     bytesAt 4 2 (e.incarnation.getD 0).toNat, bitAt 6 0 e.incarnation.isSome, bitAt 6 1 e.masterCapable, bitAt 6 2 e.sendGate,
     bitAt 6 3 e.acceptGate, bitAt 6 4 e.restartSeen, bytesAt 7 1 (beliefNat e.belief)]

/-- Lines 12 to 19: a tap with its Region Table entry. -/
def tapLine (t : TapNo) (s : State) : Line :=
  let k := s.tap t
  let e := s.region (tapRegion t)
  let c := k.counters
  assemble 512
    [bitsAt 0 0 3 (tapCode k.state), bitsAt 0 3 1 (halfCode k.half).toNat, bitAt 0 4 k.strict, bitAt 0 5 k.dropSeen, bitAt 0 6 e.paired,
     bitAt 0 7 e.valid, bytesAt 1 1 k.dests.toNat, bitsAt 2 0 4 (sizeExponent e.size), bitsAt 2 4 2 (k.level .a), bitsAt 2 6 2 (k.level .b),
     bytesAt 3 3 (baseUnits e), bitsAt 6 0 10 (k.recordLen - 1), bitsAt 6 10 2 k.preset.val, bitsAt 6 12 4 k.armGroup.val,
     bytesAt 8 2 k.recordCount, bytesAt 10 2 k.r, bytesAt 12 2 k.x, bytesAt 14 2 k.pass.toNat, bytesAt 16 2 k.passLimit,
     bytesAt 18 2 k.queueSize, bytesAt 20 2 k.high, bytesAt 22 2 k.low, bytesAt 24 2 k.stop, bytesAt 26 2 k.queue.length,
     bytesAt 28 2 (k.waitingOn .a), bytesAt 30 2 (k.waitingOn .b), bytesAt 32 4 k.passesDone, bytesAt 36 4 k.passLines,
     bytesAt 40 4 c.forwarded, bytesAt 44 4 c.dropped, bytesAt 48 4 c.marksDropped, bytesAt 52 4 c.strays, bytesAt 56 4 c.lateWrites,
     bytesAt 60 4 c.unadmitted]

/-- Line 20 + 3m: a mirror with its Region Table entry. -/
def mirrorLine (m : MirrorNo) (s : State) : Line :=
  let k := s.mirror m
  let e := s.region (mirrorRegion m)
  let c := k.counters
  assemble 512
    [bitAt 0 0 k.bound, bitAt 0 1 k.paired, bitAt 0 2 e.valid, bitsAt 1 0 3 k.sourceFrame.val, bitsAt 1 4 3 k.sourceTap.val,
     bytesAt 2 1 (sizeExponent e.size), bytesAt 3 1 k.fill.toNat, bytesAt 4 3 (baseUnits e), bytesAt 8 2 k.recordLen,
     bytesAt 10 2 k.recordCount, bytesAt 12 2 k.stride, bytesAt 16 4 k.ageLimit, bytesAt 20 4 k.extentStart, bytesAt 24 4 k.extentLength,
     bytesAt 28 4 c.outOfShape, bytesAt 32 4 c.abandoned, bytesAt 36 4 c.absentReads, bytesAt 40 4 c.staleReads,
     bytesAt 44 4 c.ignoredMarks, bytesAt 48 4 c.writes]

/-- A stamp that may be absent: an absent field is zero (R190). -/
def stampOrNone (byte : Nat) (s : Option Stamp) : List Piece := (s.map (stampAt byte)).getD []

/-- Lines 21 + 3m and 22 + 3m: a half of a mirror. -/
def halfLine (m : MirrorNo) (h : Half) (s : State) : Line :=
  let k := (s.mirror m).half h
  assemble 512
    ([bytesAt 0 1 (halfStateCode k.state), bitAt 1 0 k.startStamp.isSome, bitAt 1 1 k.endStamp.isSome, bitAt 1 2 k.forwarded.isSome,
      bytesAt 2 2 k.pass.toNat, bytesAt 4 4 k.received] ++ stampOrNone 8 k.startStamp ++ stampOrNone 18 k.endStamp
      ++ [bytesAt 28 4 (k.forwarded.getD 0)])

/-- Line 44: the channel. DEDUCED (notes/assumptions/45.md): byte 11 is 0, not FFh, while no last decode fault is held, since R190 makes a
field behind a clear presence flag zero. -/
def channelLine (s : State) : Line :=
  let c := s.channel
  assemble 512
    [bytesAt 0 1 (rankCode c.ranks[0]), bytesAt 1 1 (rankCode c.ranks[1]), bytesAt 2 1 (c.readCas.getD 0),
     bytesAt 3 1 ((c.additive.map additiveCode).getD 0), bytesAt 4 1 (c.writeCas.getD 0), bitAt 5 0 c.readCas.isSome,
     bitAt 5 1 c.additive.isSome, bitAt 5 2 c.writeCas.isSome, bitAt 5 3 c.latenciesKnown,
     bitAt 5 4 (c.map.isSome && s.roster.ownState != .starting), bitAt 5 5 c.lastFault.isSome,
     bytesAt 6 1 ((c.map.map AddressMap.ranks).getD 0), bytesAt 7 1 ((c.map.map AddressMap.banks).getD 0),
     bytesAt 8 1 ((c.map.map AddressMap.rowBits).getD 0), bytesAt 9 1 ((c.map.map fun m => orderCode m.order).getD 0),
     bytesAt 10 1 ((c.lastFault.map fun f => decodeFaultCode f.1).getD 0),
     bytesAt 11 1 ((c.lastFault.map fun f => orNone (f.2.map BitVec.toNat)).getD 0),
     bytesAt 12 4 c.decodeFaults, bytesAt 16 4 c.unservedReads, bytesAt 20 4 c.missedWrites]

/-- A result slot's sixteen bytes; an empty slot shows zero throughout (R181). -/
def resultSlot : Option ResultRecord → List Piece
  | none => []
  | some r => [bytesAt 0 4 r.number, bytesAt 4 2 r.tag.toNat, bytesAt 6 2 r.code.toNat, bytesAt 8 1 (resultCode r.result)]

/-- Lines 45 to 48: four result slots from slot 4 × `quarter` on. -/
def resultLine (quarter : Fin 4) (s : State) : Line :=
  assemble 512 (([0, 1, 2, 3] : List (Fin 4)).flatMap fun i =>
    moveBy (16 * i.val) (resultSlot s.reporter.results[4 * quarter.val + i.val]))

/-- The kind codes of events. -/
def EventInfo.code : EventInfo → Nat
  | .tapHalted _ _ => 1
  | .linesDropped _ _ => 2
  | .portStateChanged _ _ _ => 3
  | .entryChanged _ _ => 4
  | .partStateChanged _ _ => 4
  | .beliefChanged _ _ => 4
  | .restartSeen _ _ => 5
  | .leaveComplete _ _ => 6
  | .lockStateChanged _ _ _ => 7
  | .timeStep _ _ => 8
  | .rackApplied _ _ _ _ => 9
  | .rackRefused _ _ _ => 10
  | .lateArm _ _ _ => 11
  | .mirrorAged _ _ _ => 12
  | .decodeFault _ _ => 13
  | .configurationFault _ => 14
  | .partialDirective _ _ => 15

/-- The subject byte of an event, FFh for none. -/
def EventInfo.subject : EventInfo → Nat
  | .tapHalted t _ => t.val
  | .linesDropped t _ => t.val
  | .portStateChanged p _ _ => portCode p
  | .entryChanged f _ => f.val
  | .partStateChanged f _ => f.val
  | .beliefChanged f _ => f.val
  | .restartSeen f _ => f.val
  | .leaveComplete f _ => f.val
  | .lockStateChanged f _ _ => f.val
  | .timeStep f _ => f.val
  | .rackApplied f _ _ _ => f.val
  | .rackRefused f _ _ => f.val
  | .lateArm g _ _ => g.val
  | .mirrorAged m _ _ => m.val
  | .decodeFault rank _ => orNone (rank.map BitVec.toNat)
  | .configurationFault _ => 0xFF
  | .partialDirective _ _ => 0xFF

/-- The detail bytes 10 to 15 of an event, by kind. -/
def EventInfo.detail : EventInfo → List Piece
  | .tapHalted _ pass => [bytesAt 10 2 pass.toNat]
  | .linesDropped _ pass => [bytesAt 10 2 pass.toNat]
  | .portStateChanged _ st cause => [bytesAt 10 1 (portStateCode st), bytesAt 11 1 (causeCode cause)]
  | .entryChanged _ st => [bytesAt 10 1 1, bytesAt 11 1 (entryCode st)]
  | .partStateChanged _ st => [bytesAt 10 1 2, bytesAt 11 1 (partCode st)]
  | .beliefChanged _ b => [bytesAt 10 1 3, bytesAt 11 1 (beliefNat b)]
  | .restartSeen _ inc => [bytesAt 10 2 inc.toNat]
  | .leaveComplete _ inc => [bytesAt 10 2 inc.toNat]
  | .lockStateChanged _ new former => [bytesAt 10 1 (lockCode new).toNat, bytesAt 11 1 (lockCode former).toNat]
  | .timeStep _ offset => [signedAt 10 6 offset]
  | .rackApplied _ d seq rackSeq => [bytesAt 10 1 (rackKindCode d), bytesAt 11 2 seq.toNat, lowBytesAt 13 3 rackSeq]
  | .rackRefused _ seq reason => [bytesAt 10 2 seq.toNat, bytesAt 12 1 (reasonCode reason).toNat]
  | .lateArm _ _ time => [lowBytesAt 10 6 time.toNat]
  | .mirrorAged _ h pass => [bytesAt 10 1 (halfCode h).toNat, bytesAt 11 2 pass.toNat]
  | .decodeFault _ kind => [bytesAt 10 1 (decodeFaultCode kind)]
  | .configurationFault cause => [bytesAt 10 1 (configFaultCode cause)]
  | .partialDirective enabled position => [bytesAt 10 1 enabled, bytesAt 11 2 position]

/-- An event slot's sixteen bytes; an empty slot shows zero throughout (R181). -/
def eventSlot : Option EventRecord → List Piece
  | none => []
  | some e =>
    [lowBytesAt 0 2 e.number, bitsAt 2 0 4 e.info.code, bitsAt 2 4 3 e.stamp.quality.toNat, bytesAt 3 1 e.info.subject,
     lowBytesAt 4 6 e.stamp.time.toNat] ++ e.info.detail

/-- Lines 49 to 56: four event slots from slot 4 × `eighth` on. -/
def eventLine (eighth : Fin 8) (s : State) : Line :=
  assemble 512 (([0, 1, 2, 3] : List (Fin 4)).flatMap fun i =>
    moveBy (16 * i.val) (eventSlot s.reporter.events[4 * eighth.val + i.val]))

/-- The pending entries on line 57, three bytes each from byte 2. -/
def pendingPieces : Nat → List PendingEntry → List Piece
  | _, [] => []
  | byte, e :: es =>
    [bytesAt byte 2 e.seq.toNat, bitsAt (byte + 2) 0 2 (rackKindCode e.directive), bitsAt (byte + 2) 2 2 (statusCode e.status)]
      ++ pendingPieces (byte + 3) es

/-- Line 57: the rack orders. -/
def ordersLine (s : State) : Line :=
  let o := s.orders
  let c := o.counters
  assemble 512
    ([bitsAt 0 0 3 o.pending.length, bitAt 0 3 o.resendTimer.isSome] ++ eight.map (fun f => bitAt 1 f.val o.applied[f].isSome)
      ++ pendingPieces 2 (o.pending.take 4)
      ++ [bytesAt 14 2 o.nextSeq.toNat, bytesAt 16 4 o.nextRackSeq, bytesAt 20 4 ((o.lastOrder.map Prod.fst).getD 0),
          bytesAt 24 1 (beliefNat (o.lastOrder.map Prod.snd))]
      ++ eight.map (fun f => bytesAt (25 + 2 * f.val) 2 (o.applied[f].getD 0).toNat)
      ++ [bytesAt 41 3 c.applied, bytesAt 44 3 c.duplicates, bytesAt 47 3 c.ordered, bytesAt 50 3 c.refusals, bytesAt 53 3 c.skippedTaps,
          bytesAt 56 3 c.lateArms, bytesAt 59 3 c.malformed])

/-- Lines 58 and 59: a port's sixteen counters in the order of R86's table. -/
def counterLine (p : Port) (s : State) : Line :=
  let c := (s.port p).counters
  assemble 512
    [bytesAt 0 4 c.received, bytesAt 4 4 c.crcErrors, bytesAt 8 4 c.malformed, bytesAt 12 4 c.hopLimited, bytesAt 16 4 c.notJoined,
     bytesAt 20 4 c.ownOrigin, bytesAt 24 4 c.duplicates, bytesAt 28 4 c.unroutable, bytesAt 32 4 c.turnedBack,
     bytesAt 36 4 c.unaccepted, bytesAt 40 4 c.relayDrops, bytesAt 44 4 c.controlDrops, bytesAt 48 4 c.flushes, bytesAt 52 4 c.sent,
     bytesAt 56 4 c.lostInFlight, bytesAt 60 4 c.trainingFailures]

/-- R179: the report line of a number; a line from 60 on is zero. -/
def reportLine (n : Nat) (s : State) : Line :=
  if n = 0 then summaryLine s
  else if n = 1 then clockLine s
  else if n = 2 then portLine .a s
  else if n = 3 then portLine .b s
  else if n < 12 then rosterLine (Fin.ofNat 8 (n - 4)) s
  else if n < 20 then tapLine (Fin.ofNat 8 (n - 12)) s
  else if n < 44 then
    let m : MirrorNo := Fin.ofNat 8 ((n - 20) / 3)
    if (n - 20) % 3 = 0 then mirrorLine m s else if (n - 20) % 3 = 1 then halfLine m .even s else halfLine m .odd s
  else if n = 44 then channelLine s
  else if n < 49 then resultLine (Fin.ofNat 4 (n - 45)) s
  else if n < 57 then eventLine (Fin.ofNat 8 (n - 49)) s
  else if n = 57 then ordersLine s
  else if n = 58 then counterLine .a s
  else if n = 59 then counterLine .b s
  else 0

end Sys2Proof.Machine
end

