-- ==== Sys2Proof/Machine/Channel.lean ====
section
/-! DEFINITION. The memory channel: the checks on a channel command, the Bank Table, ranks, latencies, the line address of a
burst, and the reads the part serves (R2 to R20). -/

namespace Sys2Proof.Machine

/-! ### Decode faults (R13) -/

/-- R13: a decode fault is counted and recorded, and raises its event when the count was 0. -/
def decodeFault (kind : DecodeFault) (rank : Option Byte) (s : State) : State :=
  let s' := s.onChannel fun c => { c with decodeFaults := countUp c.decodeFaults, lastFault := some (kind, rank) }
  if s.channel.decodeFaults = 0 then raise (.decodeFault rank kind) s' else s'

/-! ### What a command passes first (R2, R3, R6, R20) -/

/-- R2, R3: a channel command leaves toward the DRAM as it arrived, and has its effect on the part unless Channel Reset is
asserted. -/
def channelCommand (c : Instr) (effect : State → State) (s : State) : State :=
  let s' := { s with toDram := some c }
  if s.channel.resetAsserted then s' else effect s'

/-- R2, R20: the number of ranks a command may name. -/
def State.rankLimit (s : State) : Nat :=
  if s.roster.ownState = .starting then 2 else (s.channel.map.map AddressMap.ranks).getD 2

/-- R2, R20: the number of banks a command may name. -/
def State.bankLimit (s : State) : Nat :=
  if s.roster.ownState = .starting then 16 else (s.channel.map.map AddressMap.banks).getD 16

/-- R7, R20: the number of rows an Open Row may name; every row while the part is Starting. -/
def State.rowLimit (s : State) : Nat :=
  if s.roster.ownState = .starting then 2 ^ 18 else (s.channel.map.map fun m => 2 ^ m.rowBits).getD (2 ^ 18)

/-- R2: the rank position a rank number names, if it is within the map. -/
def State.toRank (s : State) (rank : Byte) : Option (Fin 2) :=
  if h : rank.toNat < 2 then (if rank.toNat < s.rankLimit then some ⟨rank.toNat, h⟩ else none) else none

/-- R2: the bank a bank number names, if it is within the map. -/
def State.toBank (s : State) (bank : Byte) : Option (Fin 16) :=
  if h : bank.toNat < 16 then (if bank.toNat < s.bankLimit then some ⟨bank.toNat, h⟩ else none) else none

/-- R2: what a command that names a rank does, after the check against the map. -/
def atRank (rank : Byte) (effect : Fin 2 → State → State) (s : State) : State := match s.toRank rank with
  | some r => effect r s
  | none => decodeFault .outOfMap (some rank) s

/-- R6: what a command does at a rank in Active; at a sleeping rank it is a decode fault. -/
def awake (rank : Byte) (effect : Fin 2 → State → State) (r : Fin 2) (s : State) : State :=
  if s.channel.ranks[r] = .active then effect r s else decodeFault .sleepingRank (some rank) s

/-- R2, R6: what a command that names a rank and a bank does at a rank in Active. -/
def atBank (rank bank : Byte) (effect : Fin 2 → Fin 16 → State → State) (s : State) : State :=
  match s.toRank rank, s.toBank bank with
  | some r, some b => awake rank (fun r => effect r b) r s
  | _, _ => decodeFault .outOfMap (some rank) s

/-! ### The Bank Table and the ranks -/

/-- The Bank Table's entry of a rank and bank. -/
def bankIndex (r : Fin 2) (b : Fin 16) : Fin 32 := ⟨16 * r.val + b.val, by omega⟩

/-- The banks of a rank: all 16 entries of the Bank Table. DESIGN CHOICE (notes/assumptions/36.md): those beyond the map's bank count,
which commands reach only while the part is Starting, are among 'any bank' and 'every bank' of R4, R5, R8 and R9. -/
def banksOf (r : Fin 2) : List (Fin 32) := (List.finRange 16).map (bankIndex r)

/-- A Bank Table entry. -/
def State.bank (s : State) (i : Fin 32) : BankState := s.channel.banks[i]

/-- A Bank Table entry set. -/
def setBank (i : Fin 32) (st : BankState) (s : State) : State := s.onChannel fun c => { c with banks := c.banks.set i st }

/-- Every bank of a rank set. -/
def setBanks (r : Fin 2) (st : BankState) (s : State) : State := (banksOf r).foldl (fun acc i => setBank i st acc) s

/-- A rank's state set. -/
def setRank (r : Fin 2) (st : RankState) (s : State) : State := s.onChannel fun c => { c with ranks := c.ranks.set r st }

/-- A bank is Open. -/
def BankState.isOpen : BankState → Bool
  | .opened _ => true
  | .closed => false
  | .unknown => false

/-- A bank of the rank is Open. -/
def State.anyOpen (s : State) (r : Fin 2) : Bool := (banksOf r).any fun i => (s.bank i).isOpen

/-- R7: an Open Row at a rank in Active. -/
def openBank (rank : Byte) (row : Nat) (r : Fin 2) (b : Fin 16) (s : State) : State :=
  let i := bankIndex r b
  if (s.bank i).isOpen then decodeFault .reopen (some rank) (setBank i .unknown s)
  else if row < s.rowLimit then setBank i (.opened row) s
  else decodeFault .outOfMap (some rank) (setBank i .unknown s)

/-- R9: a Refresh at a rank in Active. -/
def refreshRank (rank : Byte) (r : Fin 2) (s : State) : State :=
  if s.anyOpen r then decodeFault .openAtRefresh (some rank) (setBanks r .unknown s) else s

/-- R5: a Self-Refresh Enter at a rank in Active. -/
def enterSelfRefresh (rank : Byte) (r : Fin 2) (s : State) : State :=
  if s.anyOpen r then decodeFault .openAtSelfRefresh (some rank) (setBanks r .unknown (setRank r .selfRefresh s))
  else setRank r .selfRefresh s

/-- R5, R6: a Self-Refresh Exit at a rank. -/
def exitSelfRefresh (rank : Byte) (r : Fin 2) (s : State) : State := match s.channel.ranks[r] with
  | .selfRefresh => setBanks r .closed (setRank r .active s)
  | .active => decodeFault .strayExit (some rank) s
  | .activePowerDown => decodeFault .sleepingRank (some rank) s
  | .prechargePowerDown => decodeFault .sleepingRank (some rank) s

/-- R4: a Power-Down Enter at a rank in Active. -/
def enterPowerDown (r : Fin 2) (s : State) : State :=
  setRank r (if s.anyOpen r then .activePowerDown else .prechargePowerDown) s

/-- R4, R6: a Power-Down Exit at a rank. -/
def exitPowerDown (rank : Byte) (r : Fin 2) (s : State) : State := match s.channel.ranks[r] with
  | .activePowerDown => setRank r .active s
  | .prechargePowerDown => setRank r .active s
  | .active => decodeFault .strayExit (some rank) s
  | .selfRefresh => decodeFault .sleepingRank (some rank) s

/-! ### Latencies (R11) -/

/-- R11: the recognised values of the additive latency setting. -/
def toAdditive (v : Byte) : Option Additive :=
  if v = 0 then some .off else if v = 1 then some .clMinus1 else if v = 2 then some .clMinus2 else none

/-- R11: a CAS latency in its range. -/
def toLatency (hi : Nat) (v : Byte) : Option Nat := if 5 ≤ v.toNat ∧ v.toNat ≤ hi then some v.toNat else none

/-- A latency set: an unrecognised value leaves it Unknown with a BadLatency fault, which has no rank (R11, R13). -/
def setLatency {α : Type} (v : Option α) (put : Option α → Channel → Channel) (s : State) : State :=
  let s' := s.onChannel (put v)
  if v.isSome then s' else decodeFault .badLatency none s'

/-- R11: a Mode Set by its register number. -/
def setMode (register value : Byte) (s : State) : State :=
  if register = 0 then setLatency (toLatency 24 value) (fun v c => { c with readCas := v }) s
  else if register = 1 then setLatency (toAdditive value) (fun v c => { c with additive := v }) s
  else if register = 2 then setLatency (toLatency 20 value) (fun v c => { c with writeCas := v }) s
  else s

/-! ### Bursts (R10, R12, R15 to R18) -/

/-- R15: the line address. DEDUCED (unsafe, notes/assumptions/49.md): a row beyond the map's row count gives a line beyond the channel's last,
as R20 says, by the channel's lines added to R15's sum. -/
def AddressMap.lineAddress (m : AddressMap) (rank bank row column : Nat) : Nat :=
  let rows := 2 ^ m.rowBits
  let above := match m.order with
    | .a => (rank * rows + row) * m.banks + bank
    | .b => (row * m.ranks + rank) * m.banks + bank
    | .c => (row * m.banks + bank) * m.ranks + rank
    | .d => (rank * m.banks + bank) * rows + row
  above * 128 + column / 8 + (if row < rows then 0 else m.lines)

/-- R16, R17: the column positions within the line that the beats of a burst carry, in the burst's order. -/
def beatColumns (column : BitVec 10) (halfBurst : Bool) : List Nat :=
  let c := column.toNat % 8
  if halfBurst then (List.range 4).map fun j => 4 * (c / 4) + (c % 4 + j) % 4
  else (List.range 8).map fun j => (c + j) % 8

/-- R16, R17: a line placed onto the beats of a burst. -/
def readBeats (column : BitVec 10) (halfBurst : Bool) (l : Line) : List (BitVec 64) :=
  (beatColumns column halfBurst).map fun k => l.extractLsb' (64 * k) 64

/-- R16, R17: the 64 bytes of a write in line order; bytes no beat carries are zero and not enabled. -/
def writeData (column : BitVec 10) (halfBurst : Bool) (beats : List Beat) : Line :=
  assemble 512 (((beatColumns column halfBurst).zip beats).map fun k => ⟨64 * k.1, 64, k.2.data.toNat⟩)

/-- R16, R17: the 64 byte enables of a write in line order. -/
def writeEnables (column : BitVec 10) (halfBurst : Bool) (beats : List Beat) : BitVec 64 :=
  assemble 64 (((beatColumns column halfBurst).zip beats).map fun k => ⟨8 * k.1, 8, (~~~k.2.mask).toNat⟩)

/-- The coordinates of a line in a tap's region (R31). -/
def State.tapCoord (s : State) (t : TapNo) (line : Nat) : Coord :=
  let k := s.tap t
  (s.region (tapRegion t)).coord k.recordLen k.recordCount s.tapEngine.presets[k.preset] line

/-- The coordinates of a line in a mirror's region (R31). -/
def State.mirrorCoord (s : State) (m : MirrorNo) (line : Nat) : Coord :=
  let k := s.mirror m
  (s.region (mirrorRegion m)).coord k.recordLen k.recordCount k.stride line

/-- A line driven toward the controller in place of the DRAM's beats (R3, R18). -/
def drive (column : BitVec 10) (halfBurst : Bool) (l : Line) (s : State) : State :=
  { s with toController := .beats (readBeats column halfBurst l) }

/-- R18, R30: a read access routed and served. -/
def serveRead (line : Nat) (column : BitVec 10) (halfBurst : Bool) (s : State) : State := match s.routeOfLine line with
  | some .report => drive column halfBurst (reportLine (line - (s.region 1).baseLine) s) s
  | some (.mirror m) =>
    let (l, s') := mirrorRead m (s.mirrorCoord m line) s
    drive column halfBurst l s'
  | some .directive => { s with toController := .dram }
  | some (.tap _) => { s with toController := .dram }
  | none => { s with toController := .dram }

/-- R12: a Read that Latencies Known clear leaves unserved. -/
def unserved (line : Nat) (s : State) : State :=
  let counted := s.onChannel fun c => { c with unservedReads := countUp c.unservedReads }
  match s.routeOfLine line with
  | some .report => counted
  | some (.mirror _) => counted
  | some .directive => s
  | some (.tap _) => s
  | none => s

/-- R12: a Write that Latencies Known clear leaves missed. -/
def missed (line : Nat) (s : State) : State :=
  let counted := s.onChannel fun c => { c with missedWrites := countUp c.missedWrites }
  match s.routeOfLine line with
  | some .directive => counted
  | some (.tap _) => counted
  | some .report => s
  | some (.mirror _) => s
  | none => s

/-- R12, R15: the line a burst at an Open bank concerns, once the map is in force; none while the part is Starting. -/
def State.burstLine (s : State) (r : Fin 2) (b : Fin 16) (row : Nat) (column : BitVec 10) : Option Nat :=
  if s.roster.ownState = .starting then none
  else s.channel.map.map fun m => m.lineAddress r.val b.val row column.toNat

/-- R12: a Read at an Open bank. -/
def readOpen (line : Option Nat) (column : BitVec 10) (halfBurst : Bool) (s : State) : State := match line with
  | none => s
  | some l => if s.channel.latenciesKnown then serveRead l column halfBurst s else unserved l s

/-- R12: a Write at an Open bank, which is missed while Latencies Known is clear. Its access, if it forms one, waits (`holdWrite`). -/
def writeOpen (line : Option Nat) (s : State) : State := match line with
  | none => s
  | some l => if s.channel.latenciesKnown then s else missed l s

/-- R2, R6, R10, R12: the line of the access that a Write forms; none where it forms none. -/
def State.writeLine (s : State) (rank bank : Byte) (column : BitVec 10) : Option Nat := match s.toRank rank, s.toBank bank with
  | some r, some b => match s.channel.ranks[r], s.bank (bankIndex r b) with
    | .active, .opened row => if s.channel.latenciesKnown then s.burstLine r b row column else none
    | _, _ => none
  | _, _ => none

/-- R3, R11, R18: a Write in flight until its last data beat passes, whether or not it forms an access, with the write latency in force. -/
def holdWrite (line : Option Nat) (column : BitVec 10) (halfBurst : Bool) (s : State) : State :=
  s.onChannel fun c => { c with inFlight := c.inFlight ++ [⟨line, column, halfBurst, c.writeLatency⟩] }

/-- R10: a Read or Write at a rank in Active: the burst by its bank, and auto-close. -/
def burst (rank : Byte) (autoClose : Bool) (row : Nat → Fin 2 → Fin 16 → State → State) (r : Fin 2) (b : Fin 16) (s : State) :
    State :=
  let i := bankIndex r b
  let s' := match s.bank i with
    | .opened n => row n r b s
    | .closed => decodeFault .closedAccess (some rank) s
    | .unknown => decodeFault .closedAccess (some rank) s
  if autoClose then setBank i .closed s' else s'

/-- R10, R12, R18: a Read recognised on the channel; its data passes as the DRAM drives it unless a block serves it. -/
def readBurst (rank bank : Byte) (column : BitVec 10) (autoClose halfBurst : Bool) (s : State) : State :=
  atBank rank bank
    (burst rank autoClose fun n r b s => readOpen (s.burstLine r b n column) column halfBurst s)
    { s with toController := .dram }

/-- R10, R12, R18: a Write recognised on the channel: it is in flight, and has its effect on the tracker. -/
def writeBurst (rank bank : Byte) (column : BitVec 10) (autoClose halfBurst : Bool) (s : State) : State :=
  atBank rank bank (burst rank autoClose fun n r b s => writeOpen (s.burstLine r b n column) s)
    (holdWrite (s.writeLine rank bank column) column halfBurst s)

/-! ### Channel Reset (R19) -/

/-- R19: what the assertion of Channel Reset does to the tracker. -/
def Channel.assertReset (c : Channel) : Channel :=
  { c with ranks := Vector.replicate 2 .active, banks := Vector.replicate 32 .closed, readCas := none, additive := none,
           writeCas := none, resetAsserted := true, inFlight := [] }

/-! ### The commands -/

/-- CHANNEL_RESET_ASSERT (R19). -/
def execChannelResetAssert (s : State) : Host.Outcome State Fault Refusal :=
  .next { s.onChannel Channel.assertReset with toDram := some .channelResetAssert, toController := .idle }

/-- CHANNEL_RESET_RELEASE (R19). -/
def execChannelResetRelease (s : State) : Host.Outcome State Fault Refusal :=
  .next { s.onChannel fun c => { c with resetAsserted := false } with toDram := some .channelResetRelease }

/-- OPEN_ROW (R7). -/
def execOpenRow (rank bank : Byte) (row : BitVec 18) (s : State) : Host.Outcome State Fault Refusal :=
  .next (channelCommand (.openRow rank bank row) (atBank rank bank (openBank rank row.toNat)) s)

/-- READ (R10, R12, R18). -/
def execRead (rank bank : Byte) (column : BitVec 10) (autoClose halfBurst : Bool) (s : State) : Host.Outcome State Fault Refusal :=
  .next (channelCommand (.read rank bank column autoClose halfBurst) (readBurst rank bank column autoClose halfBurst) s)

/-- WRITE (R10, R12, R18). -/
def execWrite (rank bank : Byte) (column : BitVec 10) (autoClose halfBurst : Bool) (s : State) : Host.Outcome State Fault Refusal :=
  .next (channelCommand (.write rank bank column autoClose halfBurst) (writeBurst rank bank column autoClose halfBurst) s)

/-- CLOSE (R8). -/
def execClose (rank bank : Byte) (s : State) : Host.Outcome State Fault Refusal :=
  .next (channelCommand (.close rank bank) (atBank rank bank fun r b => setBank (bankIndex r b) .closed) s)

/-- CLOSE_ALL (R8). -/
def execCloseAll (rank : Byte) (s : State) : Host.Outcome State Fault Refusal :=
  .next (channelCommand (.closeAll rank) (atRank rank (awake rank fun r => setBanks r .closed)) s)

/-- REFRESH (R9). -/
def execRefresh (rank : Byte) (s : State) : Host.Outcome State Fault Refusal :=
  .next (channelCommand (.refresh rank) (atRank rank (awake rank (refreshRank rank))) s)

/-- SELF_REFRESH_ENTER (R5). -/
def execSelfRefreshEnter (rank : Byte) (s : State) : Host.Outcome State Fault Refusal :=
  .next (channelCommand (.selfRefreshEnter rank) (atRank rank (awake rank (enterSelfRefresh rank))) s)

/-- SELF_REFRESH_EXIT (R5, R6). -/
def execSelfRefreshExit (rank : Byte) (s : State) : Host.Outcome State Fault Refusal :=
  .next (channelCommand (.selfRefreshExit rank) (atRank rank (exitSelfRefresh rank)) s)

/-- POWER_DOWN_ENTER (R4). -/
def execPowerDownEnter (rank : Byte) (s : State) : Host.Outcome State Fault Refusal :=
  .next (channelCommand (.powerDownEnter rank) (atRank rank (awake rank enterPowerDown)) s)

/-- POWER_DOWN_EXIT (R4, R6). -/
def execPowerDownExit (rank : Byte) (s : State) : Host.Outcome State Fault Refusal :=
  .next (channelCommand (.powerDownExit rank) (atRank rank (exitPowerDown rank)) s)

/-- MODE_SET (R11). -/
def execModeSet (register value : Byte) (s : State) : Host.Outcome State Fault Refusal :=
  .next (channelCommand (.modeSet register value) (setMode register value) s)

end Sys2Proof.Machine
end

