-- ==== Sys2Proof/Machine/StartUp.lean ====
section
/-! DEFINITION. Resets and start-up: the straps, the stored-configuration load, its distribution, the restart count and the
step to Active (R14, R28, R89, R116, R183 to R189). -/

namespace Sys2Proof.Machine

/-! ### Distribution (R14, R185) -/

/-- R14: the Address Map four stored values give, when each is in its range. -/
def StoredConfig.map (c : StoredConfig) : Option AddressMap := match toOrder c.order with
  | some order =>
    if (c.ranks = 1 ∨ c.ranks = 2) ∧ (c.banks = 8 ∨ c.banks = 16) ∧ 14 ≤ c.rowBits.toNat ∧ c.rowBits.toNat ≤ 18 then
      some ⟨c.ranks.toNat, c.banks.toNat, c.rowBits.toNat, order⟩
    else none
  | none => none

/-- The Address Map put in force. -/
def setMap (m : AddressMap) (s : State) : State := s.onChannel fun c => { c with map := some m }

/-- R14: the Address Map loaded from stored values, or its defaults with a fault. -/
def loadMap (c : StoredConfig) (s : State) : State := match c.map with
  | some m => setMap m s
  | none => raiseConfigFault .addressMap (setMap AddressMap.default s)

/-- R28, R185: the region values checked against the map in force, with the fault of values that the fallback placement replaces;
the entries are filled later, by `placeRegions`. -/
def checkPlacement (c : StoredConfig) (s : State) : State :=
  if placementFaulty c s.channelLines then raiseConfigFault .regionPlacement s else s

/-- R28, R116, R185: every block's defaults, where no stored values are taken; the regions' are placed later, by `placeRegions`. -/
def distributeDefaults (s : State) : State :=
  ((setMap AddressMap.default s).onRoster fun r => { r with masterCapable := false, autoAdmit := false }).onClock fun c =>
    { c with settings := Settings.default }

/-- R185: the stored values distributed, the Address Map first; with none taken every block has its default. -/
def distribute (s : State) : State := match s.reporter.stored with
  | some c =>
    ((checkPlacement c (loadMap c s)).onRoster fun r =>
      { r with masterCapable := c.masterCapable, autoAdmit := c.autoAdmit }).onClock (RackTime.setSettings c.timeArgs)
  | none => distributeDefaults s

/-! ### Becoming Active (R28, R61, R110, R120, R186) -/

/-- R61, R62: a Dark port whose cable carries a signal goes on to Training. -/
def wakePort (p : Port) (s : State) : State :=
  if (s.port p).state = .dark ∧ (s.port p).signal = true then enterTraining p s else s

/-- R117, R120: the exchange timer started or restarted with 2^k ticks; a new k takes effect here. -/
def RackTime.startExchange (c : RackTime) : RackTime :=
  { c with exchangeTimer := some (2 ^ c.settings.k), exponent := c.settings.k }

/-- R110: the election held as the own part state becomes Active, if the belief is none. -/
def electIfNone (s : State) : State := if s.roster.belief = none then elect s else s

/-- R186: all that happens at the moment own part state leaves Starting. DESIGN CHOICE (notes/assumptions/44.md): where both Dark ports
have a signal, port A goes on to Training first, so its Port State Changed event comes ahead of port B's (R61, R69). -/
def becomeActive (s : State) : State :=
  let s1 := (s.onRoster fun r => { r with ownState := .active }).onReporter fun d => { d with loadStep := .finished }
  let s2 := wakePort .b (wakePort .a (placeRegions s1))
  conclude s (electIfNone (s2.onClock RackTime.startExchange))

/-! ### The restart count (R89, R186, R187) -/

/-- R89: the incarnation and the held restart count set together. -/
def setIncarnation (n : Word16) (s : State) : State := s.onRoster fun r => { r with incarnation := n, heldCount := n }

/-- R89: no restart count can be had: both are 0, with the fault. -/
def noRestartCount (s : State) : State := raiseConfigFault .restartCount (setIncarnation 0 s)

/-- R187: the restart-count write of a Restart Part requested; it waits while one is in progress, and the newest waits. -/
def requestWrite (n : Word16) (s : State) : State :=
  if s.reporter.loadStatus = .absent ∨ s.reporter.countUnreadable then s
  else s.onReporter fun d =>
    if d.writeInProgress.isSome then { d with writeWaiting := some n } else { d with writeInProgress := some n }

/-- R187: a write has ended: the one that waits is begun. -/
def beginWaiting (s : State) : State :=
  s.onReporter fun d => { d with writeInProgress := d.writeWaiting, writeWaiting := none }

/-- R186: the start-up's write-back of a count plus 1 begins. -/
def beginWriteBack (count : Word16) (s : State) : State :=
  s.onReporter fun d => { d with loadStep := .writeBack, writeInProgress := some (count + 1) }

/-- The start-up's write is over. -/
def endWriteBack (s : State) : State := s.onReporter fun d => { d with writeInProgress := none }

/-! ### The stored-configuration load (R184) -/

/-- R184: a good block ends the reading of the block. -/
def takeBlock (c : StoredConfig) (s : State) : State :=
  s.onReporter fun d => { d with loadStatus := .loaded, stored := some c, loadStep := .restartCount }

/-- R184: a bad block: read once more after the first reading, Unreadable after the second. -/
def badBlock (s : State) : State :=
  if s.reporter.loadStep = .firstBlock then s.onReporter fun d => { d with loadStep := .secondBlock }
  else raiseConfigFault .configUnreadable (s.onReporter fun d =>
    { d with loadStatus := .unreadable, stored := none, loadStep := .restartCount })

/-- R184: a reading of the block ends. -/
def readBlock (block : Option (BitVec 448)) (s : State) : State := match block.bind decodeBlock with
  | some c => takeBlock c s
  | none => badBlock s

/-- R89, R184 to R186: the reading of the restart count ends. DESIGN CHOICE (notes/assumptions/51.md): for a count that cannot be read,
the RestartCount fault event stands ahead of the AddressMap and RegionPlacement fault events of the distribution. -/
def readCount (count : Option Word16) (s : State) : State := match count with
  | some c => beginWriteBack c (distribute s)
  | none => becomeActive (distribute (noRestartCount (s.onReporter fun d => { d with countUnreadable := true })))

/-- R184, step 1: the EEPROM is absent. DESIGN CHOICE (notes/assumptions/51.md): the RestartCount fault event of R89 stands behind the
EepromAbsent fault event. -/
def absent (s : State) : State :=
  becomeActive (distribute (noRestartCount
    (raiseConfigFault .eepromAbsent (s.onReporter fun d => { d with loadStatus := .absent, stored := none }))))

/-- R186, R187: a restart-count write has been acknowledged. -/
def writeDone (s : State) : State := match s.reporter.loadStep, s.reporter.writeInProgress with
  | .writeBack, some n => becomeActive (setIncarnation n (endWriteBack s))
  | .finished, some _ => beginWaiting s
  | _, _ => s

/-- R89, R187: a restart-count write has failed. -/
def writeFail (s : State) : State := match s.reporter.loadStep, s.reporter.writeInProgress with
  | .writeBack, some _ => becomeActive (noRestartCount (endWriteBack s))
  | .finished, some _ => beginWaiting (raiseConfigFault .restartCount s)
  | _, _ => s

/-! ### The commands. An EEPROM event that the load is not waiting for changes nothing (notes/assumptions/8.md). -/

/-- PART_RESET (R183, R189). -/
def execPartReset (frame : FrameNo) (disableA disableB : Bool) (s : State) : Host.Outcome State Fault Refusal :=
  .next (State.resetWith ⟨frame, ⟨disableA, disableB⟩⟩ ⟨(s.port .a).signal, (s.port .b).signal⟩ s.pending)

/-- EEPROM_ABSENT (R184). -/
def execEepromAbsent (s : State) : Host.Outcome State Fault Refusal :=
  .next (if s.reporter.loadStep = .firstBlock then absent s else s)

/-- CONFIGURATION_BLOCK_READ (R184). -/
def execConfigurationBlockRead (block : Option (BitVec 448)) (s : State) : Host.Outcome State Fault Refusal :=
  .next (if s.reporter.loadStep = .firstBlock ∨ s.reporter.loadStep = .secondBlock then readBlock block s else s)

/-- RESTART_COUNT_READ (R89). -/
def execRestartCountRead (count : Option Word16) (s : State) : Host.Outcome State Fault Refusal :=
  .next (if s.reporter.loadStep = .restartCount then readCount count s else s)

/-- RESTART_COUNT_WRITE_DONE (R186). -/
def execRestartCountWriteDone (s : State) : Host.Outcome State Fault Refusal := .next (writeDone s)

/-- RESTART_COUNT_WRITE_FAIL (R89, R187). -/
def execRestartCountWriteFail (s : State) : Host.Outcome State Fault Refusal := .next (writeFail s)

end Sys2Proof.Machine
end

