-- ==== Sys2Proof/Machine/Directives.lean ====
section
/-! DEFINITION. The directives: what each does at the moment it is taken, the dispatch of a taken record, and the commands that
stand for them (R26, R34 to R42, R68, R100 to R104, R108, R117, R140 to R142, R158, R172 to R174, R178, R182, R188). -/

namespace Sys2Proof.Machine

/-! ### Taps (R34 to R42) -/

/-- A directive that names a tap: a number above 7 is refused BadArgument. -/
def onTapNumber (tag code : Word16) (tap : Byte) (act : TapNo → State → State) (s : State) : State := match toEight tap with
  | some t => act t s
  | none => postResult tag code .badArgument s

/-- The record a bind gives a tap, with the clamps of R35. -/
def tapRecord (a : BindTapArgs) (preset : Fin 4) (group : Fin 16) (dests : Byte) : Tap :=
  let q := clampNat 8 256 a.queueSize.toNat
  let high := min a.high.toNat q
  let low := min (min a.low.toNat q) high
  { Tap.unbound with
    state := .idle, recordLen := a.recordLen.toNat, recordCount := a.recordCount.toNat, preset := preset, dests := dests
    queueSize := q, high := high, low := low, stop := min (min a.stop.toNat q) low, strict := a.strict
    passLimit := a.passLimit.toNat, armGroup := group }

/-- R26, R36: the checks of Bind Tap after its identities, and the bind. -/
def bindTapChecked (tag : Word16) (a : BindTapArgs) (t : TapNo) (record : Tap) (s : State) : State :=
  if (s.tap t).state ≠ .unbound then postResult tag 0x01 .busy s
  else match s.bindCheck a.sizeExp.toNat a.base.toNat a.paired record.recordLen record.recordCount
      s.tapEngine.presets[record.preset] with
    | some refusal => postResult tag 0x01 refusal s
    | none =>
      if Config.bufferEntries < s.reserved + record.queueSize then postResult tag 0x01 .noSpace s
      else postResult tag 0x01 .done ((s.onTap t fun _ => record).setRegion (tapRegion t)
        ⟨true, a.base.toNat, regionSize a.sizeExp.toNat, a.paired⟩)

/-- Bind Tap (R35, R36). -/
def bindTap (tag : Word16) (a : BindTapArgs) (s : State) : State :=
  let dests := without a.dests s.own
  match toEight a.tap, toPreset a.preset, toGroup a.armGroup with
  | some t, some preset, some group =>
    if dests = 0 then postResult tag 0x01 .badArgument s else bindTapChecked tag a t (tapRecord a preset group dests) s
  | _, _, _ => postResult tag 0x01 .badArgument s

/-- R33: a tap returns to Unbound, and its region entry is emptied. -/
def clearTap (t : TapNo) (s : State) : State := (s.onTap t fun _ => Tap.unbound).setRegion (tapRegion t) Region.empty

/-- Unbind Tap at a tap (R38). DESIGN CHOICE (notes/assumptions/52.md): its Done stands ahead of the Done of a Leave Rack that the drained
tap lets complete. -/
def unbindTapAt (tag : Word16) (t : TapNo) (s : State) : State := match (s.tap t).state with
  | .unbound => postResult tag 0x02 .notBound s
  | .idle => conclude s (postResult tag 0x02 .done (clearTap t s))
  | .halted => conclude s (postResult tag 0x02 .done (clearTap t s))
  | .armed => postResult tag 0x02 .busy s
  | .running => postResult tag 0x02 .busy s
  | .draining => postResult tag 0x02 .busy s

/-- R39: the checks of Start Tap and Arm Tap, and what a tap that passes them does. -/
def fromIdle (tag code : Word16) (act : State → State) (t : TapNo) (s : State) : State :=
  if (s.tap t).state = .unbound then postResult tag code .notBound s
  else if s.away then postResult tag code .leaving s
  else if (s.tap t).state ≠ .idle then postResult tag code .busy s
  else postResult tag code .done (act s)

/-- R39, R40: Arm Tap at a tap, which goes on to Running if its time has come. -/
def armTapAt (tag : Word16) (time : TimeValue) (t : TapNo) (s : State) : State :=
  fromIdle tag 0x03 (fun s => startIfDue t (s.onTap t fun k => { k with state := .armed, armTime := time })) t s

/-- R39: Start Tap at a tap. -/
def startTapAt (tag : Word16) (t : TapNo) (s : State) : State := fromIdle tag 0x04 (enterRunning t) t s

/-- R41: a Stop Tap waits on a tap. -/
def waitOnTap (tag : Word16) (t : TapNo) (s : State) : State :=
  postResult tag codeStopTap .accepted (s.onTap t fun k => { k with waiting := k.waiting ++ [tag] })

/-- R41: Stop Tap at a tap. DESIGN CHOICE (notes/assumptions/52.md): its Done stands ahead of the Done of a Leave Rack that the drained tap
lets complete. -/
def stopTapAt (tag : Word16) (t : TapNo) (s : State) : State := match (s.tap t).state with
  | .unbound => postResult tag codeStopTap .notBound s
  | .idle => postResult tag codeStopTap .done s
  | .armed => conclude s (postResult tag codeStopTap .done (s.onTap t fun k => { k with state := .idle }))
  | .running => conclude s (waitOnTap tag t (drainRunning t s))
  | .draining =>
    if 4 ≤ (s.tap t).waiting.length then postResult tag codeStopTap .busy s else conclude s (waitOnTap tag t s)
  | .halted => conclude s (postResult tag codeStopTap .done (s.onTap t fun k => { k with state := .idle, queue := [] }))

/-- R42: Halt Tap at a tap. DESIGN CHOICE: its Done stands ahead of the Dones of waiting Stop Taps (notes/assumptions/17.md), and of the Done
of a Leave Rack that the drained tap lets complete (52.md). -/
def haltTapAt (tag : Word16) (t : TapNo) (s : State) : State :=
  if (s.tap t).state = .unbound then postResult tag 0x06 .notBound s
  else conclude s (postResult tag 0x06 .done (haltTap t s))

/-! ### Stride presets (R34) -/

/-- The value a Set Stride Presets names for a preset, clamped to 1 at least. -/
def presetValue (a : PresetArgs) : Fin 4 → Nat
  | 0 => max 1 a.p0.toNat
  | 1 => max 1 a.p1.toNat
  | 2 => max 1 a.p2.toNat
  | 3 => max 1 a.p3.toNat

/-- The presets a Set Stride Presets leaves. -/
def State.newPresets (s : State) (a : PresetArgs) : Vector Nat 4 :=
  Vector.ofFn fun i => if a.set.getLsbD i.val then presetValue a i else s.tapEngine.presets[i]

/-- R34: a tap names a preset the directive would change. -/
def State.presetChanges (s : State) (a : PresetArgs) (t : TapNo) : Bool :=
  (s.newPresets a)[(s.tap t).preset] != s.tapEngine.presets[(s.tap t).preset]

/-- R34, step 2: a tap's shape no longer fits its half with a new value. -/
def State.misfit (s : State) (a : PresetArgs) (t : TapNo) : Bool :=
  let k := s.tap t
  let e := s.region (tapRegion t)
  let stride := (s.newPresets a)[k.preset]
  decide (stride < k.recordLen) || !shapeFits k.recordLen k.recordCount stride (halfLines e.size e.paired)

/-- Set Stride Presets (R34). -/
def setStridePresets (tag : Word16) (a : PresetArgs) (s : State) : State :=
  let changed := eight.filter fun t => (s.tap t).state != .unbound && s.presetChanges a t
  if changed.any fun t => (s.tap t).state == .armed || (s.tap t).state == .running || (s.tap t).state == .draining then
    postResult tag 0x07 .busy s
  else if changed.any (s.misfit a) then postResult tag 0x07 .badArgument s
  else postResult tag 0x07 .done (s.onTapEngine fun e => { e with presets := s.newPresets a })

/-! ### Mirrors (R140 to R142) -/

/-- R141: the record a bind gives a mirror. -/
def mirrorRecord (a : BindMirrorArgs) (source : FrameNo) (tap : TapNo) (start length : Nat) : Mirror :=
  { Mirror.unbound with
    bound := true, sourceFrame := source, sourceTap := tap, paired := a.paired, recordLen := a.recordLen.toNat
    recordCount := a.recordCount.toNat, stride := a.stride.toNat, fill := a.fill, ageLimit := a.ageLimit.toNat
    extentStart := start, extentLength := length }

/-- R140, steps 2 to 4: the mirror is Bound, its source is the own frame, or another mirror is bound to the source. -/
def State.mirrorBusy (s : State) (m : MirrorNo) (source : FrameNo) (tap : TapNo) : Bool :=
  (s.mirror m).bound || source == s.own
    || eight.any fun n => (s.mirror n).bound && (s.mirror n).sourceFrame == source && (s.mirror n).sourceTap == tap

/-- R138, R141: the bind, at the store line its extent is placed at. -/
def placeMirror (tag : Word16) (a : BindMirrorArgs) (m : MirrorNo) (source : FrameNo) (tap : TapNo) (s : State) : State :=
  let length := extentLength a.recordLen.toNat a.recordCount.toNat a.paired
  match firstFit s.mirrorStore.extents length with
  | none => postResult tag 0x10 .noSpace s
  | some start =>
    let s' := s.onMirrorStore fun e =>
      { e with mirrors := e.mirrors.set m (mirrorRecord a source tap start length), extents := insertExtent ⟨m, start, length⟩ e.extents }
    postResult tag 0x10 .done (s'.setRegion (mirrorRegion m) ⟨true, a.base.toNat, regionSize a.sizeExp.toNat, a.paired⟩)

/-- Bind Mirror (R140, R141). -/
def bindMirror (tag : Word16) (a : BindMirrorArgs) (s : State) : State :=
  match toEight a.mirror, toEight a.sourceFrame, toEight a.sourceTap with
  | some m, some source, some tap =>
    if s.mirrorBusy m source tap then postResult tag 0x10 .busy s
    else match s.bindCheck a.sizeExp.toNat a.base.toNat a.paired a.recordLen.toNat a.recordCount.toNat a.stride.toNat with
      | some refusal => postResult tag 0x10 refusal s
      | none => placeMirror tag a m source tap s
  | _, _, _ => postResult tag 0x10 .badArgument s

/-- R137, R139: a mirror returns to Unbound, and its extent and its region entry are freed. -/
def clearMirror (m : MirrorNo) (s : State) : State :=
  (s.onMirrorStore fun e => { e with mirrors := e.mirrors.set m Mirror.unbound, extents := removeExtent m e.extents }).setRegion
    (mirrorRegion m) Region.empty

/-- Unbind Mirror (R142). -/
def unbindMirror (tag : Word16) (mirror : Byte) (s : State) : State := match toEight mirror with
  | none => postResult tag 0x11 .badArgument s
  | some m => if (s.mirror m).bound then postResult tag 0x11 .done (clearMirror m s) else postResult tag 0x11 .notBound s

/-! ### The roster (R100, R102 to R104, R108) -/

/-- R102, R103: a directive that names another frame: the own number, or one above 7, is refused BadArgument. -/
def onOther (tag code : Word16) (frame : Byte) (act : FrameNo → State → State) (s : State) : State := match toEight frame with
  | some f => if f = s.own then postResult tag code .badArgument s else act f s
  | none => postResult tag code .badArgument s

/-- R102: a directive on the gates of a member: an Absent entry is refused NotMember. -/
def onMember (tag code : Word16) (act : FrameNo → State → State) (f : FrameNo) (s : State) : State :=
  if (s.entry f).state = .absent then postResult tag code .notMember s else postResult tag code .done (act f s)

/-- R102: both gates of an entry opened. -/
def openGates (f : FrameNo) (s : State) : State := s.onEntry f fun e => { e with sendGate := true, acceptGate := true }

/-- R102: both gates of an entry closed. -/
def closeGates (f : FrameNo) (s : State) : State := (closeAccept f s).onEntry f fun e => { e with sendGate := false }

/-- R103: Forget Frame at another frame. DESIGN CHOICE (notes/assumptions/50.md): its Done stands ahead of the results of the pending rack
entries that its election deals with (R169). -/
def forgetAt (tag : Word16) (f : FrameNo) (s : State) : State :=
  if (s.entry f).state = .lost then
    conclude s (postResult tag 0x22 .done (electIfNeeded s (clearRecord f (enterEntry f .absent s))))
  else postResult tag 0x22 .busy s

/-- Acknowledge Restart (R100). -/
def acknowledgeRestart (tag : Word16) (frame : Byte) (s : State) : State := match toEight frame with
  | some f => postResult tag 0x23 .done (s.onEntry f fun e => { e with restartSeen := false })
  | none => postResult tag 0x23 .badArgument s

/-- R104, step 2: the own part state becomes Leaving. -/
def startLeaving (tag : Word16) (s : State) : State :=
  s.onRoster fun r => { r with ownState := .leaving, phase := .draining, leaveTag := some tag }

/-- R104, step 2, in a leave from `before`: the part is Leaving, the taps act, and then a belief that still names the own frame is
replaced (R44, R110). -/
def goLeaving (tag : Word16) (before s : State) : State :=
  announce before (electIfNeeded before (leaveTaps (startLeaving tag s)))

/-- R104, steps 1 and 2, with a handover: the Master Claim is ordered without the validation of R161, takes the next origin
sequence and is applied by R163, which discards it if the own record stands ahead; the roster events of the handover and of
Leaving are those of one roster change (R93). -/
def handOver (tag : Word16) (f : FrameNo) (s : State) : State :=
  let seq := s.orders.nextSeq
  let rackSeq := s.orders.nextRackSeq
  let issued := issueOrder s.own seq (.masterClaim f) (s.onOrders fun o => { o with nextSeq := o.nextSeq + 1 })
  if issued.newOrder s.own seq then
    let changed := startLeaving tag (claimBelief f (recordOrder rackSeq s.own s.own seq issued))
    leaveTaps (resubmit s (countOrdered (finishOrder s.own seq (.masterClaim f) rackSeq (notify (some f) s changed))))
  else goLeaving tag s (countOrdered (countDuplicate issued))

/-- R104: Leave Rack not refused, before its result: with a handover where the own frame is master and a successor exists. -/
def leave (tag : Word16) (s : State) : State := match s.successor with
  | some f => if s.roster.belief = some s.own then handOver tag f s else goLeaving tag s s
  | none => goLeaving tag s s

/-- Leave Rack (R104). DEDUCED (notes/assumptions/15.md): where the leave completes at once, the part is reported Leaving ahead of
the belief and lock events of its step 2, and Departed after them. -/
def leaveRack (tag : Word16) (force : Bool) (s : State) : State :=
  if s.roster.ownState ≠ .active then postResult tag codeLeaveRack .busy s
  else if s.roster.belief = some s.own ∧ s.successor = none ∧ !force then postResult tag codeLeaveRack .noSuccessor s
  else
    let s' := postResult tag codeLeaveRack .accepted (leave tag s)
    concludeFrom s s' s'

/-- Rejoin Rack (R108). DESIGN CHOICE (notes/assumptions/50.md): its Done stands ahead of the results of the pending rack entries that its
election deals with (R169). -/
def rejoinRack (tag : Word16) (s : State) : State :=
  if s.roster.ownState = .departed then
    conclude s (postResult tag 0x25 .done (electIfNone (s.onRoster fun r => { r with ownState := .active })))
  else postResult tag 0x25 .busy s

/-! ### Ports (R62, R66, R68) -/

/-- R66: what a port's leaving Joined does, around its entry into another state. -/
def leavePort (p : Port) (enter : State → State) (s : State) : State :=
  if (s.port p).state = .joined then losePort p (stripPort p (enter s)) else enter s

/-- R68: Enable at a port. -/
def enablePort (p : Port) (s : State) : State :=
  if (s.port p).state = .disabled then
    let s' := setPortState p .dark .none (flushPort p s)
    if (s'.port p).signal then enterTraining p s' else s'
  else s

/-- R68: Disable at a port. -/
def disablePort (p : Port) (s : State) : State :=
  if (s.port p).state = .disabled then s else leavePort p (enterDisabled p) s

/-- R68: Retrain at a port in Training, Linked, Joined or Fault. -/
def retrainPort (p : Port) (s : State) : State := if (s.port p).state = .dark then s else leavePort p (enterTraining p) s

/-- A Port Control action on a port: a port byte other than 0 or 1 is refused BadArgument. -/
def onPortNumber (tag : Word16) (port : Byte) (act : Port → State → State) (s : State) : State := match toPort port with
  | some p => act p s
  | none => postResult tag 0x30 .badArgument s

/-- Port Control Enable (R68). -/
def portEnable (tag : Word16) (port : Byte) (s : State) : State :=
  onPortNumber tag port (fun p s => conclude s (postResult tag 0x30 .done (enablePort p s))) s

/-- Port Control Disable (R68). DESIGN CHOICE (notes/assumptions/17.md): its Done stands ahead of the Dones of the Stop Taps that its
strip ends (R43), (notes/assumptions/50.md) of the results of the pending rack entries that its election deals with (R169), and
(notes/assumptions/52.md) of the Done of a Leave Rack that it lets complete (R107). -/
def portDisable (tag : Word16) (port : Byte) (s : State) : State :=
  onPortNumber tag port (fun p s => conclude s (postResult tag 0x30 .done (disablePort p s))) s

/-- Port Control Retrain (R68); its Done as for Disable (notes/assumptions/17.md, 50.md and 52.md). -/
def portRetrain (tag : Word16) (port : Byte) (s : State) : State :=
  onPortNumber tag port (fun p s =>
    if (s.port p).state = .disabled then postResult tag 0x30 .busy s
    else conclude s (postResult tag 0x30 .done (retrainPort p s))) s

/-- Port Control by its action byte (R68). -/
def portControl (tag : Word16) (port action : Byte) (s : State) : State :=
  if action = 1 then portEnable tag port s
  else if action = 2 then portDisable tag port s
  else if action = 3 then portRetrain tag port s
  else postResult tag 0x30 .badArgument s

/-! ### Rack time and rack directives (R117, R158) -/

/-- Time Settings (R117). -/
def timeSettings (tag : Word16) (a : TimeSettingsArgs) (s : State) : State :=
  postResult tag 0x38 .done (s.onClock (RackTime.setSettings a))

/-- A rack directive taken, with what concludes it (R158, R174). -/
def rackDirective (tag code : Word16) (d : Option RackDirective) (noWait : Bool) (s : State) : State :=
  let s' := takeRack tag code d noWait s
  concludeFrom s s' s'

/-! ### The Directive and Report Unit's own (R178, R182, R188) -/

/-- Acknowledge Events (R178). -/
def acknowledgeEvents (tag : Word16) (count : BitVec 32) (s : State) : State :=
  postResult tag 0x50 .done
    (s.onReporter fun d => { d with acknowledged := min count.toNat d.eventCount }.rework)

/-- R13: the tracker's counts brought back to zero. -/
def Channel.clearCounts (c : Channel) : Channel :=
  { c with decodeFaults := 0, unservedReads := 0, missedWrites := 0, lastFault := none }

/-- Clear Counters (R182). -/
def clearCounters (tag : Word16) (s : State) : State :=
  let s1 := s.onChannel Channel.clearCounts
  let s2 := s1.onTapEngine fun e =>
    { e with taps := e.taps.map fun k => if k.state = .unbound then k else { k with counters := TapCounters.zero } }
  let s3 := s2.onMirrorStore fun e =>
    { e with mirrors := e.mirrors.map fun m => if m.bound then { m with counters := MirrorCounters.zero } else m }
  let s4 := s3.onLink fun l => { l with
    ports := ⟨{ l.ports.a with counters := PortCounters.zero }, { l.ports.b with counters := PortCounters.zero }⟩, unsentOwn := 0 }
  let s5 := s4.onClock fun c => { c with counters := TimeCounters.zero }
  let s6 := s5.onOrders fun o => { o with counters := OrderCounters.zero }
  postResult tag 0x51 .done (s6.onReporter fun d => { d with partialDirectives := 0 })

/-- R21: Restart Part empties entries 2 to 17. -/
def restartRegions (v : Vector Region 18) : Vector Region 18 := Vector.ofFn fun i => if i.val < 2 then v[i] else Region.empty

/-- R86, R87: Restart Part at a port: the queues, the slot, the last granted and the counters; the frame in transmission goes on. -/
def PortRecord.restart (r : PortRecord) : PortRecord :=
  { r with relay := [], control := [], slotRequest := none, slotReply := none, lastGranted := 8, counters := PortCounters.zero }

/-- R86, R87: Restart Part at the Link Controller. -/
def Link.restart (l : Link) : Link := ⟨⟨l.ports.a.restart, l.ports.b.restart⟩, 0, 0⟩

/-- R89, R113: Restart Part at the Roster Unit, before the election. -/
def Roster.restart (r : Roster) : Roster :=
  { r with ownState := .active, entries := Vector.replicate 8 RosterEntry.absent, incarnation := r.heldCount + 1,
           heldCount := r.heldCount + 1, belief := none, phase := .none, waitSet := 0, leaveTag := none, recent := [] }

/-- R136: Restart Part at the Rack Time Unit, with the up port that an emptied roster leaves. -/
def RackTime.restart (c : RackTime) : RackTime :=
  { c with lock := .freeRun, upPort := none, outstanding := none, requestNumber := 0, lastOffset := 0, lastDelay := 0,
           lastQuality := none, missed := 0, within := 0, outside := 0, holdoverAge := 0, counters := TimeCounters.zero }

/-- R157: Restart Part at the Mirror Store: the store lines keep what they held. -/
def MirrorStore.restart (m : MirrorStore) : MirrorStore := ⟨Vector.replicate 8 Mirror.unbound, m.store, []⟩

/-- R188, steps 2 and 3: the lists emptied, the counts at 0, and directives taken at 1. -/
def Reporter.restart (d : Reporter) : Reporter :=
  { d with results := Vector.replicate 16 none, resultsPosted := 0, directivesTaken := 1, partialDirectives := 0,
           events := Vector.replicate 32 none, eventCount := 0, acknowledged := 0, attention := false }

/-- R188, step 1 and step 2: every block by its own rule, and the lists. -/
def restartBlocks (s : State) : State where
  channel := s.channel.clearCounts
  regions := restartRegions s.regions
  tapEngine := TapEngine.reset
  mirrorStore := s.mirrorStore.restart
  link := s.link.restart
  roster := s.roster.restart
  clock := s.clock.restart
  orders := RackOrders.reset
  reporter := s.reporter.restart
  toDram := s.toDram
  toController := s.toController
  pending := s.pending

/-- R133, R136: the lock state's becoming Free-run is reported. -/
def notifyFreeRun (before s : State) : State :=
  if before.clock.lock = .freeRun then s else raise (.lockStateChanged s.own .freeRun before.clock.lock) s

/-- R112, R188: the new belief of a restart is reported, unless there was none and is none. -/
def notifyRestartBelief (before s : State) : State :=
  if before.roster.belief = none ∧ s.roster.belief = none then s else raise (.beliefChanged s.own s.roster.belief) s

/-- R188: the events the blocks raise for a restart, in order, and the mastership an election brings. -/
def notifyRestart (before s : State) : State :=
  let s1 := s.others.foldl (notifyFrame before) (notifyFreeRun before s)
  followMaster none s.roster.belief (notifyRestartBelief before (notifyOwn before s1))

/-- R87: a Hello placed on a port that is Joined or Linked. -/
def helloIfUp (p : Port) (s : State) : State := match (s.port p).state with
  | .joined => placeHello p s
  | .linked => placeHello p s
  | .disabled => s
  | .dark => s
  | .training => s
  | .fault => s

/-- Restart Part (R188). -/
def restartPart (tag : Word16) (s : State) : State :=
  let s1 := restartBlocks s
  let s2 := requestWrite s1.roster.heldCount (postResult tag 0x5A .done s1)
  let s3 := helloIfUp .b (helloIfUp .a (notifyRestart s (electIfNone s2)))
  let s4 := makeRosterUpdate s3
  concludeFrom s4 s4 s4

/-! ### Taking a directive (R172, R173) -/

/-- R173: a taken directive dispatched to its owner. -/
def dispatch (d : Directive) (s : State) : State := match d with
  | .bindTap tag a => bindTap tag a s
  | .unbindTap tag t => onTapNumber tag 0x02 t (unbindTapAt tag) s
  | .armTap tag t time => onTapNumber tag 0x03 t (armTapAt tag time) s
  | .startTap tag t => onTapNumber tag 0x04 t (startTapAt tag) s
  | .stopTap tag t => onTapNumber tag codeStopTap t (stopTapAt tag) s
  | .haltTap tag t => onTapNumber tag 0x06 t (haltTapAt tag) s
  | .setStridePresets tag a => setStridePresets tag a s
  | .bindMirror tag a => bindMirror tag a s
  | .unbindMirror tag m => unbindMirror tag m s
  | .admitFrame tag f => onOther tag 0x20 f (onMember tag 0x20 openGates) s
  | .barFrame tag f => onOther tag 0x21 f (onMember tag 0x21 closeGates) s
  | .forgetFrame tag f => onOther tag 0x22 f (forgetAt tag) s
  | .acknowledgeRestart tag f => acknowledgeRestart tag f s
  | .leaveRack tag force => leaveRack tag force s
  | .rejoinRack tag => rejoinRack tag s
  | .portControl tag port action => portControl tag port action s
  | .timeSettings tag a => timeSettings tag a s
  | .masterClaim tag f noWait => rackDirective tag 0x40 ((toEight f).map .masterClaim) noWait s
  | .rackArm tag g time noWait => rackDirective tag 0x41 ((toGroup g).map (.rackArm · time)) noWait s
  | .rackHalt tag g noWait => rackDirective tag 0x42 ((toGroup g).map .rackHalt) noWait s
  | .acknowledgeEvents tag count => acknowledgeEvents tag count s
  | .clearCounters tag => clearCounters tag s
  | .restartPart tag => restartPart tag s
  | .unknown tag code => postResult tag code .unknownCode s

/-- R172, R173: a directive record is taken, counted and dispatched. -/
def takeDirective (d : Directive) (s : State) : State :=
  dispatch d (s.onReporter fun r => { r with directivesTaken := countUp r.directivesTaken })

/-- R172: a partial directive is counted and reported. -/
def takePartial (enabled position : Nat) (s : State) : State :=
  raise (.partialDirective enabled position)
    (s.onReporter fun r => { r with partialDirectives := countUp r.partialDirectives })

/-- R21, R28: what reaches the Directive region only while its entry is valid. DESIGN CHOICE (notes/assumptions/7.md): a directive's
command stands for a line already handed on, so neither Channel Reset nor the latencies stop it here (R2, R12, R19). -/
def throughRegion (act : State → State) (s : State) : State := if (s.region 0).valid then act s else s

/-! ### The commands. Each is a write of the directive's record to the Directive region (notes/assumptions/7.md). -/

/-- PARTIAL_DIRECTIVE (R172). -/
def execPartialDirective (enabled : Fin 64) (position : BitVec 10) (s : State) : Host.Outcome State Fault Refusal :=
  .next (throughRegion (takePartial enabled.val position.toNat) s)

/-- UNKNOWN_CODE (R173). -/
def execUnknownCode (tag code : Word16) (s : State) : Host.Outcome State Fault Refusal :=
  .next (throughRegion (takeDirective (.unknown tag code)) s)

/-- BIND_TAP (R35, R36). -/
def execBindTap (tag : Word16) (args : BindTapArgs) (s : State) : Host.Outcome State Fault Refusal :=
  .next (throughRegion (takeDirective (.bindTap tag args)) s)

/-- UNBIND_TAP (R38). -/
def execUnbindTap (tag : Word16) (tap : Byte) (s : State) : Host.Outcome State Fault Refusal :=
  .next (throughRegion (takeDirective (.unbindTap tag tap)) s)

/-- ARM_TAP (R39). -/
def execArmTap (tag : Word16) (tap : Byte) (time : TimeValue) (s : State) : Host.Outcome State Fault Refusal :=
  .next (throughRegion (takeDirective (.armTap tag tap time)) s)

/-- START_TAP (R39). -/
def execStartTap (tag : Word16) (tap : Byte) (s : State) : Host.Outcome State Fault Refusal :=
  .next (throughRegion (takeDirective (.startTap tag tap)) s)

/-- STOP_TAP (R41). -/
def execStopTap (tag : Word16) (tap : Byte) (s : State) : Host.Outcome State Fault Refusal :=
  .next (throughRegion (takeDirective (.stopTap tag tap)) s)

/-- HALT_TAP (R42). -/
def execHaltTap (tag : Word16) (tap : Byte) (s : State) : Host.Outcome State Fault Refusal :=
  .next (throughRegion (takeDirective (.haltTap tag tap)) s)

/-- SET_STRIDE_PRESETS (R34). -/
def execSetStridePresets (tag : Word16) (args : PresetArgs) (s : State) : Host.Outcome State Fault Refusal :=
  .next (throughRegion (takeDirective (.setStridePresets tag args)) s)

/-- BIND_MIRROR (R140, R141). -/
def execBindMirror (tag : Word16) (args : BindMirrorArgs) (s : State) : Host.Outcome State Fault Refusal :=
  .next (throughRegion (takeDirective (.bindMirror tag args)) s)

/-- UNBIND_MIRROR (R142). -/
def execUnbindMirror (tag : Word16) (mirror : Byte) (s : State) : Host.Outcome State Fault Refusal :=
  .next (throughRegion (takeDirective (.unbindMirror tag mirror)) s)

/-- ADMIT_FRAME (R102). -/
def execAdmitFrame (tag : Word16) (frame : Byte) (s : State) : Host.Outcome State Fault Refusal :=
  .next (throughRegion (takeDirective (.admitFrame tag frame)) s)

/-- BAR_FRAME (R102). -/
def execBarFrame (tag : Word16) (frame : Byte) (s : State) : Host.Outcome State Fault Refusal :=
  .next (throughRegion (takeDirective (.barFrame tag frame)) s)

/-- FORGET_FRAME (R103). -/
def execForgetFrame (tag : Word16) (frame : Byte) (s : State) : Host.Outcome State Fault Refusal :=
  .next (throughRegion (takeDirective (.forgetFrame tag frame)) s)

/-- ACKNOWLEDGE_RESTART (R100). -/
def execAcknowledgeRestart (tag : Word16) (frame : Byte) (s : State) : Host.Outcome State Fault Refusal :=
  .next (throughRegion (takeDirective (.acknowledgeRestart tag frame)) s)

/-- LEAVE_RACK (R104). -/
def execLeaveRack (tag : Word16) (force : Bool) (s : State) : Host.Outcome State Fault Refusal :=
  .next (throughRegion (takeDirective (.leaveRack tag force)) s)

/-- REJOIN_RACK (R108). -/
def execRejoinRack (tag : Word16) (s : State) : Host.Outcome State Fault Refusal :=
  .next (throughRegion (takeDirective (.rejoinRack tag)) s)

/-- PORT_ENABLE (R68). -/
def execPortEnable (tag : Word16) (port : Byte) (s : State) : Host.Outcome State Fault Refusal :=
  .next (throughRegion (takeDirective (.portControl tag port 1)) s)

/-- PORT_DISABLE (R68). -/
def execPortDisable (tag : Word16) (port : Byte) (s : State) : Host.Outcome State Fault Refusal :=
  .next (throughRegion (takeDirective (.portControl tag port 2)) s)

/-- PORT_RETRAIN (R68). -/
def execPortRetrain (tag : Word16) (port : Byte) (s : State) : Host.Outcome State Fault Refusal :=
  .next (throughRegion (takeDirective (.portControl tag port 3)) s)

/-- TIME_SETTINGS (R117). -/
def execTimeSettings (tag : Word16) (args : TimeSettingsArgs) (s : State) : Host.Outcome State Fault Refusal :=
  .next (throughRegion (takeDirective (.timeSettings tag args)) s)

/-- MASTER_CLAIM (R158). -/
def execMasterClaim (tag : Word16) (frame : Byte) (noWait : Bool) (s : State) : Host.Outcome State Fault Refusal :=
  .next (throughRegion (takeDirective (.masterClaim tag frame noWait)) s)

/-- RACK_ARM (R158). -/
def execRackArm (tag : Word16) (group : Byte) (time : TimeValue) (noWait : Bool) (s : State) : Host.Outcome State Fault Refusal :=
  .next (throughRegion (takeDirective (.rackArm tag group time noWait)) s)

/-- RACK_HALT (R158). -/
def execRackHalt (tag : Word16) (group : Byte) (noWait : Bool) (s : State) : Host.Outcome State Fault Refusal :=
  .next (throughRegion (takeDirective (.rackHalt tag group noWait)) s)

/-- ACKNOWLEDGE_EVENTS (R178). -/
def execAcknowledgeEvents (tag : Word16) (count : BitVec 32) (s : State) : Host.Outcome State Fault Refusal :=
  .next (throughRegion (takeDirective (.acknowledgeEvents tag count)) s)

/-- CLEAR_COUNTERS (R182). -/
def execClearCounters (tag : Word16) (s : State) : Host.Outcome State Fault Refusal :=
  .next (throughRegion (takeDirective (.clearCounters tag)) s)

/-- RESTART_PART (R188). -/
def execRestartPart (tag : Word16) (s : State) : Host.Outcome State Fault Refusal :=
  .next (throughRegion (takeDirective (.restartPart tag)) s)

end Sys2Proof.Machine
end

