-- ==== Sys2Proof/Machine/Accesses.lean ====
section
/-! DEFINITION. Write accesses: the last data beat of a Write, its line handed to the Region Table and routed (R16 to R18, R30,
R172). -/

namespace Sys2Proof.Machine

/-- The number of byte enables set. -/
def enabledBytes (enables : BitVec 64) : Nat := ((List.range 64).filter fun i => enables.getLsbD i).length

/-- R172: a write access to the Directive region. -/
def directiveWrite (line : Nat) (data : Line) (enables : BitVec 64) (s : State) : State :=
  if enables = BitVec.allOnes 64 then takeDirective (decodeRecord data) s
  else takePartial (enabledBytes enables) (line - (s.region 0).baseLine) s

/-- R30: a write access routed. -/
def serveWrite (line : Nat) (data : Line) (enables : BitVec 64) (s : State) : State := match s.routeOfLine line with
  | some .directive => directiveWrite line data enables s
  | some (.tap t) => conclude s (tapWrite t (s.tapCoord t line) data enables s)
  | some (.mirror m) => mirrorWrite m s
  | some .report => s
  | none => s

/-- R18: the last data beat of a Write passes: the access that it forms, if it forms one, is handed on. -/
def passWrite (w : WriteBurst) (beats : List Beat) (s : State) : State := match w.line with
  | some line => serveWrite line (writeData w.column w.halfBurst beats) (writeEnables w.column w.halfBurst beats) s
  | none => s

/-- R18: the last data beat of the oldest Write in flight passes. DESIGN CHOICE (notes/assumptions/10.md): beats that find no Write in
flight only pass. -/
def handOn (beats : List Beat) (s : State) : State := match s.channel.inFlight with
  | [] => s
  | w :: rest => passWrite w beats (s.onChannel fun c => { c with inFlight := rest })

/-- WRITE_ACCESS (R18). -/
def execWriteAccess (beats : List Beat) (s : State) : Host.Outcome State Fault Refusal :=
  .next (channelCommand (.writeAccess beats) (handOn beats) s)

end Sys2Proof.Machine
end

