-- ==== Sys2Proof/Machine/Frames.lean ====
section
/-! DEFINITION. The receive path: what a frame arriving on a port passes, what it is counted as, where it is relayed and which
block takes it (R64, R65, R70, R73 to R79). -/

namespace Sys2Proof.Machine

/-! ### Counting and scoring (R70, R86) -/

/-- R86: a frame received whole. -/
def countReceived (p : Port) (s : State) : State := s.onPortCounters p fun c => { c with received := countUp c.received }

/-- R73, R74: a malformed frame. -/
def countMalformed (p : Port) (s : State) : State := s.onPortCounters p fun c => { c with malformed := countUp c.malformed }

/-- R73, R76, R77, R79: a frame stopped by its hop count. -/
def countHopLimited (p : Port) (s : State) : State := s.onPortCounters p fun c => { c with hopLimited := countUp c.hopLimited }

/-- R64, R73: a not-joined discard. -/
def countNotJoined (p : Port) (s : State) : State := s.onPortCounters p fun c => { c with notJoined := countUp c.notJoined }

/-- R64, R70: a CRC error. -/
def countCrc (p : Port) (s : State) : State := s.onPortCounters p fun c => { c with crcErrors := countUp c.crcErrors }

/-- R77, R79: an unroutable frame. -/
def countUnroutable (p : Port) (s : State) : State := s.onPortCounters p fun c => { c with unroutable := countUp c.unroutable }

/-- R70: a good frame on a Joined port counts toward the good run. -/
def PortRecord.goodFrame (r : PortRecord) : PortRecord :=
  if 256 ≤ r.goodRun + 1 then { r with goodRun := 0, errorScore := r.errorScore - 1 } else { r with goodRun := r.goodRun + 1 }

/-- R70: a bad frame on a Joined port raises the score, which holds at 16. -/
def PortRecord.badFrame (r : PortRecord) : PortRecord := { r with goodRun := 0, errorScore := min (r.errorScore + 4) 16 }

/-- R70: a bad CRC on a Joined port. -/
def scoreBad (p : Port) (s : State) : State :=
  let s' := countCrc p (s.onPort p PortRecord.badFrame)
  if 16 ≤ (s'.port p).errorScore then leavePort p (enterTraining p) s' else s'

/-! ### The checks (R73) -/

/-- A byte that names no frame or tap. -/
def above7 (b : Byte) : Bool := decide (7 < b.toNat)

/-- R73, step 2: the form of a frame whose kind and length agree. -/
def illFormed (f : Frame) : Bool :=
  above7 f.header.origin || match f.body with
    | .sample b => above7 b.tap || (toHalf b.half).isNone || b.lines.isEmpty || decide (4 < b.lines.length)
    | .mark b => above7 b.tap || (toHalf b.half).isNone || (toMarkKind b.kind).isNone
    | .timeRequest _ => false
    | .timeReply b => decide (4 < b.quality.toNat)
    | .hello _ => false
    | .rosterUpdate _ => false
    | .leaveAck b => above7 b.dest || above7 b.acking
    | .rackRequest b => above7 b.dest
    | .rackOrder _ => false
    | .rackRefusal b => above7 b.dest || !(b.reason == reasonCode .notMaster || b.reason == reasonCode .notCandidate)

/-- R73: a frame on a port: by its form, its hop count and `joined` on a Joined port, by `linked` on a Linked one, and a
not-joined discard in Fault; the other states receive nothing. -/
def receive (p : Port) (f : Frame) (linked joined : State → State) (s : State) : State :=
  match (s.port p).state with
  | .joined =>
    let s' := (countReceived p s).onPort p PortRecord.goodFrame
    if illFormed f then countMalformed p s' else if 7 < f.header.hops.toNat then countHopLimited p s' else joined s'
  | .linked => linked (countReceived p s)
  | .fault => countNotJoined p (countReceived p s)
  | .disabled => s
  | .dark => s
  | .training => s

/-- R74: a neighbour frame with a hop count other than 0 is malformed. -/
def neighbourFrame (p : Port) (h : Header) (act : State → State) (s : State) : State :=
  if h.hops = 0 then act s else countMalformed p s

/-- R73, step 5: a frame of own origin is discarded; any other is handed on with its origin. -/
def foreignFrame (p : Port) (h : Header) (act : FrameNo → State → State) (s : State) : State := match toEight h.origin with
  | some o =>
    if o = s.own then s.onPortCounters p fun c => { c with ownOrigin := countUp c.ownOrigin } else act o s
  | none => countMalformed p s

/-- R71, R76: a frame one hop on, every field of its kind kept. DESIGN CHOICE (unsafe, notes/assumptions/48.md): fields that arrived raw where
the layouts have zero (the arm time of a Master Claim or Rack Halt block, an unreachable item behind its byte 0) go on as they came. -/
def hopOn (f : Frame) : Frame := { f with header := { f.header with hops := f.header.hops + 1 } }

/-! ### Hellos (R65) -/

/-- R65: a second frame of number `n` stands on this cable: it has the own number, or the roster holds that number through
the other port with another incarnation. -/
def State.duplicateFrame (s : State) (p : Port) (n : FrameNo) (incarnation : Word16) : Bool :=
  let e := s.entry n
  n == s.own || ((e.state == .present || e.state == .leaving || e.state == .departed)
    && (e.hops.get (otherPort p)).isSome && e.incarnation != some incarnation)

/-- R65: a Hello on a Linked port. DEDUCED (notes/assumptions/20.md): from a sender whose own item is unreachable the incarnation is bytes 4
and 5 of that item as they arrived. -/
def joinPort (p : Port) (n : FrameNo) (items : Vector VectorItem 8) (s : State) : State :=
  let incarnation := items[n].incarnation
  if s.duplicateFrame p n incarnation then enterFault p .duplicateFrame s
  else takeRoster p true n items (enterJoined p n incarnation s)

/-- R64, R65: a Hello on a Linked port, whose frame number is the header's origin; one that names no frame is discarded
(notes/assumptions/11.md). -/
def linkedHello (p : Port) (h : Header) (items : Vector VectorItem 8) (s : State) : State := match toEight h.origin with
  | some n => joinPort p n items s
  | none => countNotJoined p s

/-- R65: a Hello on a Joined port. DEDUCED (notes/assumptions/20.md): from a sender whose own item is unreachable the neighbour record takes
bytes 4 and 5 of that item as they arrived. -/
def joinedHello (p : Port) (h : Header) (items : Vector VectorItem 8) (s : State) : State := match toEight h.origin with
  | some n =>
    takeRoster p true n items (s.onPort p fun r => { r with neighbour := some (n, items[n].incarnation) })
  | none => countMalformed p s

/-! ### Broadcasts (R75, R76) -/

/-- R75: a Roster Update's incarnation is not the one that the roster records for its origin, or the origin's entry is Absent; a Rack Order
carries no incarnation. -/
def State.freshLife (s : State) (o : FrameNo) (incarnation : Option Word16) : Bool := match incarnation with
  | none => false
  | some i => (s.entry o).state == .absent || (s.entry o).incarnation != some i

/-- R75: a broadcast is a duplicate: its pair is listed, and a Roster Update's incarnation is the one recorded. -/
def State.duplicateBroadcast (s : State) (o : FrameNo) (seq : Word16) (incarnation : Option Word16) : Bool :=
  s.roster.recent.contains (o, seq) && !s.freshLife o incarnation

/-- R75: a new broadcast joins the list at the tail; every pair of its origin leaves first where it is a Roster Update of a fresh life.
DEDUCED (unsafe, notes/assumptions/47.md): they leave whether or not the update's own pair is among them. -/
def listBroadcast (fresh : Bool) (o : FrameNo) (seq : Word16) (recent : List (FrameNo × Word16)) : List (FrameNo × Word16) :=
  let kept := if fresh then recent.filter fun k => k.1 ≠ o else recent
  let longer := kept ++ [(o, seq)]
  longer.drop (longer.length - Config.recentPlaces)

/-- R76: a new broadcast relayed out of the other port. -/
def relayBroadcast (p : Port) (f : Frame) (s : State) : State :=
  if s.joined (otherPort p) then
    if f.header.hops.toNat < 7 then offerRelay (otherPort p) (hopOn f) s else countHopLimited p s
  else s

/-- R75, R76: a broadcast from another origin: discarded as a duplicate, or listed, relayed and delivered. -/
def takeBroadcast (p : Port) (f : Frame) (seq : Word16) (incarnation : FrameNo → Option Word16)
    (deliver : FrameNo → State → State) (o : FrameNo) (s : State) : State :=
  if s.duplicateBroadcast o seq (incarnation o) then s.onPortCounters p fun c => { c with duplicates := countUp c.duplicates }
  else deliver o (relayBroadcast p f (s.onRoster fun r => { r with recent := listBroadcast (s.freshLife o (incarnation o)) o seq r.recent }))

/-! ### Unicasts (R77) -/

/-- R77: a unicast frame from another origin: delivered, relayed, or unroutable. -/
def takeUnicast (p : Port) (f : Frame) (dest : Byte) (deliver : FrameNo → State → State) (o : FrameNo) (s : State) : State :=
  match toEight dest with
  | some d =>
    if d = s.own then deliver o s
    else if s.openRoute d = some (otherPort p) then
      if f.header.hops.toNat < 7 then offerRelay (otherPort p) (hopOn f) s else countHopLimited p s
    else countUnroutable p s
  | none => countMalformed p s

/-! ### Sample and Mark frames (R79) -/

/-- R79, step 2: the destinations of the relay set. -/
def State.relaySet (s : State) (p : Port) (dests : Byte) : Byte :=
  frameSet fun d => inSet dests d && s.openRoute d == some (otherPort p)

/-- R79, step 2: a destination is turned back. -/
def State.turnsBack (s : State) (p : Port) (dests : Byte) : Bool :=
  eight.any fun d => inSet dests d && (s.entry d).route == some p

/-- R79, step 2: a destination is unroutable. -/
def State.losesRoute (s : State) (p : Port) (dests : Byte) : Bool :=
  eight.any fun d => inSet dests d && (s.entry d).route != some p && s.openRoute d != some (otherPort p)

/-- R79, step 3: the relay set sent on, as the frame `copy` gives for it. -/
def relayMulticast (p : Port) (set : Byte) (hops : Byte) (copy : Byte → Frame) (s : State) : State :=
  if set = 0 then s
  else if hops.toNat < 7 then offerRelay (otherPort p) (hopOn (copy set)) s
  else countHopLimited p s

/-- R79, steps 2 to 4: the destinations other than the own frame. -/
def passOn (p : Port) (dests hops : Byte) (copy : Byte → Frame) (s : State) : State :=
  let rest := without dests s.own
  let s1 := relayMulticast p (s.relaySet p rest) hops copy s
  let s2 := if s.turnsBack p rest then s1.onPortCounters p fun c => { c with turnedBack := countUp c.turnedBack } else s1
  if s.losesRoute p rest then countUnroutable p s2 else s2

/-- R79, step 1: a frame that names the own frame is delivered, or counted as unaccepted. -/
def deliverHere (p : Port) (dests : Byte) (deliver : State → Option State) (s : State) : State :=
  if inSet dests s.own then match deliver s with
    | some s' => s'
    | none => s.onPortCounters p fun c => { c with unaccepted := countUp c.unaccepted }
  else s

/-- R79: a Sample frame from another origin. -/
def takeSample (p : Port) (h : Header) (b : SampleBody) (o : FrameNo) (s : State) : State :=
  let delivered := deliverHere p b.dests (fun s => (toHalf b.half).bind fun half => deliverSample o half b s) s
  passOn p b.dests h.hops (fun set => ⟨h, .sample { b with dests := set }⟩) delivered

/-- R79: a Mark frame from another origin. -/
def takeMarkFrame (p : Port) (h : Header) (b : MarkBody) (o : FrameNo) (s : State) : State :=
  let deliver (s : State) : Option State :=
    (toHalf b.half).bind fun half => (toMarkKind b.kind).bind fun kind => deliverMark o half kind b s
  passOn p b.dests h.hops (fun set => ⟨h, .mark { b with dests := set }⟩) (deliverHere p b.dests deliver s)

/-! ### The commands -/

/-- BAD_CRC_FRAME (R64, R70, R73). -/
def badCrc (p : Port) (s : State) : State := match (s.port p).state with
  | .joined => scoreBad p (countReceived p s)
  | .linked => countCrc p (countReceived p s)
  | .fault => countNotJoined p (countReceived p s)
  | .disabled => s
  | .dark => s
  | .training => s

/-- MALFORMED_FRAME (R73): a frame with a good CRC whose form or hop count fails. DESIGN CHOICE (notes/assumptions/11.md): on a Linked
port a Hello of a wrong length is a not-joined discard, as every other such frame. -/
def malformed (p : Port) (fault : FrameFault) (s : State) : State := match (s.port p).state with
  | .joined =>
    let s' := (countReceived p s).onPort p PortRecord.goodFrame
    match fault with
    | .form => countMalformed p s'
    | .hopLimit => countHopLimited p s'
  | .linked => countNotJoined p (countReceived p s)
  | .fault => countNotJoined p (countReceived p s)
  | .disabled => s
  | .dark => s
  | .training => s

/-- BAD_CRC_FRAME (R64, R70, R73). -/
def execBadCrcFrame (p : Port) (s : State) : Host.Outcome State Fault Refusal := .next (conclude s (badCrc p s))

/-- MALFORMED_FRAME (R73). -/
def execMalformedFrame (p : Port) (fault : FrameFault) (s : State) : Host.Outcome State Fault Refusal :=
  .next (malformed p fault s)

/-- SAMPLE (R79). -/
def execSample (p : Port) (h : Header) (b : SampleBody) (s : State) : Host.Outcome State Fault Refusal :=
  .next (conclude s (receive p ⟨h, .sample b⟩ (countNotJoined p) (foreignFrame p h (takeSample p h b)) s))

/-- MARK (R79). -/
def execMark (p : Port) (h : Header) (b : MarkBody) (s : State) : Host.Outcome State Fault Refusal :=
  .next (conclude s (receive p ⟨h, .mark b⟩ (countNotJoined p) (foreignFrame p h (takeMarkFrame p h b)) s))

/-- TIME_REQUEST (R74, R122). -/
def execTimeRequest (p : Port) (h : Header) (b : TimeRequestBody) (s : State) : Host.Outcome State Fault Refusal :=
  .next (conclude s (receive p ⟨h, .timeRequest b⟩ (countNotJoined p) (neighbourFrame p h (answerRequest p b)) s))

/-- TIME_REPLY (R74, R123). -/
def execTimeReply (p : Port) (h : Header) (b : TimeReplyBody) (s : State) : Host.Outcome State Fault Refusal :=
  .next (receive p ⟨h, .timeReply b⟩ (countNotJoined p) (neighbourFrame p h (takeReply p b)) s)

/-- HELLO (R64, R65, R74). -/
def execHello (p : Port) (h : Header) (b : HelloBody) (s : State) : Host.Outcome State Fault Refusal :=
  .next (conclude s (receive p ⟨h, .hello b⟩ (linkedHello p h b.items) (neighbourFrame p h (joinedHello p h b.items)) s))

/-- ROSTER_UPDATE (R75, R76, R94): a vector whole at hop 0, and its origin's own announcement otherwise. DEDUCED
(notes/assumptions/20.md): from an origin whose own item is unreachable, R75 compares bytes 4 and 5 of that item as they arrived. -/
def execRosterUpdate (p : Port) (h : Header) (b : RosterUpdateBody) (s : State) : Host.Outcome State Fault Refusal :=
  .next (conclude s (receive p ⟨h, .rosterUpdate b⟩ (countNotJoined p)
    (foreignFrame p h (takeBroadcast p ⟨h, .rosterUpdate b⟩ b.seq (fun o => some b.items[o].incarnation)
      fun o => takeRoster p (h.hops == 0) o b.items)) s))

/-- LEAVE_ACK (R77, R107). -/
def execLeaveAck (p : Port) (h : Header) (b : LeaveAckBody) (s : State) : Host.Outcome State Fault Refusal :=
  .next (conclude s (receive p ⟨h, .leaveAck b⟩ (countNotJoined p)
    (foreignFrame p h (takeUnicast p ⟨h, .leaveAck b⟩ b.dest fun _ => takeLeaveAck b.acking b.incarnation)) s))

/-- RACK_REQUEST (R77, R160). -/
def execRackRequest (p : Port) (h : Header) (b : RackRequestBody) (s : State) : Host.Outcome State Fault Refusal :=
  let s' := receive p ⟨h, .rackRequest b⟩ (countNotJoined p)
    (foreignFrame p h (takeUnicast p ⟨h, .rackRequest b⟩ b.dest fun o => takeRequest o b.seq b.block)) s
  .next (concludeFrom s s' s')

/-- RACK_ORDER (R75, R76, R163). -/
def execRackOrder (p : Port) (h : Header) (b : RackOrderBody) (s : State) : Host.Outcome State Fault Refusal :=
  let s' := receive p ⟨h, .rackOrder b⟩ (countNotJoined p)
    (foreignFrame p h (takeBroadcast p ⟨h, .rackOrder b⟩ b.broadcastSeq (fun _ => none) fun o => takeOrder o b)) s
  .next (concludeOrder s s')

/-- RACK_REFUSAL (R77, R168). -/
def execRackRefusal (p : Port) (h : Header) (b : RackRefusalBody) (s : State) : Host.Outcome State Fault Refusal :=
  let s' := receive p ⟨h, .rackRefusal b⟩ (countNotJoined p)
    (foreignFrame p h (takeUnicast p ⟨h, .rackRefusal b⟩ b.dest fun o => takeRefusal o b.reason b.seq)) s
  .next (concludeFrom s s' s')

end Sys2Proof.Machine
end

