-- ==== Sys2Proof/Machine/Ports.lean ====
section
/-! DEFINITION. What the receivers and the timers of the ports report (R62 to R64). -/

namespace Sys2Proof.Machine

/-- The signal of a port's cable, as its receiver sees it. -/
def setSignal (p : Port) (signal : Bool) (s : State) : State := s.onPort p fun r => { r with signal := signal }

/-- R61, R62: a signal detected; a Dark port does not act on it while the part is Starting. -/
def detectSignal (p : Port) (s : State) : State :=
  if (s.port p).state = .dark ∧ s.roster.ownState ≠ .starting then enterTraining p s else s

/-- R62: loss of signal takes a port in Training, Linked, Joined or Fault to Dark. -/
def loseSignal (p : Port) (s : State) : State := match (s.port p).state with
  | .training => enterDark p s
  | .linked => enterDark p s
  | .joined => leavePort p (enterDark p) s
  | .fault => enterDark p s
  | .disabled => s
  | .dark => s

/-- R62: a Joined port's neighbour sends training patterns. -/
def neighbourTrains (p : Port) (s : State) : State :=
  if (s.port p).state = .joined then leavePort p (enterTraining p) s else s

/-- R63: a Training port's receiver has aligned. -/
def align (p : Port) (s : State) : State := if (s.port p).state = .training then enterLinked p s else s

/-- R63: a training attempt has failed. -/
def failAttempt (p : Port) (s : State) : State :=
  if (s.port p).attempt < 4 then
    s.onPort p fun r => { r with attempt := r.attempt + 1, trainingTimer := some Config.trainingTicks }
  else (enterFault p .trainFail s).onPortCounters p fun c => { c with trainingFailures := countUp c.trainingFailures }

/-- R63: the training timer of a Training port expires. -/
def trainingExpires (p : Port) (s : State) : State := if (s.port p).state = .training then failAttempt p s else s

/-- R64: 1 ms has passed in Linked: a fresh Hello. -/
def helloExpires (p : Port) (s : State) : State := if (s.port p).state = .linked then placeHello p s else s

/-- SIGNAL_DETECTED (R62). -/
def execSignalDetected (p : Port) (s : State) : Host.Outcome State Fault Refusal :=
  .next (detectSignal p (setSignal p true s))

/-- LOSS_OF_SIGNAL (R62). -/
def execLossOfSignal (p : Port) (s : State) : Host.Outcome State Fault Refusal :=
  .next (conclude s (loseSignal p (setSignal p false s)))

/-- NEIGHBOUR_TRAINING (R62). -/
def execNeighbourTraining (p : Port) (s : State) : Host.Outcome State Fault Refusal :=
  .next (conclude s (neighbourTrains p s))

/-- ALIGNMENT_COMPLETE (R63). -/
def execAlignmentComplete (p : Port) (s : State) : Host.Outcome State Fault Refusal :=
  .next (conclude s (align p s))

/-- TRAINING_TIMEOUT (R63). -/
def execTrainingTimeout (p : Port) (s : State) : Host.Outcome State Fault Refusal :=
  .next (trainingExpires p s)

/-- HELLO_TIMER (R64). -/
def execHelloTimer (p : Port) (s : State) : Host.Outcome State Fault Refusal :=
  .next (conclude s (helloExpires p s))

end Sys2Proof.Machine
end

