-- ==== Sys2Proof/Machine/Timers.lean ====
section
/-! DEFINITION. Events of the part's own making: the end of a transmission, what drains and comes due, the expiries of the
three part-wide timers, and the tick (R40, R43, R85, R93, R105, R107, R114, R120, R159). -/

namespace Sys2Proof.Machine

/-- R85: the frame in transmission has left the port, and is counted as sent. -/
def completeFrame (p : Port) (s : State) : State :=
  if (s.port p).inTransmission.isSome then
    s.onPort p fun r => { r with inTransmission := none, counters := { r.counters with sent := countUp r.counters.sent } }
  else s

/-- R93, R110: the refresh timer expires: an election where the belief names a frame that is not Present, and a Roster Update. -/
def refreshElection (s : State) : State := match s.roster.belief with
  | some f => if f ≠ s.own ∧ (s.entry f).state ≠ .present then elect s else s
  | none => s

/-- R93: one refresh: its Roster Update shows what its election changed. -/
def refresh (s : State) : State :=
  if s.roster.refreshTimer.isSome then
    let s' := makeRosterUpdate (announce s (refreshElection s))
    concludeFrom s' s' s'
  else s

/-- R120: the exchange timer expires, and restarts with k as it stands. -/
def expireExchange (s : State) : State :=
  if s.clock.exchangeTimer.isSome then
    conclude s ((makeRequest (changeLock RackTime.expire s)).onClock RackTime.startExchange)
  else s

/-- R159: a Rack Request made again for every Sent entry, toward the frame the belief names, in list order. -/
def resendAll (s : State) : State := match s.roster.belief with
  | some f =>
    if f = s.own then s else (s.orders.pending.filter fun e => e.status == .sent).foldl (fun acc e => requestEntry f e acc) s
  | none => s

/-- R159: the resend timer expires, and restarts. -/
def resend (s : State) : State := if s.orders.resendTimer.isSome then conclude s (resendAll s) else s

/-- TRANSMISSION_COMPLETE (R85). -/
def execTransmissionComplete (p : Port) (s : State) : Host.Outcome State Fault Refusal :=
  .next (conclude s (completeFrame p s))

/-- TAP_DRAINED (R43). -/
def execTapDrained (t : TapNo) (s : State) : Host.Outcome State Fault Refusal := .next (conclude s (settleTap t s))

/-- ARM_TIME_REACHED (R40). -/
def execArmTimeReached (t : TapNo) (s : State) : Host.Outcome State Fault Refusal := .next (startIfDue t s)

/-- LEAVE_ANNOUNCED (R105). -/
def execLeaveAnnounced (s : State) : Host.Outcome State Fault Refusal := .next (conclude s (announceLeave s))

/-- LEAVE_COMPLETE (R107). -/
def execLeaveComplete (s : State) : Host.Outcome State Fault Refusal := .next (conclude s (completeLeave s))

/-- REFRESH_TIMER_EXPIRY (R93). -/
def execRefreshTimerExpiry (s : State) : Host.Outcome State Fault Refusal := .next (refresh s)

/-- EXCHANGE_TIMER_EXPIRY (R120). -/
def execExchangeTimerExpiry (s : State) : Host.Outcome State Fault Refusal := .next (expireExchange s)

/-- RESEND_TIMER_EXPIRY (R159). -/
def execResendTimerExpiry (s : State) : Host.Outcome State Fault Refusal := .next (resend s)

/-- TICK (R114). -/
def execTick (s : State) : Host.Outcome State Fault Refusal := .next (startDue (s.onClock RackTime.tick))

end Sys2Proof.Machine
end

