-- ==== Sys2Proof/Machine/Dispatch.lean ====
section
/-! DEFINITION. The dispatch: one arm for each command, in the table's order. -/

namespace Sys2Proof.Machine

def exec (i : Instr) (s : State) : Host.Outcome State Fault Refusal :=
  match i with
  | .partReset frame disableA disableB => Sys2Proof.Machine.execPartReset frame disableA disableB s
  | .eepromAbsent => Sys2Proof.Machine.execEepromAbsent s
  | .configurationBlockRead block => Sys2Proof.Machine.execConfigurationBlockRead block s
  | .restartCountRead count => Sys2Proof.Machine.execRestartCountRead count s
  | .restartCountWriteDone => Sys2Proof.Machine.execRestartCountWriteDone s
  | .restartCountWriteFail => Sys2Proof.Machine.execRestartCountWriteFail s
  | .channelResetAssert => Sys2Proof.Machine.execChannelResetAssert s
  | .channelResetRelease => Sys2Proof.Machine.execChannelResetRelease s
  | .openRow rank bank row => Sys2Proof.Machine.execOpenRow rank bank row s
  | .read rank bank column autoClose halfBurst => Sys2Proof.Machine.execRead rank bank column autoClose halfBurst s
  | .write rank bank column autoClose halfBurst => Sys2Proof.Machine.execWrite rank bank column autoClose halfBurst s
  | .writeAccess beats => Sys2Proof.Machine.execWriteAccess beats s
  | .close rank bank => Sys2Proof.Machine.execClose rank bank s
  | .closeAll rank => Sys2Proof.Machine.execCloseAll rank s
  | .refresh rank => Sys2Proof.Machine.execRefresh rank s
  | .selfRefreshEnter rank => Sys2Proof.Machine.execSelfRefreshEnter rank s
  | .selfRefreshExit rank => Sys2Proof.Machine.execSelfRefreshExit rank s
  | .powerDownEnter rank => Sys2Proof.Machine.execPowerDownEnter rank s
  | .powerDownExit rank => Sys2Proof.Machine.execPowerDownExit rank s
  | .modeSet register value => Sys2Proof.Machine.execModeSet register value s
  | .partialDirective enabled position => Sys2Proof.Machine.execPartialDirective enabled position s
  | .unknownCode tag code => Sys2Proof.Machine.execUnknownCode tag code s
  | .bindTap tag args => Sys2Proof.Machine.execBindTap tag args s
  | .unbindTap tag tap => Sys2Proof.Machine.execUnbindTap tag tap s
  | .armTap tag tap time => Sys2Proof.Machine.execArmTap tag tap time s
  | .startTap tag tap => Sys2Proof.Machine.execStartTap tag tap s
  | .stopTap tag tap => Sys2Proof.Machine.execStopTap tag tap s
  | .haltTap tag tap => Sys2Proof.Machine.execHaltTap tag tap s
  | .setStridePresets tag args => Sys2Proof.Machine.execSetStridePresets tag args s
  | .bindMirror tag args => Sys2Proof.Machine.execBindMirror tag args s
  | .unbindMirror tag mirror => Sys2Proof.Machine.execUnbindMirror tag mirror s
  | .admitFrame tag frame => Sys2Proof.Machine.execAdmitFrame tag frame s
  | .barFrame tag frame => Sys2Proof.Machine.execBarFrame tag frame s
  | .forgetFrame tag frame => Sys2Proof.Machine.execForgetFrame tag frame s
  | .acknowledgeRestart tag frame => Sys2Proof.Machine.execAcknowledgeRestart tag frame s
  | .leaveRack tag force => Sys2Proof.Machine.execLeaveRack tag force s
  | .rejoinRack tag => Sys2Proof.Machine.execRejoinRack tag s
  | .portEnable tag port => Sys2Proof.Machine.execPortEnable tag port s
  | .portDisable tag port => Sys2Proof.Machine.execPortDisable tag port s
  | .portRetrain tag port => Sys2Proof.Machine.execPortRetrain tag port s
  | .timeSettings tag args => Sys2Proof.Machine.execTimeSettings tag args s
  | .masterClaim tag frame noWait => Sys2Proof.Machine.execMasterClaim tag frame noWait s
  | .rackArm tag group time noWait => Sys2Proof.Machine.execRackArm tag group time noWait s
  | .rackHalt tag group noWait => Sys2Proof.Machine.execRackHalt tag group noWait s
  | .acknowledgeEvents tag count => Sys2Proof.Machine.execAcknowledgeEvents tag count s
  | .clearCounters tag => Sys2Proof.Machine.execClearCounters tag s
  | .restartPart tag => Sys2Proof.Machine.execRestartPart tag s
  | .signalDetected port => Sys2Proof.Machine.execSignalDetected port s
  | .lossOfSignal port => Sys2Proof.Machine.execLossOfSignal port s
  | .neighbourTraining port => Sys2Proof.Machine.execNeighbourTraining port s
  | .alignmentComplete port => Sys2Proof.Machine.execAlignmentComplete port s
  | .trainingTimeout port => Sys2Proof.Machine.execTrainingTimeout port s
  | .helloTimer port => Sys2Proof.Machine.execHelloTimer port s
  | .badCrcFrame port => Sys2Proof.Machine.execBadCrcFrame port s
  | .malformedFrame port fault => Sys2Proof.Machine.execMalformedFrame port fault s
  | .sample port header body => Sys2Proof.Machine.execSample port header body s
  | .mark port header body => Sys2Proof.Machine.execMark port header body s
  | .timeRequest port header body => Sys2Proof.Machine.execTimeRequest port header body s
  | .timeReply port header body => Sys2Proof.Machine.execTimeReply port header body s
  | .hello port header body => Sys2Proof.Machine.execHello port header body s
  | .rosterUpdate port header body => Sys2Proof.Machine.execRosterUpdate port header body s
  | .leaveAck port header body => Sys2Proof.Machine.execLeaveAck port header body s
  | .rackRequest port header body => Sys2Proof.Machine.execRackRequest port header body s
  | .rackOrder port header body => Sys2Proof.Machine.execRackOrder port header body s
  | .rackRefusal port header body => Sys2Proof.Machine.execRackRefusal port header body s
  | .transmissionComplete port => Sys2Proof.Machine.execTransmissionComplete port s
  | .tapDrained tap => Sys2Proof.Machine.execTapDrained tap s
  | .armTimeReached tap => Sys2Proof.Machine.execArmTimeReached tap s
  | .leaveAnnounced => Sys2Proof.Machine.execLeaveAnnounced s
  | .leaveComplete => Sys2Proof.Machine.execLeaveComplete s
  | .refreshTimerExpiry => Sys2Proof.Machine.execRefreshTimerExpiry s
  | .exchangeTimerExpiry => Sys2Proof.Machine.execExchangeTimerExpiry s
  | .resendTimerExpiry => Sys2Proof.Machine.execResendTimerExpiry s
  | .tick => Sys2Proof.Machine.execTick s

end Sys2Proof.Machine
end

