-- ==== Sys2Proof/Machine/Step.lean ====
section
/-! DEFINITION. One step of the part: the command at the front of the queue. -/

namespace Sys2Proof.Machine

/-- The queue replaced. -/
def State.withPending (s : State) (q : List Instr) : State := { s with pending := q }

/-- The command at the front of the queue is taken and run on the queue's rest. DESIGN CHOICE (safe, notes/assumptions/2.md): on
an empty queue the part idles. -/
def step (s : State) : Host.Outcome State Fault Refusal := match s.pending with
  | [] => .next s
  | c :: rest => exec c (s.withPending rest)

/-- `s` with the command a table word spells put at the front of its queue; the table gives no bits, so none is spelt
(notes/assumptions/3.md). -/
def State.withFetchWord (s : State) (nbits w : Nat) : State := match decodeTableWord nbits w with
  | some c => s.withPending (c :: s.pending)
  | none => s

end Sys2Proof.Machine
end

