-- ==== Sys2Proof/Safety.lean ====
section
/-! DEFINITION. What counts as a safe run, and the invariants of the part that its rules state. -/

namespace Sys2Proof.Machine

/-- A run of `n` steps from a state never stops. -/
def runsOn : Nat → State → Prop
  | 0, _ => True
  | n + 1, s => ∃ t, step s = .next t ∧ runsOn n t

/-- R178: the attention line is asserted exactly while the event count exceeds the acknowledged count. -/
def attentionRight (s : State) : Prop := s.reporter.attention = decide (s.reporter.acknowledged < s.reporter.eventCount)

/-- R178: the acknowledged count never exceeds the event count. -/
def acknowledgedRight (s : State) : Prop := s.reporter.acknowledged ≤ s.reporter.eventCount

/-- R114: a trim within the bound of ±3,435,973. -/
def trimBounded (z : Int) : Prop := -Config.trimBound ≤ z ∧ z ≤ Config.trimBound

/-- R114: F and F_int lie within their bound, and rack time does not pass 2^64 - 1 ns. -/
def clockRight (c : RackTime) : Prop := trimBounded c.trim ∧ trimBounded c.integral ∧ c.time ≤ Config.rackTimeMax

/-- R70: a port's error score and good run lie in their ranges. -/
def scoreRight (r : PortRecord) : Prop := r.errorScore ≤ 16 ∧ r.goodRun ≤ 255

/-- R80, R81, R158: a port's queues hold no more than their places. -/
def queuesRight (r : PortRecord) : Prop := r.relay.length ≤ Config.relayPlaces ∧ r.control.length ≤ Config.controlPlaces

/-! ### The channel, as the statements speak of it -/

/-- R3, R18: a command has left toward the DRAM as it arrived; a Read's data so far passes as the DRAM drives it, and a Write, which forms
no access so far, is in flight until its last data beat passes. -/
def State.arrived (c : Instr) (s : State) : State := match c with
  | .read _ _ _ _ _ => { s with toDram := some c, toController := .dram }
  | .write _ _ column _ halfBurst => { s with
      toDram := some c, channel := { s.channel with inFlight := s.channel.inFlight ++ [⟨none, column, halfBurst, s.channel.writeLatency⟩] } }
  | _ => { s with toDram := some c }

/-- The rank a channel command names (the table of R2). -/
def rankNamed : Instr → Option Byte
  | .openRow rank _ _ => some rank
  | .read rank _ _ _ _ => some rank
  | .write rank _ _ _ _ => some rank
  | .close rank _ => some rank
  | .closeAll rank => some rank
  | .refresh rank => some rank
  | .selfRefreshEnter rank => some rank
  | .selfRefreshExit rank => some rank
  | .powerDownEnter rank => some rank
  | .powerDownExit rank => some rank
  | _ => none

/-- The bank a channel command names (the table of R2). -/
def bankNamed : Instr → Option Byte
  | .openRow _ bank _ => some bank
  | .read _ bank _ _ _ => some bank
  | .write _ bank _ _ _ => some bank
  | .close _ bank => some bank
  | _ => none

/-- A command or a write burst that the channel carries, Channel Reset apart. -/
def onCommandLines : Instr → Bool
  | .writeAccess _ => true
  | .modeSet _ _ => true
  | c => (rankNamed c).isSome

/-- R4, R5: the exit commands. -/
def isExit : Instr → Bool
  | .selfRefreshExit _ => true
  | .powerDownExit _ => true
  | _ => false

/-- R6: an exit command is the own exit of a rank state. -/
def ownExit (st : RankState) : Instr → Bool
  | .selfRefreshExit _ => st == .selfRefresh
  | .powerDownExit _ => st == .activePowerDown || st == .prechargePowerDown
  | _ => false

/-- R2: a rank number is within the map, or within two ranks while the part is Starting. -/
def State.rankInMap (s : State) (rank : Byte) (r : Fin 2) : Prop :=
  rank.toNat = r.val ∧ (s.roster.ownState = .starting ∨ ∃ m, s.channel.map = some m ∧ r.val < m.ranks)

/-- R2: a rank number is beyond the map's rank count, or beyond two ranks while the part is Starting. -/
def State.rankBeyond (s : State) (rank : Byte) : Prop :=
  (s.roster.ownState = .starting ∧ 2 ≤ rank.toNat) ∨
    (s.roster.ownState ≠ .starting ∧ ∃ m, s.channel.map = some m ∧ m.ranks ≤ rank.toNat)

/-- R2: a bank number is within the map, or within 16 banks while the part is Starting. -/
def State.bankInMap (s : State) (bank : Byte) (b : Fin 16) : Prop :=
  bank.toNat = b.val ∧ (s.roster.ownState = .starting ∨ ∃ m, s.channel.map = some m ∧ b.val < m.banks)

/-- R2: a bank number is beyond the map's bank count, or beyond 16 banks while the part is Starting. -/
def State.bankBeyond (s : State) (bank : Byte) : Prop :=
  (s.roster.ownState = .starting ∧ 16 ≤ bank.toNat) ∨
    (s.roster.ownState ≠ .starting ∧ ∃ m, s.channel.map = some m ∧ m.banks ≤ bank.toNat)

/-- R7: a row is taken: it is within the map's row count, or the part is Starting. -/
def State.rowTaken (s : State) (row : Nat) : Prop :=
  s.roster.ownState = .starting ∨ ∃ m, s.channel.map = some m ∧ row < 2 ^ m.rowBits

/-- R7: a row is at or beyond the map's row count. -/
def State.rowBeyond (s : State) (row : Nat) : Prop :=
  s.roster.ownState ≠ .starting ∧ ∃ m, s.channel.map = some m ∧ 2 ^ m.rowBits ≤ row

/-- A channel command finds its rank within the map and in Active, and the channel out of reset (R2, R6). -/
def State.rankReady (s : State) (rank : Byte) (r : Fin 2) : Prop :=
  s.channel.resetAsserted = false ∧ s.rankInMap rank r ∧ s.channel.ranks[r] = .active

/-- A channel command finds its rank and bank within the map, and the rank in Active (R2, R6). -/
def State.bankReady (s : State) (rank bank : Byte) (r : Fin 2) (b : Fin 16) : Prop := s.rankReady rank r ∧ s.bankInMap bank b

/-- R10: what auto-close leaves of a bank. -/
def autoClosed (autoClose : Bool) (r : Fin 2) (b : Fin 16) (s : State) : State :=
  if autoClose then setBank (bankIndex r b) .closed s else s

/-- R14: a map whose four values are in their ranges. -/
def AddressMap.right (m : AddressMap) : Prop := (m.ranks = 1 ∨ m.ranks = 2) ∧ (m.banks = 8 ∨ m.banks = 16) ∧ 14 ≤ m.rowBits ∧ m.rowBits ≤ 18

/-! ### What every command keeps: an invariant for each block -/

/-- R175, R177, R178: the counts of the Directive and Report Unit, and the attention line. -/
def reporterRight (s : State) : Prop :=
  acknowledgedRight s ∧ attentionRight s ∧ s.reporter.eventCount ≤ Config.countMax ∧ s.reporter.resultsPosted ≤ Config.countMax

/-- R138, R139: the extents stand in order of start line and apart from each other, within the store, each with the mirror
that it belongs to. -/
def extentsRight (s : State) : Prop :=
  s.mirrorStore.extents.Pairwise (fun e f => e.start + e.length ≤ f.start) ∧
    ∀ e ∈ s.mirrorStore.extents, e.start + e.length ≤ Config.storeLines ∧ (s.mirror e.mirror).bound = true ∧
      (s.mirror e.mirror).extentStart = e.start ∧ (s.mirror e.mirror).extentLength = e.length

/-- R143, R147, R148: a half's present map names lines of the shape, once each; its count is theirs, and a Complete half has
every line. -/
def halfRight (m : Mirror) (k : HalfRecord) : Prop :=
  k.present.Pairwise (· < ·) ∧ (∀ n ∈ k.present, n < m.shapeLines) ∧ k.received = k.present.length ∧
    (k.state = .complete → k.received = m.shapeLines)

/-- The halves of every mirror are right. -/
def mirrorsRight (s : State) : Prop := ∀ (m : MirrorNo) (h : Half), halfRight (s.mirror m) ((s.mirror m).half h)

/-- R37: the outbound buffer is not reserved beyond its places, and no tap queues beyond its queue size. -/
def bufferRight (s : State) : Prop := s.reserved ≤ Config.bufferEntries ∧ ∀ t, (s.tap t).queue.length ≤ (s.tap t).queueSize

/-- R25, R33, R46: a bound tap has a region whose half its shape fits, a cursor inside the shape, and the odd half only in a paired
region; an Unbound tap has no region. -/
def tapRight (k : Tap) (e : Region) (stride : Nat) : Prop :=
  if k.state = .unbound then e.valid = false
  else e.valid = true ∧ shapeInRange k.recordLen k.recordCount stride = true ∧
    shapeFits k.recordLen k.recordCount stride (halfLines e.size e.paired) = true ∧ k.r < k.recordCount ∧ k.x < k.recordLen ∧
    (e.paired = false → k.half = .even)

/-- Every tap is right. -/
def tapsRight (s : State) : Prop :=
  ∀ t, tapRight (s.tap t) (s.region (tapRegion t)) s.tapEngine.presets[(s.tap t).preset]

/-- R21, R29, R61, R184: while the part is Starting, and then alone, the load goes on; no region is valid and no port is up until it
ends; and no two valid regions ever share a line. -/
def regionsRight (s : State) : Prop :=
  (s.roster.ownState = .starting ↔ s.reporter.loadStep ≠ .finished) ∧
    (s.roster.ownState = .starting → (∀ i, (s.region i).valid = false) ∧
      ∀ p, (s.port p).state = .disabled ∨ (s.port p).state = .dark) ∧
    ∀ i j, i ≠ j → (s.region i).valid = true → (s.region j).valid = true → (s.region i).meets (s.region j) = false

/-- R54: every entry of a tap queue waits on a port, and every port that it waits on is Joined. -/
def pendingRight (s : State) : Prop :=
  ∀ t, ∀ e ∈ (s.tap t).queue, (e.pending.a = true ∨ e.pending.b = true) ∧ ∀ p, e.pending.get p = true → s.joined p = true

/-- R91, R97: every route port is the one the hop counts give, and a hop count is held only via a Joined port. -/
def routesRight (s : State) : Prop :=
  ∀ f, (s.entry f).route = routeOf (s.entry f).hops ∧ ∀ p, ((s.entry f).hops.get p).isSome = true → s.joined p = true

/-- R75, R158: the recent-broadcast list holds at most 16 pairs, each once, and the pending list at most 4 entries. -/
def listsRight (s : State) : Prop :=
  s.roster.recent.length ≤ Config.recentPlaces ∧ s.roster.recent.Nodup ∧ s.orders.pending.length ≤ Config.pendingPlaces

/-- R93, R159: the refresh and the resend timer run exactly while their rules say. -/
def timersRight (s : State) : Prop :=
  s.roster.refreshTimer.isSome = s.refreshRuns ∧ s.orders.resendTimer.isSome = s.resendRuns

/-- R88, R104 to R107, R184: a part still loading is Starting; the leave phase, its tag and its wait set go with Leaving, and a part
that is away has no tap Armed or Running. -/
def leaveRight (s : State) : Prop :=
  (s.reporter.loadStep ≠ .finished → s.roster.ownState = .starting) ∧ (s.roster.ownState = .leaving ↔ s.roster.phase ≠ .none) ∧ (s.roster.leaveTag.isSome = true ↔ s.roster.phase ≠ .none) ∧
    (s.roster.phase ≠ .announced → s.roster.waitSet = 0) ∧
    (s.away = true → ∀ t, (s.tap t).state ≠ .armed ∧ (s.tap t).state ≠ .running)

/-- R110, R118, R131: only an Active part believes itself master; it is Master in lock state exactly then, with no up port
and no request outstanding. -/
def masterRight (s : State) : Prop :=
  (s.roster.belief = some s.own → s.roster.ownState = .active) ∧ (s.clock.lock = .master ↔ s.roster.belief = some s.own) ∧
    (s.clock.lock = .master → s.clock.upPort = none ∧ s.clock.outstanding = none)

/-- R64, R83: a port that is Joined and idle has nothing to send, and a Linked one no Hello. -/
def idlePortsEmpty (s : State) : Prop :=
  ∀ p, (s.port p).inTransmission = none →
    ((s.port p).state = .joined → (s.port p).slotRequest = none ∧ (s.port p).slotReply = none ∧ (s.port p).control = [] ∧
      (s.port p).relay = [] ∧ ∀ t, (s.tap t).level p = 0) ∧
    ((s.port p).state = .linked → ∀ f, (s.port p).control.head? = some f → isHello f = false)

/-! ### Directives, as the statements speak of them -/

/-- R172: a directive record has been taken, and counted. -/
def State.taken (s : State) : State :=
  s.onReporter fun d => { d with directivesTaken := min (d.directivesTaken + 1) (2 ^ 32 - 1) }

/-- The record that a directive's command is the write of. -/
def recordOf : Instr → Option Directive
  | .unknownCode tag code => some (.unknown tag code)
  | .bindTap tag a => some (.bindTap tag a)
  | .unbindTap tag t => some (.unbindTap tag t)
  | .armTap tag t time => some (.armTap tag t time)
  | .startTap tag t => some (.startTap tag t)
  | .stopTap tag t => some (.stopTap tag t)
  | .haltTap tag t => some (.haltTap tag t)
  | .setStridePresets tag a => some (.setStridePresets tag a)
  | .bindMirror tag a => some (.bindMirror tag a)
  | .unbindMirror tag m => some (.unbindMirror tag m)
  | .admitFrame tag f => some (.admitFrame tag f)
  | .barFrame tag f => some (.barFrame tag f)
  | .forgetFrame tag f => some (.forgetFrame tag f)
  | .acknowledgeRestart tag f => some (.acknowledgeRestart tag f)
  | .leaveRack tag force => some (.leaveRack tag force)
  | .rejoinRack tag => some (.rejoinRack tag)
  | .portEnable tag p => some (.portControl tag p 1)
  | .portDisable tag p => some (.portControl tag p 2)
  | .portRetrain tag p => some (.portControl tag p 3)
  | .timeSettings tag a => some (.timeSettings tag a)
  | .masterClaim tag f noWait => some (.masterClaim tag f noWait)
  | .rackArm tag g time noWait => some (.rackArm tag g time noWait)
  | .rackHalt tag g noWait => some (.rackHalt tag g noWait)
  | .acknowledgeEvents tag count => some (.acknowledgeEvents tag count)
  | .clearCounters tag => some (.clearCounters tag)
  | .restartPart tag => some (.restartPart tag)
  | _ => none

/-- R22: a region of a size exponent lies where a tap or mirror region may. -/
def State.regionAllowed (s : State) (sizeExp base : Nat) : Prop :=
  sizeExp ≤ 8 ∧ base % (4096 * 4 ^ sizeExp) = 0 ∧ base / 64 + 4096 * 4 ^ sizeExp / 64 ≤ s.channelLines

/-- R25: a shape is in its ranges and fits a half of a region of a size exponent. -/
def shapeAllowed (len count stride sizeExp : Nat) (paired : Bool) : Prop :=
  1 ≤ len ∧ len ≤ 1024 ∧ 1 ≤ count ∧ len ≤ stride ∧ (count - 1) * stride + len ≤ 4096 * 4 ^ sizeExp / (if paired then 128 else 64)

/-- R26: a region shares no line with a valid entry. -/
def State.regionApart (s : State) (e : Region) : Prop := ∀ i, (s.region i).valid = true → (s.region i).meets e = false

/-- R28: stored values are faulty by one of its six checks, in the channel of a map: the Directive size, base and place, the Report base and
place, and the overlap of the two regions. -/
def StoredConfig.faulty (c : StoredConfig) (m : AddressMap) : Prop :=
  let size := c.directiveSize.toNat
  let directive := c.directiveBase.toNat
  let report := c.reportBase.toNat
  (size ≠ 4096 ∧ size ≠ 16384 ∧ size ≠ 65536) ∨ directive % size ≠ 0 ∨ m.lines < directive / 64 + size / 64 ∨
    report % 8192 ≠ 0 ∨ m.lines < report / 64 + 128 ∨ (directive / 64 < report / 64 + 128 ∧ report / 64 < directive / 64 + size / 64)

/-- R138: `length` lines from a start line are free and within the store. -/
def freeAt (extents : List Extent) (length start : Nat) : Prop :=
  start + length ≤ 65536 ∧ ∀ e ∈ extents, start + length ≤ e.start ∨ e.start + e.length ≤ start

/-- What the statements see of a port's state: the state, the fault cause, the attempt, the neighbour and the two timers. -/
def State.portView (s : State) (p : Port) : PortState × FaultCause × Nat × Option (FrameNo × Word16) × Option Nat × Option Nat :=
  let r := s.port p
  (r.state, r.cause, r.attempt, r.neighbour, r.trainingTimer, r.helloTimer)

/-- The frame that a command is the arrival of, and its port. -/
def frameArrived : Instr → Option (Port × Frame)
  | .sample p h b => some (p, ⟨h, .sample b⟩)
  | .mark p h b => some (p, ⟨h, .mark b⟩)
  | .timeRequest p h b => some (p, ⟨h, .timeRequest b⟩)
  | .timeReply p h b => some (p, ⟨h, .timeReply b⟩)
  | .hello p h b => some (p, ⟨h, .hello b⟩)
  | .rosterUpdate p h b => some (p, ⟨h, .rosterUpdate b⟩)
  | .leaveAck p h b => some (p, ⟨h, .leaveAck b⟩)
  | .rackRequest p h b => some (p, ⟨h, .rackRequest b⟩)
  | .rackOrder p h b => some (p, ⟨h, .rackOrder b⟩)
  | .rackRefusal p h b => some (p, ⟨h, .rackRefusal b⟩)
  | _ => none

/-- R77: the destination of a unicast frame. -/
def unicastTo : Body → Option Byte
  | .leaveAck b => some b.dest
  | .rackRequest b => some b.dest
  | .rackRefusal b => some b.dest
  | _ => none

/-- R70, R73: a good frame arrives at a Joined port and passes the checks of form and hop count. -/
def State.passes (s : State) (p : Port) (f : Frame) : Prop :=
  (s.port p).state = .joined ∧ illFormed f = false ∧ f.header.hops.toNat ≤ 7

/-- R70, R73, R86: what a good frame at a Joined port does before its block sees it: it is counted and scored. -/
def State.heard (s : State) (p : Port) : State := (countReceived p s).onPort p PortRecord.goodFrame

/-- R73, step 5: from `s` to `t` a frame of own origin has come to port `p` and is counted and discarded: no other count of the port moves but
for a control frame dropped, no block takes the frame, and no port relays it (stated of the relay queue of a port that is sending). -/
structure OwnDiscarded (p : Port) (s t : State) : Prop where
  counters : (t.port p).counters = { (s.port p).counters with
    received := min ((s.port p).counters.received + 1) (2 ^ 32 - 1)
    ownOrigin := min ((s.port p).counters.ownOrigin + 1) (2 ^ 32 - 1)
    controlDrops := (t.port p).counters.controlDrops }
  relays : ∀ q, (s.port q).inTransmission.isSome = true → (t.port q).relay = (s.port q).relay
  relayDrops : ∀ q, (t.port q).counters.relayDrops = (s.port q).counters.relayDrops
  mirrors : t.mirrorStore = s.mirrorStore
  entries : t.roster.entries = s.roster.entries
  recent : t.roster.recent = s.roster.recent
  belief : t.roster.belief = s.roster.belief
  waitSet : s.roster.phase ≠ .draining → t.roster.waitSet = s.roster.waitSet
  orders : t.orders = { s.orders with resendTimer := t.orders.resendTimer }

/-! ### Arrivals, coordinates and elections, as the statements speak of them -/

/-- R144: a mirror accepts a Sample or Mark frame of an origin and tap. -/
def State.accepts (s : State) (origin : FrameNo) (tap : Byte) (m : MirrorNo) : Prop :=
  (s.entry origin).state = .present ∧ (s.entry origin).acceptGate = true ∧ (s.mirror m).bound = true ∧
    (s.mirror m).sourceFrame = origin ∧ (s.mirror m).sourceTap.val = tap.toNat

/-- R23, R24: a line of a region stands in a half at a record and line-in-record, by a stride. -/
def Region.holds (e : Region) (stride : Nat) (h : Half) (r x line : Nat) : Prop :=
  x < stride ∧ (h = .odd → e.paired = true) ∧ r * stride + x < (if e.paired then e.size / 128 else e.size / 64) ∧
    line = e.base / 64 + (if h = .odd then e.size / 128 else 0) + r * stride + x

/-- R163: the sequence `seq` is new after the record `r`: it stands 1 to 32,767 ahead of it, modulo 65,536. -/
def newAfter (r seq : Word16) : Prop :=
  1 ≤ (seq.toNat + 65536 - r.toNat) % 65536 ∧ (seq.toNat + 65536 - r.toNat) % 65536 ≤ 32767

/-- R110: the candidates of an election. -/
def State.isCandidate (s : State) (f : FrameNo) : Prop :=
  if f = s.own then s.roster.ownState = .active ∧ s.roster.masterCapable = true
  else (s.entry f).state = .present ∧ (s.entry f).masterCapable = true

/-- R110: the belief that an election gives: the lowest-numbered candidate, or none where there is none. -/
def State.elects (s : State) : Option FrameNo → Prop
  | some f => s.isCandidate f ∧ ∀ g, s.isCandidate g → f ≤ g
  | none => ∀ f, ¬ s.isCandidate f

/-- R110: from `s` to `t` the frame that the belief names gives no cause for an election: the own frame in an Active part, or another
that does not leave Present. -/
def staysMaster (s t : State) (f : FrameNo) : Prop :=
  if f = s.own then s.roster.ownState = .active else (s.entry f).state = .present → (t.entry f).state = .present

/-! ### The frames the part makes, as the statements speak of them -/

/-- R71: a frame that the part originates. -/
def State.ownFrame (s : State) (b : Body) : Frame := ⟨⟨eightByte s.own, 0⟩, b⟩

/-- R81: a port's control queue, and its control drops. -/
def State.control (s : State) (p : Port) : List Frame × Nat := ((s.port p).control, (s.port p).counters.controlDrops)

/-- R81: a frame that the part originates, queued: a Roster Update in the place of one unsent, any other frame at the tail, and none where
16 stand, which is a control drop. -/
def queued (q : List Frame × Nat) (f : Frame) : List Frame × Nat :=
  let ahead := q.1.takeWhile fun g => !isRosterUpdate g
  if isRosterUpdate f = true ∧ ahead.length < q.1.length then (ahead ++ f :: q.1.drop (ahead.length + 1), q.2)
  else if q.1.length < 16 then (q.1 ++ [f], q.2)
  else (q.1, min (q.2 + 1) (2 ^ 32 - 1))

/-- R64: a Hello placed: at the head, in place of one unsent; where 16 other frames stand, the youngest is a control drop. -/
def placedFirst (hello : Frame) (q : List Frame × Nat) : List Frame × Nat :=
  let rest := q.1.filter fun f => !isHello f
  if rest.length < 16 then (hello :: rest, q.2) else (hello :: rest.take 15, min (q.2 + 1) (2 ^ 32 - 1))

/-- R81, R83: from `s` to `t` a port got control queue `q`: it stands while the port sends, and an idle port whose time slot is empty has
begun to send its head. -/
structure PortSends (q : List Frame × Nat) (p : Port) (s t : State) : Prop where
  drops : (t.port p).counters.controlDrops = q.2
  busy : (s.port p).inTransmission.isSome = true → (t.port p).control = q.1 ∧ (t.port p).inTransmission = (s.port p).inTransmission
  idle : (s.port p).inTransmission = none → (s.port p).slotReply = none → (s.port p).slotRequest = none →
    (∀ f rest, q.1 = f :: rest → (t.port p).control = rest ∧ (t.port p).inTransmission = some f) ∧ (q.1 = [] → (t.port p).control = [])

/-- R93: a roster change. -/
def rosterChanged (s t : State) : Prop :=
  t.advertised ≠ s.advertised ∨ t.roster.belief ≠ s.roster.belief ∨ ∃ f, f ≠ s.own ∧
    ((t.entry f).state ≠ (s.entry f).state ∨ (t.entry f).hops ≠ (s.entry f).hops ∨ (t.entry f).route ≠ (s.entry f).route ∨
      (t.entry f).incarnation ≠ (s.entry f).incarnation ∨ (t.entry f).masterCapable ≠ (s.entry f).masterCapable ∨
      (t.entry f).belief ≠ (s.entry f).belief)

/-- R71, R92: the Roster Update that a port gets, under a broadcast sequence. -/
def State.updateFrame (t : State) (seq : Word16) (p : Port) : Frame := t.ownFrame (.rosterUpdate ⟨seq, t.vector p⟩)

/-- R71, R77: the frames a port gets of an event's broadcasts, each under the next broadcast sequence, and of its unicasts, each by its
destination's route port. -/
def eventFrames (broadcasts : List (Word16 → Body)) (unicasts : List (FrameNo × Body)) (s t : State) (p : Port) : List Frame :=
  broadcasts.mapIdx (fun i b => t.ownFrame (b (s.link.broadcastSeq + BitVec.ofNat 16 i))) ++
    unicasts.filterMap fun d => if (t.entry d.1).route = some p then some (t.ownFrame d.2) else none

/-- R71, R81, R93: the frames that an event makes on its way from `s` to `t`, where the Joined ports' control queues start as `start` gives:
its broadcasts and unicasts, then one Roster Update if it made a roster change; a unicast without a Joined route port is counted. -/
structure Told (start : Port → List Frame × Nat) (broadcasts : List (Word16 → Body)) (unicasts : List (FrameNo × Body)) (s t : State) :
    Prop where
  changed : rosterChanged s t → ∀ p, t.joined p = true → PortSends (queued ((eventFrames broadcasts unicasts s t p).foldl queued (start p))
    (t.updateFrame (s.link.broadcastSeq + BitVec.ofNat 16 broadcasts.length) p)) p s t
  unchanged : ¬ rosterChanged s t → ∀ p, t.joined p = true → PortSends ((eventFrames broadcasts unicasts s t p).foldl queued (start p)) p s t
  seqChanged : rosterChanged s t → (∃ p, t.joined p = true) →
    t.link.broadcastSeq = s.link.broadcastSeq + BitVec.ofNat 16 (broadcasts.length + 1)
  seqUnchanged : ¬ rosterChanged s t → (∃ p, t.joined p = true) →
    t.link.broadcastSeq = s.link.broadcastSeq + BitVec.ofNat 16 broadcasts.length
  seqStands : (∀ p, t.joined p = false) → t.link.broadcastSeq = s.link.broadcastSeq
  unsent : t.link.unsentOwn =
    let lost := (unicasts.filter fun d => (t.openRoute d.1).isNone).length
    if lost = 0 then s.link.unsentOwn else min (s.link.unsentOwn + lost) (2 ^ 32 - 1)
  refresh : rosterChanged s t → (∃ p, t.joined p = true) → t.roster.ownState ≠ .starting →
    t.roster.refreshTimer = some (if t.roster.phase = .announced ∧ t.roster.waitSet ≠ 0 then 2500000 else 25000000)

/-- R106, R193: the Leave Acks of an arrival: one for each leaver, a frame whose entry entered Leaving or the `announcer` of Leaving, lowest
frame number first (notes/assumptions/16.md). -/
def leaveAcks (announcer : Option FrameNo) (s t : State) : List (FrameNo × Body) :=
  (eight.filter fun f => decide (f ≠ s.own) && (((t.entry f).state == .leaving && (s.entry f).state != .leaving) ||
    (announcer == some f && (t.entry f).state != .absent))).map fun f => (f, .leaveAck ⟨eightByte f, eightByte s.own, (t.entry f).incarnation.getD 0⟩)

/-- R106: the announcer of Leaving in a vector. -/
def leaverOf (n : FrameNo) (item : VectorItem) : Option FrameNo := match itemNews item with
  | some k => if k.state = .leaving then some n else none
  | none => none

/-- R54, R91, R93, R97, R101, R110: what the command at which port `p` leaves Joined makes, from `s` to `t`, of the roster's entries, the
tap queues and the belief. -/
structure PortLost (p : Port) (s t : State) : Prop where
  entries : ∀ f, t.entry f =
    let e := s.entry f
    let others := (e.hops.get (otherPort p)).isSome
    let member := e.state = .present ∨ e.state = .leaving ∨ e.state = .departed
    { e with hops := e.hops.set p none, route := if others then some (otherPort p) else none
             state := if f ≠ s.own ∧ others = false ∧ member then .lost else e.state }
  stripped : ∀ k, ∀ e ∈ (t.tap k).queue, e.pending.get p = false
  queues : s.orders.pending = [] → (s.port (otherPort p)).inTransmission.isSome = true → ∀ k,
    (t.tap k).queue = ((s.tap k).queue.map fun e => { e with dests := e.dests.set p 0, pending := e.pending.set p false }).filter
      fun e => e.pending.get (otherPort p)
  drained : s.orders.pending = [] → ∀ k, (s.tap k).state = .draining → (∀ e ∈ (s.tap k).queue, e.pending.get (otherPort p) = false) →
    (t.tap k).state = .idle ∧ (t.tap k).queue = []
  kept : s.orders.pending = [] → (∀ f, s.roster.belief = some f → staysMaster s t f) →
    (s.roster.belief = none → ∀ f, f ≠ s.own → t.entry f = s.entry f) → t.roster.belief = s.roster.belief
  elected : s.orders.pending = [] → leaveRight s →
    (∃ f, s.roster.belief = some f ∧ ¬ staysMaster s t f) ∨ (s.roster.belief = none ∧ ∃ f, f ≠ s.own ∧ t.entry f ≠ s.entry f) →
    t.elects t.roster.belief
  told : s.orders.pending = [] → s.roster.phase = .none → Told s.control [] [] s t

/-! ### Frames turned away, and the report lines, as the statements speak of them -/

/-- What concludes the arrival of a frame that has brought the part from `s` to `u`: nothing waits on a Time Reply; the rack frames' events
note their changes as they make them. -/
def concludeFrame (c : Instr) (s u : State) : State := match c with
  | .timeReply _ _ _ => u
  | .rackRequest _ _ _ => concludeFrom s u u
  | .rackOrder _ _ _ => concludeFrom s u u
  | .rackRefusal _ _ _ => concludeFrom s u u
  | _ => conclude s u

/-- A field of a report line: its lowest bit, its width and what it shows. -/
structure Shown where
  bit : Nat
  width : Nat
  value : Nat
deriving DecidableEq, Repr

/-- R190: `len` bytes from byte `byte` on show a value, saturated. -/
def shownBytes (byte len v : Nat) : Shown := ⟨8 * byte, 8 * len, min v (2 ^ (8 * len) - 1)⟩

/-- R190: `w` bits from bit `bit` of byte `byte` on show a value, saturated. -/
def shownBits (byte bit w v : Nat) : Shown := ⟨8 * byte + bit, w, min v (2 ^ w - 1)⟩

/-- R190: `w` bits from bit `bit` of byte `byte` on show a signed value in two's complement, saturated. -/
def shownSigned (byte bit w : Nat) (z : Int) : Shown :=
  ⟨8 * byte + bit, w, (BitVec.ofInt w (max (-(2 ^ (w - 1))) (min z (2 ^ (w - 1) - 1)))).toNat⟩

/-- A line shows its fields, and zero at every other bit. -/
def shows (l : Line) (fields : List Shown) : Prop :=
  (∀ f ∈ fields, l.extractLsb' f.bit f.width = BitVec.ofNat f.width f.value) ∧
    ∀ i < 512, (∀ f ∈ fields, i < f.bit ∨ f.bit + f.width ≤ i) → l.getLsbD i = false

/-- The kind code and the subject of an event (the table of kinds, R177, R181). -/
def EventInfo.shownKind : EventInfo → Nat × Nat
  | .tapHalted t _ => (1, t.val)
  | .linesDropped t _ => (2, t.val)
  | .portStateChanged p _ _ => (3, match p with | .a => 0 | .b => 1)
  | .entryChanged f _ => (4, f.val)
  | .partStateChanged f _ => (4, f.val)
  | .beliefChanged f _ => (4, f.val)
  | .restartSeen f _ => (5, f.val)
  | .leaveComplete f _ => (6, f.val)
  | .lockStateChanged f _ _ => (7, f.val)
  | .timeStep f _ => (8, f.val)
  | .rackApplied f _ _ _ => (9, f.val)
  | .rackRefused f _ _ => (10, f.val)
  | .lateArm g _ _ => (11, g.val)
  | .mirrorAged m _ _ => (12, m.val)
  | .decodeFault rank _ => (13, (rank.map BitVec.toNat).getD 0xFF)
  | .configurationFault _ => (14, 0xFF)
  | .partialDirective _ _ => (15, 0xFF)

/-- The detail of an event, in a slot that starts at byte `slot` (the table of kinds). -/
def EventInfo.shownDetail (slot : Nat) (e : EventInfo) : List Shown :=
  let n : Nat → Nat → Nat → Shown := fun byte len v => shownBytes (slot + byte) len v
  match e with
  | .tapHalted _ pass => [n 10 2 pass.toNat]
  | .linesDropped _ pass => [n 10 2 pass.toNat]
  | .portStateChanged _ st cause => [n 10 1 (portStateCode st), n 11 1 (causeCode cause)]
  | .entryChanged _ st => [n 10 1 1, n 11 1 (entryCode st)]
  | .partStateChanged _ st => [n 10 1 2, n 11 1 (partCode st)]
  | .beliefChanged _ b => [n 10 1 3, n 11 1 ((b.map Fin.val).getD 0xFF)]
  | .restartSeen _ count => [n 10 2 count.toNat]
  | .leaveComplete _ count => [n 10 2 count.toNat]
  | .lockStateChanged _ new former => [n 10 1 (lockCode new).toNat, n 11 1 (lockCode former).toNat]
  | .timeStep _ offset => [shownSigned (slot + 10) 0 48 offset]
  | .rackApplied _ d seq rackSeq => [n 10 1 (rackKindCode d), n 11 2 seq.toNat, n 13 3 (rackSeq % 2 ^ 24)]
  | .rackRefused _ seq reason => [n 10 2 seq.toNat, n 12 1 (reasonCode reason).toNat]
  | .lateArm _ _ time => [n 10 6 (time.toNat % 2 ^ 48)]
  | .mirrorAged _ h pass => [n 10 1 (halfCode h).toNat, n 11 2 pass.toNat]
  | .decodeFault _ kind => [n 10 1 (decodeFaultCode kind)]
  | .configurationFault cause => [n 10 1 (configFaultCode cause)]
  | .partialDirective enabled position => [n 10 1 enabled, n 11 2 position]

/-! ### What each command leaves as it stands -/

/-- R184, R186: what the EEPROM reports. -/
def isEepromEvent : Instr → Bool
  | .eepromAbsent => true
  | .configurationBlockRead _ => true
  | .restartCountRead _ => true
  | .restartCountWriteDone => true
  | .restartCountWriteFail => true
  | _ => false

/-- R172, R188, R189: what may end every block's state: a part reset, a Restart Part, and a write burst, whose line may be any directive. -/
def isSweeping : Instr → Bool
  | .partReset _ _ _ => true
  | .restartPart _ => true
  | .writeAccess _ => true
  | _ => false

/-- The commands that a port's own state may move at, besides the sweeping ones and the EEPROM's (R62 to R68). -/
def movesPorts : Instr → Bool
  | .signalDetected _ => true
  | .lossOfSignal _ => true
  | .neighbourTraining _ => true
  | .alignmentComplete _ => true
  | .trainingTimeout _ => true
  | .badCrcFrame _ => true
  | .hello _ _ _ => true
  | .portEnable _ _ => true
  | .portDisable _ _ => true
  | .portRetrain _ _ => true
  | _ => false

/-- The commands that may change a roster entry, besides the sweeping ones (R94 to R103). -/
def movesEntries : Instr → Bool
  | .lossOfSignal _ => true
  | .neighbourTraining _ => true
  | .badCrcFrame _ => true
  | .hello _ _ _ => true
  | .rosterUpdate _ _ _ => true
  | .portDisable _ _ => true
  | .portRetrain _ _ => true
  | .admitFrame _ _ => true
  | .barFrame _ _ => true
  | .forgetFrame _ _ => true
  | .acknowledgeRestart _ _ => true
  | _ => false

/-- What a command leaves of the channel's side: the straps, the channel, its lines, the regions and the stride presets. -/
structure LeavesChannelSide (c : Instr) (s t : State) : Prop where
  straps : (∀ f a b, c ≠ .partReset f a b) → t.reporter.straps = s.reporter.straps
  channel : onCommandLines c = false → isSweeping c = false → isEepromEvent c = false → c ≠ .channelResetAssert →
    c ≠ .channelResetRelease → (∀ tag, c ≠ .clearCounters tag) → t.channel = s.channel
  toDram : onCommandLines c = false → c ≠ .channelResetAssert → c ≠ .channelResetRelease → (∀ f a b, c ≠ .partReset f a b) →
    t.toDram = s.toDram
  toController : (∀ r b k a h, c ≠ .read r b k a h) → c ≠ .channelResetAssert → (∀ f a b, c ≠ .partReset f a b) →
    t.toController = s.toController
  regions : isSweeping c = false → isEepromEvent c = false → (∀ tag a, c ≠ .bindTap tag a) → (∀ tag k, c ≠ .unbindTap tag k) →
    (∀ tag a, c ≠ .bindMirror tag a) → (∀ tag m, c ≠ .unbindMirror tag m) → t.regions = s.regions
  presets : isSweeping c = false → (∀ tag a, c ≠ .setStridePresets tag a) → t.tapEngine.presets = s.tapEngine.presets

/-- What Bind Tap gave a tap (R35, R36). -/
def Tap.bound (k : Tap) : Nat × Nat × Fin 4 × Byte × Nat × Nat × Nat × Nat × Bool × Nat × Fin 16 :=
  (k.recordLen, k.recordCount, k.preset, k.dests, k.queueSize, k.high, k.low, k.stop, k.strict, k.passLimit, k.armGroup)

/-- What Bind Mirror gave a mirror (R137, R140, R142). -/
def Mirror.asBound (k : Mirror) : Bool × FrameNo × TapNo × Bool × Nat × Nat × Nat × Byte × Nat × Nat × Nat :=
  (k.bound, k.sourceFrame, k.sourceTap, k.paired, k.recordLen, k.recordCount, k.stride, k.fill, k.ageLimit, k.extentStart, k.extentLength)

/-- What a command leaves of the taps' bindings and of the Mirror Store. -/
structure LeavesStores (c : Instr) (s t : State) : Prop where
  bindings : isSweeping c = false → (∀ tag a, c ≠ .bindTap tag a) → (∀ tag k, c ≠ .unbindTap tag k) →
    ∀ k, (t.tap k).bound = (s.tap k).bound
  bytes : (∀ f a b, c ≠ .partReset f a b) → (∀ p h b, c ≠ .sample p h b) →
    ∀ a, Memory.read t.mirrorStore.store a = Memory.read s.mirrorStore.store a
  extents : isSweeping c = false → (∀ tag a, c ≠ .bindMirror tag a) → (∀ tag m, c ≠ .unbindMirror tag m) →
    t.mirrorStore.extents = s.mirrorStore.extents ∧ ∀ m, (t.mirror m).asBound = (s.mirror m).asBound
  mirrors : isSweeping c = false → movesEntries c = false → (∀ tag a, c ≠ .bindMirror tag a) → (∀ tag m, c ≠ .unbindMirror tag m) →
    (∀ tag, c ≠ .clearCounters tag) → (∀ r b k a h, c ≠ .read r b k a h) → (∀ p h b, c ≠ .sample p h b) →
    (∀ p h b, c ≠ .mark p h b) → t.mirrorStore.mirrors = s.mirrorStore.mirrors

/-- What a command leaves of the ports, the roster and rack time. -/
structure LeavesRackSide (c : Instr) (s t : State) : Prop where
  signal : ∀ p, c ≠ .signalDetected p → c ≠ .lossOfSignal p → (t.port p).signal = (s.port p).signal
  ports : isSweeping c = false → isEepromEvent c = false → movesPorts c = false → ∀ p, t.portView p = s.portView p
  entries : isSweeping c = false → movesEntries c = false → t.roster.entries = s.roster.entries
  identity : isSweeping c = false → isEepromEvent c = false → t.roster.incarnation = s.roster.incarnation ∧
    t.roster.heldCount = s.roster.heldCount ∧ t.roster.masterCapable = s.roster.masterCapable ∧ t.roster.autoAdmit = s.roster.autoAdmit
  recent : isSweeping c = false → (∀ p h b, c ≠ .rosterUpdate p h b) → (∀ p h b, c ≠ .rackOrder p h b) → t.roster.recent = s.roster.recent
  time : (∀ f a b, c ≠ .partReset f a b) → (∀ p h b, c ≠ .timeReply p h b) → c ≠ .tick → t.clock.time = s.clock.time
  settings : isSweeping c = false → isEepromEvent c = false → (∀ tag a, c ≠ .timeSettings tag a) → t.clock.settings = s.clock.settings
  exchange : (∀ f a b, c ≠ .partReset f a b) → isEepromEvent c = false → c ≠ .exchangeTimerExpiry →
    t.clock.exchangeTimer = s.clock.exchangeTimer ∧ t.clock.exponent = s.clock.exponent
  timeCounters : isSweeping c = false → (∀ tag, c ≠ .clearCounters tag) → (∀ p h b, c ≠ .timeReply p h b) → t.clock.counters = s.clock.counters

/-- What a command leaves of the Directive and Report Unit, the load and the Rack Order Unit's sequence. -/
structure LeavesReports (c : Instr) (s t : State) : Prop where
  load : (∀ f a b, c ≠ .partReset f a b) → isEepromEvent c = false → t.reporter.loadStatus = s.reporter.loadStatus ∧
    t.reporter.loadStep = s.reporter.loadStep ∧ t.reporter.stored = s.reporter.stored ∧ t.reporter.configFaults = s.reporter.configFaults ∧
    t.reporter.countUnreadable = s.reporter.countUnreadable
  writes : isSweeping c = false → isEepromEvent c = false →
    t.reporter.writeInProgress = s.reporter.writeInProgress ∧ t.reporter.writeWaiting = s.reporter.writeWaiting
  taken : isSweeping c = false → recordOf c = none → t.reporter.directivesTaken = s.reporter.directivesTaken
  partials : isSweeping c = false → (∀ n k, c ≠ .partialDirective n k) → (∀ tag, c ≠ .clearCounters tag) →
    t.reporter.partialDirectives = s.reporter.partialDirectives
  acknowledged : isSweeping c = false → (∀ tag n, c ≠ .acknowledgeEvents tag n) → t.reporter.acknowledged = s.reporter.acknowledged
  nextSeq : isSweeping c = false → (∀ tag f, c ≠ .leaveRack tag f) → (∀ tag f w, c ≠ .masterClaim tag f w) →
    (∀ tag g x w, c ≠ .rackArm tag g x w) → (∀ tag g w, c ≠ .rackHalt tag g w) → t.orders.nextSeq = s.orders.nextSeq

end Sys2Proof.Machine
end

