-- ==== Sys2Proof/WellFormed.lean ====
section
/-! DEFINITION. Which commands a rack can send: the checks that the types of Syntax.lean leave open. -/

namespace Sys2Proof

/-- R16, R17: a burst has the eight beats of a full burst or the four of a half burst. -/
def beatsRight (beats : List Beat) : Bool := beats.length == 8 || beats.length == 4

/-- R173: the code of an UNKNOWN_CODE names no directive. -/
def codeUnknown (code : Word16) : Bool := !(Machine.knownCodes.contains code)

/-- R73: a Sample frame carries one to four lines; any other is a malformed frame. -/
def linesRight (lines : List Line) : Bool := decide (1 ≤ lines.length) && decide (lines.length ≤ 4)

/-- The checks of a command. -/
def Instr.wellFormed : Instr → Bool
  | .partReset _ _ _ => true
  | .eepromAbsent => true
  | .configurationBlockRead _ => true
  | .restartCountRead _ => true
  | .restartCountWriteDone => true
  | .restartCountWriteFail => true
  | .channelResetAssert => true
  | .channelResetRelease => true
  | .openRow _ _ _ => true
  | .read _ _ _ _ _ => true
  | .write _ _ _ _ _ => true
  | .writeAccess beats => beatsRight beats
  | .close _ _ => true
  | .closeAll _ => true
  | .refresh _ => true
  | .selfRefreshEnter _ => true
  | .selfRefreshExit _ => true
  | .powerDownEnter _ => true
  | .powerDownExit _ => true
  | .modeSet _ _ => true
  | .partialDirective _ _ => true
  | .unknownCode _ code => codeUnknown code
  | .bindTap _ _ => true
  | .unbindTap _ _ => true
  | .armTap _ _ _ => true
  | .startTap _ _ => true
  | .stopTap _ _ => true
  | .haltTap _ _ => true
  | .setStridePresets _ _ => true
  | .bindMirror _ _ => true
  | .unbindMirror _ _ => true
  | .admitFrame _ _ => true
  | .barFrame _ _ => true
  | .forgetFrame _ _ => true
  | .acknowledgeRestart _ _ => true
  | .leaveRack _ _ => true
  | .rejoinRack _ => true
  | .portEnable _ _ => true
  | .portDisable _ _ => true
  | .portRetrain _ _ => true
  | .timeSettings _ _ => true
  | .masterClaim _ _ _ => true
  | .rackArm _ _ _ _ => true
  | .rackHalt _ _ _ => true
  | .acknowledgeEvents _ _ => true
  | .clearCounters _ => true
  | .restartPart _ => true
  | .signalDetected _ => true
  | .lossOfSignal _ => true
  | .neighbourTraining _ => true
  | .alignmentComplete _ => true
  | .trainingTimeout _ => true
  | .helloTimer _ => true
  | .badCrcFrame _ => true
  | .malformedFrame _ _ => true
  | .sample _ _ body => linesRight body.lines
  | .mark _ _ _ => true
  | .timeRequest _ _ _ => true
  | .timeReply _ _ _ => true
  | .hello _ _ _ => true
  | .rosterUpdate _ _ _ => true
  | .leaveAck _ _ _ => true
  | .rackRequest _ _ _ => true
  | .rackOrder _ _ _ => true
  | .rackRefusal _ _ _ => true
  | .transmissionComplete _ => true
  | .tapDrained _ => true
  | .armTimeReached _ => true
  | .leaveAnnounced => true
  | .leaveComplete => true
  | .refreshTimerExpiry => true
  | .exchangeTimerExpiry => true
  | .resendTimerExpiry => true
  | .tick => true

/-- A directive as a record can carry it: one of no directive's code has a code that names none. -/
def Directive.wellFormed : Directive → Bool
  | .unknown _ code => codeUnknown code
  | .bindTap _ _ => true
  | .unbindTap _ _ => true
  | .armTap _ _ _ => true
  | .startTap _ _ => true
  | .stopTap _ _ => true
  | .haltTap _ _ => true
  | .setStridePresets _ _ => true
  | .bindMirror _ _ => true
  | .unbindMirror _ _ => true
  | .admitFrame _ _ => true
  | .barFrame _ _ => true
  | .forgetFrame _ _ => true
  | .acknowledgeRestart _ _ => true
  | .leaveRack _ _ => true
  | .rejoinRack _ => true
  | .portControl _ _ _ => true
  | .timeSettings _ _ => true
  | .masterClaim _ _ _ => true
  | .rackArm _ _ _ _ => true
  | .rackHalt _ _ _ => true
  | .acknowledgeEvents _ _ => true
  | .clearCounters _ => true
  | .restartPart _ => true

/-- A frame as a cable can carry it. -/
def Body.wellFormed : Body → Bool
  | .sample f => linesRight f.lines
  | .mark _ => true
  | .timeRequest _ => true
  | .timeReply _ => true
  | .hello _ => true
  | .rosterUpdate _ => true
  | .leaveAck _ => true
  | .rackRequest _ => true
  | .rackOrder _ => true
  | .rackRefusal _ => true

end Sys2Proof
end

