-- ==== Sys2Proof/Certificates/Slice0/Obligations.lean ====
section
/-! DEFINITION. The statements for the provers, in the order of OBLIGATIONS.json. -/

open Sys2Proof Sys2Proof.Machine

/-! ### The queue of commands -/

/-- The command at the front of the queue is run on the queue's rest. That an empty queue idles is the model's choice
(notes/assumptions/2.md). -/
def Obligations.FrontCommandIsRun : Prop :=
  (∀ (c : Instr) (q : List Instr) (s : State), step (s.withPending (c :: q)) = exec c (s.withPending q)) ∧
    ∀ s : State, step (s.withPending []) = .next (s.withPending [])

/-- No command stops the part, and none touches the queue: the model's choice (notes/assumptions/33.md, and 2.md for the queue), since
the manual gives every command an effect and names none that stops the part. -/
def Obligations.EveryCommandCompletes : Prop := ∀ (c : Instr) (s : State), ∃ t, exec c s = .next t ∧ t.pending = s.pending

/-- What every command leaves as it stands: one clause for each part of the state, with the commands whose rules name it. The model's
choices in it: TICK, and every other command that does not set a timer, leaves the training, Hello and exchange timers as they stand, since
a timer holds its period and its expiry is a command of its own (the ports and exchange clauses, notes/assumptions/5.md); PART_RESET keeps
each cable's signal (the signal clause, 1.md); a directive's command moves neither the channel nor its outputs (7.md), which are held as the
last command passed on and what the last Read drives (35.md); and no command stops the part (33.md). -/
def Obligations.OtherStateIsLeft : Prop :=
  ∀ (c : Instr) (s : State), ∃ t, exec c s = .next t ∧
    LeavesChannelSide c s t ∧ LeavesStores c s t ∧ LeavesRackSide c s t ∧ LeavesReports c s t

/-! ### The memory channel -/

/-- R13, R175, R177: what posting a result and raising an event do, and what a decode fault records and reports. -/
def Obligations.FaultsResultsAndEventsTakeTheirSlots : Prop :=
  (∀ (kind : DecodeFault) (rank : Option Byte) (s : State),
      let t := decodeFault kind rank s
      let n := min (s.channel.decodeFaults + 1) (2 ^ 32 - 1)
      let e := min (s.reporter.eventCount + 1) (2 ^ 32 - 1)
      t = { s with channel := { s.channel with decodeFaults := n, lastFault := some (kind, rank) }, reporter := t.reporter } ∧
        (s.channel.decodeFaults ≠ 0 → t.reporter = s.reporter) ∧
        (s.channel.decodeFaults = 0 →
          t.reporter = { s.reporter with
            eventCount := e
            events := s.reporter.events.set ((e - 1) % 32) (some ⟨e, .decodeFault rank kind, s.stamp⟩) (Nat.mod_lt _ (by decide))
            attention := decide (s.reporter.acknowledged < e) })) ∧
  (∀ (s : State) (tag code : Word16) (result : DirectiveResult) (info : EventInfo),
      let n := min (s.reporter.resultsPosted + 1) (2 ^ 32 - 1)
      let t := postResult tag code result s
      let e := min (s.reporter.eventCount + 1) (2 ^ 32 - 1)
      let u := raise info s
      t = { s with reporter := { s.reporter with resultsPosted := n, results := t.reporter.results } } ∧
        (∀ k : Fin 16, t.reporter.results[k] =
          if k.val = (n - 1) % 16 then some ⟨n, tag, code, result⟩ else s.reporter.results[k]) ∧
        u = { s with reporter := { s.reporter with
          eventCount := e, events := u.reporter.events, attention := decide (s.reporter.acknowledged < e) } } ∧
        ∀ k : Fin 32, u.reporter.events[k] = if k.val = (e - 1) % 32 then some ⟨e, info, s.stamp⟩ else s.reporter.events[k])

/-- R2, R6: the commands that name a rank or a bank beyond the map, or a sleeping rank, and the stray exits; a Write among them forms no
access, and is in flight until its last data beat passes. -/
def Obligations.UnclassifiedCommandsOnlyFault : Prop :=
  ∀ (c : Instr) (s : State) (rank : Byte), s.channel.resetAsserted = false → rankNamed c = some rank →
    ((s.rankBeyond rank ∨ ∃ bank, bankNamed c = some bank ∧ s.bankBeyond bank) →
      exec c s = .next (decodeFault .outOfMap (some rank) (s.arrived c))) ∧
    (∀ r, s.rankInMap rank r → (∀ bank, bankNamed c = some bank → ∃ b, s.bankInMap bank b) →
      (s.channel.ranks[r] ≠ .active → ownExit s.channel.ranks[r] c = false →
        exec c s = .next (decodeFault .sleepingRank (some rank) (s.arrived c))) ∧
      (s.channel.ranks[r] = .active → isExit c = true →
        exec c s = .next (decodeFault .strayExit (some rank) (s.arrived c))))

/-- R19: Channel Reset asserted and released, and what passes between. -/
def Obligations.ChannelResetClearsTheTracker : Prop :=
  ∀ s : State,
    exec .channelResetAssert s = .next { s with
      channel := { s.channel with ranks := Vector.replicate 2 .active, banks := Vector.replicate 32 .closed, readCas := none,
                                  additive := none, writeCas := none, resetAsserted := true, inFlight := [] }
      toDram := some .channelResetAssert, toController := .idle } ∧
    exec .channelResetRelease s = .next { s with
      channel := { s.channel with resetAsserted := false }, toDram := some .channelResetRelease } ∧
    ∀ c, onCommandLines c = true → s.channel.resetAsserted = true → exec c s = .next { s with toDram := some c }

/-- R7: the three rows of its table. -/
def Obligations.OpenRowOpensItsBank : Prop :=
  ∀ (s : State) (rank bank : Byte) (row : BitVec 18) (r : Fin 2) (b : Fin 16), s.bankReady rank bank r b →
    let c : Instr := .openRow rank bank row
    let i := bankIndex r b
    ((s.bank i).isOpen = false → s.rowTaken row.toNat → exec c s = .next (setBank i (.opened row.toNat) (s.arrived c))) ∧
    ((s.bank i).isOpen = false → s.rowBeyond row.toNat →
      exec c s = .next (decodeFault .outOfMap (some rank) (setBank i .unknown (s.arrived c)))) ∧
    ((s.bank i).isOpen = true → exec c s = .next (decodeFault .reopen (some rank) (setBank i .unknown (s.arrived c))))

/-- R8, R9: Close and Close All, at a rank in Active and at a sleeping one; Refresh at a rank in Active. That the banks of a rank are all 16
entries of the Bank Table, also under an 8-bank map, is the model's choice (notes/assumptions/36.md). -/
def Obligations.CloseAndRefreshMoveTheBanks : Prop :=
  (∀ (s : State) (rank bank : Byte) (r : Fin 2) (b : Fin 16), s.channel.resetAsserted = false → s.rankInMap rank r →
      s.bankInMap bank b →
      (s.channel.ranks[r] = .active →
        exec (.close rank bank) s = .next (setBank (bankIndex r b) .closed (s.arrived (.close rank bank))) ∧
        ∃ banks : Vector BankState 32,
          exec (.closeAll rank) s = .next { s.arrived (.closeAll rank) with channel := { s.channel with banks := banks } } ∧
            ∀ i : Fin 32, banks[i] = if i.val / 16 = r.val then .closed else s.bank i) ∧
      (s.channel.ranks[r] ≠ .active → ∀ c, c = .close rank bank ∨ c = .closeAll rank →
        ∃ t, exec c s = .next t ∧ t.channel.banks = s.channel.banks ∧ t.channel.ranks = s.channel.ranks)) ∧
  (∀ (s : State) (rank : Byte) (r : Fin 2), s.rankReady rank r →
      ((∀ i : Fin 32, i.val / 16 = r.val → (s.bank i).isOpen = false) →
        exec (.refresh rank) s = .next (s.arrived (.refresh rank))) ∧
      ((∃ i : Fin 32, i.val / 16 = r.val ∧ (s.bank i).isOpen = true) →
        ∃ banks : Vector BankState 32,
          exec (.refresh rank) s = .next (decodeFault .openAtRefresh (some rank)
            { s.arrived (.refresh rank) with channel := { s.channel with banks := banks } }) ∧
          ∀ i : Fin 32, banks[i] = if i.val / 16 = r.val then .unknown else s.bank i))

/-- R4, R5: Power-Down and Self-Refresh, each entered from Active and left by its own exit. That the banks of a rank are all 16 entries of
the Bank Table, also under an 8-bank map, is the model's choice (notes/assumptions/36.md). -/
def Obligations.SleepingRanksComeBack : Prop :=
  (∀ (s : State) (rank : Byte) (r : Fin 2), s.channel.resetAsserted = false → s.rankInMap rank r →
      (s.channel.ranks[r] = .active → (∃ i : Fin 32, i.val / 16 = r.val ∧ (s.bank i).isOpen = true) →
        exec (.powerDownEnter rank) s = .next { s.arrived (.powerDownEnter rank) with
          channel := { s.channel with ranks := s.channel.ranks.set r .activePowerDown } }) ∧
      (s.channel.ranks[r] = .active → (∀ i : Fin 32, i.val / 16 = r.val → (s.bank i).isOpen = false) →
        exec (.powerDownEnter rank) s = .next { s.arrived (.powerDownEnter rank) with
          channel := { s.channel with ranks := s.channel.ranks.set r .prechargePowerDown } }) ∧
      (s.channel.ranks[r] = .activePowerDown ∨ s.channel.ranks[r] = .prechargePowerDown →
        exec (.powerDownExit rank) s = .next { s.arrived (.powerDownExit rank) with
          channel := { s.channel with ranks := s.channel.ranks.set r .active } })) ∧
  (∀ (s : State) (rank : Byte) (r : Fin 2), s.channel.resetAsserted = false → s.rankInMap rank r →
      (s.channel.ranks[r] = .active → (∀ i : Fin 32, i.val / 16 = r.val → (s.bank i).isOpen = false) →
        exec (.selfRefreshEnter rank) s = .next { s.arrived (.selfRefreshEnter rank) with
          channel := { s.channel with ranks := s.channel.ranks.set r .selfRefresh } }) ∧
      (s.channel.ranks[r] = .active → (∃ i : Fin 32, i.val / 16 = r.val ∧ (s.bank i).isOpen = true) →
        ∃ banks : Vector BankState 32,
          exec (.selfRefreshEnter rank) s = .next (decodeFault .openAtSelfRefresh (some rank) { s.arrived (.selfRefreshEnter rank) with
            channel := { s.channel with ranks := s.channel.ranks.set r .selfRefresh, banks := banks } }) ∧
          ∀ i : Fin 32, banks[i] = if i.val / 16 = r.val then .unknown else s.bank i) ∧
      (s.channel.ranks[r] = .selfRefresh →
        ∃ banks : Vector BankState 32,
          exec (.selfRefreshExit rank) s = .next { s.arrived (.selfRefreshExit rank) with
            channel := { s.channel with ranks := s.channel.ranks.set r .active, banks := banks } } ∧
          ∀ i : Fin 32, banks[i] = if i.val / 16 = r.val then .closed else s.bank i))

/-- R11: the three latency registers and the others, and the latencies derived. That the operand is the latency as a number, and 0, 1
and 2 stand for Off, CL-1 and CL-2, is the model's choice (notes/assumptions/22.md). -/
def Obligations.ModeSetTakesLatencies : Prop :=
  ∀ (s : State) (register value : Byte), s.channel.resetAsserted = false →
    let c : Instr := .modeSet register value
    let u := s.arrived c
    (register = 0 → 5 ≤ value.toNat → value.toNat ≤ 24 →
      exec c s = .next { u with channel := { s.channel with readCas := some value.toNat } }) ∧
    (register = 0 → value.toNat < 5 ∨ 24 < value.toNat →
      exec c s = .next (decodeFault .badLatency none { u with channel := { s.channel with readCas := none } })) ∧
    (register = 1 → ∀ a, (value, a) ∈ [(0, Additive.off), (1, .clMinus1), (2, .clMinus2)] →
      exec c s = .next { u with channel := { s.channel with additive := some a } }) ∧
    (register = 1 → 2 < value.toNat →
      exec c s = .next (decodeFault .badLatency none { u with channel := { s.channel with additive := none } })) ∧
    (register = 2 → 5 ≤ value.toNat → value.toNat ≤ 20 →
      exec c s = .next { u with channel := { s.channel with writeCas := some value.toNat } }) ∧
    (register = 2 → value.toNat < 5 ∨ 20 < value.toNat →
      exec c s = .next (decodeFault .badLatency none { u with channel := { s.channel with writeCas := none } })) ∧
    (2 < register.toNat → exec c s = .next u) ∧
    (s.channel.latenciesKnown = true ↔ s.channel.readCas ≠ none ∧ s.channel.additive ≠ none ∧ s.channel.writeCas ≠ none)

/-- R10, R12: a burst at a bank that is not Open, and the bursts at an Open bank that form no access: every one while Starting, whatever
Latencies Known holds, and every one with Latencies Known clear. A Write among them is in flight, without an access, until its last data
beat passes. -/
def Obligations.BurstsThatFormNoAccess : Prop :=
  (∀ (s : State) (rank bank : Byte) (column : BitVec 10) (autoClose halfBurst : Bool) (r : Fin 2) (b : Fin 16),
      s.bankReady rank bank r b → (s.bank (bankIndex r b)).isOpen = false →
      ∀ c, c = .read rank bank column autoClose halfBurst ∨ c = .write rank bank column autoClose halfBurst →
        exec c s = .next (autoClosed autoClose r b (decodeFault .closedAccess (some rank) (s.arrived c)))) ∧
  (∀ (s : State) (rank bank : Byte) (column : BitVec 10) (autoClose halfBurst : Bool) (r : Fin 2) (b : Fin 16) (row : Nat),
      s.bankReady rank bank r b → s.bank (bankIndex r b) = .opened row →
      let rd : Instr := .read rank bank column autoClose halfBurst
      let wr : Instr := .write rank bank column autoClose halfBurst
      (s.roster.ownState = .starting →
        exec rd s = .next (autoClosed autoClose r b (s.arrived rd)) ∧
        exec wr s = .next (autoClosed autoClose r b (s.arrived wr))) ∧
      ∀ map : AddressMap, s.channel.map = some map → s.channel.latenciesKnown = false → s.roster.ownState ≠ .starting →
        let route := s.routeOfLine (map.lineAddress r.val b.val row column.toNat)
        (route = some .report ∨ (∃ m, route = some (.mirror m)) →
          exec rd s = .next (autoClosed autoClose r b ((s.arrived rd).onChannel fun k =>
            { k with unservedReads := min (k.unservedReads + 1) (2 ^ 32 - 1) })) ∧
          exec wr s = .next (autoClosed autoClose r b (s.arrived wr))) ∧
        (route = some .directive ∨ (∃ t, route = some (.tap t)) →
          exec rd s = .next (autoClosed autoClose r b (s.arrived rd)) ∧
          exec wr s = .next (autoClosed autoClose r b ((s.arrived wr).onChannel fun k =>
            { k with missedWrites := min (k.missedWrites + 1) (2 ^ 32 - 1) }))) ∧
        (route = none →
          exec rd s = .next (autoClosed autoClose r b (s.arrived rd)) ∧
          exec wr s = .next (autoClosed autoClose r b (s.arrived wr))))

/-- R10, R12, R18, R30: a Read that forms an access: it passes, or a report line or a mirror serves it. -/
def Obligations.ReadsAreServedOrPass : Prop :=
  ∀ (s : State) (rank bank : Byte) (column : BitVec 10) (autoClose halfBurst : Bool) (r : Fin 2) (b : Fin 16) (row : Nat)
    (map : AddressMap), s.bankReady rank bank r b → s.bank (bankIndex r b) = .opened row → s.roster.ownState ≠ .starting →
    s.channel.map = some map → s.channel.latenciesKnown = true →
    let c : Instr := .read rank bank column autoClose halfBurst
    let line := map.lineAddress r.val b.val row column.toNat
    (s.routeOfLine line = some .report →
      exec c s = .next (autoClosed autoClose r b { s.arrived c with
        toController := .beats (readBeats column halfBurst (reportLine (line - (s.region 1).baseLine) s)) })) ∧
    (∀ m, s.routeOfLine line = some (.mirror m) →
      let served := mirrorRead m (s.mirrorCoord m line) (s.arrived c)
      exec c s = .next (autoClosed autoClose r b { served.2 with toController := .beats (readBeats column halfBurst served.1) })) ∧
    (s.routeOfLine line ≠ some .report → (∀ m, s.routeOfLine line ≠ some (.mirror m)) →
      exec c s = .next (autoClosed autoClose r b (s.arrived c)))

/-- R3, R10, R11, R12, R18, R30, R155, R172: every Write taken from the command lines is in flight until its last data beat passes; one that
forms an access holds its line, and the access of the oldest Write in flight is routed once, whole, when that beat passes, where it forms one.
That the beats come as a command of their own, and that beats which find no Write in flight only pass, is the model's choice
(notes/assumptions/10.md). -/
def Obligations.WritesAreRoutedWhole : Prop :=
  (∀ (s : State) (rank bank : Byte) (column : BitVec 10) (autoClose halfBurst : Bool), s.channel.resetAsserted = false →
      ∃ t line, exec (.write rank bank column autoClose halfBurst) s = .next t ∧
        t.channel.inFlight = s.channel.inFlight ++ [⟨line, column, halfBurst, s.channel.writeLatency⟩]) ∧
  (∀ (s : State) (rank bank : Byte) (column : BitVec 10) (autoClose halfBurst : Bool) (r : Fin 2) (b : Fin 16) (row cl wl : Nat)
      (al : Additive) (map : AddressMap), s.bankReady rank bank r b → s.bank (bankIndex r b) = .opened row →
      s.roster.ownState ≠ .starting → s.channel.map = some map → s.channel.readCas = some cl → s.channel.additive = some al →
      s.channel.writeCas = some wl →
      let c : Instr := .write rank bank column autoClose halfBurst
      let extra := match al with | .off => 0 | .clMinus1 => cl - 1 | .clMinus2 => cl - 2
      exec c s = .next (autoClosed autoClose r b { s.arrived c with channel := { s.channel with
        inFlight := s.channel.inFlight ++
          [⟨some (map.lineAddress r.val b.val row column.toNat), column, halfBurst, some (wl + extra)⟩] } })) ∧
  (∀ (s : State) (beats : List Beat), s.channel.resetAsserted = false →
      let c : Instr := .writeAccess beats
      (s.channel.inFlight = [] → exec c s = .next (s.arrived c)) ∧
      ∀ (w : WriteBurst) (rest : List WriteBurst), s.channel.inFlight = w :: rest →
        let u := (s.arrived c).onChannel fun k => { k with inFlight := rest }
        let data := writeData w.column w.halfBurst beats
        let enables := writeEnables w.column w.halfBurst beats
        (w.line = none → exec c s = .next u) ∧
        ∀ line, w.line = some line →
          (s.routeOfLine line = none ∨ s.routeOfLine line = some .report → exec c s = .next u) ∧
          (∀ m, s.routeOfLine line = some (.mirror m) →
            exec c s = .next (u.onMirrorCounters m fun k => { k with writes := min (k.writes + 1) (2 ^ 32 - 1) })) ∧
          (∀ t, s.routeOfLine line = some (.tap t) →
            exec c s = .next (conclude u (tapWrite t (s.tapCoord t line) data enables u))) ∧
          (s.routeOfLine line = some .directive → enables = BitVec.allOnes 64 →
            exec c s = .next (takeDirective (decodeRecord data) u)) ∧
          (s.routeOfLine line = some .directive → enables ≠ BitVec.allOnes 64 →
            exec c s = .next (raise (.partialDirective (enabledBytes enables) (line - (s.region 0).baseLine))
              (u.onReporter fun d => { d with partialDirectives := min (d.partialDirectives + 1) (2 ^ 32 - 1) }))))

/-- R15 to R17, R20: a line address is the sum of its digits, each times the radices of the digits below it in the map's order; for a row at or
beyond the map's row count it lies beyond the channel's last line, which R20 says and for which the model adds the channel's lines to R15's
sum (its reading, notes/assumptions/49.md). Within the map a line address is below the channel's lines, and two bursts share it only where
rank, bank, row and line-in-row agree; a line read onto the beats of a full burst and written back unmasked is the same line with every byte enabled, and no
half burst enables every byte. -/
def Obligations.LinesAndBeatsAgree : Prop :=
  (∀ (m : AddressMap) (rank bank row column : Nat),
      let rows := 2 ^ m.rowBits
      let line := m.lineAddress rank bank row column
      (row < rows →
        (m.order = .a → line = rank * (rows * m.banks * 128) + row * (m.banks * 128) + bank * 128 + column / 8) ∧
        (m.order = .b → line = row * (m.ranks * m.banks * 128) + rank * (m.banks * 128) + bank * 128 + column / 8) ∧
        (m.order = .c → line = row * (m.banks * m.ranks * 128) + bank * (m.ranks * 128) + rank * 128 + column / 8) ∧
        (m.order = .d → line = rank * (m.banks * rows * 128) + bank * (rows * 128) + row * 128 + column / 8)) ∧
      (rows ≤ row → m.ranks * m.banks * rows * 128 ≤ line)) ∧
  (∀ (m : AddressMap) (rank rank' bank bank' row row' column column' : Nat), m.right →
      rank < m.ranks → rank' < m.ranks → bank < m.banks → bank' < m.banks → row < 2 ^ m.rowBits → row' < 2 ^ m.rowBits →
      column < 1024 → column' < 1024 →
      m.lineAddress rank bank row column < m.lines ∧
      (m.lineAddress rank bank row column = m.lineAddress rank' bank' row' column' ↔
        rank = rank' ∧ bank = bank' ∧ row = row' ∧ column / 8 = column' / 8)) ∧
  (∀ (column : BitVec 10) (l : Line) (beats : List Beat),
      (∀ j < 8, (readBeats column false l)[j]? =
        some (l.extractLsb' (64 * ((column.toNat % 8 + j) % 8)) 64)) ∧
      (∀ j < 4, (readBeats column true l)[j]? =
        some (l.extractLsb' (64 * (4 * (column.toNat % 8 / 4) + (column.toNat % 4 + j) % 4)) 64)) ∧
      writeData column false ((readBeats column false l).map fun d => ⟨d, 0⟩) = l ∧
      writeEnables column false ((readBeats column false l).map fun d => ⟨d, 0⟩) = BitVec.allOnes 64 ∧
      writeEnables column true beats ≠ BitVec.allOnes 64)

/-! ### What every command keeps -/

/-- R37, R54, R70, R75, R80, R81, R91, R93, R113, R114, R138, R139, R178: the machine after reset meets every invariant below. -/
def Obligations.ResetMeetsTheInvariants : Prop :=
  let s := State.reset
  reporterRight s ∧ clockRight s.clock ∧ Memory.wf s.mirrorStore.store ∧ (∀ p, queuesRight (s.port p) ∧ scoreRight (s.port p)) ∧
    bufferRight s ∧ pendingRight s ∧ extentsRight s ∧ mirrorsRight s ∧ tapsRight s ∧ regionsRight s ∧ routesRight s ∧ listsRight s ∧
    timersRight s ∧ leaveRight s ∧ masterRight s ∧ idlePortsEmpty s

/-- R114, R175, R177, R178. -/
def Obligations.CountsStayBounded : Prop :=
  (∀ s t : State, reporterRight s → step s = .next t → reporterRight t) ∧
  (∀ s t : State, clockRight s.clock → step s = .next t → clockRight t.clock)

/-- R138, R139; that an unlisted byte reads as 0 is the model's choice (notes/assumptions/4.md). -/
def Obligations.StoreAndExtentsStayRight : Prop :=
  (∀ s t : State, Memory.wf s.mirrorStore.store → step s = .next t → Memory.wf t.mirrorStore.store) ∧
  (∀ s t : State, extentsRight s → step s = .next t → extentsRight t)

/-- R37, R54, R70, R75, R80, R81, R158. -/
def Obligations.QueuesAndListsStayBounded : Prop :=
  (∀ s t : State, (∀ p, queuesRight (s.port p) ∧ scoreRight (s.port p)) → step s = .next t →
      ∀ p, queuesRight (t.port p) ∧ scoreRight (t.port p)) ∧
  (∀ s t : State, listsRight s → step s = .next t → listsRight t) ∧
  (∀ s t : State, bufferRight s → step s = .next t → bufferRight t) ∧
  (∀ s t : State, pendingRight s → step s = .next t → pendingRight t)

/-- R143, R147, R148. -/
def Obligations.PresentMapsStayRight : Prop := ∀ s t : State, mirrorsRight s → step s = .next t → mirrorsRight t

/-- R25, R33, R34, R46. -/
def Obligations.TapShapesStayFitting : Prop := ∀ s t : State, tapsRight s → step s = .next t → tapsRight t

/-- R91, R97: what every step keeps of the routes, and the route port that two hop counts give: the port of the one that is known, of the
smaller of two, and A where they are equal. -/
def Obligations.RoutesStayJoined : Prop :=
  (∀ s t : State, routesRight s → step s = .next t → routesRight t) ∧
  (∀ x y : Nat, routeOf ⟨none, none⟩ = none ∧ routeOf ⟨some x, none⟩ = some .a ∧ routeOf ⟨none, some y⟩ = some .b ∧
    (x ≤ y → routeOf ⟨some x, some y⟩ = some .a) ∧ (y < x → routeOf ⟨some x, some y⟩ = some .b))

/-- R93, R159. -/
def Obligations.TimersFollowTheirRules : Prop := ∀ s t : State, timersRight s → step s = .next t → timersRight t

/-- R21, R29, R44, R61, R88, R104 to R107, R110, R118, R131, R184: the three invariants are kept together: a load that is unfinished keeps the
part Starting, and with no region and no port the part stays so. -/
def Obligations.RegionsLeaveAndMasterStayRight : Prop :=
  ∀ s t : State, regionsRight s ∧ leaveRight s ∧ masterRight s → step s = .next t → regionsRight t ∧ leaveRight t ∧ masterRight t

/-- R64, R83. -/
def Obligations.IdlePortsHaveNothingToSend : Prop := ∀ s t : State, idlePortsEmpty s → step s = .next t → idlePortsEmpty t

/-- R21, R23, R24, R29, R30, R138: the lookup finds the one valid entry whose range contains a line; first fit gives the lowest start line at
which an extent is free, and none only where no start line is; the index of the entry gives the block that a line's accesses go to; and a line
of a tap's or mirror's region has the half, record and line-in-record at which it stands, by its stride. -/
def Obligations.SearchesFindTheOnePlace : Prop :=
  (∀ (s : State) (line : Nat), regionsRight s →
      (∀ i, s.lookup line = some i ↔ (s.region i).valid = true ∧ (s.region i).baseLine ≤ line ∧
        line < (s.region i).baseLine + (s.region i).lines) ∧
      (s.lookup line = none ↔ ∀ i, (s.region i).valid = true →
        line < (s.region i).baseLine ∨ (s.region i).baseLine + (s.region i).lines ≤ line)) ∧
  (∀ (extents : List Extent) (n : Nat), 1 ≤ n → extents.Pairwise (fun e f => e.start + e.length ≤ f.start) →
      (∀ e ∈ extents, e.start + e.length ≤ 65536) →
      (∀ start, firstFit extents n = some start ↔ freeAt extents n start ∧ ∀ b < start, ¬ freeAt extents n b) ∧
      (firstFit extents n = none ↔ ∀ b, ¬ freeAt extents n b)) ∧
  (∀ (s : State) (line : Nat), (s.lookup line = none → s.routeOfLine line = none) ∧ ∀ i, s.lookup line = some i →
      (i.val = 0 → s.routeOfLine line = some .directive) ∧ (i.val = 1 → s.routeOfLine line = some .report) ∧
      (∀ t : TapNo, i.val = 2 + t.val → s.routeOfLine line = some (.tap t)) ∧
      (∀ m : MirrorNo, i.val = 10 + m.val → s.routeOfLine line = some (.mirror m))) ∧
  (∀ (s : State) (i : Fin 18) (h : Half) (r x line : Nat),
      (∀ t : TapNo, i.val = 2 + t.val → let k := s.tap t
        let stride := s.tapEngine.presets[k.preset]
        (s.region i).holds stride h r x line →
          s.tapCoord t line = ⟨h, r * stride + x, r, x, decide (r < k.recordCount ∧ x < k.recordLen)⟩) ∧
      (∀ m : MirrorNo, i.val = 10 + m.val → let k := s.mirror m
        (s.region i).holds k.stride h r x line →
          s.mirrorCoord m line = ⟨h, r * k.stride + x, r, x, decide (r < k.recordCount ∧ x < k.recordLen)⟩))

/-! ### Records and frames -/

/-- R173, R184, The directive record and The configuration EEPROM: a record and a configuration block decode as they were written, and whatever
a line holds it spells a well-formed directive. -/
def Obligations.StoredFormsDecodeAsWritten : Prop :=
  (∀ d : Directive, d.wellFormed = true → decodeRecord (encodeRecord d) = d) ∧
  (∀ c : StoredConfig, decodeBlock (encodeStored c) = some c) ∧
  (∀ l : Line, (decodeRecord l).wellFormed = true)

/-- R71, R73, R191: a frame decodes as the command it was sent as, and whatever bytes arrive spell a well-formed command. -/
def Obligations.FramesDecodeAsSent : Prop :=
  (∀ (p : Port) (f : Frame), f.body.wellFormed = true → decodeLink p (encodeFrame f) = frameCommand p f) ∧
    ∀ (p : Port) (bytes : List Byte), (decodeLink p bytes).wellFormed = true

/-- R179, R180, R190 and the table of line 0: the summary line shows the counts, the belief and the attention line, and every other field
of its table, with zero elsewhere; where the extents are right it shows the store's free lines and its longest free gap. A line beyond the
last is zero. -/
def Obligations.SummaryLineShowsTheState : Prop :=
  (∀ s : State, reporterRight s →
    let l := reportLine 0 s
    field l 0 8 = eightByte s.own ∧ field l 3 8 = s.roster.waitSet ∧ field l 4 8 = frameByte s.roster.belief ∧
      field l 5 16 = s.roster.incarnation ∧ l.getLsbD 136 = s.reporter.attention ∧
      field l 24 32 = BitVec.ofNat 32 s.reporter.eventCount ∧ field l 28 32 = BitVec.ofNat 32 s.reporter.acknowledged ∧
      field l 32 32 = BitVec.ofNat 32 s.reporter.resultsPosted ∧ ∀ n, 60 ≤ n → reportLine n s = 0) ∧
  (∀ (s : State) (gap : Nat), extentsRight s → (∃ start, freeAt s.mirrorStore.extents gap start) →
    (∀ start, ¬ freeAt s.mirrorStore.extents (gap + 1) start) →
    let n := shownBytes
    let b := shownBits
    let bit : Nat → Nat → Bool → Shown := fun byte i v => b byte i 1 v.toNat
    let frame : Option FrameNo → Nat := fun f => (f.map Fin.val).getD 0xFF
    let base : Region → Nat := fun e => e.base / 4096
    let exponent : Region → Nat := fun e => Nat.log2 (e.size / 4096) / 2
    let r := s.roster
    let d := s.reporter
    shows (reportLine 0 s)
      [n 0 1 s.own.val, bit 1 0 d.straps.disable.a, bit 1 1 d.straps.disable.b, bit 1 2 r.masterCapable, bit 1 3 r.autoAdmit,
       b 2 0 2 (partCode r.ownState), b 2 2 2 (phaseCode r.phase), b 2 4 2 (loadCode d.loadStatus), n 3 1 r.waitSet.toNat, n 4 1 (frame r.belief),
       n 5 2 r.incarnation.toNat, n 7 9 s.stamp.time.toNat, b 16 0 3 s.stamp.quality.toNat, b 16 3 5 d.configFaults.toNat, bit 17 0 d.attention,
       bit 17 1 (s.region 0).valid, bit 17 2 (s.region 1).valid, b 17 3 2 (exponent (s.region 0)), bit 17 5 d.writeInProgress.isSome,
       bit 17 6 d.writeWaiting.isSome, n 18 3 (base (s.region 0)), n 21 3 (base (s.region 1)), n 24 4 d.eventCount, n 28 4 d.acknowledged,
       n 32 4 d.resultsPosted, n 36 4 d.directivesTaken, n 40 4 d.partialDirectives, n 44 4 s.link.unsentOwn, n 48 2 s.reserved,
       n 50 2 s.tapEngine.presets[0], n 52 2 s.tapEngine.presets[1], n 54 2 s.tapEngine.presets[2], n 56 2 s.tapEngine.presets[3],
       n 58 3 (65536 - (s.mirrorStore.extents.map Extent.length).sum), n 61 3 gap])

/-- R179, R181, R190 and the tables of the lines 1 to 59: each shows its fields, saturated as R190 says, and zero elsewhere.
That byte 11 of line 44 is 0 while no last decode fault is held is the model's reading (notes/assumptions/45.md). -/
def Obligations.ReportLinesShowTheState : Prop :=
  ∀ s : State,
    let n := shownBytes
    let b := shownBits
    let z := shownSigned
    let bit : Nat → Nat → Bool → Shown := fun byte i v => b byte i 1 v.toNat
    let orFF : Option Nat → Nat := fun v => v.getD 0xFF
    let frame : Option FrameNo → Nat := fun f => orFF (f.map Fin.val)
    let port : Port → Nat := fun p => match p with | .a => 0 | .b => 1
    let base : Region → Nat := fun e => e.base / 4096
    let exponent : Region → Nat := fun e => Nat.log2 (e.size / 4096) / 2
    let stamp : Nat → Stamp → List Shown := fun byte x => [n byte 9 x.time.toNat, n (byte + 9) 1 x.quality.toNat]
    let c := s.clock
    let q := c.lastQuality
    shows (reportLine 1 s)
      [n 0 9 (c.time / 2 ^ 24), b 9 0 3 (lockCode c.lock).toNat, bit 9 3 c.beenMaster, bit 9 4 c.outstanding.isSome, bit 9 5 q.isSome,
       bit 9 6 ((q.map Prod.snd).getD false), b 10 0 2 ((c.upPort.map port).getD 3), b 10 2 1 ((c.outstanding.map fun o => port o.port).getD 0),
       b 10 3 3 ((q.map fun q => q.1.toNat).getD 0), n 11 1 ((c.outstanding.map fun o => o.number.toNat).getD 0), n 12 1 c.requestNumber.toNat,
       z 13 0 24 c.trim, z 16 0 24 c.integral, z 19 0 32 c.lastOffset, z 23 0 24 c.lastDelay, n 26 1 c.missed, n 27 1 c.within, n 28 1 c.outside,
       b 29 0 20 c.holdoverAge, b 29 20 20 c.settings.holdover, b 34 0 5 c.settings.k, b 34 5 10 c.settings.lock, b 36 0 4 c.settings.p,
       b 36 4 4 c.settings.i, n 37 3 c.settings.step, z 40 0 18 c.settings.corr.a, z 40 18 18 c.settings.corr.b, z 45 0 24 c.settings.masterTrim,
       n 48 4 c.counters.accepted, n 52 4 c.counters.rejected, n 56 4 c.counters.steps, n 60 4 c.counters.lateReplies] ∧
    (∀ p : Port, let r := s.port p
      shows (reportLine (2 + port p) s)
        [b 0 0 3 (portStateCode r.state), b 0 3 2 (causeCode r.cause), b 0 5 3 r.attempt, n 1 1 (frame (r.neighbour.map Prod.fst)),
         n 2 2 ((r.neighbour.map fun k => k.2.toNat).getD 0), n 4 1 r.errorScore, n 5 1 r.goodRun, n 6 1 r.relay.length,
         n 7 1 r.control.length, bit 8 0 r.slotRequest.isSome, bit 8 1 r.slotReply.isSome, bit 8 2 r.inTransmission.isSome,
         b 8 4 4 r.lastGranted.val, n 9 1 ((r.inTransmission.map fun f => (kindCode f.body).toNat).getD 0)]) ∧
    (∀ f : FrameNo,
      let ownState : EntryState := match s.roster.ownState with
        | .starting => .present | .active => .present | .leaving => .leaving | .departed => .departed
      let e : RosterEntry := if f = s.own
        then ⟨ownState, ⟨some 0, some 0⟩, none, some s.roster.incarnation, s.roster.masterCapable, false, false, false, s.roster.belief⟩
        else s.entry f
      shows (reportLine (4 + f.val) s)
        [n 0 1 (entryCode e.state), n 1 1 (orFF e.hops.a), n 2 1 (orFF e.hops.b), n 3 1 (orFF (e.route.map port)),
         n 4 2 (e.incarnation.getD 0).toNat, bit 6 0 e.incarnation.isSome, bit 6 1 e.masterCapable, bit 6 2 e.sendGate, bit 6 3 e.acceptGate,
         bit 6 4 e.restartSeen, n 7 1 (frame e.belief)]) ∧
    (∀ t : TapNo, let k := s.tap t; let e := s.region (tapRegion t)
      shows (reportLine (12 + t.val) s)
        [b 0 0 3 (tapCode k.state), b 0 3 1 (halfCode k.half).toNat, bit 0 4 k.strict, bit 0 5 k.dropSeen, bit 0 6 e.paired, bit 0 7 e.valid,
         n 1 1 k.dests.toNat, b 2 0 4 (exponent e), b 2 4 2 (k.level .a), b 2 6 2 (k.level .b), n 3 3 (base e), b 6 0 10 (k.recordLen - 1),
         b 6 10 2 k.preset.val, b 6 12 4 k.armGroup.val, n 8 2 k.recordCount, n 10 2 k.r, n 12 2 k.x, n 14 2 k.pass.toNat, n 16 2 k.passLimit,
         n 18 2 k.queueSize, n 20 2 k.high, n 22 2 k.low, n 24 2 k.stop, n 26 2 k.queue.length,
         n 28 2 (k.queue.filter fun e => e.pending.a).length, n 30 2 (k.queue.filter fun e => e.pending.b).length, n 32 4 k.passesDone,
         n 36 4 k.passLines, n 40 4 k.counters.forwarded, n 44 4 k.counters.dropped, n 48 4 k.counters.marksDropped, n 52 4 k.counters.strays,
         n 56 4 k.counters.lateWrites, n 60 4 k.counters.unadmitted]) ∧
    (∀ m : MirrorNo, let k := s.mirror m; let e := s.region (mirrorRegion m)
      shows (reportLine (20 + 3 * m.val) s)
        [bit 0 0 k.bound, bit 0 1 k.paired, bit 0 2 e.valid, b 1 0 3 k.sourceFrame.val, b 1 4 3 k.sourceTap.val, n 2 1 (exponent e),
         n 3 1 k.fill.toNat, n 4 3 (base e), n 8 2 k.recordLen, n 10 2 k.recordCount, n 12 2 k.stride, n 16 4 k.ageLimit, n 20 4 k.extentStart,
         n 24 4 k.extentLength, n 28 4 k.counters.outOfShape, n 32 4 k.counters.abandoned, n 36 4 k.counters.absentReads,
         n 40 4 k.counters.staleReads, n 44 4 k.counters.ignoredMarks, n 48 4 k.counters.writes] ∧
      ∀ h : Half, let x := k.half h
        shows (reportLine (21 + 3 * m.val + (match h with | .even => 0 | .odd => 1)) s)
          ([n 0 1 (halfStateCode x.state), bit 1 0 x.startStamp.isSome, bit 1 1 x.endStamp.isSome, bit 1 2 x.forwarded.isSome, n 2 2 x.pass.toNat,
            n 4 4 x.received] ++ (x.startStamp.map (stamp 8)).getD [] ++ (x.endStamp.map (stamp 18)).getD [] ++ [n 28 4 (x.forwarded.getD 0)])) ∧
    (let k := s.channel; let map := k.map
      shows (reportLine 44 s)
        [n 0 1 (rankCode k.ranks[0]), n 1 1 (rankCode k.ranks[1]), n 2 1 (k.readCas.getD 0), n 3 1 ((k.additive.map additiveCode).getD 0),
         n 4 1 (k.writeCas.getD 0), bit 5 0 k.readCas.isSome, bit 5 1 k.additive.isSome, bit 5 2 k.writeCas.isSome,
         bit 5 3 (k.readCas.isSome && k.additive.isSome && k.writeCas.isSome), bit 5 4 (map.isSome && s.roster.ownState != .starting),
         bit 5 5 k.lastFault.isSome, n 6 1 ((map.map AddressMap.ranks).getD 0), n 7 1 ((map.map AddressMap.banks).getD 0),
         n 8 1 ((map.map AddressMap.rowBits).getD 0), n 9 1 ((map.map fun m => orderCode m.order).getD 0),
         n 10 1 ((k.lastFault.map fun f => decodeFaultCode f.1).getD 0), n 11 1 ((k.lastFault.map fun f => orFF (f.2.map BitVec.toNat)).getD 0),
         n 12 4 k.decodeFaults, n 16 4 k.unservedReads, n 20 4 k.missedWrites]) ∧
    (∀ k : Fin 4, shows (reportLine (45 + k.val) s) (([0, 1, 2, 3] : List (Fin 4)).flatMap fun i =>
      match s.reporter.results[4 * k.val + i.val] with
      | none => []
      | some r => [n (16 * i.val) 4 r.number, n (16 * i.val + 4) 2 r.tag.toNat, n (16 * i.val + 6) 2 r.code.toNat,
          n (16 * i.val + 8) 1 (resultCode r.result)])) ∧
    (∀ k : Fin 8, shows (reportLine (49 + k.val) s) (([0, 1, 2, 3] : List (Fin 4)).flatMap fun i =>
      match s.reporter.events[4 * k.val + i.val] with
      | none => []
      | some e => [n (16 * i.val) 2 (e.number % 2 ^ 16), b (16 * i.val + 2) 0 4 e.info.shownKind.1, b (16 * i.val + 2) 4 3 e.stamp.quality.toNat,
          n (16 * i.val + 3) 1 e.info.shownKind.2, n (16 * i.val + 4) 6 (e.stamp.time.toNat % 2 ^ 48)] ++ e.info.shownDetail (16 * i.val))) ∧
    (let o := s.orders; let k := o.counters
      shows (reportLine 57 s)
        ([b 0 0 3 o.pending.length, bit 0 3 o.resendTimer.isSome] ++ (eight.map fun f => bit 1 f.val o.applied[f].isSome) ++
          ((o.pending.take 4).zipIdx.flatMap fun e => [n (2 + 3 * e.2) 2 e.1.seq.toNat, b (4 + 3 * e.2) 0 2 (rackKindCode e.1.directive),
            b (4 + 3 * e.2) 2 2 (statusCode e.1.status)]) ++
          [n 14 2 o.nextSeq.toNat, n 16 4 o.nextRackSeq, n 20 4 ((o.lastOrder.map Prod.fst).getD 0), n 24 1 (frame (o.lastOrder.map Prod.snd))] ++
          (eight.map fun f => n (25 + 2 * f.val) 2 (o.applied[f].getD 0).toNat) ++
          [n 41 3 k.applied, n 44 3 k.duplicates, n 47 3 k.ordered, n 50 3 k.refusals, n 53 3 k.skippedTaps, n 56 3 k.lateArms,
           n 59 3 k.malformed])) ∧
    (∀ p : Port, let k := (s.port p).counters
      shows (reportLine (58 + port p) s) ((List.zipIdx [k.received, k.crcErrors, k.malformed, k.hopLimited, k.notJoined, k.ownOrigin,
        k.duplicates, k.unroutable, k.turnedBack, k.unaccepted, k.relayDrops, k.controlDrops, k.flushes, k.sent, k.lostInFlight,
        k.trainingFailures]).map fun v => n (4 * v.2) 4 v.1))

/-! ### Part reset and start-up -/

/-- R20, R21, R33, R59, R61, R90, R113, R116, R135, R137, R157, R171, R183, R189: every field of every block after part reset (the own
roster entry is read from the own fields beside the list, R90). The model's choices in it: that an unwritten byte of the store reads as 0
(notes/assumptions/4.md); that the incarnation and the held count are 0, and the part neither master-capable nor auto-admitting, until the
load sets them (notes/assumptions/37.md); that the signal of a cable is a pin that a part reset keeps (notes/assumptions/1.md); that
Channel Reset is released (notes/assumptions/32.md); that the channel's outputs idle (notes/assumptions/32.md and 35.md); and the queue of
waiting commands (notes/assumptions/2.md). -/
def Obligations.PartResetClearsEveryBlock : Prop :=
  ∀ (s : State) (frame : FrameNo) (disableA disableB : Bool), ∃ t, exec (.partReset frame disableA disableB) s = .next t ∧
    t.channel = {
      ranks := Vector.replicate 2 .active, banks := Vector.replicate 32 .closed, readCas := none, additive := none, writeCas := none,
      map := none, decodeFaults := 0, unservedReads := 0, missedWrites := 0, lastFault := none, resetAsserted := false, inFlight := [] } ∧
    (∀ i, t.region i = { valid := false, base := 0, size := 0, paired := false }) ∧
    (∀ k, t.tap k = {
      state := .unbound, recordLen := 0, recordCount := 0, preset := 0, dests := 0, queueSize := 0, high := 0, low := 0, stop := 0,
      strict := false, passLimit := 0, armGroup := 0, armTime := 0, waiting := [], half := .even, r := 0, x := 0, pass := 0,
      passLines := 0, dropSeen := false, passesDone := 0, queue := [], counters := ⟨0, 0, 0, 0, 0, 0⟩ }) ∧
    t.tapEngine.presets = Vector.replicate 4 1 ∧
    (let half : HalfRecord := {
      state := .empty, pass := 0, present := [], received := 0, startStamp := none, endStamp := none, forwarded := none }
     ∀ m, t.mirror m = {
      bound := false, sourceFrame := 0, sourceTap := 0, paired := false, recordLen := 0, recordCount := 0, stride := 0, fill := 0,
      ageLimit := 0, extentStart := 0, extentLength := 0, evenHalf := half, oddHalf := half, counters := ⟨0, 0, 0, 0, 0, 0⟩ }) ∧
    t.mirrorStore.extents = [] ∧ t.mirrorStore.store = [] ∧
    (∀ p, t.port p = {
      state := if (match p with | .a => disableA | .b => disableB) then .disabled else .dark
      cause := .none, attempt := 1, neighbour := none, errorScore := 0, goodRun := 0, relay := [], control := [], slotRequest := none,
      slotReply := none, lastGranted := 8, inTransmission := none, counters := ⟨0, 0, 0, 0, 0, 0, 0, 0, 0, 0, 0, 0, 0, 0, 0, 0⟩,
      trainingTimer := none, helloTimer := none, signal := (s.port p).signal }) ∧
    t.link.broadcastSeq = 0 ∧ t.link.unsentOwn = 0 ∧
    t.roster = {
      ownState := .starting
      entries := Vector.replicate 8 {
        state := .absent, hops := ⟨none, none⟩, route := none, incarnation := none, masterCapable := false, sendGate := false,
        acceptGate := false, restartSeen := false, belief := none }
      incarnation := 0, heldCount := 0, masterCapable := false, autoAdmit := false, belief := none, phase := .none, waitSet := 0,
      leaveTag := none, refreshTimer := none, recent := [] } ∧
    t.clock = {
      time := 0, trim := 0, integral := 0, lock := .freeRun, upPort := none, outstanding := none, requestNumber := 0, lastOffset := 0,
      lastDelay := 0, lastQuality := none, missed := 0, within := 0, outside := 0, holdoverAge := 0, beenMaster := false
      settings := { k := 18, p := 2, i := 6, step := 2000, lock := 16, holdover := 60000, corr := ⟨0, 0⟩, masterTrim := 0 }
      counters := ⟨0, 0, 0, 0⟩, exchangeTimer := none, exponent := 18 } ∧
    t.orders = {
      pending := [], nextSeq := 0, nextRackSeq := 0, lastOrder := none, applied := Vector.replicate 8 none, resendTimer := none,
      counters := ⟨0, 0, 0, 0, 0, 0, 0⟩ } ∧
    t.reporter = {
      results := Vector.replicate 16 none, resultsPosted := 0, directivesTaken := 0, partialDirectives := 0,
      events := Vector.replicate 32 none, eventCount := 0, acknowledged := 0, attention := false,
      straps := ⟨frame, ⟨disableA, disableB⟩⟩, loadStatus := .loading, loadStep := .firstBlock, stored := none, configFaults := 0,
      countUnreadable := false, writeInProgress := none, writeWaiting := none } ∧
    t.toDram = none ∧ t.toController = .idle ∧ t.pending = s.pending

/-- R14, R28, R61, R89, R110, R116, R120, R184 to R187: what an absent EEPROM and the readings of the configuration block and of the restart count bring, each stored
value out of its range with its fault at the distribution; the restart-count writes of a started part: one at a time, the newest
waiting; and the four endings of the start-up, which leave the part Active, entries 0 and 1 filled as R28 places them, and each Dark port
with a signal in Training. -/
def Obligations.EepromEventsDriveTheLoad : Prop :=
  (∀ (s : State) (block : Option (BitVec 448)) (c : StoredConfig) (count : Word16),
      let fault : ConfigFault → BitVec 5 → State → State := fun cause bit v => raise (.configurationFault cause) { v with
        reporter := { v.reporter with configFaults := v.reporter.configFaults ||| bit } }
      (s.reporter.loadStep = .firstBlock → s.roster.phase = .none → ∃ t, exec .eepromAbsent s = .next t ∧
        t.roster.ownState = .active ∧ t.reporter.loadStep = .finished ∧ t.reporter.loadStatus = .absent ∧ t.roster.incarnation = 0 ∧
        t.roster.heldCount = 0 ∧ t.reporter.writeInProgress = s.reporter.writeInProgress ∧ t.reporter.stored = none ∧
        t.reporter.configFaults = s.reporter.configFaults ||| 12 ∧
        t.channel = { s.channel with map := some ⟨2, 16, 17, .c⟩ } ∧ t.region 0 = ⟨true, 0, 16384, false⟩ ∧
        t.region 1 = ⟨true, 16384, 8192, false⟩ ∧ t.clock.settings = ⟨18, 2, 6, 2000, 16, 60000, ⟨0, 0⟩, 0⟩ ∧
        t.roster.masterCapable = false ∧ t.roster.autoAdmit = false) ∧
      (s.reporter.loadStep = .firstBlock ∨ s.reporter.loadStep = .secondBlock → block.bind decodeBlock = some c →
        exec (.configurationBlockRead block) s = .next { s with
          reporter := { s.reporter with loadStatus := .loaded, stored := some c, loadStep := .restartCount } }) ∧
      (s.reporter.loadStep = .firstBlock → block.bind decodeBlock = none →
        exec (.configurationBlockRead block) s = .next { s with reporter := { s.reporter with loadStep := .secondBlock } }) ∧
      (s.reporter.loadStep = .secondBlock → block.bind decodeBlock = none →
        exec (.configurationBlockRead block) s = .next (raise (.configurationFault .configUnreadable) { s with
          reporter := { s.reporter with loadStatus := .unreadable, stored := none, loadStep := .restartCount,
                                        configFaults := s.reporter.configFaults ||| 16 } })) ∧
      (s.reporter.loadStep = .restartCount → s.reporter.stored = none →
        exec (.restartCountRead (some count)) s = .next { s with
          channel := { s.channel with map := some ⟨2, 16, 17, .c⟩ }
          roster := { s.roster with masterCapable := false, autoAdmit := false }
          clock := { s.clock with settings := ⟨18, 2, 6, 2000, 16, 60000, ⟨0, 0⟩, 0⟩ }
          reporter := { s.reporter with loadStep := .writeBack, writeInProgress := some (count + 1) } }) ∧
      ((c.map = none ↔ ¬ ((c.ranks.toNat = 1 ∨ c.ranks.toNat = 2) ∧ (c.banks.toNat = 8 ∨ c.banks.toNat = 16) ∧ 14 ≤ c.rowBits.toNat ∧
          c.rowBits.toNat ≤ 18 ∧ c.order.toNat ≤ 3)) ∧
        ∀ m, c.map = some m → m.ranks = c.ranks.toNat ∧ m.banks = c.banks.toNat ∧ m.rowBits = c.rowBits.toNat ∧
          (m.order, c.order) ∈ [(MapOrder.a, (0 : Byte)), (.b, 1), (.c, 2), (.d, 3)]) ∧
      (s.reporter.loadStep = .restartCount → s.reporter.stored = some c →
        let m := c.map.getD ⟨2, 16, 17, .c⟩
        let u := { s with channel := { s.channel with map := some m } }
        let v := if c.map = none then fault .addressMap 1 u else u
        let done : State → State := fun w => { w with
          roster := { s.roster with masterCapable := c.masterCapable, autoAdmit := c.autoAdmit }
          clock := RackTime.setSettings c.timeArgs s.clock
          reporter := { w.reporter with loadStep := .writeBack, writeInProgress := some (count + 1) } }
        (c.faulty m → exec (.restartCountRead (some count)) s = .next (done (fault .regionPlacement 2 v))) ∧
        (¬ c.faulty m → exec (.restartCountRead (some count)) s = .next (done v)))) ∧
  (∀ (s : State) (n : Word16), s.reporter.loadStep = .finished → s.reporter.writeInProgress = some n →
      exec .restartCountWriteDone s = .next { s with
        reporter := { s.reporter with writeInProgress := s.reporter.writeWaiting, writeWaiting := none } } ∧
      ∃ u, u = raise (.configurationFault .restartCount) { s with
          reporter := { s.reporter with configFaults := s.reporter.configFaults ||| 4 } } ∧
        exec .restartCountWriteFail s = .next { u with
          reporter := { u.reporter with writeInProgress := s.reporter.writeWaiting, writeWaiting := none } }) ∧
  (∀ (s : State) (c : Instr) (incarnation : Word16), leaveRight s → s.roster.phase = .none → s.roster.belief = none →
      (∀ f, s.entry f = RosterEntry.absent) → s.orders.pending = [] →
      (c = .eepromAbsent ∧ s.reporter.loadStep = .firstBlock ∧ incarnation = 0 ∨
        c = .restartCountRead none ∧ s.reporter.loadStep = .restartCount ∧ incarnation = 0 ∨
        c = .restartCountWriteDone ∧ s.reporter.loadStep = .writeBack ∧ s.reporter.writeInProgress = some incarnation ∨
        c = .restartCountWriteFail ∧ s.reporter.loadStep = .writeBack ∧ s.reporter.writeInProgress.isSome = true ∧ incarnation = 0) →
      let stored := if c = .eepromAbsent then none else s.reporter.stored
      let distributed := s.reporter.loadStep = .writeBack
      let map := if distributed then s.channel.map else some ((stored.bind StoredConfig.map).getD ⟨2, 16, 17, .c⟩)
      ∃ t, exec c s = .next t ∧ t.reporter.stored = stored ∧ t.channel = { s.channel with map := map } ∧
        (∀ i : Fin 18, 2 ≤ i.val → t.region i = s.region i) ∧
        (stored = none → t.region 0 = ⟨true, 0, 16384, false⟩ ∧ t.region 1 = ⟨true, 16384, 8192, false⟩) ∧
        (∀ k m, stored = some k → map = some m →
          (k.faulty m → t.region 0 = ⟨true, 0, 16384, false⟩ ∧ (t.region 1).valid = false) ∧
          (¬ k.faulty m → t.region 0 = ⟨true, k.directiveBase.toNat, k.directiveSize.toNat, false⟩ ∧
            t.region 1 = ⟨true, k.reportBase.toNat, 8192, false⟩)) ∧
        (distributed → t.roster.masterCapable = s.roster.masterCapable ∧ t.roster.autoAdmit = s.roster.autoAdmit ∧
          t.clock.settings = s.clock.settings) ∧
        (¬ distributed → t.roster.masterCapable = (stored.map StoredConfig.masterCapable).getD false ∧
          t.roster.autoAdmit = (stored.map StoredConfig.autoAdmit).getD false ∧
          (stored = none → t.clock.settings = ⟨18, 2, 6, 2000, 16, 60000, ⟨0, 0⟩, 0⟩) ∧
          ∀ k, stored = some k → t.clock.settings = (RackTime.setSettings k.timeArgs s.clock).settings) ∧ t.roster.ownState = .active ∧ t.reporter.loadStep = .finished ∧
        t.roster.incarnation = incarnation ∧ t.roster.heldCount = incarnation ∧ (t.region 0).valid = true ∧
        t.clock.exchangeTimer = some (2 ^ t.clock.settings.k) ∧ t.clock.exponent = t.clock.settings.k ∧
        t.roster.belief = (if t.roster.masterCapable then some s.own else none) ∧
        (∀ p, t.portView p = (if (s.port p).state = .dark ∧ (s.port p).signal = true
          then (.training, .none, 1, (s.port p).neighbour, some 2500000, none) else s.portView p)) ∧
        t.reporter.attention = decide (t.reporter.acknowledged < t.reporter.eventCount))

/-! ### Directives -/

/-- R172, R173, R21: a directive's command is its record taken, or nothing while the Directive region is not valid; that the command
stands for a full line handed on is the model's choice (notes/assumptions/7.md). A code of no directive and a partial line. -/
def Obligations.DirectivesAreTaken : Prop :=
  ∀ (s : State) (c : Instr) (d : Directive) (tag code : Word16) (enabled : Fin 64) (position : BitVec 10),
    (recordOf c = some d → (s.region 0).valid = true → exec c s = .next (dispatch d s.taken)) ∧
    (recordOf c = some d → (s.region 0).valid = false → exec c s = .next s) ∧
    ((s.region 0).valid = true →
      exec (.unknownCode tag code) s = .next (postResult tag code .unknownCode s.taken) ∧
      exec (.partialDirective enabled position) s = .next (raise (.partialDirective enabled.val position.toNat) (s.onReporter fun r =>
        { r with partialDirectives := min (r.partialDirectives + 1) (2 ^ 32 - 1) })))

/-- R22, R25, R26, R35, R36: Bind Tap, by the first of its checks that fails. That within R26's first step the BadArgument of R35 comes
before the Busy of R36, also for an empty destination set at a bound tap, is the model's reading (notes/assumptions/30.md). -/
def Obligations.BindTapChecksInOrder : Prop :=
  ∀ (s : State) (tag : Word16) (a : BindTapArgs), (s.region 0).valid = true →
    let c : Instr := .bindTap tag a
    let refused := fun r => exec c s = .next (postResult tag 0x01 r s.taken)
    let dests := a.dests &&& ~~~(1#8 <<< s.own.val)
    (7 < a.tap.toNat ∨ 3 < a.preset.toNat ∨ 15 < a.armGroup.toNat ∨ dests = 0 → refused .badArgument) ∧
    ∀ (t : TapNo) (preset : Fin 4) (group : Fin 16), a.tap.toNat = t.val → a.preset.toNat = preset.val →
      a.armGroup.toNat = group.val → dests ≠ 0 →
      let stride := s.tapEngine.presets[preset]
      let region : Region := ⟨true, a.base.toNat, 4096 * 4 ^ a.sizeExp.toNat, a.paired⟩
      let q := max 8 (min a.queueSize.toNat 256)
      let fits := s.regionAllowed a.sizeExp.toNat a.base.toNat ∧
        shapeAllowed a.recordLen.toNat a.recordCount.toNat stride a.sizeExp.toNat a.paired
      ((s.tap t).state ≠ .unbound → refused .busy) ∧
      ((s.tap t).state = .unbound → ¬ fits → refused .badArgument) ∧
      ((s.tap t).state = .unbound → fits → ¬ s.regionApart region → refused .overlap) ∧
      ((s.tap t).state = .unbound → fits → s.regionApart region → 512 < s.reserved + q → refused .noSpace) ∧
      ((s.tap t).state = .unbound → fits → s.regionApart region → s.reserved + q ≤ 512 →
        ∃ k : Tap, exec c s = .next (postResult tag 0x01 .done ((s.taken.onTap t fun _ => k).setRegion (tapRegion t) region)) ∧
          k = { Tap.unbound with
            state := .idle, recordLen := a.recordLen.toNat, recordCount := a.recordCount.toNat, preset := preset, dests := dests
            queueSize := q, high := min a.high.toNat q, low := min a.low.toNat (min a.high.toNat q)
            stop := min a.stop.toNat (min a.low.toNat (min a.high.toNat q))
            strict := a.strict, passLimit := a.passLimit.toNat, armGroup := group })

/-- R27, R33, R38, R41, R42, R43, R49: Unbind Tap, Stop Tap and Halt Tap by the tap's state. That the Done of a Halt
stands before those of the waiting Stop Taps is the model's choice (notes/assumptions/17.md), and so is that the directive's own result
stands before the Done of a Leave Rack that the drained tap lets complete (52.md). -/
def Obligations.StopHaltAndUnbindEndATap : Prop :=
  (∀ (s : State) (tag : Word16) (tap : Byte), (s.region 0).valid = true →
      let c : Instr := .unbindTap tag tap
      let refused := fun r => exec c s = .next (postResult tag 0x02 r s.taken)
      (7 < tap.toNat → refused .badArgument) ∧
      ∀ t : TapNo, tap.toNat = t.val →
        ((s.tap t).state = .unbound → refused .notBound) ∧
        ((s.tap t).state = .armed ∨ (s.tap t).state = .running ∨ (s.tap t).state = .draining → refused .busy) ∧
        ((s.tap t).state = .idle ∨ (s.tap t).state = .halted →
          ∃ u, exec c s = .next u ∧ u.tap t = Tap.unbound ∧ u.region (tapRegion t) = ⟨false, 0, 0, false⟩ ∧
            (∀ i, i ≠ tapRegion t → u.region i = s.region i) ∧ u.channel = s.channel ∧ u.mirrorStore = s.mirrorStore ∧
            u.roster.entries = s.roster.entries ∧ u.clock.time = s.clock.time)) ∧
  (∀ (s : State) (tag : Word16) (tap : Byte), (s.region 0).valid = true →
      let stop : Instr := .stopTap tag tap
      let halt : Instr := .haltTap tag tap
      let u := s.taken
      (7 < tap.toNat → exec stop s = .next (postResult tag 0x05 .badArgument u) ∧ exec halt s = .next (postResult tag 0x06 .badArgument u)) ∧
      ∀ t : TapNo, tap.toNat = t.val →
        let st := (s.tap t).state
        let waits : State → State := fun v => postResult tag 0x05 .accepted (v.onTap t fun k => { k with waiting := k.waiting ++ [tag] })
        (st = .unbound → exec stop s = .next (postResult tag 0x05 .notBound u) ∧ exec halt s = .next (postResult tag 0x06 .notBound u)) ∧
        (st = .idle → exec stop s = .next (postResult tag 0x05 .done u) ∧ exec halt s = .next (conclude u (postResult tag 0x06 .done u))) ∧
        (st = .armed →
          exec stop s = .next (conclude u (postResult tag 0x05 .done (u.onTap t fun k => { k with state := .idle }))) ∧
          exec halt s = .next (conclude u (postResult tag 0x06 .done (u.onTap t fun k => { k with state := .idle })))) ∧
        (st = .running →
          exec stop s = .next (conclude u (waits ((abandonPass t u).onTap t fun k => { k with state := .draining })))) ∧
        (st = .draining → (s.tap t).waiting.length < 4 → exec stop s = .next (conclude u (waits u))) ∧
        (st = .draining → 4 ≤ (s.tap t).waiting.length → exec stop s = .next (postResult tag 0x05 .busy u)) ∧
        (st = .running ∨ st = .draining →
          exec halt s = .next (conclude u (postResult tag 0x06 .done
            ((abandonPass t (u.onTap t fun k => { k with queue := [] })).onTap t fun k => { k with state := .draining })))) ∧
        (st = .halted →
          exec stop s = .next (conclude u (postResult tag 0x05 .done (u.onTap t fun k => { k with state := .idle, queue := [] }))) ∧
          exec halt s = .next (conclude u (postResult tag 0x06 .done (u.onTap t fun k => { k with queue := [] })))))

/-- R39, R40, R50: Start Tap and Arm Tap, by the first of their checks that fails. -/
def Obligations.StartAndArmCheckInOrder : Prop :=
  ∀ (s : State) (tag : Word16) (tap : Byte) (time : TimeValue), (s.region 0).valid = true →
    let start : Instr := .startTap tag tap
    let arm : Instr := .armTap tag tap time
    let refused := fun r => exec start s = .next (postResult tag 0x04 r s.taken) ∧ exec arm s = .next (postResult tag 0x03 r s.taken)
    (7 < tap.toNat → refused .badArgument) ∧
    ∀ t : TapNo, tap.toNat = t.val →
      let k := s.tap t
      let running : Tap :=
        { k with
          state := .running, r := 0, x := 0, passLines := 0, dropSeen := false, passesDone := 0
          pass := if k.r = 0 ∧ k.x = 0 then k.pass else k.pass + 1
          half := if (k.r = 0 ∧ k.x = 0) ∨ (s.region (tapRegion t)).paired = false then k.half else k.half.flip }
      (k.state = .unbound → refused .notBound) ∧
      (k.state ≠ .unbound → s.away = true → refused .leaving) ∧
      (k.state ≠ .unbound → s.away = false → k.state ≠ .idle → refused .busy) ∧
      (k.state = .idle → s.away = false →
        exec start s = .next (postResult tag 0x04 .done (s.taken.onTap t fun _ => running)) ∧
        (s.clock.time / 2 ^ 24 < time.toNat →
          exec arm s = .next (postResult tag 0x03 .done (s.taken.onTap t fun _ => { k with state := .armed, armTime := time }))) ∧
        (time.toNat ≤ s.clock.time / 2 ^ 24 →
          exec arm s = .next (postResult tag 0x03 .done (s.taken.onTap t fun _ => { running with armTime := time }))))

/-- R45 to R49, R51 to R53: what a write does to the tap it is routed to, by the tap's state and its cursor. -/
def Obligations.TapWritesFollowTheCursor : Prop :=
  ∀ (s : State) (t : TapNo) (c : Coord) (data : Line) (enables : BitVec 64),
    let k := s.tap t
    let u := tapWrite t c data enables s
    let one : Nat → Nat := fun n => min (n + 1) (2 ^ 32 - 1)
    let here := enables = BitVec.allOnes 64 ∧ c.inShape = true ∧ c.half = k.half ∧ c.r = k.r ∧ c.x = k.x
    let dests : Port → Byte := fun p => frameSet fun d => inSet k.dests d && decide (d ≠ s.own) && (s.entry d).state == .present &&
      (s.entry d).sendGate && (s.entry d).route == some p && s.joined p
    let entry : EntryLoad → QueueEntry := fun load =>
      ⟨k.pass, k.half, s.stamp, load, ⟨dests .a, dests .b⟩, ⟨dests .a != 0, dests .b != 0⟩⟩
    let admitted := dests .a ≠ 0 ∨ dests .b ≠ 0
    let last := k.recordLen ≤ k.x + 1 ∧ k.recordCount ≤ k.r + 1
    let offered : Tap := if ¬ admitted then { k with counters := { k.counters with unadmitted := one k.counters.unadmitted } }
      else if k.queue.length < k.queueSize - 2 then
        { k with queue := k.queue ++ [entry (.line k.r k.x data)], passLines := one k.passLines
                 counters := { k.counters with forwarded := one k.counters.forwarded } }
      else { k with dropSeen := true, counters := { k.counters with dropped := one k.counters.dropped } }
    let marked : MarkKind → Tap → Tap := fun kind q => if admitted ∧ q.queue.length < q.queueSize
      then { q with queue := q.queue ++ [entry (.mark kind q.passLines)] }
      else { q with counters := { q.counters with marksDropped := one q.counters.marksDropped } }
    let ended : Tap := marked .passEnd offered
    u = { s with tapEngine := u.tapEngine, reporter := u.reporter } ∧ u.tapEngine.presets = s.tapEngine.presets ∧
    (∀ j, j ≠ t → u.tap j = s.tap j) ∧
    (k.state = .running → here →
      (k.x + 1 < k.recordLen → u.tap t = { offered with x := k.x + 1 }) ∧
      (k.recordLen ≤ k.x + 1 → k.r + 1 < k.recordCount → u.tap t = { offered with r := k.r + 1, x := 0 }) ∧
      (last → u.tap t = { ended with
        pass := k.pass + 1, half := if (s.region (tapRegion t)).paired then k.half.flip else k.half, r := 0, x := 0, passLines := 0
        dropSeen := false, passesDone := one k.passesDone
        state := if k.passLimit ≠ 0 ∧ one k.passesDone = k.passLimit then .draining else .running }) ∧
      u.reporter = (if admitted ∧ k.queueSize - 2 ≤ k.queue.length ∧ k.dropSeen = false
        then (raise (.linesDropped t k.pass) s).reporter else s.reporter)) ∧
    (k.state = .running → ¬ here →
      let strayed : Tap := { k with counters := { k.counters with strays := one k.counters.strays } }
      (k.strict = false → u.tap t = strayed ∧ u.reporter = s.reporter) ∧
      (k.strict = true → u.reporter = (raise (.tapHalted t k.pass) s).reporter ∧
        u.tap t = { (if k.r = 0 ∧ k.x = 0 then strayed else marked .passAbandoned strayed) with state := .halted })) ∧
    (k.state = .draining → u = s.onTap t fun q => { q with counters := { q.counters with lateWrites := one q.counters.lateWrites } }) ∧
    (k.state ≠ .running → k.state ≠ .draining → u = s)

/-- R25, R34: Set Stride Presets. -/
def Obligations.PresetsChangeTogether : Prop :=
  ∀ (s : State) (tag : Word16) (a : PresetArgs), (s.region 0).valid = true →
    let c : Instr := .setStridePresets tag a
    let named : Vector Word16 4 := #v[a.p0, a.p1, a.p2, a.p3]
    let value : Fin 4 → Nat := fun i => if a.set.getLsbD i.val then max 1 named[i].toNat else s.tapEngine.presets[i]
    let touches : TapNo → Prop := fun t => (s.tap t).state ≠ .unbound ∧ value (s.tap t).preset ≠ s.tapEngine.presets[(s.tap t).preset]
    let busy := ∃ t, touches t ∧ ((s.tap t).state = .armed ∨ (s.tap t).state = .running ∨ (s.tap t).state = .draining)
    let misfits := ∃ t, touches t ∧ (value (s.tap t).preset < (s.tap t).recordLen ∨
      shapeFits (s.tap t).recordLen (s.tap t).recordCount (value (s.tap t).preset)
        (halfLines (s.region (tapRegion t)).size (s.region (tapRegion t)).paired) = false)
    (busy → exec c s = .next (postResult tag 0x07 .busy s.taken)) ∧
    (¬ busy → misfits → exec c s = .next (postResult tag 0x07 .badArgument s.taken)) ∧
    (¬ busy → ¬ misfits → exec c s = .next (postResult tag 0x07 .done (s.taken.onTapEngine fun e => { e with presets := Vector.ofFn value })))

/-- R22, R25, R26, R27, R137 to R142: Bind Mirror, by the first of its checks that fails, and Unbind Mirror. -/
def Obligations.MirrorsAreBoundAndUnbound : Prop :=
  (∀ (s : State) (tag : Word16) (a : BindMirrorArgs), (s.region 0).valid = true →
      let c : Instr := .bindMirror tag a
      let refused := fun r => exec c s = .next (postResult tag 0x10 r s.taken)
      (7 < a.mirror.toNat ∨ 7 < a.sourceFrame.toNat ∨ 7 < a.sourceTap.toNat → refused .badArgument) ∧
      ∀ (m : MirrorNo) (f : FrameNo) (t : TapNo), a.mirror.toNat = m.val → a.sourceFrame.toNat = f.val → a.sourceTap.toNat = t.val →
        let region : Region := ⟨true, a.base.toNat, 4096 * 4 ^ a.sizeExp.toNat, a.paired⟩
        let length := a.recordLen.toNat * a.recordCount.toNat * (if a.paired then 2 else 1)
        let free := (s.mirror m).bound = false ∧ f ≠ s.own ∧
          ∀ n, (s.mirror n).bound = true → (s.mirror n).sourceFrame = f → (s.mirror n).sourceTap ≠ t
        let fits := s.regionAllowed a.sizeExp.toNat a.base.toNat ∧
          shapeAllowed a.recordLen.toNat a.recordCount.toNat a.stride.toNat a.sizeExp.toNat a.paired
        (¬ free → refused .busy) ∧
        (free → ¬ fits → refused .badArgument) ∧
        (free → fits → ¬ s.regionApart region → refused .overlap) ∧
        (free → fits → s.regionApart region → firstFit s.mirrorStore.extents length = none → refused .noSpace) ∧
        (free → fits → s.regionApart region → ∀ start, firstFit s.mirrorStore.extents length = some start →
          exec c s = .next (postResult tag 0x10 .done (((s.taken.onMirror m fun _ => { Mirror.unbound with
            bound := true, sourceFrame := f, sourceTap := t, paired := a.paired, recordLen := a.recordLen.toNat
            recordCount := a.recordCount.toNat, stride := a.stride.toNat, fill := a.fill, ageLimit := a.ageLimit.toNat
            extentStart := start, extentLength := length }).onMirrorStore fun e =>
              { e with extents := insertExtent ⟨m, start, length⟩ e.extents }).setRegion (mirrorRegion m) region)))) ∧
  (∀ (s : State) (tag : Word16) (mirror : Byte), (s.region 0).valid = true →
      let c : Instr := .unbindMirror tag mirror
      (7 < mirror.toNat → exec c s = .next (postResult tag 0x11 .badArgument s.taken)) ∧
      ∀ m : MirrorNo, mirror.toNat = m.val →
        ((s.mirror m).bound = false → exec c s = .next (postResult tag 0x11 .notBound s.taken)) ∧
        ((s.mirror m).bound = true → exec c s = .next (postResult tag 0x11 .done
          (((s.taken.onMirror m fun _ => Mirror.unbound).onMirrorStore fun e =>
            { e with extents := e.extents.filter fun k => k.mirror ≠ m }).setRegion (mirrorRegion m) ⟨false, 0, 0, false⟩))))

/-- R90, R100 to R103: Admit Frame, Bar Frame, Acknowledge Restart and Forget Frame. -/
def Obligations.FrameDirectivesChangeTheirEntry : Prop :=
  (∀ (s : State) (tag : Word16) (frame : Byte), (s.region 0).valid = true →
      let admitting : Instr := .admitFrame tag frame
      let bar : Instr := .barFrame tag frame
      let ack : Instr := .acknowledgeRestart tag frame
      (7 < frame.toNat ∨ frame.toNat = s.own.val →
        exec admitting s = .next (postResult tag 0x20 .badArgument s.taken) ∧ exec bar s = .next (postResult tag 0x21 .badArgument s.taken)) ∧
      (7 < frame.toNat → exec ack s = .next (postResult tag 0x23 .badArgument s.taken)) ∧
      ∀ f : FrameNo, frame.toNat = f.val →
        exec ack s = .next (postResult tag 0x23 .done (s.taken.onEntry f fun e => { e with restartSeen := false })) ∧
        (f ≠ s.own → (s.entry f).state = .absent →
          exec admitting s = .next (postResult tag 0x20 .notMember s.taken) ∧ exec bar s = .next (postResult tag 0x21 .notMember s.taken)) ∧
        (f ≠ s.own → (s.entry f).state ≠ .absent →
          exec admitting s = .next (postResult tag 0x20 .done (s.taken.onEntry f fun e => { e with sendGate := true, acceptGate := true })) ∧
          exec bar s = .next (postResult tag 0x21 .done
            ((if (s.entry f).acceptGate then sourceLeft f s.taken else s.taken).onEntry f fun e =>
              { e with sendGate := false, acceptGate := false })))) ∧
  (∀ (s : State) (tag : Word16) (frame : Byte), (s.region 0).valid = true →
      let c : Instr := .forgetFrame tag frame
      (7 < frame.toNat ∨ frame.toNat = s.own.val → exec c s = .next (postResult tag 0x22 .badArgument s.taken)) ∧
      ∀ f : FrameNo, frame.toNat = f.val → f ≠ s.own →
        ((s.entry f).state ≠ .lost → exec c s = .next (postResult tag 0x22 .busy s.taken)) ∧
        ((s.entry f).state = .lost → ∃ t, exec c s = .next t ∧ t.entry f = ⟨.absent, ⟨none, none⟩, none, none, false, false, false, false, none⟩ ∧
          (∀ g, g ≠ f → t.entry g = s.entry g) ∧ t.orders.applied[f] = none ∧ t.channel = s.channel ∧ t.regions = s.regions ∧
          t.mirrorStore = s.mirrorStore ∧ t.clock.time = s.clock.time))

/-- R90, R99, R101, R143, R150, R151: a source that has left, or whose gate has closed, leaves its Filling halves Stale; a restarted one all
its halves. Nothing else of the halves, of the mirrors' records or of the part changes in these two operations. And at every command: where
an entry leaves Present for Leaving, Departed or Lost, where its accept gate closes, and where it returns to Present with its accept gate
open, exactly its mirrors' Filling halves become Stale; where its incarnation changes, all its halves are Stale, restart seen is set, the
gates stand as auto-admit gives them, and its applied record is clear. -/
def Obligations.LostSourcesLeaveStaleHalves : Prop :=
  (∀ (s : State) (f : FrameNo) (m : MirrorNo) (h : Half),
    let k := s.mirror m
    let hit := k.bound = true ∧ k.sourceFrame = f ∧ (k.paired = true ∨ h = .even)
    sourceLeft f s = { s with mirrorStore := { s.mirrorStore with mirrors := (sourceLeft f s).mirrorStore.mirrors } } ∧
    sourceRestarted f s = { s with mirrorStore := { s.mirrorStore with mirrors := (sourceRestarted f s).mirrorStore.mirrors } } ∧
    (∀ u, u = sourceLeft f s ∨ u = sourceRestarted f s →
      u.mirror m = { k with evenHalf := (u.mirror m).evenHalf, oddHalf := (u.mirror m).oddHalf }) ∧
    (hit → (k.half h).state = .filling → ((sourceLeft f s).mirror m).half h = { k.half h with state := .stale }) ∧
    (hit → (k.half h).state ≠ .filling → ((sourceLeft f s).mirror m).half h = k.half h) ∧
    (hit → ((sourceRestarted f s).mirror m).half h = { k.half h with state := .stale }) ∧
    (¬ hit → ((sourceLeft f s).mirror m).half h = k.half h ∧ ((sourceRestarted f s).mirror m).half h = k.half h)) ∧
  (∀ (s : State) (c : Instr), ∃ t, exec c s = .next t ∧ ∀ (f : FrameNo) (m : MirrorNo) (h : Half),
    let k := s.mirror m
    let old := s.entry f
    let new := t.entry f
    let half := k.half h
    let restarted := old.incarnation ≠ new.incarnation
    let left := old.state = .present ∧ (new.state = .leaving ∨ new.state = .departed ∨ new.state = .lost)
    let closed := old.acceptGate = true ∧ new.acceptGate = false
    let returned := (old.state = .leaving ∨ old.state = .departed ∨ old.state = .lost) ∧ new.state = .present ∧ old.acceptGate = true
    old.state ≠ .absent → new.state ≠ .absent →
      (k.bound = true → k.sourceFrame = f → k.paired = true ∨ h = .even →
        (left ∨ closed ∨ returned → half.state = .filling → (t.mirror m).half h = { half with state := .stale }) ∧
        (left ∨ closed ∨ returned → half.state ≠ .filling → ¬ restarted → (t.mirror m).half h = half) ∧
        (restarted → (t.mirror m).half h = { half with state := .stale })) ∧
      (restarted → new.restartSeen = true ∧ new.acceptGate = s.roster.autoAdmit ∧
        (new.state = old.state ∨ new.state = .present → new.sendGate = s.roster.autoAdmit) ∧
        (new.state ≠ old.state → new.state ≠ .present → new.sendGate = false) ∧ t.orders.applied[f] = none))

/-- R44, R71, R81, R88, R93, R104, R108, R161, R163: Leave Rack, with the handover of a master, and Rejoin Rack, and the frames that each
makes; that the Roster Update follows the Rack Order is the model's choice (notes/assumptions/16.md). -/
def Obligations.LeaveAndRejoinChangeTheOwnState : Prop :=
  (∀ (s : State) (tag : Word16) (force : Bool), (s.region 0).valid = true → leaveRight s →
      let c : Instr := .leaveRack tag force
      (s.roster.ownState ≠ .active → exec c s = .next (postResult tag 0x24 .busy s.taken)) ∧
      (s.roster.ownState = .active → s.roster.belief = some s.own → s.successor = none → force = false →
        exec c s = .next (postResult tag 0x24 .noSuccessor s.taken)) ∧
      (s.roster.ownState = .active → (s.roster.belief ≠ some s.own ∨ s.successor ≠ none ∨ force = true) →
        ∃ t, exec c s = .next t ∧ (t.roster.ownState = .leaving ∨ t.roster.ownState = .departed) ∧ t.roster.belief ≠ some s.own ∧
          (∀ k, (t.tap k).state ≠ .armed ∧ (t.tap k).state ≠ .running) ∧
          (∀ f, s.roster.belief = some s.own → s.successor = some f → t.roster.belief = some f ∧ t.orders.nextSeq = s.orders.nextSeq + 1 ∧
            t.orders.nextRackSeq = min (s.orders.nextRackSeq + 1) (2 ^ 32 - 1) ∧
            t.orders.counters.ordered = min (s.orders.counters.ordered + 1) (2 ^ 32 - 1) ∧
            (s.newOrder s.own s.orders.nextSeq = true → t.orders.applied[s.own] = some s.orders.nextSeq ∧
              t.orders.lastOrder = some (s.orders.nextRackSeq, s.own)) ∧
            (s.newOrder s.own s.orders.nextSeq = false → t.orders.applied = s.orders.applied ∧ t.orders.lastOrder = s.orders.lastOrder ∧
              t.orders.counters.duplicates = min (s.orders.counters.duplicates + 1) (2 ^ 32 - 1))) ∧
          (s.orders.pending = [] → (∀ k, (s.tap k).state = .idle ∨ (s.tap k).state = .unbound) ∨
              (∀ p, (s.port p).inTransmission.isSome = true) →
            let claim : FrameNo → Word16 → Body := fun f seq => .rackOrder
              ⟨seq, BitVec.ofNat 32 s.orders.nextRackSeq, eightByte s.own, s.orders.nextSeq, (RackDirective.masterClaim f).block⟩
            (∀ f, s.roster.belief = some s.own → s.successor = some f → Told s.control [claim f] [] s t) ∧
            (s.roster.belief ≠ some s.own ∨ s.successor = none → Told s.control [] [] s t)) ∧
          t.roster.entries = s.roster.entries ∧ t.channel = s.channel ∧ t.regions = s.regions ∧ t.mirrorStore = s.mirrorStore)) ∧
  (∀ (s : State) (tag : Word16), (s.region 0).valid = true → leaveRight s →
      (s.roster.ownState ≠ .departed → exec (.rejoinRack tag) s = .next (postResult tag 0x25 .busy s.taken)) ∧
      (s.roster.ownState = .departed → ∃ t, exec (.rejoinRack tag) s = .next t ∧ t.roster.ownState = .active ∧
        t.roster.incarnation = s.roster.incarnation ∧ t.roster.entries = s.roster.entries ∧ t.mirrorStore = s.mirrorStore ∧
        (s.orders.pending = [] → Told s.control [] [] s t) ∧ t.channel = s.channel ∧ t.regions = s.regions))

/-- R54, R62, R66, R67, R68, R81, R91, R93, R97, R110: Port Control. That Disable, and Enable at a port without a signal, keep the port's
attempt and neighbour, and that Disable clears its fault cause, is the model's reading (notes/assumptions/18.md). -/
def Obligations.PortControlMovesItsPort : Prop :=
  ∀ (s : State) (tag : Word16) (port : Byte), (s.region 0).valid = true →
    let enable : Instr := .portEnable tag port
    let disable : Instr := .portDisable tag port
    let retrain : Instr := .portRetrain tag port
    (1 < port.toNat → ∀ c, c = enable ∨ c = disable ∨ c = retrain → exec c s = .next (postResult tag 0x30 .badArgument s.taken)) ∧
    ∀ p : Port, port.toNat = portCode p →
      let r := s.port p
      (r.state = .disabled → r.signal = true → ∃ t, exec enable s = .next t ∧
        t.portView p = (.training, .none, 1, r.neighbour, some 2500000, none)) ∧
      (r.state = .disabled → r.signal = false → ∃ t, exec enable s = .next t ∧
        t.portView p = (.dark, .none, r.attempt, r.neighbour, r.trainingTimer, r.helloTimer)) ∧
      (r.state ≠ .disabled → ∃ t, exec enable s = .next t ∧ t.portView p = s.portView p ∧ t.roster.entries = s.roster.entries) ∧
      (r.state ≠ .disabled → ∃ t, exec disable s = .next t ∧
        t.portView p = (.disabled, .none, r.attempt, r.neighbour, none, none) ∧ (t.port p).relay = [] ∧ (t.port p).control = [] ∧
        (r.state = .joined → PortLost p s t)) ∧
      (r.state = .disabled → ∃ t, exec disable s = .next t ∧ t.portView p = s.portView p ∧ t.roster.entries = s.roster.entries) ∧
      (r.state = .disabled → exec retrain s = .next (postResult tag 0x30 .busy s.taken)) ∧
      (r.state = .dark → ∃ t, exec retrain s = .next t ∧ t.portView p = s.portView p) ∧
      (r.state ≠ .disabled → r.state ≠ .dark → ∃ t, exec retrain s = .next t ∧
        t.portView p = (.training, .none, 1, r.neighbour, some 2500000, none) ∧ (t.port p).inTransmission = none ∧
        (r.state = .joined → PortLost p s t))

/-- R116, R117, R178: Time Settings and Acknowledge Events. -/
def Obligations.SettingsAndAcknowledgeTakeTheirValues : Prop :=
  (∀ (s : State) (tag : Word16) (a : TimeSettingsArgs), (s.region 0).valid = true →
      let old := s.clock.settings
      let new : Settings :=
        { k := if a.set.getLsbD 0 then max 12 (min a.k.toNat 22) else old.k
          p := if a.set.getLsbD 1 then min a.p.toNat 15 else old.p
          i := if a.set.getLsbD 2 then min a.i.toNat 15 else old.i
          step := if a.set.getLsbD 3 then max 100 (min a.step.toNat 1000000) else old.step
          lock := if a.set.getLsbD 4 then max 1 (min a.lock.toNat 1000) else old.lock
          holdover := if a.set.getLsbD 5 then max 1 (min a.holdover.toNat 1000000) else old.holdover
          corr := ⟨if a.set.getLsbD 6 then max (-100000) (min a.corrA.toInt 100000) else old.corr.a,
            if a.set.getLsbD 7 then max (-100000) (min a.corrB.toInt 100000) else old.corr.b⟩
          masterTrim := if a.set.getLsbD 8 then max (-3435973) (min a.masterTrim.toInt 3435973) else old.masterTrim }
      (¬ (a.set.getLsbD 8 = true ∧ s.clock.lock = .master) →
        exec (.timeSettings tag a) s = .next (postResult tag 0x38 .done (s.taken.onClock fun k => { k with settings := new }))) ∧
      (a.set.getLsbD 8 = true → s.clock.lock = .master →
        exec (.timeSettings tag a) s = .next (postResult tag 0x38 .done (s.taken.onClock fun k =>
          { k with settings := new, trim := new.masterTrim, integral := new.masterTrim })))) ∧
  (∀ (s : State) (tag : Word16) (count : BitVec 32), (s.region 0).valid = true →
      let n := min count.toNat s.reporter.eventCount
      exec (.acknowledgeEvents tag count) s = .next (postResult tag 0x50 .done (s.taken.onReporter fun d =>
        { d with acknowledged := n, attention := decide (n < d.eventCount) })))

/-- R13, R58, R86, R134, R156, R182: Clear Counters, and all that it leaves. -/
def Obligations.ClearCountersLeavesTheRest : Prop :=
  ∀ (s : State) (tag : Word16), (s.region 0).valid = true → ∃ t, exec (.clearCounters tag) s = .next (postResult tag 0x51 .done t) ∧
    t.channel = { s.channel with decodeFaults := 0, unservedReads := 0, missedWrites := 0, lastFault := none } ∧
    (∀ k, t.tap k = if (s.tap k).state = .unbound then s.tap k else { s.tap k with counters := ⟨0, 0, 0, 0, 0, 0⟩ }) ∧
    t.tapEngine.presets = s.tapEngine.presets ∧
    (∀ m, t.mirror m = if (s.mirror m).bound then { s.mirror m with counters := ⟨0, 0, 0, 0, 0, 0⟩ } else s.mirror m) ∧
    t.mirrorStore.store = s.mirrorStore.store ∧ t.mirrorStore.extents = s.mirrorStore.extents ∧
    (∀ p, t.port p = { s.port p with counters := ⟨0, 0, 0, 0, 0, 0, 0, 0, 0, 0, 0, 0, 0, 0, 0, 0⟩ }) ∧ t.link.unsentOwn = 0 ∧
    t.link.broadcastSeq = s.link.broadcastSeq ∧ t.clock = { s.clock with counters := ⟨0, 0, 0, 0⟩ } ∧
    t.orders = { s.orders with counters := ⟨0, 0, 0, 0, 0, 0, 0⟩ } ∧
    t.reporter = { s.taken.reporter with partialDirectives := 0 } ∧ t.regions = s.regions ∧ t.roster = s.roster ∧
    t.toDram = s.toDram ∧ t.toController = s.toController

/-- R71, R81, R93, R158, R159, R161, R163, R174: the three rack directives: their refusals, what a directive that passes becomes by the
belief, and the Rack Request or Rack Order that it makes; that a Roster Update follows them is the model's choice (notes/assumptions/16.md). -/
def Obligations.RackDirectivesAreSubmitted : Prop :=
  ∀ (s : State) (tag : Word16) (target : Byte) (time : TimeValue) (noWait : Bool), (s.region 0).valid = true →
    ∀ (c : Instr) (code : Word16) (top : Nat) (d : RackDirective),
      (c = .masterClaim tag target noWait ∧ code = 0x40 ∧ top = 7 ∧ d = .masterClaim (Fin.ofNat 8 target.toNat) ∨
        c = .rackArm tag target time noWait ∧ code = 0x41 ∧ top = 15 ∧ d = .rackArm (Fin.ofNat 16 target.toNat) time ∨
        c = .rackHalt tag target noWait ∧ code = 0x42 ∧ top = 15 ∧ d = .rackHalt (Fin.ofNat 16 target.toNat)) →
      let refused := fun r => let u := postResult tag code r s.taken; exec c s = .next (concludeFrom s.taken u u)
      (top < target.toNat → refused .badArgument) ∧
      (target.toNat ≤ top → noWait = true → s.roster.belief = none → refused .noMaster) ∧
      (target.toNat ≤ top → ¬ (noWait = true ∧ s.roster.belief = none) → 4 ≤ s.orders.pending.length → refused .busy) ∧
      (target.toNat ≤ top → noWait = false → s.roster.belief = none → s.orders.pending.length < 4 →
        ∃ t, exec c s = .next t ∧ t.orders.pending.map PendingEntry.seq = s.orders.pending.map PendingEntry.seq ++ [s.orders.nextSeq] ∧
          t.orders.nextSeq = s.orders.nextSeq + 1 ∧
          t.orders.pending.getLast? = some ⟨s.orders.nextSeq, d, tag, .waiting⟩) ∧
      (∀ f, target.toNat ≤ top → s.roster.belief = some f → f ≠ s.own → s.orders.pending.length < 4 →
        ∃ t, exec c s = .next t ∧ t.orders.pending.map PendingEntry.seq = s.orders.pending.map PendingEntry.seq ++ [s.orders.nextSeq] ∧
          t.orders.nextSeq = s.orders.nextSeq + 1 ∧ t.orders.resendTimer.isSome = true ∧
          t.orders.pending.getLast? = some ⟨s.orders.nextSeq, d, tag, .sent⟩ ∧
          (s.roster.phase = .none → Told s.control [] [(f, .rackRequest ⟨eightByte f, s.orders.nextSeq, d.block⟩)] s t)) ∧
      (∀ f, d = .masterClaim f → target.toNat ≤ top → s.roster.belief = some s.own → s.orders.pending = [] → s.candidate f = false →
        let u := raise (.rackRefused s.own s.orders.nextSeq .notCandidate) (postResult tag code .rackRefused (postResult tag code .accepted
          (s.taken.onOrders fun o => { o with nextSeq := o.nextSeq + 1 })))
        exec c s = .next (concludeFrom s.taken u u)) ∧
      (target.toNat ≤ top → s.roster.belief = some s.own → s.orders.pending = [] → s.newOrder s.own s.orders.nextSeq = true →
        (∀ f, d = .masterClaim f → s.candidate f = true) →
        ∃ t, exec c s = .next t ∧ t.orders.pending = [] ∧ t.orders.applied[s.own] = some s.orders.nextSeq ∧
          t.orders.lastOrder = some (s.orders.nextRackSeq, s.own) ∧ t.orders.nextRackSeq = min (s.orders.nextRackSeq + 1) (2 ^ 32 - 1) ∧
          t.orders.counters.ordered = min (s.orders.counters.ordered + 1) (2 ^ 32 - 1) ∧
          (s.roster.phase = .none → Told s.control [fun seq => .rackOrder
            ⟨seq, BitVec.ofNat 32 s.orders.nextRackSeq, eightByte s.own, s.orders.nextSeq, d.block⟩] [] s t) ∧
          ∀ f, d = .masterClaim f → s.roster.ownState = .active → t.roster.belief = some f)

/-- R21, R59, R64, R87, R89, R93, R113, R136, R157, R171, R188: Restart Part, with the Hellos and the Roster Update that it makes. -/
def Obligations.RestartPartKeepsTheChannel : Prop :=
  ∀ (s : State) (tag : Word16), (s.region 0).valid = true → ∃ t, exec (.restartPart tag) s = .next t ∧
    t.channel = { s.channel with decodeFaults := 0, unservedReads := 0, missedWrites := 0, lastFault := none } ∧
    t.region 0 = s.region 0 ∧ t.region 1 = s.region 1 ∧ (∀ i : Fin 18, 2 ≤ i.val → (t.region i).valid = false) ∧
    (∀ k, t.tap k = Tap.unbound) ∧ t.tapEngine.presets = Vector.replicate 4 1 ∧ (∀ m, (t.mirror m).bound = false) ∧
    t.mirrorStore.extents = [] ∧ t.mirrorStore.store = s.mirrorStore.store ∧ (∀ p, t.portView p = s.portView p) ∧
    t.roster.ownState = .active ∧ (∀ f, t.entry f = RosterEntry.absent) ∧ t.roster.incarnation = s.roster.heldCount + 1 ∧
    t.roster.heldCount = s.roster.heldCount + 1 ∧ t.roster.belief = (if s.roster.masterCapable then some s.own else none) ∧
    t.roster.recent = [] ∧ t.clock.time = s.clock.time ∧ t.clock.settings = s.clock.settings ∧
    t.clock.lock = (if s.roster.masterCapable then .master else .freeRun) ∧ t.clock.exchangeTimer = s.clock.exchangeTimer ∧
    (∀ p, let r := s.port p
      let made := if r.state = .joined then [t.helloFrame p, t.updateFrame 0 p] else if r.state = .linked then [t.helloFrame p] else []
      (t.port p).relay = [] ∧ (t.port p).counters = PortCounters.zero ∧ (t.port p).lastGranted = 8 ∧
        (t.port p).slotReply = none ∧ (t.port p).slotRequest = none ∧
        (r.inTransmission.isSome = true → (t.port p).control = made ∧ (t.port p).inTransmission = r.inTransmission) ∧
        (r.inTransmission = none → (t.port p).control = made.tail ∧ (t.port p).inTransmission = made.head?)) ∧
    t.link.unsentOwn = 0 ∧ t.link.broadcastSeq = (if s.joined .a = true ∨ s.joined .b = true then 1 else 0) ∧
    t.roster.refreshTimer = (if s.joined .a = true ∨ s.joined .b = true then some 25000000 else none) ∧
    t.orders.pending = [] ∧ t.orders.nextSeq = 0 ∧ t.reporter.directivesTaken = 1 ∧ t.reporter.resultsPosted = 1 ∧
    t.reporter.results[(0 : Fin 16)] = some ⟨1, tag, 0x5A, .done⟩ ∧ t.reporter.straps = s.reporter.straps

/-! ### Ports and frames -/

/-- R54, R62, R63, R64, R66, R67, R81, R91, R93, R97, R110: what the receivers and the port timers report. -/
def Obligations.PortEventsMoveTheirPort : Prop :=
  ∀ (s : State) (p : Port),
    let r := s.port p
    let rest := r.control.filter fun f => !isHello f
    (r.state = .dark → s.roster.ownState ≠ .starting → ∃ t, exec (.signalDetected p) s = .next t ∧
      t.portView p = (.training, .none, 1, r.neighbour, some 2500000, none) ∧ (t.port p).signal = true) ∧
    (r.state ≠ .dark ∨ s.roster.ownState = .starting →
      exec (.signalDetected p) s = .next (s.onPort p fun k => { k with signal := true })) ∧
    (r.state ≠ .disabled → r.state ≠ .dark → ∃ t, exec (.lossOfSignal p) s = .next t ∧
      t.portView p = (.dark, .none, 1, none, none, none) ∧ (t.port p).signal = false ∧ (t.port p).relay = [] ∧
      (t.port p).control = [] ∧ (t.port p).inTransmission = none ∧ (r.state = .joined → PortLost p s t)) ∧
    (r.state = .disabled ∨ r.state = .dark → ∃ t, exec (.lossOfSignal p) s = .next t ∧
      t.portView p = s.portView p ∧ (t.port p).signal = false) ∧
    (r.state = .joined → ∃ t, exec (.neighbourTraining p) s = .next t ∧
      t.portView p = (.training, .none, 1, r.neighbour, some 2500000, none) ∧ PortLost p s t) ∧
    (r.state ≠ .joined → ∃ t, exec (.neighbourTraining p) s = .next t ∧ t.portView p = s.portView p) ∧
    (r.state = .training → ∃ t, exec (.alignmentComplete p) s = .next t ∧
      t.portView p = (.linked, .none, r.attempt, r.neighbour, none, some 250000) ∧
      PortSends (placedFirst (s.helloFrame p) (s.control p)) p s t) ∧
    (r.state ≠ .training → ∃ t, exec (.alignmentComplete p) s = .next t ∧ t.portView p = s.portView p) ∧
    (r.state = .training → r.attempt < 4 → exec (.trainingTimeout p) s = .next (s.onPort p fun k =>
      { k with attempt := k.attempt + 1, trainingTimer := some 2500000 })) ∧
    (r.state = .training → 4 ≤ r.attempt → ∃ t, exec (.trainingTimeout p) s = .next t ∧
      t.portView p = (.fault, .trainFail, r.attempt, r.neighbour, none, none) ∧
      (t.port p).counters.trainingFailures = min (r.counters.trainingFailures + 1) (2 ^ 32 - 1)) ∧
    (r.state ≠ .training → exec (.trainingTimeout p) s = .next s) ∧
    (r.state = .linked → rest.length < 16 → exec (.helloTimer p) s = .next (conclude s (s.onPort p fun k =>
      { k with control := s.helloFrame p :: rest }))) ∧
    (r.state = .linked → 16 ≤ rest.length → exec (.helloTimer p) s = .next (conclude s (s.onPort p fun k =>
      { k with
        control := s.helloFrame p :: rest.take 15
        counters := { k.counters with controlDrops := min (k.counters.controlDrops + 1) (2 ^ 32 - 1) } }))) ∧
    (r.state = .linked → ∃ t, exec (.helloTimer p) s = .next t ∧ PortSends (placedFirst (s.helloFrame p) (s.control p)) p s t) ∧
    (r.state ≠ .linked → exec (.helloTimer p) s = .next (conclude s s))

/-- R54, R64, R70, R73, R74, R86, R93, R97, R110: bad frames, malformed frames, and the frames a Linked or Fault port discards: each is counted,
and what concludes every event follows; and what a good frame makes of the score and the good run. That a frame is taken in one step with
what it brings is the model's choice (notes/assumptions/6.md), and so is the discard of a Hello of a wrong length, as of any
MALFORMED_FRAME, at a Linked port (notes/assumptions/11.md). -/
def Obligations.TurnedAwayFramesAreCounted : Prop :=
  ∀ (s : State) (p : Port) (fault : FrameFault),
    let r := s.port p
    let one : Nat → Nat := fun n => min (n + 1) (2 ^ 32 - 1)
    let discarded := s.onPortCounters p fun k => { k with received := one k.received, notJoined := one k.notJoined }
    (s.heard p = s.onPort p fun k => { k with
      counters := { k.counters with received := one k.counters.received }
      goodRun := if k.goodRun < 255 then k.goodRun + 1 else 0
      errorScore := if k.goodRun < 255 then k.errorScore else k.errorScore - 1 }) ∧
    (r.state = .joined → r.errorScore + 4 < 16 → exec (.badCrcFrame p) s = .next (conclude s (s.onPort p fun k => { k with
      errorScore := k.errorScore + 4, goodRun := 0
      counters := { k.counters with received := one k.counters.received, crcErrors := one k.counters.crcErrors } }))) ∧
    (r.state = .joined → r.errorScore + 4 < 16 → ∃ t, exec (.badCrcFrame p) s = .next t ∧ (t.port p).state = .joined ∧
      (t.port p).errorScore = r.errorScore + 4 ∧ (t.port p).goodRun = 0 ∧ (t.port p).counters.crcErrors = one r.counters.crcErrors ∧
      (t.port p).counters.received = one r.counters.received) ∧
    (r.state = .joined → 16 ≤ r.errorScore + 4 → ∃ t, exec (.badCrcFrame p) s = .next t ∧
      t.portView p = (.training, .none, 1, r.neighbour, some 2500000, none) ∧ (t.port p).errorScore = 16 ∧ (t.port p).goodRun = 0 ∧
      (t.port p).counters.crcErrors = one r.counters.crcErrors ∧ PortLost p s t) ∧
    (r.state = .linked → exec (.badCrcFrame p) s = .next (conclude s (s.onPortCounters p fun k =>
      { k with received := one k.received, crcErrors := one k.crcErrors }))) ∧
    (r.state = .linked → ∃ t, exec (.badCrcFrame p) s = .next t ∧ t.portView p = s.portView p ∧
      (t.port p).errorScore = r.errorScore ∧ (t.port p).counters.crcErrors = one r.counters.crcErrors) ∧
    (r.state = .fault → exec (.badCrcFrame p) s = .next (conclude s discarded)) ∧
    (r.state = .fault → ∃ t, exec (.badCrcFrame p) s = .next t ∧ t.portView p = s.portView p ∧
      (t.port p).counters.notJoined = one r.counters.notJoined) ∧
    (r.state = .disabled ∨ r.state = .dark ∨ r.state = .training → exec (.malformedFrame p fault) s = .next s ∧
      exec (.badCrcFrame p) s = .next (conclude s s) ∧
      ∃ t, exec (.badCrcFrame p) s = .next t ∧ t.portView p = s.portView p ∧ (t.port p).counters.crcErrors = r.counters.crcErrors) ∧
    (r.state = .joined →
      exec (.malformedFrame p .form) s = .next ((s.heard p).onPortCounters p fun k => { k with malformed := one k.malformed }) ∧
      exec (.malformedFrame p .hopLimit) s = .next ((s.heard p).onPortCounters p fun k => { k with hopLimited := one k.hopLimited })) ∧
    (r.state = .linked ∨ r.state = .fault → exec (.malformedFrame p fault) s = .next discarded) ∧
    ∀ (c : Instr) (f : Frame), frameArrived c = some (p, f) →
      (r.state = .disabled ∨ r.state = .dark ∨ r.state = .training → exec c s = .next (concludeFrame c s s)) ∧
      (r.state = .linked ∧ isHello f = false ∨ r.state = .fault → exec c s = .next (concludeFrame c s discarded)) ∧
      (r.state = .linked ∧ isHello f = false ∨ r.state = .fault → ∃ t, exec c s = .next t ∧ t.portView p = s.portView p ∧
        (t.port p).errorScore = r.errorScore ∧ (t.port p).counters.received = one r.counters.received ∧
        (t.port p).counters.notJoined = one r.counters.notJoined ∧ t.roster.entries = s.roster.entries ∧
        t.mirrorStore = s.mirrorStore) ∧
      (r.state = .joined → illFormed f = true → exec c s = .next (concludeFrame c s
        ((s.heard p).onPortCounters p fun k => { k with malformed := one k.malformed }))) ∧
      (r.state = .joined → illFormed f = true → ∃ t, exec c s = .next t ∧ t.portView p = s.portView p ∧
        (t.port p).counters.malformed = one r.counters.malformed ∧ t.roster.entries = s.roster.entries ∧ t.mirrorStore = s.mirrorStore) ∧
      (r.state = .joined → illFormed f = false → 7 < f.header.hops.toNat → exec c s = .next (concludeFrame c s
        ((s.heard p).onPortCounters p fun k => { k with hopLimited := one k.hopLimited }))) ∧
      (r.state = .joined → illFormed f = false → 7 < f.header.hops.toNat → ∃ t, exec c s = .next t ∧ t.portView p = s.portView p ∧
        (t.port p).counters.hopLimited = one r.counters.hopLimited ∧ t.roster.entries = s.roster.entries ∧
        t.mirrorStore = s.mirrorStore)

/-- R79, R138, R144 to R147: a Sample frame that names the own frame: unaccepted, or each of its lines stored or counted as out of
shape; and every byte of the store, and every mirror, that it leaves. -/
def Obligations.SamplesFillTheirMirror : Prop :=
  ∀ (s : State) (p : Port) (h : Header) (b : SampleBody) (o : FrameNo) (hf : Half),
    s.passes p ⟨h, .sample b⟩ → h.origin = eightByte o → o ≠ s.own → inSet b.dests s.own = true → toHalf b.half = some hf →
    Memory.wf s.mirrorStore.store →
    let c : Instr := .sample p h b
    ((∀ m, ¬ s.accepts o b.tap m) → ∃ t, exec c s = .next t ∧ t.mirrorStore = s.mirrorStore ∧
      (t.port p).counters.unaccepted = min ((s.port p).counters.unaccepted + 1) (2 ^ 32 - 1)) ∧
    ∀ m, s.accepts o b.tap m → (∀ m', m' < m → ¬ s.accepts o b.tap m') →
      let k := s.mirror m
      let half := if k.paired then hf else .even
      let old := k.half half
      let inShape : Nat → Bool := fun j => decide (b.r.toNat < k.recordCount) && decide (b.x.toNat + j < k.recordLen)
      let home : Nat → Nat := fun j => 64 * k.storeLine half b.r.toNat (b.x.toNat + j)
      let places := ((List.range b.lines.length).filter inShape).map fun j => b.r.toNat * k.recordLen + b.x.toNat + j
      let outside := ((List.range b.lines.length).filter fun j => !inShape j).length
      ∃ t, exec c s = .next t ∧
        (∀ j < b.lines.length, inShape j = true → ∀ i < 64,
          Memory.read t.mirrorStore.store (home j + i) = lineByte (b.lines[j]?.getD 0) i) ∧
        (∀ a, (∀ j < b.lines.length, inShape j = true → a < home j ∨ home j + 64 ≤ a) →
          Memory.read t.mirrorStore.store a = Memory.read s.mirrorStore.store a) ∧
        (∀ m', m' ≠ m → t.mirror m' = s.mirror m') ∧ (∀ h', h' ≠ half → (t.mirror m).half h' = k.half h') ∧
        (t.mirror m).counters.outOfShape = (if outside = 0 then k.counters.outOfShape else min (k.counters.outOfShape + outside) (2 ^ 32 - 1)) ∧
        (places = [] → (t.mirror m).half half = old ∧ (t.mirror m).counters.abandoned = k.counters.abandoned) ∧
        (places ≠ [] → old.state ≠ .filling ∨ old.pass ≠ b.pass →
          (t.mirror m).half half = ⟨.filling, b.pass, places, places.length, some b.stamp, none, none⟩ ∧
          (t.mirror m).counters.abandoned =
            (if old.state = .filling then min (k.counters.abandoned + 1) (2 ^ 32 - 1) else k.counters.abandoned)) ∧
        (places ≠ [] → old.state = .filling → old.pass = b.pass →
          (∀ q, q ∈ ((t.mirror m).half half).present ↔ q ∈ places ∨ q ∈ old.present) ∧
          (t.mirror m).half half = { old with
            present := ((t.mirror m).half half).present
            received := old.received + (places.filter fun q => decide (q ∉ old.present)).length } ∧
          (t.mirror m).counters.abandoned = k.counters.abandoned)

/-- R79, R144, R145, R148, R149: a Mark frame that names the own frame. -/
def Obligations.MarksCloseTheirHalf : Prop :=
  ∀ (s : State) (p : Port) (h : Header) (b : MarkBody) (o : FrameNo) (hf : Half) (kind : MarkKind),
    s.passes p ⟨h, .mark b⟩ → h.origin = eightByte o → o ≠ s.own → inSet b.dests s.own = true → toHalf b.half = some hf →
    toMarkKind b.kind = some kind →
    let c : Instr := .mark p h b
    ((∀ m, ¬ s.accepts o b.tap m) → ∃ t, exec c s = .next t ∧ t.mirrorStore = s.mirrorStore ∧
      (t.port p).counters.unaccepted = min ((s.port p).counters.unaccepted + 1) (2 ^ 32 - 1)) ∧
    ∀ m, s.accepts o b.tap m → (∀ m', m' < m → ¬ s.accepts o b.tap m') →
      let k := s.mirror m
      let half := if k.paired then hf else .even
      let old := k.half half
      (old.state ≠ .filling ∨ old.pass ≠ b.pass → ∃ t, exec c s = .next t ∧
        t.mirrorStore = (s.onMirrorCounters m fun q => { q with ignoredMarks := min (q.ignoredMarks + 1) (2 ^ 32 - 1) }).mirrorStore) ∧
      (old.state = .filling → old.pass = b.pass → ∃ t, exec c s = .next t ∧
        (t.mirror m).half half = { old with
          state := (match kind with
            | .passAbandoned => .stale
            | .passEnd => if old.received = k.recordLen * k.recordCount then .complete else .partly)
          endStamp := some b.stamp, forwarded := some b.forwarded.toNat } ∧
        t.mirrorStore.store = s.mirrorStore.store ∧
        (t.mirror m).counters.abandoned =
          (if kind = .passAbandoned then min (k.counters.abandoned + 1) (2 ^ 32 - 1) else k.counters.abandoned))

/-- R73, R79, R80: a Sample or Mark frame of own origin is counted and discarded; of another's, the destinations other than the own frame: one
copy for those whose route is the other, Joined port, and one count each for those turned back and those unroutable. -/
def Obligations.MulticastsAreSplitByRoute : Prop :=
  (∀ (s : State) (p : Port) (f : Frame) (c : Instr), frameArrived c = some (p, f) →
    ((∃ b, f.body = .sample b) ∨ ∃ b, f.body = .mark b) → s.passes p f → f.header.origin = eightByte s.own →
    ∃ t, exec c s = .next t ∧ OwnDiscarded p s t) ∧
  ∀ (s : State) (p : Port) (h : Header) (o : FrameNo) (dests : Byte) (body : Byte → Body) (c : Instr),
    ((∃ b : SampleBody, c = .sample p h b ∧ dests = b.dests ∧ ∀ set, body set = .sample { b with dests := set }) ∨
      ∃ b : MarkBody, c = .mark p h b ∧ dests = b.dests ∧ ∀ set, body set = .mark { b with dests := set }) →
    s.passes p ⟨h, body dests⟩ → h.origin = eightByte o → o ≠ s.own →
    let other := otherPort p
    let r := s.port other
    let named : FrameNo → Bool := fun d => inSet dests d && decide (d ≠ s.own)
    let goesOn : FrameNo → Bool := fun d => (s.entry d).route == some other && s.joined other
    let onward := frameSet fun d => named d && goesOn d
    let one : Nat → Nat := fun n => min (n + 1) (2 ^ 32 - 1)
    ∃ t, exec c s = .next t ∧ (inSet dests s.own = false → t.mirrorStore = s.mirrorStore) ∧
      (r.inTransmission.isSome = true → (t.port other).relay = (if onward ≠ 0 ∧ h.hops.toNat < 7 ∧ r.relay.length < 64
        then r.relay ++ [⟨⟨h.origin, h.hops + 1⟩, body onward⟩] else r.relay)) ∧
      (t.port other).counters.relayDrops = (if onward ≠ 0 ∧ h.hops.toNat < 7 ∧ 64 ≤ r.relay.length
        then one r.counters.relayDrops else r.counters.relayDrops) ∧
      (t.port p).counters.hopLimited =
        (if onward ≠ 0 ∧ h.hops.toNat = 7 then one (s.port p).counters.hopLimited else (s.port p).counters.hopLimited) ∧
      (t.port p).counters.turnedBack = (if ∃ d, named d = true ∧ (s.entry d).route = some p
        then one (s.port p).counters.turnedBack else (s.port p).counters.turnedBack) ∧
      (t.port p).counters.unroutable = (if ∃ d, named d = true ∧ (s.entry d).route ≠ some p ∧ goesOn d = false
        then one (s.port p).counters.unroutable else (s.port p).counters.unroutable)

/-- R74, R117, R122 to R128: a Time Request answered, and a Time Reply late, rejected, stepped from or steered by. That t2 and t4 are
rack time at the step that takes the frame is the model's choice (notes/assumptions/9.md). -/
def Obligations.TimeFramesFollowTheLeader : Prop :=
  ∀ (s : State) (p : Port) (h : Header) (q : TimeRequestBody) (b : TimeReplyBody),
    let now : Nat := s.clock.time / 2 ^ 24
    let t4 : Int := now
    let offset : Int := ((b.t2.toNat - b.t1.toNat : Int) - (t4 - b.t3.toNat)) / 2 - s.clock.settings.corr.get p
    let delay : Int := ((b.t2.toNat - b.t1.toNat : Int) + (t4 - b.t3.toNat)) / 2
    let good := (b.quality = 2 ∨ b.quality = 4) ∧ ∃ f : FrameNo, b.belief = eightByte f ∧ s.roster.belief = some f
    let far := s.clock.settings.step * 256 ≤ offset.natAbs
    let near := offset.natAbs ≤ s.clock.settings.lock * 256
    let clamp : Int → Int := fun z => max (-3435973) (min z 3435973)
    let shifted : Int → Int := fun e => if 0 ≤ e then offset * 2 ^ e.toNat else offset / 2 ^ (-e).toNat
    let integral := clamp (s.clock.integral + shifted (24 - s.clock.exponent - s.clock.settings.i))
    let trim := clamp (integral + shifted (24 - s.clock.exponent - s.clock.settings.p))
    let bad := (s.heard p).onPortCounters p fun r => { r with malformed := min (r.malformed + 1) (2 ^ 32 - 1) }
    (h.hops ≠ 0 → (s.passes p ⟨h, .timeRequest q⟩ → exec (.timeRequest p h q) s = .next (conclude s bad)) ∧
      (s.passes p ⟨h, .timeReply b⟩ → exec (.timeReply p h b) s = .next bad)) ∧
    (h.hops = 0 → s.passes p ⟨h, .timeRequest q⟩ → exec (.timeRequest p h q) s = .next (conclude s ((s.heard p).onPort p fun r =>
      { r with slotReply := some ⟨q.number, lockCode s.clock.lock, frameByte s.roster.belief, q.t1, BitVec.ofNat 72 now, 0⟩ }))) ∧
    (h.hops = 0 → s.passes p ⟨h, .timeReply b⟩ →
      (s.clock.outstanding ≠ some ⟨b.number, p⟩ → exec (.timeReply p h b) s = .next ((s.heard p).onClock fun k =>
        { k with counters := { k.counters with lateReplies := min (k.counters.lateReplies + 1) (2 ^ 32 - 1) } })) ∧
      (s.clock.outstanding = some ⟨b.number, p⟩ → delay < 0 ∨ 2048000 < delay →
        exec (.timeReply p h b) s = .next ((s.heard p).onClock fun k =>
          { k with outstanding := none, lastOffset := offset, lastDelay := delay,
                   counters := { k.counters with rejected := min (k.counters.rejected + 1) (2 ^ 32 - 1) } })) ∧
      (s.clock.outstanding = some ⟨b.number, p⟩ → 0 ≤ delay → delay ≤ 2048000 → ∃ t, exec (.timeReply p h b) s = .next t ∧
        t.clock.outstanding = none ∧ t.clock.lastOffset = offset ∧ t.clock.lastDelay = delay ∧ t.clock.missed = 0 ∧
        t.clock.lastQuality = some (b.quality, decide good) ∧
        t.clock.counters.accepted = min (s.clock.counters.accepted + 1) (2 ^ 32 - 1) ∧
        (s.clock.lock = .freeRun ∨ far → t.clock.time = min (Int.toNat (s.clock.time + offset * 2 ^ 24)) ((2 ^ 64 - 1) * 2 ^ 32) ∧
          t.clock.trim = clamp s.clock.integral ∧ t.clock.integral = s.clock.integral ∧ t.clock.lock = .acquiring ∧
          t.clock.within = 0 ∧ t.clock.outside = 0 ∧ t.clock.counters.steps = min (s.clock.counters.steps + 1) (2 ^ 32 - 1)) ∧
        (s.clock.lock ≠ .freeRun → ¬ far → t.clock.time = s.clock.time ∧ t.clock.integral = integral ∧ t.clock.trim = trim) ∧
        (s.clock.lock = .acquiring → ¬ far →
          let within := if near then min (s.clock.within + 1) 255 else 0
          t.clock.within = within ∧ t.clock.lock = (if 8 ≤ within ∧ good then .locked else .acquiring)) ∧
        (s.clock.lock = .holdover → ¬ far → t.clock.lock = .acquiring ∧ t.clock.holdoverAge = 0) ∧
        (s.clock.lock = .locked → ¬ far → good → near → t.clock.lock = .locked ∧ t.clock.outside = 0) ∧
        (s.clock.lock = .locked → ¬ far → good → ¬ near → min (s.clock.outside + 1) 255 < 4 →
          t.clock.lock = .locked ∧ t.clock.outside = min (s.clock.outside + 1) 255) ∧
        (s.clock.lock = .locked → ¬ far → good → ¬ near → 4 ≤ min (s.clock.outside + 1) 255 →
          t.clock.lock = .acquiring ∧ t.clock.within = 0 ∧ t.clock.outside = 0) ∧
        (s.clock.lock = .locked → ¬ far → ¬ good → t.clock.lock = .acquiring ∧ t.clock.within = 0 ∧ t.clock.outside = 0)))

/-- R65, R74, R94, R95, R110, R111: a Hello joins a Linked port or finds a second frame of its number; on a Joined port the neighbour is
taken afresh; the sender's own announcement is taken; and, where no other item of it names its own frame as master, what its belief makes of
the own belief by merge and election (R81, R93, R106, R193); and the Hello, the Leave Acks and the Roster Update that the arrival makes,
whose order after the Hello is the model's choice (notes/assumptions/16.md). For a Hello whose own item is unreachable, that the second frame
is told and the neighbour is recorded by the incarnation in bytes 4 and 5 of that item is the model's choice (notes/assumptions/20.md), and so
is that a Linked port takes a Hello of any hop count (21.md). -/
def Obligations.HellosJoinAndAnnounce : Prop :=
  ∀ (s : State) (p : Port) (h : Header) (b : HelloBody) (n : FrameNo), h.origin = eightByte n →
    let c : Instr := .hello p h b
    let r := s.port p
    let item := b.items[n]
    let e := s.entry n
    let second := n = s.own ∨ ((e.state = .present ∨ e.state = .leaving ∨ e.state = .departed) ∧
      (e.hops.get (otherPort p)).isSome = true ∧ e.incarnation ≠ some item.incarnation)
    let announced : State → Prop := fun t => ∀ news, itemNews item = some news → n ≠ s.own →
      (t.entry n).state = advertisedEntry news.state ∧ (t.entry n).hops.get p = some 1 ∧
      (t.entry n).incarnation = some item.incarnation ∧ (t.entry n).masterCapable = news.masterCapable ∧ (t.entry n).belief = news.belief
    let merged : State → Prop := fun t => ∀ news, itemNews item = some news → n ≠ s.own → s.orders.pending = [] → leaveRight s →
      (∀ g k, g ≠ n → itemNews b.items[g] = some k → k.belief ≠ some g) →
      let rival := news.belief = some n ∧ news.state = .active
      let present : FrameNo → Prop := fun f => if f = s.own then s.roster.ownState = .active else (t.entry f).state = .present
      let capable : FrameNo → Prop := fun f => if f = s.own then s.roster.masterCapable = true else (t.entry f).masterCapable = true
      (s.roster.belief = none → rival → news.masterCapable = true → t.roster.belief = some n) ∧
      (s.roster.belief = none → ¬ (rival ∧ news.masterCapable = true) → t.roster.belief = none ∨ t.elects t.roster.belief) ∧
      ∀ m, s.roster.belief = some m →
        let wins := rival ∧ present m ∧ capable (min n m)
        (wins → t.roster.belief = some (min n m)) ∧
        (¬ wins → staysMaster s t m → t.roster.belief = some m) ∧
        (¬ wins → ¬ staysMaster s t m → t.elects t.roster.belief)
    let told : (Port → List Frame × Nat) → State → Prop := fun start t => n ≠ s.own → s.orders.pending = [] → s.roster.phase = .none →
      Told start [] (leaveAcks (leaverOf n item) s t) s t
    (r.state = .linked → second → ∃ t, exec c s = .next t ∧
      t.portView p = (.fault, .duplicateFrame, r.attempt, r.neighbour, none, none) ∧ t.roster.entries = s.roster.entries) ∧
    (r.state = .linked → ¬ second → ∃ t, exec c s = .next t ∧
      t.portView p = (.joined, .none, r.attempt, some (n, item.incarnation), r.trainingTimer, none) ∧
      (t.port p).errorScore = 0 ∧ (t.port p).goodRun = 0 ∧ announced t ∧ merged t ∧
      told (fun q => if q = p then placedFirst (s.helloFrame p) (s.control p) else s.control q) t) ∧
    (s.passes p ⟨h, .hello b⟩ → h.hops = 0 → ∃ t, exec c s = .next t ∧ (t.port p).state = .joined ∧
      (t.port p).neighbour = some (n, item.incarnation) ∧ announced t ∧ merged t ∧ told s.control t) ∧
    (s.passes p ⟨h, .hello b⟩ → h.hops ≠ 0 → ∃ t, exec c s = .next t ∧ t.roster.entries = s.roster.entries ∧
      (t.port p).counters.malformed = min (r.counters.malformed + 1) (2 ^ 32 - 1))

/-- R73, R75, R81, R93, R94, R106, R193: a Roster Update of another frame: own origin, duplicate, from the neighbour, or relayed; the list
that a new one leaves; and the Leave Acks and the Roster Update that it draws, in this order by the model's choice (notes/assumptions/16.md).
That at an idle other port, which the same arrival offers the relayed frame, the first of these goes out ahead of it is the model's choice
(notes/assumptions/41.md). That the incarnation of an origin whose own item is unreachable is bytes 4 and 5 of that item, in telling which
updates are duplicates and so which are listed and relayed, is the model's choice (notes/assumptions/20.md). That the older pairs of the
origin leave the list at a fresh incarnation, or an Absent entry, also where the update's own pair is not among them, is its reading of R75
(notes/assumptions/47.md). -/
def Obligations.RosterUpdatesAreTakenOnce : Prop :=
  ∀ (s : State) (p : Port) (h : Header) (b : RosterUpdateBody) (o : FrameNo), s.passes p ⟨h, .rosterUpdate b⟩ → h.origin = eightByte o →
    let c : Instr := .rosterUpdate p h b
    let item := b.items[o]
    let e := s.entry o
    let again := (o, b.seq) ∈ s.roster.recent ∧ e.state ≠ .absent ∧ e.incarnation = some item.incarnation
    let kept := if e.state ≠ .absent ∧ e.incarnation = some item.incarnation then s.roster.recent
      else s.roster.recent.filter fun k => k.1 ≠ o
    let one : Nat → Nat := fun n => min (n + 1) (2 ^ 32 - 1)
    (o = s.own → ∃ t, exec c s = .next t ∧ OwnDiscarded p s t) ∧
    (o ≠ s.own → again → ∃ t, exec c s = .next t ∧ (t.port p).counters.duplicates = one (s.port p).counters.duplicates ∧
      t.roster.recent = s.roster.recent ∧ t.roster.entries = s.roster.entries) ∧
    (o ≠ s.own → ¬ again → s.joined (otherPort p) = true → (s.port (otherPort p)).inTransmission.isSome = true →
      ∃ t, exec c s = .next t ∧ (t.port (otherPort p)).relay =
        (if h.hops.toNat < 7 ∧ (s.port (otherPort p)).relay.length < 64
          then (s.port (otherPort p)).relay ++ [⟨⟨h.origin, h.hops + 1⟩, .rosterUpdate b⟩] else (s.port (otherPort p)).relay)) ∧
    (o ≠ s.own → ¬ again → ∃ t, exec c s = .next t ∧ t.roster.recent.getLast? = some (o, b.seq) ∧ t.roster.recent.length ≤ 16 ∧
      t.roster.recent = (kept ++ [(o, b.seq)]).drop (kept.length - 15) ∧
      (t.port p).counters.duplicates = (s.port p).counters.duplicates ∧
      (s.orders.pending = [] → s.roster.phase = .none → Told s.control [] (leaveAcks (leaverOf o item) s t) s t) ∧
      (∀ news, itemNews item = some news → h.hops = 0 → (t.entry o).state = advertisedEntry news.state ∧
        (t.entry o).hops.get p = some 1 ∧ (t.entry o).incarnation = some item.incarnation) ∧
      (h.hops ≠ 0 → e.state = .absent → t.roster.entries = s.roster.entries) ∧
      (∀ news, itemNews item = some news → h.hops ≠ 0 → e.state ≠ .absent → (t.entry o).incarnation = some item.incarnation ∧
        (t.entry o).hops = e.hops ∧ (t.entry o).state = (if e.route = none then e.state else advertisedEntry news.state)))

/-- R71, R73, R77, R80, R81, R93, R106, R107, R160 to R162, R168: the unicasts: of own origin, counted and discarded; for the own frame, with
the Rack Refusal or Rack Order that a Rack Request draws; and for another. That the Roster Update follows the Rack Order is the model's choice (notes/assumptions/16.md). -/
def Obligations.UnicastsReachTheirUnit : Prop :=
  (∀ (s : State) (p : Port) (f : Frame) (c : Instr) (dest : Byte), frameArrived c = some (p, f) → unicastTo f.body = some dest →
      s.passes p f → f.header.origin = eightByte s.own → ∃ t, exec c s = .next t ∧ OwnDiscarded p s t) ∧
  (∀ (s : State) (p : Port) (h : Header) (o : FrameNo) (ack : LeaveAckBody) (req : RackRequestBody) (ref : RackRefusalBody),
      h.origin = eightByte o → o ≠ s.own → ack.dest = eightByte s.own → req.dest = eightByte s.own → ref.dest = eightByte s.own →
      let one : Nat → Nat := fun n => min (n + 1) (2 ^ 32 - 1)
      let ackCmd : Instr := .leaveAck p h ack
      let reqCmd : Instr := .rackRequest p h req
      let refCmd : Instr := .rackRefusal p h ref
      (s.passes p ⟨h, .leaveAck ack⟩ → s.roster.phase = .announced → s.roster.ownState = .leaving → s.roster.waitSet ≠ 0 →
        ∀ f, ack.acking = eightByte f →
          let left := s.roster.waitSet &&& ~~~(1#8 <<< f.val)
          (ack.incarnation = s.roster.incarnation → left ≠ 0 → ∃ t, exec ackCmd s = .next t ∧ t.roster.waitSet = left ∧
            t.roster.ownState = .leaving) ∧
          (ack.incarnation = s.roster.incarnation → left = 0 → ∃ t, exec ackCmd s = .next t ∧ t.roster.ownState = .departed ∧
            t.roster.phase = .none ∧ t.roster.leaveTag = none) ∧
          (ack.incarnation ≠ s.roster.incarnation → ∃ t, exec ackCmd s = .next t ∧ t.roster.waitSet = s.roster.waitSet ∧
            t.roster.ownState = .leaving)) ∧
      (s.passes p ⟨h, .rackRequest req⟩ →
        (parseBlock req.block = none → ∃ t, exec reqCmd s = .next t ∧ t.orders.counters.malformed = one s.orders.counters.malformed ∧
          t.orders.counters.refusals = s.orders.counters.refusals) ∧
        (∀ d, parseBlock req.block = some d → s.roster.belief ≠ some s.own → ∃ t, exec reqCmd s = .next t ∧
          t.orders.counters.refusals = one s.orders.counters.refusals ∧ t.orders.applied = s.orders.applied ∧
          (s.roster.phase = .none → Told s.control [] [(o, .rackRefusal ⟨eightByte o, 1, req.seq⟩)] s t)) ∧
        (∀ d, parseBlock req.block = some d → s.roster.belief = some s.own → (∀ f, d = .masterClaim f → s.candidate f = false) →
          (∃ f, d = .masterClaim f) → ∃ t, exec reqCmd s = .next t ∧ t.orders.counters.refusals = one s.orders.counters.refusals ∧
            t.orders.applied = s.orders.applied ∧
            (s.roster.phase = .none → Told s.control [] [(o, .rackRefusal ⟨eightByte o, 2, req.seq⟩)] s t)) ∧
        (∀ d, parseBlock req.block = some d → s.roster.belief = some s.own → (∀ f, d = .masterClaim f → s.candidate f = true) →
          s.newOrder o req.seq = true → ∃ t, exec reqCmd s = .next t ∧ t.orders.counters.ordered = one s.orders.counters.ordered ∧
            t.orders.applied[o] = some req.seq ∧ t.orders.lastOrder = some (s.orders.nextRackSeq, s.own) ∧
            t.orders.nextRackSeq = one s.orders.nextRackSeq ∧
            (s.orders.pending = [] → s.roster.phase = .none → Told s.control [fun seq => .rackOrder
              ⟨seq, BitVec.ofNat 32 s.orders.nextRackSeq, eightByte o, req.seq, d.block⟩] [] s t))) ∧
      (s.passes p ⟨h, .rackRefusal ref⟩ →
        (s.pendingEntry ref.seq = none → ∃ t, exec refCmd s = .next t ∧ t.orders.pending = s.orders.pending) ∧
        (∀ e, s.pendingEntry ref.seq = some e →
          (ref.reason = 2 → ∃ t, exec refCmd s = .next t ∧ t.orders.pending = s.orders.pending.filter fun k => k.seq ≠ ref.seq) ∧
          (ref.reason = 1 → e.status = .sent → ∃ t, exec refCmd s = .next t ∧ t.orders.pending =
            s.orders.pending.map fun k => if k.seq = ref.seq then { k with status := .held } else k) ∧
          (ref.reason = 1 → e.status ≠ .sent → ∃ t, exec refCmd s = .next t ∧ t.orders.pending = s.orders.pending)))) ∧
  (∀ (s : State) (p : Port) (h : Header) (o d : FrameNo) (c : Instr) (f : Frame) (dest : Byte),
      frameArrived c = some (p, f) → unicastTo f.body = some dest → f.header = h → s.passes p f → h.origin = eightByte o → o ≠ s.own →
      dest = eightByte d → d ≠ s.own →
      let r := s.port (otherPort p)
      let one : Nat → Nat := fun n => min (n + 1) (2 ^ 32 - 1)
      let goesOn := (s.entry d).route = some (otherPort p) ∧ s.joined (otherPort p) = true
      ∃ t, exec c s = .next t ∧
        t.orders = { s.orders with resendTimer := t.orders.resendTimer } ∧
        (r.inTransmission.isSome = true → (t.port (otherPort p)).relay = (if goesOn ∧ h.hops.toNat < 7 ∧ r.relay.length < 64
          then r.relay ++ [⟨⟨h.origin, h.hops + 1⟩, f.body⟩] else r.relay)) ∧
        (t.port p).counters.hopLimited =
          (if goesOn ∧ h.hops.toNat = 7 then one (s.port p).counters.hopLimited else (s.port p).counters.hopLimited) ∧
        (t.port p).counters.unroutable = (if goesOn then (s.port p).counters.unroutable else one (s.port p).counters.unroutable))

/-- R60, R73, R75, R76, R163 to R167: which orders are new by the applied table; a Rack Order of own origin, counted and discarded; and one of
another's, relayed, applied once, and the pending entries that it completes; a Rack Arm whose time has come, and the taps skipped (R165),
where that an Unbound tap is in no arm group, and so is not skipped, is the model's reading of R33 and R60 (notes/assumptions/25.md); and
the Roster Update of a change of belief, also of one that an own pending claim changes back (R93, R169), behind the Rack Order by the
model's choice (notes/assumptions/16.md). That an idle other port, which the same arrival offers the relayed Rack Order, sends the own Rack
Order or Roster Update ahead of it, in the clause on the belief and in the one on an own pending claim, is the model's choice too
(notes/assumptions/41.md). A claim for the own frame with several entries pending is left out. -/
def Obligations.RackOrdersApplyOnce : Prop :=
  (∀ (s : State) (o : FrameNo) (seq : Word16), s.newOrder o seq = true ↔ ∀ r, s.orders.applied[o] = some r → newAfter r seq) ∧
  (∀ (s : State) (p : Port) (h : Header) (b : RackOrderBody), s.passes p ⟨h, .rackOrder b⟩ → h.origin = eightByte s.own →
    ∃ t, exec (.rackOrder p h b) s = .next t ∧ OwnDiscarded p s t) ∧
  (∀ (s : State) (p : Port) (h : Header) (b : RackOrderBody) (master o : FrameNo) (d : RackDirective),
    s.passes p ⟨h, .rackOrder b⟩ → h.origin = eightByte master → master ≠ s.own → b.origin = eightByte o → parseBlock b.block = some d →
    let c : Instr := .rackOrder p h b
    let r := s.port (otherPort p)
    let older := s.orders.pending.takeWhile fun k => k.seq != b.seq
    let one : Nat → Nat := fun n => min (n + 1) (2 ^ 32 - 1)
    ((master, b.broadcastSeq) ∈ s.roster.recent → ∃ t, exec c s = .next t ∧ t.orders = { s.orders with resendTimer := t.orders.resendTimer } ∧
      (t.port p).counters.duplicates = one (s.port p).counters.duplicates) ∧
    ((master, b.broadcastSeq) ∉ s.roster.recent → s.joined (otherPort p) = true → r.inTransmission.isSome = true →
      ∃ t, exec c s = .next t ∧ (t.port (otherPort p)).relay = (if h.hops.toNat < 7 ∧ r.relay.length < 64
        then r.relay ++ [⟨⟨h.origin, h.hops + 1⟩, .rackOrder b⟩] else r.relay)) ∧
    ((master, b.broadcastSeq) ∉ s.roster.recent → s.newOrder o b.seq = false → ∃ t, exec c s = .next t ∧
      t.orders.applied = s.orders.applied ∧ t.orders.counters.duplicates = one s.orders.counters.duplicates ∧
      t.orders.pending = s.orders.pending ∧ t.roster.belief = s.roster.belief) ∧
    ((master, b.broadcastSeq) ∉ s.roster.recent → s.newOrder o b.seq = true → s.orders.pending = [] ∨ d ≠ .masterClaim s.own →
      ∃ t, exec c s = .next t ∧
      t.orders.applied[o] = some b.seq ∧ (∀ f, f ≠ o → t.orders.applied[f] = s.orders.applied[f]) ∧
      t.orders.lastOrder = some (b.rackSeq.toNat, master) ∧ t.orders.counters.applied = one s.orders.counters.applied ∧
      t.orders.pending.map PendingEntry.seq = (if o = s.own ∧ older.length < s.orders.pending.length
        then (s.orders.pending.drop (older.length + 1)).map PendingEntry.seq else s.orders.pending.map PendingEntry.seq) ∧
      (∀ f, d = .masterClaim f → f ≠ s.own ∨ s.roster.ownState = .active → t.roster.belief = some f) ∧
      (∀ g time k, d = .rackArm g time → (s.tap k).state = .idle → (s.tap k).armGroup = g → s.away = false →
        s.clock.time / 2 ^ 24 < time.toNat → (t.tap k).state = .armed ∧ (t.tap k).armTime = time) ∧
      (∀ g k, d = .rackHalt g → (s.tap k).armGroup = g → (t.tap k).state ≠ .armed ∧ (t.tap k).state ≠ .running) ∧
      (∀ g time, d = .rackArm g time →
        let ofGroup : TapNo → Bool := fun k => (s.tap k).state != .unbound && (s.tap k).armGroup == g
        let arms : TapNo → Bool := fun k => ofGroup k && (s.tap k).state == .idle && !s.away
        let skipped := (eight.filter fun k => ofGroup k && !arms k).length
        let late := (∃ k, arms k = true) ∧ time.toNat ≤ s.clock.time / 2 ^ 24
        t.orders.counters.skippedTaps = (if skipped = 0 then s.orders.counters.skippedTaps
          else min (s.orders.counters.skippedTaps + skipped) (2 ^ 32 - 1)) ∧
        t.orders.counters.lateArms = (if late then one s.orders.counters.lateArms else s.orders.counters.lateArms) ∧
        (late → ∀ k, arms k = true → (t.tap k).state = .running ∧ (t.tap k).r = 0 ∧ (t.tap k).x = 0 ∧ (t.tap k).passesDone = 0) ∧
        (s.orders.pending = [] → s.roster.phase = .none → (∀ k, (s.tap k).state ≠ .draining) → s.upPortNow = s.clock.upPort →
          t.reporter = (raise (.rackApplied o d b.seq b.rackSeq.toNat)
            (if late then raise (.lateArm g b.rackSeq.toNat time) s else s)).reporter)) ∧
      (s.orders.pending = [] → s.roster.phase = .none → Told s.control [] [] s t)) ∧
    (∀ q f tag st, (master, b.broadcastSeq) ∉ s.roster.recent → s.newOrder o b.seq = true → o ≠ s.own → d = .masterClaim s.own →
      s.roster.ownState = .active → s.roster.belief ≠ some s.own → s.roster.phase = .none → s.orders.pending = [⟨q, .masterClaim f, tag, st⟩] →
      f ≠ s.own → s.candidate f = true → s.newOrder s.own q = true →
      ∃ t, exec c s = .next t ∧ t.roster.belief = some f ∧ t.orders.pending = [] ∧ t.orders.applied[s.own] = some q ∧
        (∀ k, t.joined k = true → PortSends (queued (queued (s.control k) (t.ownFrame (.rackOrder ⟨s.link.broadcastSeq,
          BitVec.ofNat 32 s.orders.nextRackSeq, eightByte s.own, q, (RackDirective.masterClaim f).block⟩)))
          (t.updateFrame (s.link.broadcastSeq + 1) k)) k s t) ∧
        ((∃ k, t.joined k = true) → t.link.broadcastSeq = s.link.broadcastSeq + 2 ∧ t.roster.refreshTimer = some 25000000)))

/-- R152, R153, R154: a read of a mirror: off shape, too old, and by the state of its half. -/
def Obligations.MirrorReadsServeTheirHalf : Prop :=
  ∀ (s : State) (m : MirrorNo) (c : Coord),
    let k := s.mirror m
    let half := k.half c.half
    let place := c.r * k.recordLen + c.x
    let read := mirrorRead m c s
    let stale : State → State := fun u => u.onMirrorCounters m fun q => { q with staleReads := min (q.staleReads + 1) (2 ^ 32 - 1) }
    let live := half.state = .filling ∨ half.state = .complete ∨ half.state = .partly
    let old := (half.state = .complete ∨ half.state = .partly) ∧ k.ageLimit ≠ 0 ∧
      ∃ e, half.endStamp = some e ∧ e.time.toNat + k.ageLimit * 256000 < s.clock.time / 2 ^ 24
    (c.inShape = false → read = (fillLine k.fill, s)) ∧
    (c.inShape = true → half.state = .empty ∨ half.state = .stale → read = (fillLine k.fill, stale s)) ∧
    (c.inShape = true → live → ¬ old → place ∈ half.present →
      read = (Memory.readLine s.mirrorStore.store (k.storeLine c.half c.r c.x), s)) ∧
    (c.inShape = true → live → ¬ old → place ∉ half.present → read = (fillLine k.fill,
      s.onMirrorCounters m fun q => { q with absentReads := min (q.absentReads + 1) (2 ^ 32 - 1) })) ∧
    (c.inShape = true → old → read = (fillLine k.fill,
      stale (raise (.mirrorAged m c.half half.pass) (s.onHalf m c.half fun q => { q with state := .stale }))))

/-! ### Events of the part's own making -/

/-- R40, R43, R55 to R57, R82 to R85, R105, R107: the end of a transmission, a drained tap, a reached arm time, the two moves of a leave, and
what an arbiter grants. That a drained tap and a reached arm time are settled within the event that brings them, so that TAP_DRAINED and
ARM_TIME_REACHED do no more than that, is the model's choice (notes/assumptions/6.md). -/
def Obligations.WorkEndsAtItsEvent : Prop :=
  (∀ (s : State) (p : Port) (k : TapNo),
    let sent := s.onPort p fun r => { r with
      inTransmission := none, counters := { r.counters with sent := min (r.counters.sent + 1) (2 ^ 32 - 1) } }
    let drained := s.onTap k fun q => { q with state := .idle, waiting := [] }
    (∀ f, (s.port p).inTransmission = some f → exec (.transmissionComplete p) s = .next (conclude s sent)) ∧
    (∀ f, (s.port p).inTransmission = some f → (s.port (otherPort p)).inTransmission.isSome = true → s.roster.phase = .none →
      (∀ j, (s.tap j).state ≠ .draining) → s.upPortNow = s.clock.upPort → timersRight s →
      exec (.transmissionComplete p) s = .next (grant p sent)) ∧
    ((s.port p).inTransmission = none → exec (.transmissionComplete p) s = .next (conclude s s)) ∧
    ((s.tap k).state = .draining → (s.tap k).queue = [] → exec (.tapDrained k) s =
      .next (conclude s ((s.tap k).waiting.foldl (fun u tag => postResult tag 0x05 .done u) drained))) ∧
    ((s.tap k).state = .draining → (s.tap k).queue = [] → ∃ t, exec (.tapDrained k) s = .next t ∧ (t.tap k).state = .idle ∧
      (t.tap k).waiting = [] ∧ (t.tap k).counters = (s.tap k).counters ∧ (t.tap k).pass = (s.tap k).pass ∧
      (t.tap k).r = (s.tap k).r ∧ (t.tap k).x = (s.tap k).x) ∧
    ((s.tap k).state = .armed → (s.tap k).armTime.toNat ≤ s.clock.time / 2 ^ 24 → ∃ t, exec (.armTimeReached k) s = .next t ∧
      (t.tap k).state = .running ∧ (t.tap k).r = 0 ∧ (t.tap k).x = 0 ∧ (t.tap k).passesDone = 0 ∧ (∀ j, j ≠ k → t.tap j = s.tap j) ∧
      t = { s with tapEngine := t.tapEngine }) ∧
    ((s.tap k).state ≠ .armed ∨ s.clock.time / 2 ^ 24 < (s.tap k).armTime.toNat → exec (.armTimeReached k) s = .next s) ∧
    (s.roster.phase = .draining → s.roster.ownState = .leaving →
      (∀ j, (s.tap j).state = .idle ∨ (s.tap j).state = .unbound ∨ ((s.tap j).state = .halted ∧ (s.tap j).queue = [])) →
      let waits := frameSet fun f => decide (f ≠ s.own) && (s.entry f).state == .present
      ∃ t, exec .leaveAnnounced s = .next t ∧
        (waits ≠ 0 → t.roster.phase = .announced ∧ t.roster.waitSet = waits ∧ t.roster.ownState = .leaving) ∧
        (waits = 0 → t.roster.phase = .none ∧ t.roster.ownState = .departed)) ∧
    (s.roster.phase = .announced → s.roster.waitSet = 0 → s.roster.ownState = .leaving → ∃ t, exec .leaveComplete s = .next t ∧
      t.roster.ownState = .departed ∧ t.roster.phase = .none ∧ t.roster.leaveTag = none ∧ t.roster.entries = s.roster.entries)) ∧
  (∀ (s : State) (p : Port),
    let r := s.port p
    let now : TimeValue := BitVec.ofNat 72 (s.clock.time / 2 ^ 24)
    let own : Header := ⟨eightByte s.own, 0⟩
    let tapLevel : Tap → Nat := fun k =>
      let n := (k.queue.filter fun e => e.pending.get p).length
      if k.state = .unbound then 0
      else if k.high ≤ n ∧ 1 ≤ n then 3
      else if k.low ≤ n ∧ 1 ≤ n then 2
      else if k.stop < n then 1
      else if 1 ≤ n ∧ ((∃ e ∈ k.queue, e.isMark = true ∧ e.pending.get p = true) ∨ k.state = .draining ∨ k.state = .halted) then 1
      else 0
    let relays := r.relay.length
    let level : Fin 9 → Nat := fun i =>
      if i.val = 0 then (if 48 ≤ relays then 3 else if 16 ≤ relays then 2 else if 1 ≤ relays then 1 else 0)
      else tapLevel (s.tap (Fin.ofNat 8 (i.val - 1)))
    let turn : Fin 9 → Nat := fun i => (i.val + 8 - r.lastGranted.val) % 9
    (r.inTransmission.isSome = true ∨ (r.state ≠ .joined ∧ r.state ≠ .linked) → grant p s = s) ∧
    (r.inTransmission = none → r.state = .linked →
      (∀ f rest, r.control = f :: rest → isHello f = true →
        grant p s = s.onPort p fun k => { k with control := rest, inTransmission := some f }) ∧
      ((∀ f, r.control.head? = some f → isHello f = false) → grant p s = s)) ∧
    (r.inTransmission = none → r.state = .joined →
      (∀ b, r.slotReply = some b → grant p s = s.onPort p fun k =>
        { k with slotReply := none, inTransmission := some ⟨own, .timeReply { b with t3 := now }⟩ }) ∧
      (∀ b, r.slotReply = none → r.slotRequest = some b → grant p s = s.onPort p fun k =>
        { k with slotRequest := none, inTransmission := some ⟨own, .timeRequest { b with t1 := now }⟩ }) ∧
      (∀ f rest, r.slotReply = none → r.slotRequest = none → r.control = f :: rest →
        grant p s = s.onPort p fun k => { k with control := rest, inTransmission := some f }) ∧
      (r.slotReply = none → r.slotRequest = none → r.control = [] →
        ((∀ i, level i = 0) → grant p s = s) ∧
        ∀ i, level i ≠ 0 → (∀ j, level j < level i ∨ (level j = level i ∧ turn i ≤ turn j)) →
          (∀ f rest, i.val = 0 → r.relay = f :: rest →
            grant p s = s.onPort p fun k => { k with relay := rest, lastGranted := 0, inTransmission := some f }) ∧
          (i.val ≠ 0 → let t : TapNo := Fin.ofNat 8 (i.val - 1)
            ∃ front back e more frame, (s.tap t).queue = front ++ back ∧ front.filter (fun e => e.pending.get p) = e :: more ∧
              (let left := front.filterMap fun e => if e.pending.get p
                then (if e.pending.get (otherPort p) then some { e with pending := e.pending.set p false } else none) else some e
              grant p s = (s.onTap t fun k => { k with queue := left ++ back }).onPort p fun k =>
                { k with lastGranted := i, inTransmission := some ⟨own, frame⟩ }) ∧
              match e.load with
              | .mark kind forwarded => more = [] ∧ frame =
                  .mark ⟨e.dests.get p, eightByte t, halfCode e.half, markCode kind, e.pass, BitVec.ofNat 32 forwarded, e.stamp⟩
              | .line r0 x0 _ =>
                let continues : Nat → QueueEntry → Prop := fun n q =>
                  (∃ data, q.load = .line r0 (x0 + n) data) ∧ q.pass = e.pass ∧ q.half = e.half ∧ q.dests.get p = e.dests.get p
                more.length ≤ 3 ∧ (∀ n q, more[n]? = some q → continues (n + 1) q) ∧
                (more.length < 3 → ∀ q, back.find? (fun e => e.pending.get p) = some q → ¬ continues (more.length + 1) q) ∧
                frame = .sample ⟨e.dests.get p, eightByte t, halfCode e.half, e.pass, BitVec.ofNat 16 r0, BitVec.ofNat 16 x0, e.stamp,
                  (e :: more).flatMap QueueEntry.lines⟩))))

/-- R90, R92, R93, R95, R96, R118, R119, R131 to R133, R192: what a vector shows; what a neighbour's vector makes of the hop counts and
states of the frames it names, own announcement or not; the events of a roster change in their order, in one operation and at a Forget
Frame; and the one transition of the Rack Time Unit toward the belief that the event leaves: where the part becomes master, ceases to be,
or changes its leader or its up port. That the transition goes by the belief the event leaves, and that a belief in the own frame which the
event ends again was never followed, is the model's choice (notes/assumptions/40.md); that the other items are taken also where the sender's own
item is unreachable, and that R75's comparison then goes by bytes 4 and 5 of that item, is its choice too (notes/assumptions/20.md); that R164's lack of an up port holds of every
entry that is not Present is its reading (notes/assumptions/39.md). -/
def Obligations.VectorsShowAndChangeTheRoster : Prop :=
  (∀ (s : State) (p : Port) (f : FrameNo),
    let item := (s.vector p)[f]
    let e := s.entry f
    let flag : Bool → Byte := fun b => if b then 1 else 0
    (f = s.own → s.roster.ownState ≠ .starting → item = ⟨0, flag s.roster.masterCapable,
      (if s.roster.ownState = .departed then 3 else if s.roster.ownState = .leaving ∧ s.roster.phase = .announced then 2 else 1),
      frameByte s.roster.belief, s.roster.incarnation⟩) ∧
    (f ≠ s.own → e.route = none ∨ e.route = some p → item = ⟨0xFF, 0, 0, 0, 0⟩) ∧
    (∀ h i st, f ≠ s.own → e.route = some (otherPort p) → e.hops.get (otherPort p) = some h → e.incarnation = some i →
      (e.state, st) ∈ [(EntryState.present, (1 : Byte)), (.leaving, 2), (.departed, 3)] →
      item = ⟨BitVec.ofNat 8 h, flag e.masterCapable, st, frameByte e.belief, i⟩)) ∧
  (∀ (s : State) (p : Port) (h : Header) (o : FrameNo) (items : Vector VectorItem 8) (c : Instr) (seq : Word16),
    (c = .hello p h ⟨items⟩ ∧ s.passes p ⟨h, .hello ⟨items⟩⟩ ∨
      c = .rosterUpdate p h ⟨seq, items⟩ ∧ s.passes p ⟨h, .rosterUpdate ⟨seq, items⟩⟩ ∧
        ¬ ((o, seq) ∈ s.roster.recent ∧ (s.entry o).state ≠ .absent ∧ (s.entry o).incarnation = some items[o].incarnation)) →
    h.origin = eightByte o → h.hops = 0 → o ≠ s.own →
    ∃ t, exec c s = .next t ∧ ∀ f, f ≠ s.own → f ≠ o →
      let e := s.entry f
      let hops := match itemNews items[f] with
        | none => none
        | some n => if n.hops < 7 ∧ (e.state = .absent ∨ e.incarnation = some n.incarnation) then some (n.hops + 1) else none
      let route := routeOf (e.hops.set p hops)
      (t.entry f).hops = e.hops.set p hops ∧ (t.entry f).route = route ∧
      (t.entry f).state = (match route, itemNews items[f] with
        | none, _ => if e.state = .absent then .absent else .lost
        | some q, some n => if q = p then advertisedEntry n.state else e.state
        | some _, none => e.state)) ∧
  (∀ (before s : State) (left : Option FrameNo), before.roster.ownState = .departed ∨ s.roster.ownState ≠ .departed →
    let ofFrame : FrameNo → List EventInfo := fun f =>
      let old := before.entry f
      let new := s.entry f
      (if old.state ≠ .absent ∧ new.state ≠ .absent ∧ old.incarnation ≠ new.incarnation
        then [.restartSeen f (new.incarnation.getD 0)] else []) ++
      (if old.state ≠ new.state then [.entryChanged f new.state] else [])
    let events := ((eight.filter fun f => f ≠ s.own).flatMap ofFrame) ++
      (if before.roster.ownState ≠ s.roster.ownState then [.partStateChanged s.own s.roster.ownState] else []) ++
      (if before.roster.belief ≠ s.roster.belief then [.beliefChanged s.own s.roster.belief] else [])
    notify left before s = followMaster before.roster.belief left (events.foldl (fun u e => raise e u) s)) ∧
  (∀ (s : State) (tag : Word16) (frame : Byte) (f b : FrameNo), (s.region 0).valid = true → frame.toNat = f.val → f ≠ s.own →
    (s.entry f).state = .lost → (s.entry f).route = none → s.roster.belief = some b → b ≠ s.own → s.upPortNow = s.clock.upPort →
    s.roster.phase = .none → (∀ k, (s.tap k).state ≠ .draining) →
    ∃ t, exec (.forgetFrame tag frame) s = .next t ∧
      t.reporter = (raise (.entryChanged f .absent) (postResult tag 0x22 .done s.taken)).reporter ∧ Told s.control [] [] s t) ∧
  (∀ (s : State) (former left : Option FrameNo),
    let c := s.clock
    let u := followMaster former left s
    let up : Option Port := match left with
      | none => none
      | some f => if f ≠ s.own ∧ (s.entry f).state = .present then (s.entry f).route else none
    let clamp : Int → Int := fun z => max (-3435973) (min z 3435973)
    let taken := { c with outstanding := none, missed := 0, upPort := up }
    let acquiring := { taken with lock := .acquiring, within := 0, outside := 0 }
    let holdover := { taken with lock := .holdover, trim := clamp c.integral, holdoverAge := 0, within := 0, outside := 0 }
    let becomes : RackTime → Prop := fun k =>
      u = if k.lock = c.lock then { s with clock := k } else raise (.lockStateChanged s.own k.lock c.lock) { s with clock := k }
    let follower := left ≠ some s.own ∧ ¬ (former = some s.own ∧ c.lock = .master)
    let moved := up ≠ c.upPort ∨ ∃ f g, former = some f ∧ left = some g ∧ f ≠ g ∧ f ≠ s.own
    let tracks := c.lock = .acquiring ∨ c.lock = .locked
    (left = some s.own → former = some s.own → u = s) ∧
    (left = some s.own → former ≠ some s.own → c.beenMaster = true →
      becomes { taken with lock := .master, within := 0, outside := 0, holdoverAge := 0, trim := clamp c.integral }) ∧
    (left = some s.own → former ≠ some s.own → c.beenMaster = false →
      becomes { taken with lock := .master, within := 0, outside := 0, holdoverAge := 0, beenMaster := true
                           trim := clamp c.settings.masterTrim, integral := clamp c.settings.masterTrim }) ∧
    (left ≠ some s.own → former = some s.own → c.lock = .master →
      (up ≠ none → becomes acquiring) ∧ (up = none → becomes holdover)) ∧
    (follower → ¬ moved → u = s) ∧
    (follower → moved → tracks → c.upPort ≠ none → (up ≠ none → becomes acquiring) ∧ (up = none → becomes holdover)) ∧
    (follower → moved → ¬ tracks ∨ c.upPort = none → becomes taken))

/-- R40, R71, R72, R81, R93, R104, R110, R114, R117, R120, R121, R129, R159: the expiries of the part's three timers, and the tick; who is a
candidate, and who the successor. That a timer holds its
period, acts only at its expiry's command while it runs, and is not counted by a tick is the model's choice (notes/assumptions/5.md). -/
def Obligations.TimersActAtTheirExpiry : Prop :=
  ∀ s : State,
    (∀ f, s.candidate f = true ↔ s.isCandidate f) ∧
    (∀ f, s.successor = some f ↔ f ≠ s.own ∧ s.isCandidate f ∧ ∀ g, g ≠ s.own → s.isCandidate g → f ≤ g) ∧
    (s.roster.refreshTimer.isSome = true → s.orders.pending = [] → ∃ t, exec .refreshTimerExpiry s = .next t ∧
      t.roster.entries = s.roster.entries ∧
      (∀ f, s.roster.belief = some f → f ≠ s.own → (s.entry f).state ≠ .present → s.elects t.roster.belief) ∧
      ((∀ f, s.roster.belief = some f → f = s.own ∨ (s.entry f).state = .present) → t.roster.belief = s.roster.belief) ∧
      (s.roster.phase ≠ .draining → (s.roster.phase = .announced → s.roster.waitSet ≠ 0) →
        (∀ p, s.joined p = true → PortSends (queued (s.control p) (t.updateFrame s.link.broadcastSeq p)) p s t) ∧
        ((∃ p, s.joined p = true) → t.link.broadcastSeq = s.link.broadcastSeq + 1 ∧ (s.roster.ownState ≠ .starting →
          t.roster.refreshTimer = some (if s.roster.phase = .announced then 2500000 else 25000000))) ∧
        ((∀ p, s.joined p = false) → t.link.broadcastSeq = s.link.broadcastSeq))) ∧
    (s.roster.refreshTimer = none → exec .refreshTimerExpiry s = .next s) ∧
    (s.clock.exchangeTimer.isSome = true → s.upPortNow = s.clock.upPort → ∃ t, exec .exchangeTimerExpiry s = .next t ∧
      let missed := if s.clock.outstanding.isSome then min (s.clock.missed + 1) 255 else s.clock.missed
      let lost := 3 ≤ missed ∧ (s.clock.lock = .acquiring ∨ s.clock.lock = .locked)
      t.clock.exchangeTimer = some (2 ^ s.clock.settings.k) ∧ t.clock.exponent = s.clock.settings.k ∧ t.clock.missed = missed ∧ t.clock.time = s.clock.time ∧
      (∀ p, s.clock.upPort = some p → t.clock.outstanding = some ⟨s.clock.requestNumber, p⟩ ∧
        t.clock.requestNumber = s.clock.requestNumber + 1 ∧
        ((s.port p).inTransmission.isSome = true → (t.port p).slotRequest = some ⟨s.clock.requestNumber, 0⟩ ∧
          (t.port p).slotReply = (s.port p).slotReply) ∧
        ((s.port p).inTransmission = none → s.joined p = true → (s.port p).slotReply = none → (t.port p).slotRequest = none ∧
          (t.port p).inTransmission =
            some (s.ownFrame (.timeRequest ⟨s.clock.requestNumber, BitVec.ofNat 72 (s.clock.time / 2 ^ 24)⟩)))) ∧
      (s.clock.upPort = none → t.clock.outstanding = none ∧ t.clock.requestNumber = s.clock.requestNumber) ∧
      (lost → t.clock.lock = .holdover ∧ t.clock.holdoverAge = 0 ∧
        t.clock.trim = max (-3435973) (min s.clock.integral 3435973)) ∧
      (s.clock.lock = .holdover → t.clock.holdoverAge = min (s.clock.holdoverAge + 1) 1000000 ∧
        t.clock.lock = (if s.clock.settings.holdover ≤ min (s.clock.holdoverAge + 1) 1000000 then .freeRun else .holdover)) ∧
      (¬ lost → s.clock.lock ≠ .holdover → t.clock.lock = s.clock.lock ∧ t.clock.trim = s.clock.trim)) ∧
    (s.clock.exchangeTimer = none → exec .exchangeTimerExpiry s = .next s) ∧
    (∀ f p, s.orders.resendTimer.isSome = true → s.roster.belief = some f → f ≠ s.own → (s.entry f).route = some p → s.joined p = true →
      (s.port p).inTransmission.isSome = true → (s.orders.pending.map PendingEntry.seq).Nodup →
      let sent := s.orders.pending.filter fun e => e.status == .sent
      (s.port p).control.length + sent.length ≤ 16 → ∃ t, exec .resendTimerExpiry s = .next t ∧
        t.orders.pending = s.orders.pending ∧
        (s.roster.phase = .none → (t.port p).control = (s.port p).control ++ sent.map fun e =>
          ⟨⟨eightByte s.own, 0⟩, .rackRequest ⟨eightByte f, e.seq, e.directive.block⟩⟩)) ∧
    (s.orders.resendTimer = none → exec .resendTimerExpiry s = .next s) ∧
    ∃ t, exec .tick s = .next t ∧ t.clock.time = min (Int.toNat (s.clock.time + (4 * 2 ^ 32 + s.clock.trim))) ((2 ^ 64 - 1) * 2 ^ 32) ∧
      t = { s with clock := { s.clock with time := t.clock.time }, tapEngine := t.tapEngine } ∧
      ∀ k, ((s.tap k).state = .armed → (s.tap k).armTime.toNat ≤ t.clock.time / 2 ^ 24 → (t.tap k).state = .running) ∧
        ((s.tap k).state ≠ .armed ∨ t.clock.time / 2 ^ 24 < (s.tap k).armTime.toNat → t.tap k = s.tap k)
end

