-- ==== Sys2Proof/Laws/State.lean ====
section
/-! SUPPORT. One lemma per field per update of the state, and reading back what an update wrote, so that no later proof unfolds a
record update. -/

namespace Sys2Proof.Machine

/-! ### The blocks -/

section onChannel
variable (s : State) (f : Channel → Channel)
@[simp] theorem onChannel_channel : (s.onChannel f).channel = f s.channel := rfl
@[simp] theorem onChannel_regions : (s.onChannel f).regions = s.regions := rfl
@[simp] theorem onChannel_tapEngine : (s.onChannel f).tapEngine = s.tapEngine := rfl
@[simp] theorem onChannel_mirrorStore : (s.onChannel f).mirrorStore = s.mirrorStore := rfl
@[simp] theorem onChannel_link : (s.onChannel f).link = s.link := rfl
@[simp] theorem onChannel_roster : (s.onChannel f).roster = s.roster := rfl
@[simp] theorem onChannel_clock : (s.onChannel f).clock = s.clock := rfl
@[simp] theorem onChannel_orders : (s.onChannel f).orders = s.orders := rfl
@[simp] theorem onChannel_reporter : (s.onChannel f).reporter = s.reporter := rfl
@[simp] theorem onChannel_toDram : (s.onChannel f).toDram = s.toDram := rfl
@[simp] theorem onChannel_toController : (s.onChannel f).toController = s.toController := rfl
@[simp] theorem onChannel_pending : (s.onChannel f).pending = s.pending := rfl
end onChannel

section onRegions
variable (s : State) (f : Vector Region 18 → Vector Region 18)
@[simp] theorem onRegions_channel : (s.onRegions f).channel = s.channel := rfl
@[simp] theorem onRegions_regions : (s.onRegions f).regions = f s.regions := rfl
@[simp] theorem onRegions_tapEngine : (s.onRegions f).tapEngine = s.tapEngine := rfl
@[simp] theorem onRegions_mirrorStore : (s.onRegions f).mirrorStore = s.mirrorStore := rfl
@[simp] theorem onRegions_link : (s.onRegions f).link = s.link := rfl
@[simp] theorem onRegions_roster : (s.onRegions f).roster = s.roster := rfl
@[simp] theorem onRegions_clock : (s.onRegions f).clock = s.clock := rfl
@[simp] theorem onRegions_orders : (s.onRegions f).orders = s.orders := rfl
@[simp] theorem onRegions_reporter : (s.onRegions f).reporter = s.reporter := rfl
@[simp] theorem onRegions_toDram : (s.onRegions f).toDram = s.toDram := rfl
@[simp] theorem onRegions_toController : (s.onRegions f).toController = s.toController := rfl
@[simp] theorem onRegions_pending : (s.onRegions f).pending = s.pending := rfl
end onRegions

section onTapEngine
variable (s : State) (f : TapEngine → TapEngine)
@[simp] theorem onTapEngine_channel : (s.onTapEngine f).channel = s.channel := rfl
@[simp] theorem onTapEngine_regions : (s.onTapEngine f).regions = s.regions := rfl
@[simp] theorem onTapEngine_tapEngine : (s.onTapEngine f).tapEngine = f s.tapEngine := rfl
@[simp] theorem onTapEngine_mirrorStore : (s.onTapEngine f).mirrorStore = s.mirrorStore := rfl
@[simp] theorem onTapEngine_link : (s.onTapEngine f).link = s.link := rfl
@[simp] theorem onTapEngine_roster : (s.onTapEngine f).roster = s.roster := rfl
@[simp] theorem onTapEngine_clock : (s.onTapEngine f).clock = s.clock := rfl
@[simp] theorem onTapEngine_orders : (s.onTapEngine f).orders = s.orders := rfl
@[simp] theorem onTapEngine_reporter : (s.onTapEngine f).reporter = s.reporter := rfl
@[simp] theorem onTapEngine_toDram : (s.onTapEngine f).toDram = s.toDram := rfl
@[simp] theorem onTapEngine_toController : (s.onTapEngine f).toController = s.toController := rfl
@[simp] theorem onTapEngine_pending : (s.onTapEngine f).pending = s.pending := rfl
end onTapEngine

section onMirrorStore
variable (s : State) (f : MirrorStore → MirrorStore)
@[simp] theorem onMirrorStore_channel : (s.onMirrorStore f).channel = s.channel := rfl
@[simp] theorem onMirrorStore_regions : (s.onMirrorStore f).regions = s.regions := rfl
@[simp] theorem onMirrorStore_tapEngine : (s.onMirrorStore f).tapEngine = s.tapEngine := rfl
@[simp] theorem onMirrorStore_mirrorStore : (s.onMirrorStore f).mirrorStore = f s.mirrorStore := rfl
@[simp] theorem onMirrorStore_link : (s.onMirrorStore f).link = s.link := rfl
@[simp] theorem onMirrorStore_roster : (s.onMirrorStore f).roster = s.roster := rfl
@[simp] theorem onMirrorStore_clock : (s.onMirrorStore f).clock = s.clock := rfl
@[simp] theorem onMirrorStore_orders : (s.onMirrorStore f).orders = s.orders := rfl
@[simp] theorem onMirrorStore_reporter : (s.onMirrorStore f).reporter = s.reporter := rfl
@[simp] theorem onMirrorStore_toDram : (s.onMirrorStore f).toDram = s.toDram := rfl
@[simp] theorem onMirrorStore_toController : (s.onMirrorStore f).toController = s.toController := rfl
@[simp] theorem onMirrorStore_pending : (s.onMirrorStore f).pending = s.pending := rfl
end onMirrorStore

section onLink
variable (s : State) (f : Link → Link)
@[simp] theorem onLink_channel : (s.onLink f).channel = s.channel := rfl
@[simp] theorem onLink_regions : (s.onLink f).regions = s.regions := rfl
@[simp] theorem onLink_tapEngine : (s.onLink f).tapEngine = s.tapEngine := rfl
@[simp] theorem onLink_mirrorStore : (s.onLink f).mirrorStore = s.mirrorStore := rfl
@[simp] theorem onLink_link : (s.onLink f).link = f s.link := rfl
@[simp] theorem onLink_roster : (s.onLink f).roster = s.roster := rfl
@[simp] theorem onLink_clock : (s.onLink f).clock = s.clock := rfl
@[simp] theorem onLink_orders : (s.onLink f).orders = s.orders := rfl
@[simp] theorem onLink_reporter : (s.onLink f).reporter = s.reporter := rfl
@[simp] theorem onLink_toDram : (s.onLink f).toDram = s.toDram := rfl
@[simp] theorem onLink_toController : (s.onLink f).toController = s.toController := rfl
@[simp] theorem onLink_pending : (s.onLink f).pending = s.pending := rfl
end onLink

section onRoster
variable (s : State) (f : Roster → Roster)
@[simp] theorem onRoster_channel : (s.onRoster f).channel = s.channel := rfl
@[simp] theorem onRoster_regions : (s.onRoster f).regions = s.regions := rfl
@[simp] theorem onRoster_tapEngine : (s.onRoster f).tapEngine = s.tapEngine := rfl
@[simp] theorem onRoster_mirrorStore : (s.onRoster f).mirrorStore = s.mirrorStore := rfl
@[simp] theorem onRoster_link : (s.onRoster f).link = s.link := rfl
@[simp] theorem onRoster_roster : (s.onRoster f).roster = f s.roster := rfl
@[simp] theorem onRoster_clock : (s.onRoster f).clock = s.clock := rfl
@[simp] theorem onRoster_orders : (s.onRoster f).orders = s.orders := rfl
@[simp] theorem onRoster_reporter : (s.onRoster f).reporter = s.reporter := rfl
@[simp] theorem onRoster_toDram : (s.onRoster f).toDram = s.toDram := rfl
@[simp] theorem onRoster_toController : (s.onRoster f).toController = s.toController := rfl
@[simp] theorem onRoster_pending : (s.onRoster f).pending = s.pending := rfl
end onRoster

section onClock
variable (s : State) (f : RackTime → RackTime)
@[simp] theorem onClock_channel : (s.onClock f).channel = s.channel := rfl
@[simp] theorem onClock_regions : (s.onClock f).regions = s.regions := rfl
@[simp] theorem onClock_tapEngine : (s.onClock f).tapEngine = s.tapEngine := rfl
@[simp] theorem onClock_mirrorStore : (s.onClock f).mirrorStore = s.mirrorStore := rfl
@[simp] theorem onClock_link : (s.onClock f).link = s.link := rfl
@[simp] theorem onClock_roster : (s.onClock f).roster = s.roster := rfl
@[simp] theorem onClock_clock : (s.onClock f).clock = f s.clock := rfl
@[simp] theorem onClock_orders : (s.onClock f).orders = s.orders := rfl
@[simp] theorem onClock_reporter : (s.onClock f).reporter = s.reporter := rfl
@[simp] theorem onClock_toDram : (s.onClock f).toDram = s.toDram := rfl
@[simp] theorem onClock_toController : (s.onClock f).toController = s.toController := rfl
@[simp] theorem onClock_pending : (s.onClock f).pending = s.pending := rfl
end onClock

section onOrders
variable (s : State) (f : RackOrders → RackOrders)
@[simp] theorem onOrders_channel : (s.onOrders f).channel = s.channel := rfl
@[simp] theorem onOrders_regions : (s.onOrders f).regions = s.regions := rfl
@[simp] theorem onOrders_tapEngine : (s.onOrders f).tapEngine = s.tapEngine := rfl
@[simp] theorem onOrders_mirrorStore : (s.onOrders f).mirrorStore = s.mirrorStore := rfl
@[simp] theorem onOrders_link : (s.onOrders f).link = s.link := rfl
@[simp] theorem onOrders_roster : (s.onOrders f).roster = s.roster := rfl
@[simp] theorem onOrders_clock : (s.onOrders f).clock = s.clock := rfl
@[simp] theorem onOrders_orders : (s.onOrders f).orders = f s.orders := rfl
@[simp] theorem onOrders_reporter : (s.onOrders f).reporter = s.reporter := rfl
@[simp] theorem onOrders_toDram : (s.onOrders f).toDram = s.toDram := rfl
@[simp] theorem onOrders_toController : (s.onOrders f).toController = s.toController := rfl
@[simp] theorem onOrders_pending : (s.onOrders f).pending = s.pending := rfl
end onOrders

section onReporter
variable (s : State) (f : Reporter → Reporter)
@[simp] theorem onReporter_channel : (s.onReporter f).channel = s.channel := rfl
@[simp] theorem onReporter_regions : (s.onReporter f).regions = s.regions := rfl
@[simp] theorem onReporter_tapEngine : (s.onReporter f).tapEngine = s.tapEngine := rfl
@[simp] theorem onReporter_mirrorStore : (s.onReporter f).mirrorStore = s.mirrorStore := rfl
@[simp] theorem onReporter_link : (s.onReporter f).link = s.link := rfl
@[simp] theorem onReporter_roster : (s.onReporter f).roster = s.roster := rfl
@[simp] theorem onReporter_clock : (s.onReporter f).clock = s.clock := rfl
@[simp] theorem onReporter_orders : (s.onReporter f).orders = s.orders := rfl
@[simp] theorem onReporter_reporter : (s.onReporter f).reporter = f s.reporter := rfl
@[simp] theorem onReporter_toDram : (s.onReporter f).toDram = s.toDram := rfl
@[simp] theorem onReporter_toController : (s.onReporter f).toController = s.toController := rfl
@[simp] theorem onReporter_pending : (s.onReporter f).pending = s.pending := rfl
end onReporter

/-! ### One record of a block -/

section onTap
variable (s : State) (t : TapNo) (f : Tap → Tap)
@[simp] theorem onTap_channel : (s.onTap t f).channel = s.channel := rfl
@[simp] theorem onTap_regions : (s.onTap t f).regions = s.regions := rfl
@[simp] theorem onTap_mirrorStore : (s.onTap t f).mirrorStore = s.mirrorStore := rfl
@[simp] theorem onTap_link : (s.onTap t f).link = s.link := rfl
@[simp] theorem onTap_roster : (s.onTap t f).roster = s.roster := rfl
@[simp] theorem onTap_clock : (s.onTap t f).clock = s.clock := rfl
@[simp] theorem onTap_orders : (s.onTap t f).orders = s.orders := rfl
@[simp] theorem onTap_reporter : (s.onTap t f).reporter = s.reporter := rfl
@[simp] theorem onTap_toDram : (s.onTap t f).toDram = s.toDram := rfl
@[simp] theorem onTap_toController : (s.onTap t f).toController = s.toController := rfl
@[simp] theorem onTap_pending : (s.onTap t f).pending = s.pending := rfl
end onTap

section onMirror
variable (s : State) (m : MirrorNo) (f : Mirror → Mirror)
@[simp] theorem onMirror_channel : (s.onMirror m f).channel = s.channel := rfl
@[simp] theorem onMirror_regions : (s.onMirror m f).regions = s.regions := rfl
@[simp] theorem onMirror_tapEngine : (s.onMirror m f).tapEngine = s.tapEngine := rfl
@[simp] theorem onMirror_link : (s.onMirror m f).link = s.link := rfl
@[simp] theorem onMirror_roster : (s.onMirror m f).roster = s.roster := rfl
@[simp] theorem onMirror_clock : (s.onMirror m f).clock = s.clock := rfl
@[simp] theorem onMirror_orders : (s.onMirror m f).orders = s.orders := rfl
@[simp] theorem onMirror_reporter : (s.onMirror m f).reporter = s.reporter := rfl
@[simp] theorem onMirror_toDram : (s.onMirror m f).toDram = s.toDram := rfl
@[simp] theorem onMirror_toController : (s.onMirror m f).toController = s.toController := rfl
@[simp] theorem onMirror_pending : (s.onMirror m f).pending = s.pending := rfl
end onMirror

section onPort
variable (s : State) (p : Port) (f : PortRecord → PortRecord)
@[simp] theorem onPort_channel : (s.onPort p f).channel = s.channel := rfl
@[simp] theorem onPort_regions : (s.onPort p f).regions = s.regions := rfl
@[simp] theorem onPort_tapEngine : (s.onPort p f).tapEngine = s.tapEngine := rfl
@[simp] theorem onPort_mirrorStore : (s.onPort p f).mirrorStore = s.mirrorStore := rfl
@[simp] theorem onPort_roster : (s.onPort p f).roster = s.roster := rfl
@[simp] theorem onPort_clock : (s.onPort p f).clock = s.clock := rfl
@[simp] theorem onPort_orders : (s.onPort p f).orders = s.orders := rfl
@[simp] theorem onPort_reporter : (s.onPort p f).reporter = s.reporter := rfl
@[simp] theorem onPort_toDram : (s.onPort p f).toDram = s.toDram := rfl
@[simp] theorem onPort_toController : (s.onPort p f).toController = s.toController := rfl
@[simp] theorem onPort_pending : (s.onPort p f).pending = s.pending := rfl
end onPort

section onEntry
variable (s : State) (n : FrameNo) (f : RosterEntry → RosterEntry)
@[simp] theorem onEntry_channel : (s.onEntry n f).channel = s.channel := rfl
@[simp] theorem onEntry_regions : (s.onEntry n f).regions = s.regions := rfl
@[simp] theorem onEntry_tapEngine : (s.onEntry n f).tapEngine = s.tapEngine := rfl
@[simp] theorem onEntry_mirrorStore : (s.onEntry n f).mirrorStore = s.mirrorStore := rfl
@[simp] theorem onEntry_link : (s.onEntry n f).link = s.link := rfl
@[simp] theorem onEntry_clock : (s.onEntry n f).clock = s.clock := rfl
@[simp] theorem onEntry_orders : (s.onEntry n f).orders = s.orders := rfl
@[simp] theorem onEntry_reporter : (s.onEntry n f).reporter = s.reporter := rfl
@[simp] theorem onEntry_toDram : (s.onEntry n f).toDram = s.toDram := rfl
@[simp] theorem onEntry_toController : (s.onEntry n f).toController = s.toController := rfl
@[simp] theorem onEntry_pending : (s.onEntry n f).pending = s.pending := rfl
end onEntry

section setRegion
variable (s : State) (i : Fin 18) (e : Region)
@[simp] theorem setRegion_channel : (s.setRegion i e).channel = s.channel := rfl
@[simp] theorem setRegion_tapEngine : (s.setRegion i e).tapEngine = s.tapEngine := rfl
@[simp] theorem setRegion_mirrorStore : (s.setRegion i e).mirrorStore = s.mirrorStore := rfl
@[simp] theorem setRegion_link : (s.setRegion i e).link = s.link := rfl
@[simp] theorem setRegion_roster : (s.setRegion i e).roster = s.roster := rfl
@[simp] theorem setRegion_clock : (s.setRegion i e).clock = s.clock := rfl
@[simp] theorem setRegion_orders : (s.setRegion i e).orders = s.orders := rfl
@[simp] theorem setRegion_reporter : (s.setRegion i e).reporter = s.reporter := rfl
@[simp] theorem setRegion_toDram : (s.setRegion i e).toDram = s.toDram := rfl
@[simp] theorem setRegion_toController : (s.setRegion i e).toController = s.toController := rfl
@[simp] theorem setRegion_pending : (s.setRegion i e).pending = s.pending := rfl
end setRegion

section onTapCounters
variable (s : State) (t : TapNo) (f : TapCounters → TapCounters)
@[simp] theorem onTapCounters_channel : (s.onTapCounters t f).channel = s.channel := rfl
@[simp] theorem onTapCounters_regions : (s.onTapCounters t f).regions = s.regions := rfl
@[simp] theorem onTapCounters_mirrorStore : (s.onTapCounters t f).mirrorStore = s.mirrorStore := rfl
@[simp] theorem onTapCounters_link : (s.onTapCounters t f).link = s.link := rfl
@[simp] theorem onTapCounters_roster : (s.onTapCounters t f).roster = s.roster := rfl
@[simp] theorem onTapCounters_clock : (s.onTapCounters t f).clock = s.clock := rfl
@[simp] theorem onTapCounters_orders : (s.onTapCounters t f).orders = s.orders := rfl
@[simp] theorem onTapCounters_reporter : (s.onTapCounters t f).reporter = s.reporter := rfl
@[simp] theorem onTapCounters_toDram : (s.onTapCounters t f).toDram = s.toDram := rfl
@[simp] theorem onTapCounters_toController : (s.onTapCounters t f).toController = s.toController := rfl
@[simp] theorem onTapCounters_pending : (s.onTapCounters t f).pending = s.pending := rfl
end onTapCounters

section onMirrorCounters
variable (s : State) (m : MirrorNo) (f : MirrorCounters → MirrorCounters)
@[simp] theorem onMirrorCounters_channel : (s.onMirrorCounters m f).channel = s.channel := rfl
@[simp] theorem onMirrorCounters_regions : (s.onMirrorCounters m f).regions = s.regions := rfl
@[simp] theorem onMirrorCounters_tapEngine : (s.onMirrorCounters m f).tapEngine = s.tapEngine := rfl
@[simp] theorem onMirrorCounters_link : (s.onMirrorCounters m f).link = s.link := rfl
@[simp] theorem onMirrorCounters_roster : (s.onMirrorCounters m f).roster = s.roster := rfl
@[simp] theorem onMirrorCounters_clock : (s.onMirrorCounters m f).clock = s.clock := rfl
@[simp] theorem onMirrorCounters_orders : (s.onMirrorCounters m f).orders = s.orders := rfl
@[simp] theorem onMirrorCounters_reporter : (s.onMirrorCounters m f).reporter = s.reporter := rfl
@[simp] theorem onMirrorCounters_toDram : (s.onMirrorCounters m f).toDram = s.toDram := rfl
@[simp] theorem onMirrorCounters_toController : (s.onMirrorCounters m f).toController = s.toController := rfl
@[simp] theorem onMirrorCounters_pending : (s.onMirrorCounters m f).pending = s.pending := rfl
end onMirrorCounters

section onPortCounters
variable (s : State) (p : Port) (f : PortCounters → PortCounters)
@[simp] theorem onPortCounters_channel : (s.onPortCounters p f).channel = s.channel := rfl
@[simp] theorem onPortCounters_regions : (s.onPortCounters p f).regions = s.regions := rfl
@[simp] theorem onPortCounters_tapEngine : (s.onPortCounters p f).tapEngine = s.tapEngine := rfl
@[simp] theorem onPortCounters_mirrorStore : (s.onPortCounters p f).mirrorStore = s.mirrorStore := rfl
@[simp] theorem onPortCounters_roster : (s.onPortCounters p f).roster = s.roster := rfl
@[simp] theorem onPortCounters_clock : (s.onPortCounters p f).clock = s.clock := rfl
@[simp] theorem onPortCounters_orders : (s.onPortCounters p f).orders = s.orders := rfl
@[simp] theorem onPortCounters_reporter : (s.onPortCounters p f).reporter = s.reporter := rfl
@[simp] theorem onPortCounters_toDram : (s.onPortCounters p f).toDram = s.toDram := rfl
@[simp] theorem onPortCounters_toController : (s.onPortCounters p f).toController = s.toController := rfl
@[simp] theorem onPortCounters_pending : (s.onPortCounters p f).pending = s.pending := rfl
end onPortCounters

section onOrderCounters
variable (s : State) (f : OrderCounters → OrderCounters)
@[simp] theorem onOrderCounters_channel : (s.onOrderCounters f).channel = s.channel := rfl
@[simp] theorem onOrderCounters_regions : (s.onOrderCounters f).regions = s.regions := rfl
@[simp] theorem onOrderCounters_tapEngine : (s.onOrderCounters f).tapEngine = s.tapEngine := rfl
@[simp] theorem onOrderCounters_mirrorStore : (s.onOrderCounters f).mirrorStore = s.mirrorStore := rfl
@[simp] theorem onOrderCounters_link : (s.onOrderCounters f).link = s.link := rfl
@[simp] theorem onOrderCounters_roster : (s.onOrderCounters f).roster = s.roster := rfl
@[simp] theorem onOrderCounters_clock : (s.onOrderCounters f).clock = s.clock := rfl
@[simp] theorem onOrderCounters_reporter : (s.onOrderCounters f).reporter = s.reporter := rfl
@[simp] theorem onOrderCounters_toDram : (s.onOrderCounters f).toDram = s.toDram := rfl
@[simp] theorem onOrderCounters_toController : (s.onOrderCounters f).toController = s.toController := rfl
@[simp] theorem onOrderCounters_pending : (s.onOrderCounters f).pending = s.pending := rfl
end onOrderCounters

section onHalf
variable (s : State) (m : MirrorNo) (h : Half) (f : HalfRecord → HalfRecord)
@[simp] theorem onHalf_channel : (s.onHalf m h f).channel = s.channel := rfl
@[simp] theorem onHalf_regions : (s.onHalf m h f).regions = s.regions := rfl
@[simp] theorem onHalf_tapEngine : (s.onHalf m h f).tapEngine = s.tapEngine := rfl
@[simp] theorem onHalf_link : (s.onHalf m h f).link = s.link := rfl
@[simp] theorem onHalf_roster : (s.onHalf m h f).roster = s.roster := rfl
@[simp] theorem onHalf_clock : (s.onHalf m h f).clock = s.clock := rfl
@[simp] theorem onHalf_orders : (s.onHalf m h f).orders = s.orders := rfl
@[simp] theorem onHalf_reporter : (s.onHalf m h f).reporter = s.reporter := rfl
@[simp] theorem onHalf_toDram : (s.onHalf m h f).toDram = s.toDram := rfl
@[simp] theorem onHalf_toController : (s.onHalf m h f).toController = s.toController := rfl
@[simp] theorem onHalf_pending : (s.onHalf m h f).pending = s.pending := rfl
end onHalf

section postResult
variable (s : State) (tag code : Word16) (r : DirectiveResult)
@[simp] theorem postResult_channel : (postResult tag code r s).channel = s.channel := rfl
@[simp] theorem postResult_regions : (postResult tag code r s).regions = s.regions := rfl
@[simp] theorem postResult_tapEngine : (postResult tag code r s).tapEngine = s.tapEngine := rfl
@[simp] theorem postResult_mirrorStore : (postResult tag code r s).mirrorStore = s.mirrorStore := rfl
@[simp] theorem postResult_link : (postResult tag code r s).link = s.link := rfl
@[simp] theorem postResult_roster : (postResult tag code r s).roster = s.roster := rfl
@[simp] theorem postResult_clock : (postResult tag code r s).clock = s.clock := rfl
@[simp] theorem postResult_orders : (postResult tag code r s).orders = s.orders := rfl
@[simp] theorem postResult_toDram : (postResult tag code r s).toDram = s.toDram := rfl
@[simp] theorem postResult_toController : (postResult tag code r s).toController = s.toController := rfl
@[simp] theorem postResult_pending : (postResult tag code r s).pending = s.pending := rfl
end postResult

section raise
variable (s : State) (info : EventInfo)
@[simp] theorem raise_channel : (raise info s).channel = s.channel := rfl
@[simp] theorem raise_regions : (raise info s).regions = s.regions := rfl
@[simp] theorem raise_tapEngine : (raise info s).tapEngine = s.tapEngine := rfl
@[simp] theorem raise_mirrorStore : (raise info s).mirrorStore = s.mirrorStore := rfl
@[simp] theorem raise_link : (raise info s).link = s.link := rfl
@[simp] theorem raise_roster : (raise info s).roster = s.roster := rfl
@[simp] theorem raise_clock : (raise info s).clock = s.clock := rfl
@[simp] theorem raise_orders : (raise info s).orders = s.orders := rfl
@[simp] theorem raise_toDram : (raise info s).toDram = s.toDram := rfl
@[simp] theorem raise_toController : (raise info s).toController = s.toController := rfl
@[simp] theorem raise_pending : (raise info s).pending = s.pending := rfl
end raise

section withPending
variable (s : State) (q : List Instr)
@[simp] theorem withPending_channel : (s.withPending q).channel = s.channel := rfl
@[simp] theorem withPending_regions : (s.withPending q).regions = s.regions := rfl
@[simp] theorem withPending_tapEngine : (s.withPending q).tapEngine = s.tapEngine := rfl
@[simp] theorem withPending_mirrorStore : (s.withPending q).mirrorStore = s.mirrorStore := rfl
@[simp] theorem withPending_link : (s.withPending q).link = s.link := rfl
@[simp] theorem withPending_roster : (s.withPending q).roster = s.roster := rfl
@[simp] theorem withPending_clock : (s.withPending q).clock = s.clock := rfl
@[simp] theorem withPending_orders : (s.withPending q).orders = s.orders := rfl
@[simp] theorem withPending_reporter : (s.withPending q).reporter = s.reporter := rfl
@[simp] theorem withPending_toDram : (s.withPending q).toDram = s.toDram := rfl
@[simp] theorem withPending_toController : (s.withPending q).toController = s.toController := rfl
end withPending

@[simp] theorem withPending_pending (s : State) (q : List Instr) : (s.withPending q).pending = q := rfl

/-! ### Reading back -/

@[simp] theorem setRegion_self (s : State) (i : Fin 18) (e : Region) : (s.setRegion i e).region i = e := by
  simp [State.setRegion, State.region, State.onRegions]

theorem setRegion_other (s : State) {i j : Fin 18} (e : Region) (h : j ≠ i) : (s.setRegion i e).region j = s.region j := by
  have : i.val ≠ j.val := fun k => h (Fin.ext k.symm)
  simp [State.setRegion, State.region, State.onRegions, this]

@[simp] theorem onTap_self (s : State) (t : TapNo) (f : Tap → Tap) : (s.onTap t f).tap t = f (s.tap t) := by
  simp [State.onTap, State.tap, State.onTapEngine]

theorem onTap_other (s : State) {t u : TapNo} (f : Tap → Tap) (h : u ≠ t) : (s.onTap t f).tap u = s.tap u := by
  have : t.val ≠ u.val := fun k => h (Fin.ext k.symm)
  simp [State.onTap, State.tap, State.onTapEngine, this]

@[simp] theorem onMirror_self (s : State) (m : MirrorNo) (f : Mirror → Mirror) : (s.onMirror m f).mirror m = f (s.mirror m) := by
  simp [State.onMirror, State.mirror, State.onMirrorStore]

theorem onMirror_other (s : State) {m n : MirrorNo} (f : Mirror → Mirror) (h : n ≠ m) : (s.onMirror m f).mirror n = s.mirror n := by
  have : m.val ≠ n.val := fun k => h (Fin.ext k.symm)
  simp [State.onMirror, State.mirror, State.onMirrorStore, this]

@[simp] theorem onEntry_self (s : State) (n : FrameNo) (f : RosterEntry → RosterEntry) : (s.onEntry n f).entry n = f (s.entry n) := by
  simp [State.onEntry, State.entry, State.onRoster]

theorem onEntry_other (s : State) {n k : FrameNo} (f : RosterEntry → RosterEntry) (h : k ≠ n) :
    (s.onEntry n f).entry k = s.entry k := by
  have : n.val ≠ k.val := fun e => h (Fin.ext e.symm)
  simp [State.onEntry, State.entry, State.onRoster, this]

@[simp] theorem get_set_self {α : Type} (v : PerPort α) (p : Port) (x : α) : (v.set p x).get p = x := by cases p <;> rfl

@[simp] theorem get_set_other {α : Type} (v : PerPort α) (p : Port) (x : α) :
    (v.set p x).get (otherPort p) = v.get (otherPort p) := by cases p <;> rfl

@[simp] theorem onPort_self (s : State) (p : Port) (f : PortRecord → PortRecord) : (s.onPort p f).port p = f (s.port p) := by
  cases p <;> rfl

@[simp] theorem onPort_other (s : State) (p : Port) (f : PortRecord → PortRecord) :
    (s.onPort p f).port (otherPort p) = s.port (otherPort p) := by cases p <;> rfl

@[simp] theorem onTap_presets (s : State) (t : TapNo) (f : Tap → Tap) : (s.onTap t f).tapEngine.presets = s.tapEngine.presets := rfl

@[simp] theorem onMirror_store (s : State) (m : MirrorNo) (f : Mirror → Mirror) :
    (s.onMirror m f).mirrorStore.store = s.mirrorStore.store := rfl

@[simp] theorem onMirror_extents (s : State) (m : MirrorNo) (f : Mirror → Mirror) :
    (s.onMirror m f).mirrorStore.extents = s.mirrorStore.extents := rfl

@[simp] theorem onHalf_store (s : State) (m : MirrorNo) (h : Half) (f : HalfRecord → HalfRecord) :
    (s.onHalf m h f).mirrorStore.store = s.mirrorStore.store := rfl

/-- An update of the own frame's straps is none of these: the own frame number stands. -/
@[simp] theorem postResult_own (s : State) (tag code : Word16) (r : DirectiveResult) : (postResult tag code r s).own = s.own := rfl

@[simp] theorem raise_own (s : State) (info : EventInfo) : (raise info s).own = s.own := rfl

/-! ### Writes in flight, and the recent-broadcast list -/

section holdWrite
variable (line : Option Nat) (column : BitVec 10) (half : Bool) (s : State)
@[simp] theorem holdWrite_channel : (holdWrite line column half s).channel =
    { s.channel with inFlight := s.channel.inFlight ++ [⟨line, column, half, s.channel.writeLatency⟩] } := rfl
@[simp] theorem holdWrite_regions : (holdWrite line column half s).regions = s.regions := rfl
@[simp] theorem holdWrite_tapEngine : (holdWrite line column half s).tapEngine = s.tapEngine := rfl
@[simp] theorem holdWrite_mirrorStore : (holdWrite line column half s).mirrorStore = s.mirrorStore := rfl
@[simp] theorem holdWrite_link : (holdWrite line column half s).link = s.link := rfl
@[simp] theorem holdWrite_roster : (holdWrite line column half s).roster = s.roster := rfl
@[simp] theorem holdWrite_clock : (holdWrite line column half s).clock = s.clock := rfl
@[simp] theorem holdWrite_orders : (holdWrite line column half s).orders = s.orders := rfl
@[simp] theorem holdWrite_reporter : (holdWrite line column half s).reporter = s.reporter := rfl
@[simp] theorem holdWrite_toDram : (holdWrite line column half s).toDram = s.toDram := rfl
@[simp] theorem holdWrite_toController : (holdWrite line column half s).toController = s.toController := rfl
@[simp] theorem holdWrite_pending : (holdWrite line column half s).pending = s.pending := rfl
@[simp] theorem holdWrite_toRank (rank : Byte) : (holdWrite line column half s).toRank rank = s.toRank rank := rfl
@[simp] theorem holdWrite_toBank (bank : Byte) : (holdWrite line column half s).toBank bank = s.toBank bank := rfl
@[simp] theorem holdWrite_bank (i : Fin 32) : (holdWrite line column half s).bank i = s.bank i := rfl
@[simp] theorem holdWrite_burstLine (r : Fin 2) (b : Fin 16) (row : Nat) (col : BitVec 10) :
    (holdWrite line column half s).burstLine r b row col = s.burstLine r b row col := rfl
end holdWrite

/-- A Rack Order carries no incarnation. -/
@[simp] theorem freshLife_none (s : State) (o : FrameNo) : s.freshLife o none = false := rfl

/-- The list that a new broadcast leaves never outgrows its places. -/
theorem listBroadcast_length (fresh : Bool) (o : FrameNo) (seq : Word16) (recent : List (FrameNo × Word16)) :
    (listBroadcast fresh o seq recent).length ≤ Config.recentPlaces := by
  simp only [listBroadcast, List.length_drop]; omega

/-- What stands in the list that a new broadcast leaves: its own pair, and pairs that were listed, none of its origin at a fresh life. -/
theorem mem_listBroadcast {fresh : Bool} {o : FrameNo} {seq : Word16} {recent : List (FrameNo × Word16)} {k : FrameNo × Word16}
    (h : k ∈ listBroadcast fresh o seq recent) : k = (o, seq) ∨ k ∈ recent ∧ (fresh = true → k.1 ≠ o) := by
  rcases List.mem_append.mp (List.mem_of_mem_drop h) with h | h
  · cases fresh <;> simp_all
  · exact .inl (List.mem_singleton.mp h)

end Sys2Proof.Machine
end

