-- ==== Sys2Proof/Laws/Conclude.lean ====
section
/-! SUPPORT. What concluding an event leaves as it stands, said once: the channel, the regions, the mirrors, the stride presets, the
roster's entries, identity and list of broadcasts, the standing of the ports, rack time and its settings, the straps, and the
load. -/

namespace Sys2Proof.Machine

/-- What the notices, timers and grants that conclude an event do not touch. -/
structure Settled (s t : State) : Prop where
  channel : t.channel = s.channel
  regions : t.regions = s.regions
  presets : t.tapEngine.presets = s.tapEngine.presets
  mirrors : t.mirrorStore = s.mirrorStore
  toDram : t.toDram = s.toDram
  toController : t.toController = s.toController
  pending : t.pending = s.pending
  entries : t.roster.entries = s.roster.entries
  incarnation : t.roster.incarnation = s.roster.incarnation
  heldCount : t.roster.heldCount = s.roster.heldCount
  masterCapable : t.roster.masterCapable = s.roster.masterCapable
  autoAdmit : t.roster.autoAdmit = s.roster.autoAdmit
  recent : t.roster.recent = s.roster.recent
  standing : ∀ p, (t.port p).standing = (s.port p).standing
  time : t.clock.time = s.clock.time
  settings : t.clock.settings = s.clock.settings
  exchangeTimer : t.clock.exchangeTimer = s.clock.exchangeTimer
  exponent : t.clock.exponent = s.clock.exponent
  straps : t.reporter.straps = s.reporter.straps
  loadStatus : t.reporter.loadStatus = s.reporter.loadStatus
  loadStep : t.reporter.loadStep = s.reporter.loadStep
  stored : t.reporter.stored = s.reporter.stored
  configFaults : t.reporter.configFaults = s.reporter.configFaults
  countUnreadable : t.reporter.countUnreadable = s.reporter.countUnreadable
  writeInProgress : t.reporter.writeInProgress = s.reporter.writeInProgress
  writeWaiting : t.reporter.writeWaiting = s.reporter.writeWaiting
  directivesTaken : t.reporter.directivesTaken = s.reporter.directivesTaken
  partialDirectives : t.reporter.partialDirectives = s.reporter.partialDirectives
  acknowledged : t.reporter.acknowledged = s.reporter.acknowledged

namespace Settled

theorem refl (s : State) : Settled s s := by constructor <;> first | rfl | exact fun _ => rfl

theorem trans {s t u : State} (h : Settled s t) (k : Settled t u) : Settled s u where
  channel := k.channel.trans h.channel
  regions := k.regions.trans h.regions
  presets := k.presets.trans h.presets
  mirrors := k.mirrors.trans h.mirrors
  toDram := k.toDram.trans h.toDram
  toController := k.toController.trans h.toController
  pending := k.pending.trans h.pending
  entries := k.entries.trans h.entries
  incarnation := k.incarnation.trans h.incarnation
  heldCount := k.heldCount.trans h.heldCount
  masterCapable := k.masterCapable.trans h.masterCapable
  autoAdmit := k.autoAdmit.trans h.autoAdmit
  recent := k.recent.trans h.recent
  standing p := (k.standing p).trans (h.standing p)
  time := k.time.trans h.time
  settings := k.settings.trans h.settings
  exchangeTimer := k.exchangeTimer.trans h.exchangeTimer
  exponent := k.exponent.trans h.exponent
  straps := k.straps.trans h.straps
  loadStatus := k.loadStatus.trans h.loadStatus
  loadStep := k.loadStep.trans h.loadStep
  stored := k.stored.trans h.stored
  configFaults := k.configFaults.trans h.configFaults
  countUnreadable := k.countUnreadable.trans h.countUnreadable
  writeInProgress := k.writeInProgress.trans h.writeInProgress
  writeWaiting := k.writeWaiting.trans h.writeWaiting
  directivesTaken := k.directivesTaken.trans h.directivesTaken
  partialDirectives := k.partialDirectives.trans h.partialDirectives
  acknowledged := k.acknowledged.trans h.acknowledged

/-- A fold of steps that each leave the settled part. -/
theorem foldl {α : Type} {f : State → α → State} (h : ∀ s a, Settled s (f s a)) (l : List α) (s : State) :
    Settled s (l.foldl f s) := by
  induction l generalizing s with
  | nil => exact refl s
  | cons a l ih => exact (h s a).trans (ih _)

/-- Either branch of a choice leaves it. -/
theorem ite {c : Prop} [Decidable c] {s t u : State} (h : Settled s t) (k : Settled s u) : Settled s (if c then t else u) := by
  split <;> assumption

end Settled

/-! ### The operations -/

/-- A change of the Link Controller that leaves the ports' records leaves it. -/
theorem settled_link (s : State) (f : Link → Link) (h : (f s.link).ports = s.link.ports) : Settled s (s.onLink f) := by
  constructor <;> first | rfl | exact fun p => by simp only [State.port, onLink_link, h]

/-- A change of a port's record that leaves the port's standing leaves it. -/
theorem settled_port (s : State) (p : Port) (f : PortRecord → PortRecord) (h : (f (s.port p)).standing = (s.port p).standing) :
    Settled s (s.onPort p f) := by
  constructor <;> first | rfl | skip
  intro q
  cases p <;> cases q <;> first | rfl | exact h

theorem settled_controlDrop (s : State) (p : Port) :
    Settled s (s.onPortCounters p fun c => { c with controlDrops := countUp c.controlDrops }) := settled_port _ _ _ rfl

theorem settled_tap (s : State) (t : TapNo) (f : Tap → Tap) : Settled s (s.onTap t f) := by constructor <;> first | rfl | exact fun _ => rfl

theorem settled_tapCounters (s : State) (t : TapNo) (f : TapCounters → TapCounters) : Settled s (s.onTapCounters t f) := by
  constructor <;> first | rfl | exact fun _ => rfl

theorem settled_orders (s : State) (f : RackOrders → RackOrders) : Settled s (s.onOrders f) := by constructor <;> first | rfl | exact fun _ => rfl

theorem settled_post (s : State) (tag code : Word16) (r : DirectiveResult) : Settled s (postResult tag code r s) := by
  constructor <;> first | rfl | exact fun _ => rfl

theorem settled_raise (s : State) (info : EventInfo) : Settled s (raise info s) := by constructor <;> first | rfl | exact fun _ => rfl

theorem settled_offerMark (t : TapNo) (kind : MarkKind) (s : State) : Settled s (offerMark t kind s) := by
  unfold offerMark; exact .ite (settled_tap ..) (settled_tapCounters ..)

theorem settled_abandonPass (t : TapNo) (s : State) : Settled s (abandonPass t s) := by
  unfold abandonPass; exact .ite (settled_offerMark ..) (.refl _)

theorem settled_nextPass (t : TapNo) (s : State) : Settled s (nextPass t s) := by constructor <;> first | rfl | exact fun _ => rfl

theorem settled_enterRunning (t : TapNo) (s : State) : Settled s (enterRunning t s) := by
  unfold enterRunning
  exact (Settled.ite (settled_nextPass t s) (.refl s)).trans (settled_tap ..)

theorem settled_startDue (s : State) : Settled s (startDue s) :=
  .foldl (fun _ _ => by unfold startIfDue; exact .ite (settled_enterRunning ..) (.refl _)) _ _

theorem settled_haltTap (t : TapNo) (s : State) : Settled s (haltTap t s) := by
  unfold haltTap
  split
  · exact settled_tap ..
  · exact ((settled_tap ..).trans (settled_abandonPass ..)).trans (settled_tap ..)
  · exact ((settled_tap ..).trans (settled_abandonPass ..)).trans (settled_tap ..)
  · exact settled_tap ..
  · exact .refl _
  · exact .refl _

theorem settled_settleTap (t : TapNo) (s : State) : Settled s (settleTap t s) := by
  unfold settleTap
  exact .ite ((settled_tap ..).trans (.foldl (fun _ _ => settled_post ..) _ _)) (.refl _)

theorem settled_announceLeave (s : State) : Settled s (announceLeave s) := by
  unfold announceLeave; exact .ite (by constructor <;> first | rfl | exact fun _ => rfl) (.refl _)

theorem settled_completeLeave (s : State) : Settled s (completeLeave s) := by
  unfold completeLeave; exact .ite (by constructor <;> first | rfl | exact fun _ => rfl) (.refl _)

/-- What follows at once from an event leaves the settled part. -/
theorem settled_advance (s : State) : Settled s (advance s) :=
  ((Settled.foldl (fun _ _ => settled_settleTap ..) _ _).trans (settled_announceLeave ..)).trans (settled_completeLeave ..)

theorem settled_queueControl (p : Port) (f : Frame) (s : State) : Settled s (queueControl p f s) := by
  unfold queueControl
  exact .ite (settled_port _ _ _ rfl) (.ite (settled_port _ _ _ rfl) (settled_controlDrop ..))

/-- A broadcast leaves it. -/
theorem settled_broadcast (make : Word16 → Port → Body) (s : State) : Settled s (broadcast make s) := by
  have copy (p : Port) (f : Frame) (c : Bool) (u : State) : Settled u (if c then queueControl p f u else u) :=
    .ite (settled_queueControl ..) (.refl _)
  unfold broadcast
  exact .ite (((copy ..).trans (copy ..)).trans (settled_link _ _ rfl)) (.refl _)

theorem settled_sendUnicast (dest : FrameNo) (body : Body) (s : State) : Settled s (sendUnicast dest body s) := by
  unfold sendUnicast
  split
  · exact settled_queueControl ..
  · exact settled_link _ _ rfl

/-- A lock state changed by a function that leaves rack time, the settings and the exchange timer leaves it. -/
theorem settled_changeLock (f : RackTime → RackTime) (s : State)
    (h : (f s.clock).time = s.clock.time ∧ (f s.clock).settings = s.clock.settings ∧
      (f s.clock).exchangeTimer = s.clock.exchangeTimer ∧ (f s.clock).exponent = s.clock.exponent) :
    Settled s (changeLock f s) := by
  have k : Settled s (s.onClock f) := by
    constructor <;> first | rfl | exact fun _ => rfl | exact h.1 | exact h.2.1 | exact h.2.2.1 | exact h.2.2.2
  unfold changeLock
  exact .ite k (k.trans (settled_raise ..))

theorem settled_followMaster (former left : Option FrameNo) (s : State) : Settled s (followMaster former left s) := by
  unfold followMaster
  refine .ite (.ite (.refl _) (settled_changeLock _ _ ⟨rfl, rfl, rfl, rfl⟩)) (.ite (settled_changeLock _ _ ?_) (.ite (settled_changeLock _ _ ?_) (.refl _)))
  · simp only [RackTime.fromMaster]
    split <;> exact ⟨rfl, rfl, rfl, rfl⟩
  · simp only [RackTime.changeLeader]
    split <;> exact ⟨rfl, rfl, rfl, rfl⟩

theorem settled_notifyFrame (before s : State) (f : FrameNo) : Settled s (notifyFrame before s f) := by
  have k : Settled s (if (before.entry f).state ≠ .absent ∧ (s.entry f).state ≠ .absent ∧
      (before.entry f).incarnation ≠ (s.entry f).incarnation then raise (.restartSeen f ((s.entry f).incarnation.getD 0)) s else s) :=
    .ite (settled_raise ..) (.refl _)
  unfold notifyFrame
  exact .ite k (k.trans (settled_raise ..))

theorem settled_notifyDeparture (before s : State) : Settled s (notifyDeparture before s) := by
  have k : Settled s ((raise (.leaveComplete s.own s.roster.incarnation) s).onRoster fun r => { r with leaveTag := none }) := by
    constructor <;> first | rfl | exact fun _ => rfl
  unfold notifyDeparture
  refine .ite ?_ (.refl _)
  split
  · exact k.trans (settled_post ..)
  · exact k

/-- The notices of a roster change leave it. -/
theorem settled_notify (left : Option FrameNo) (before s : State) : Settled s (notify left before s) := by
  have own : ∀ u, Settled u (notifyOwn before u) := fun u => by unfold notifyOwn; exact .ite (.refl _) (settled_raise ..)
  have belief : ∀ u, Settled u (notifyBelief before u) := fun u => by unfold notifyBelief; exact .ite (.refl _) (settled_raise ..)
  unfold notify
  exact ((((Settled.foldl (fun u f => settled_notifyFrame before u f) _ _).trans (own _)).trans (belief _)).trans
    (settled_followMaster ..)).trans (settled_notifyDeparture ..)

theorem settled_armTapOf (g : Fin 16) (time : TimeValue) (s : State) (t : TapNo) : Settled s (armTapOf g time s t) := by
  unfold armTapOf
  exact .ite (.ite (settled_tap ..) (settled_orders ..)) (.refl _)

theorem settled_applyArm (g : Fin 16) (time : TimeValue) (rackSeq : Nat) (s : State) : Settled s (applyArm g time rackSeq s) := by
  have k := Settled.foldl (fun u t => settled_armTapOf g time u t) eight s
  unfold applyArm
  exact .ite (((k.trans (settled_startDue _)).trans (settled_orders ..)).trans (settled_raise ..)) k

theorem settled_claimBelief (f : FrameNo) (s : State) : Settled s (claimBelief f s) := by
  unfold claimBelief elect
  exact .ite (by constructor <;> first | rfl | exact fun _ => rfl) (by constructor <;> first | rfl | exact fun _ => rfl)

theorem settled_applyDirective (rest : State → State) (d : RackDirective) (rackSeq : Nat) (s : State) :
    Settled s (applyDirective rest d rackSeq s) := by
  cases d with
  | masterClaim f => exact .ite (.refl _) ((settled_claimBelief ..).trans (settled_notify ..))
  | rackArm g time => exact settled_applyArm ..
  | rackHalt g => exact .foldl (fun s t => by unfold haltTapOf; exact .ite ((settled_haltTap t s).trans (settled_settleTap ..)) (.refl _)) _ _

theorem settled_refuseEntry (e : PendingEntry) (f : FrameNo) (r : RefusalReason) (s : State) : Settled s (refuseEntry e f r s) :=
  (settled_post ..).trans (settled_raise ..)

theorem settled_completePending (seq : Word16) (s : State) : Settled s (completePending seq s) := by
  unfold completePending
  split
  · exact .refl _
  · exact ((settled_orders ..).trans (.foldl (fun _ _ => settled_refuseEntry ..) _ _)).trans (settled_post ..)

theorem settled_finishOrder (o : FrameNo) (seq : Word16) (d : RackDirective) (rackSeq : Nat) (s : State) :
    Settled s (finishOrder o seq d rackSeq s) := by
  unfold finishOrder
  exact .ite ((settled_raise ..).trans (settled_completePending ..)) (settled_raise ..)

theorem settled_recordOrder (rackSeq : Nat) (master o : FrameNo) (seq : Word16) (s : State) :
    Settled s (recordOrder rackSeq master o seq s) := settled_orders ..

theorem settled_countDuplicate (s : State) : Settled s (countDuplicate s) := by constructor <;> first | rfl | exact fun _ => rfl

/-- An applied order leaves it, whatever follows in the event. -/
theorem settled_applyOrder (rest : State → State) (rackSeq : Nat) (master o : FrameNo) (seq : Word16) (d : RackDirective) (s : State) :
    Settled s (applyOrder rest rackSeq master o seq d s) := by
  unfold applyOrder
  exact .ite (((settled_recordOrder ..).trans (settled_applyDirective ..)).trans (settled_finishOrder ..)) (settled_countDuplicate _)

theorem settled_issueOrder (o : FrameNo) (seq : Word16) (d : RackDirective) (s : State) : Settled s (issueOrder o seq d s) := by
  unfold issueOrder
  exact (settled_orders ..).trans (settled_broadcast ..)

theorem settled_countOrdered (s : State) : Settled s (countOrdered s) := by constructor <;> first | rfl | exact fun _ => rfl

theorem settled_order (o : FrameNo) (seq : Word16) (d : RackDirective) (s : State) : Settled s (order o seq d s) := by
  unfold order
  exact ((settled_issueOrder ..).trans (settled_applyOrder ..)).trans (settled_countOrdered _)

theorem settled_requestEntry (dest : FrameNo) (e : PendingEntry) (s : State) : Settled s (requestEntry dest e s) :=
  (settled_orders ..).trans (settled_sendUnicast ..)

theorem settled_dealEntry (s : State) (e : PendingEntry) : Settled s (dealEntry s e) := by
  unfold dealEntry
  split
  · exact settled_orders ..
  · refine .ite ?_ (settled_requestEntry ..)
    unfold orderOwn
    exact .ite (settled_order ..) ((settled_orders ..).trans (settled_refuseEntry ..))

theorem settled_resubmit (before s : State) : Settled s (resubmit before s) := by
  unfold resubmit
  exact .ite (.refl _) (.foldl settled_dealEntry _ _)

theorem settled_makeRosterUpdate (s : State) : Settled s (makeRosterUpdate s) :=
  (settled_broadcast ..).trans (by constructor <;> first | rfl | exact fun _ => rfl)

theorem settled_syncRefresh (s : State) : Settled s (syncRefresh s) := by
  unfold syncRefresh
  exact .ite (.ite (.refl _) (by constructor <;> first | rfl | exact fun _ => rfl)) (by constructor <;> first | rfl | exact fun _ => rfl)

theorem settled_syncResend (s : State) : Settled s (syncResend s) := by
  unfold syncResend
  exact .ite (.ite (.refl _) (settled_orders ..)) (settled_orders ..)

theorem settled_startFrame (p : Port) (f : Frame) (s : State) : Settled s (startFrame p f s) := settled_port _ _ _ rfl

theorem settled_grantTap (p : Port) (t : TapNo) (s : State) : Settled s (grantTap p t s) := by
  unfold grantTap
  split
  split
  · exact (settled_tap ..).trans (settled_startFrame ..)
  · exact .refl _

theorem settled_grantRelay (p : Port) (s : State) : Settled s (grantRelay p s) := by
  unfold grantRelay
  split
  · exact (settled_port _ _ _ rfl).trans (settled_startFrame ..)
  · exact .refl _

theorem settled_grantRotating (p : Port) (s : State) : Settled s (grantRotating p s) := by
  unfold grantRotating
  split
  · split
    · exact (settled_port _ _ _ rfl).trans (settled_grantRelay ..)
    · exact (settled_port _ _ _ rfl).trans (settled_grantTap ..)
  · exact .refl _

theorem settled_grantControl (p : Port) (s : State) : Settled s (grantControl p s) := by
  unfold grantControl
  split
  · exact (settled_port _ _ _ rfl).trans (settled_startFrame ..)
  · exact .refl _

theorem settled_grantSlot (p : Port) (s : State) : Settled s (grantSlot p s) := by
  unfold grantSlot
  split
  · exact (settled_port _ _ _ rfl).trans (settled_startFrame ..)
  · split
    · exact (settled_port _ _ _ rfl).trans (settled_startFrame ..)
    · exact .refl _

/-- A grant leaves it. -/
theorem settled_grant (p : Port) (s : State) : Settled s (grant p s) := by
  unfold grant
  refine .ite (.refl _) ?_
  split
  · exact .ite (settled_grantSlot ..) (.ite (settled_grantControl ..) (settled_grantRotating ..))
  · exact .ite (settled_grantControl ..) (.refl _)
  all_goals exact .refl _

/-- The notices of a roster change and the pending entries dealt with leave it. -/
theorem settled_announce (before s : State) : Settled s (announce before s) := (settled_notify ..).trans (settled_resubmit ..)

theorem settled_round (before noted s : State) : Settled s (round before noted s) := by
  have update : ∀ u, Settled u (updateIfChanged before u) := fun u => by
    unfold updateIfChanged; exact .ite (.refl _) (settled_makeRosterUpdate ..)
  unfold round
  exact ((((((settled_advance s).trans (settled_announce ..)).trans (update _)).trans
    (settled_syncRefresh _)).trans (settled_syncResend _)).trans (settled_grant ..)).trans (settled_grant ..)

/-- Concluding an event leaves the settled part of the state it concludes. -/
theorem settled_concludeFrom (before noted s : State) : Settled s (concludeFrom before noted s) :=
  ((settled_round ..).trans (settled_round ..)).trans (settled_round ..)

/-- Concluding an event leaves the settled part of the state it concludes. -/
theorem settled_conclude (before s : State) : Settled s (conclude before s) := settled_concludeFrom ..

/-- What concludes the arrival of a Rack Order leaves it. -/
theorem settled_concludeOrder (before s : State) : Settled s (concludeOrder before s) :=
  (settled_resubmit ..).trans (settled_concludeFrom ..)

/-- What concludes an event goes by what of the roster was advertised when the event began, and by no more of that state. -/
theorem concludeFrom_of_view {before before' : State} (h : before'.view = before.view) (noted s : State) :
    concludeFrom before' noted s = concludeFrom before noted s := by
  have update : updateIfChanged before' = updateIfChanged before := by funext u; unfold updateIfChanged; rw [h]
  unfold concludeFrom round
  rw [update]

/-- A Rack Order that leaves the belief as it was is concluded as any other event. -/
theorem concludeOrder_of_belief {before s : State} (h : before.roster.belief = s.roster.belief) :
    concludeOrder before s = concludeFrom before s s := by
  have dealt : resubmit before s = s := by unfold resubmit; rw [if_pos h]
  unfold concludeOrder
  rw [dealt]
  dsimp only
  split
  · exact concludeFrom_of_view ‹_› s s
  · rfl

end Sys2Proof.Machine
end

