-- ==== Sys2Proof/Laws/Fields.lean ====
section
/-! SUPPORT. Reading back what `assemble` writes: a piece that no other piece of the layout meets is read as it was written. -/

namespace Sys2Proof.Machine

/-- Bit `i` of a piece, in its place. -/
def Piece.bit (p : Piece) (i : Nat) : Bool := decide (p.offset ≤ i) && decide (i < p.offset + p.width) && p.value.testBit (i - p.offset)

/-- One piece shifted to its place, bit by bit. -/
theorem piece_bit (n : Nat) (p : Piece) (i : Nat) :
    (BitVec.ofNat n (p.value % 2 ^ p.width) <<< p.offset).getLsbD i = (decide (i < n) && p.bit i) := by
  simp only [BitVec.getLsbD_shiftLeft, BitVec.getLsbD_ofNat, Nat.testBit_mod_two_pow, Piece.bit]
  by_cases h : p.offset ≤ i
  · have : i - p.offset < p.width ↔ i < p.offset + p.width := by omega
    by_cases hn : i < n
    · have : i - p.offset < n := by omega
      simp [*, show ¬ i < p.offset by omega]
    · simp [hn]
  · simp [h, show i < p.offset by omega]

/-- A record holds, at each bit, what one of its pieces puts there. -/
theorem assemble_bit (n : Nat) (ps : List Piece) (i : Nat) :
    (assemble n ps).getLsbD i = (decide (i < n) && ps.any fun p => p.bit i) := by
  induction ps with
  | nil => simp [assemble]
  | cons p ps ih =>
    have : assemble n (p :: ps) = assemble n ps ||| (BitVec.ofNat n (p.value % 2 ^ p.width) <<< p.offset) := rfl
    rw [this, BitVec.getLsbD_or, ih, piece_bit, List.any_cons]
    cases decide (i < n) <;> simp [Bool.or_comm]

/-- Two pieces share no bit. -/
def Piece.apart (p q : Piece) : Bool := decide (p.offset + p.width ≤ q.offset) || decide (q.offset + q.width ≤ p.offset)

theorem Piece.bit_apart {p q : Piece} {i : Nat} (h : p.apart q = true) (hp : p.offset ≤ i) (hi : i < p.offset + p.width) :
    q.bit i = false := by
  simp only [Piece.apart, Bool.or_eq_true, decide_eq_true_eq] at h
  simp only [Piece.bit]
  rcases h with h | h
  · simp [show ¬ q.offset ≤ i by omega]
  · simp [show ¬ i < q.offset + q.width by omega]

/-- A piece that every other piece of the layout stands apart from is read as it was written. -/
theorem extract_assemble {n : Nat} (before after : List Piece) (p : Piece) (hn : p.offset + p.width ≤ n)
    (hb : before.all p.apart = true) (ha : after.all p.apart = true) :
    (assemble n (before ++ p :: after)).extractLsb' p.offset p.width = BitVec.ofNat p.width p.value := by
  apply BitVec.eq_of_getLsbD_eq
  intro i hi
  have hin : p.offset ≤ p.offset + i := Nat.le_add_right _ _
  have hlt : p.offset + i < p.offset + p.width := by omega
  have none : ∀ l : List Piece, l.all p.apart = true → (l.any fun q => q.bit (p.offset + i)) = false := by
    intro l hl
    simp only [List.any_eq_false, Bool.not_eq_true]
    exact fun q hq => Piece.bit_apart (List.all_eq_true.mp hl q hq) hin hlt
  rw [BitVec.getLsbD_extractLsb', assemble_bit, List.any_append, List.any_cons, none _ hb, none _ ha, BitVec.getLsbD_ofNat]
  simp [Piece.bit, hi, show p.offset + i < n by omega]

/-- A value that fits a field is written as it is. -/
theorem saturate_fits {w v : Nat} (h : v < 2 ^ w) : saturate w v = v := by simp only [saturate]; omega

end Sys2Proof.Machine
end

