-- ==== Sys2Proof/Laws/Memory.lean ====
section
/-! SUPPORT. The mirror store's memory: a read after a write, and the canonical form that every operation keeps. -/

namespace Sys2Proof.Machine

theorem Memory.wf_tail {c : Host.Cell} {m : Memory} (h : Memory.wf (c :: m)) : Memory.wf m :=
  ⟨(List.pairwise_cons.mp h.1).2, fun d hd => h.2 d (List.mem_cons_of_mem _ hd)⟩

/-- Below the first listed address every address reads as unlisted. -/
theorem Memory.read_below {m : Memory} {a : Nat} (h : ∀ c ∈ m, a < c.1) : Memory.read m a = Config.storeFill := by
  induction m with
  | nil => rfl
  | cons c m ih =>
    have : c.1 ≠ a := by have := h c (by simp); omega
    simp only [Memory.read, this, if_false]
    exact ih fun d hd => h d (List.mem_cons_of_mem _ hd)

/-- A write adds no address but its own. -/
theorem Memory.write_addresses {m : Memory} {a : Nat} {v : Byte} {c : Host.Cell} (h : c ∈ Memory.write m a v) :
    c.1 = a ∨ c ∈ m := by
  induction m with
  | nil => simp only [Memory.write] at h; split at h <;> simp_all
  | cons d m ih =>
    simp only [Memory.write] at h
    split_ifs at h
    · exact .inr h
    · rcases List.mem_cons.mp h with rfl | h
      · exact .inl rfl
      · exact .inr h
    · exact .inr (List.mem_cons_of_mem _ h)
    · rcases List.mem_cons.mp h with rfl | h
      · exact .inl rfl
      · exact .inr (List.mem_cons_of_mem _ h)
    · rcases List.mem_cons.mp h with rfl | h
      · exact .inr (by simp)
      · rcases ih h with h | h
        · exact .inl h
        · exact .inr (List.mem_cons_of_mem _ h)

/-- A write keeps the canonical form. -/
theorem Memory.write_wf {m : Memory} (a : Nat) (v : Byte) (h : Memory.wf m) : Memory.wf (Memory.write m a v) := by
  induction m with
  | nil =>
    simp only [Memory.write]
    split
    · exact h
    · exact ⟨by simp, by simpa⟩
  | cons d m ih =>
    obtain ⟨hp, hf⟩ := h
    have hd := List.pairwise_cons.mp hp
    have hm : Memory.wf m := Memory.wf_tail ⟨hp, hf⟩
    simp only [Memory.write]
    split_ifs with h1 h2 h3 h4
    · exact ⟨hp, hf⟩
    · refine ⟨List.pairwise_cons.mpr ⟨fun c hc => ?_, hp⟩, fun c hc => ?_⟩
      · rcases List.mem_cons.mp hc with rfl | hc
        · exact h1
        · exact lt_trans h1 (hd.1 c hc)
      · rcases List.mem_cons.mp hc with rfl | hc
        · exact h2
        · exact hf c hc
    · exact hm
    · subst h3
      refine ⟨List.pairwise_cons.mpr ⟨hd.1, hd.2⟩, fun c hc => ?_⟩
      rcases List.mem_cons.mp hc with rfl | hc
      · exact h4
      · exact hm.2 c hc
    · obtain ⟨ip, jf⟩ := ih hm
      refine ⟨List.pairwise_cons.mpr ⟨fun c hc => ?_, ip⟩, fun c hc => ?_⟩
      · rcases Memory.write_addresses hc with h | h
        · omega
        · exact hd.1 c h
      · rcases List.mem_cons.mp hc with rfl | hc
        · exact hf _ (by simp)
        · exact jf c hc

/-- A read after a write to the same address gives the value written. -/
theorem Memory.read_write_self {m : Memory} (a : Nat) (v : Byte) (h : Memory.wf m) : Memory.read (Memory.write m a v) a = v := by
  induction m with
  | nil => simp only [Memory.write]; split <;> simp_all [Memory.read]
  | cons d m ih =>
    have hd := List.pairwise_cons.mp h.1
    simp only [Memory.write]
    split_ifs with h1 h2 h3 h4
    · rw [h2]
      refine Memory.read_below fun c hc => ?_
      rcases List.mem_cons.mp hc with rfl | hc
      · exact h1
      · exact lt_trans h1 (hd.1 c hc)
    · simp [Memory.read]
    · rw [h4]
      exact Memory.read_below fun c hc => h3 ▸ hd.1 c hc
    · simp [Memory.read]
    · have : d.1 ≠ a := fun e => h3 e.symm
      simp only [Memory.read, this, if_false]
      exact ih (Memory.wf_tail h)

/-- A write leaves what every other address reads as. -/
theorem Memory.read_write_other {m : Memory} {a b : Nat} (v : Byte) (hab : b ≠ a) :
    Memory.read (Memory.write m a v) b = Memory.read m b := by
  induction m with
  | nil => simp only [Memory.write]; split <;> simp [Memory.read, hab.symm]
  | cons d m ih =>
    simp only [Memory.write]
    split_ifs with h1 h2 h3 h4
    · rfl
    · simp [Memory.read, hab.symm]
    · have : d.1 ≠ b := fun e => hab (e ▸ h3.symm)
      simp [Memory.read, this]
    · have : d.1 ≠ b := fun e => hab (e ▸ h3.symm)
      simp [Memory.read, hab.symm, this]
    · simp only [Memory.read]
      split
      · rfl
      · exact ih

/-- Writes of a line's first `n` bytes keep the canonical form. -/
theorem Memory.writeLine_wf {m : Memory} (n : Nat) (l : Line) (h : Memory.wf m) : Memory.wf (Memory.writeLine m n l) := by
  unfold Memory.writeLine
  generalize List.range 64 = is
  induction is generalizing m with
  | nil => exact h
  | cons i is ih => exact ih (Memory.write_wf _ _ h)

/-- What a byte outside a written line reads as stands. -/
theorem Memory.read_writeLine_other {m : Memory} {n a : Nat} (l : Line) (h : a < 64 * n ∨ 64 * n + 64 ≤ a) :
    Memory.read (Memory.writeLine m n l) a = Memory.read m a := by
  unfold Memory.writeLine
  have key : ∀ (is : List Nat) (k : Memory), (∀ i ∈ is, i < 64) →
      Memory.read (is.foldl (fun acc i => Memory.write acc (64 * n + i) (lineByte l i)) k) a = Memory.read k a := by
    intro is
    induction is with
    | nil => intro k _; rfl
    | cons i is ih =>
      intro k hk
      have hi := hk i (by simp)
      rw [List.foldl_cons, ih _ fun j hj => hk j (by simp [hj])]
      exact Memory.read_write_other _ (by omega)
  exact key _ _ fun i hi => List.mem_range.mp hi

/-- What a byte of a written line reads as is the line's. -/
theorem Memory.read_writeLine_self {m : Memory} {n i : Nat} (l : Line) (hi : i < 64) (h : Memory.wf m) :
    Memory.read (Memory.writeLine m n l) (64 * n + i) = lineByte l i := by
  unfold Memory.writeLine
  have key : ∀ (is : List Nat) (k : Memory), Memory.wf k → (i ∈ is ∨ Memory.read k (64 * n + i) = lineByte l i) →
      Memory.read (is.foldl (fun acc j => Memory.write acc (64 * n + j) (lineByte l j)) k) (64 * n + i) = lineByte l i := by
    intro is
    induction is with
    | nil => intro k _ hk; simpa using hk
    | cons j is ih =>
      intro k hwf hk
      rw [List.foldl_cons]
      refine ih _ (Memory.write_wf _ _ hwf) ?_
      by_cases hj : i = j
      · subst hj; exact .inr (Memory.read_write_self _ _ hwf)
      · rcases hk with hk | hk
        · rcases List.mem_cons.mp hk with e | hm
          · exact absurd e hj
          · exact .inl hm
        · exact .inr (by rw [Memory.read_write_other _ (by omega)]; exact hk)
  exact key _ _ h (.inl (List.mem_range.mpr hi))

end Sys2Proof.Machine
end

