-- ==== Sys2Proof/Laws/StartUp.lean ====
section
/-! SUPPORT. What the distribution of the stored values and the placement of the Directive and Report regions do, said once. -/

namespace Sys2Proof.Machine

/-- The model's check of the stored region values is R28's six checks. -/
theorem placementFaulty_iff (c : StoredConfig) (m : AddressMap) : placementFaulty c m.lines = true ↔ c.faulty m := by
  have sizes (n : Nat) : (!(n == 4096 || n == 16384 || n == 65536)) = true ↔ n ≠ 4096 ∧ n ≠ 16384 ∧ n ≠ 65536 := by
    simp [and_assoc]
  have placed (base size : Nat) : (!regionPlaced base size m.lines) = true ↔ base % size ≠ 0 ∨ m.lines < base / 64 + size / 64 := by
    simp only [regionPlaced, Bool.not_eq_true', Bool.and_eq_false_iff, beq_eq_false_iff_ne, decide_eq_false_iff_not, not_le]
  have meets (e f : Region) : e.meets f = true ↔ e.baseLine < f.baseLine + f.lines ∧ f.baseLine < e.baseLine + e.lines := by
    simp only [Region.meets, Bool.and_eq_true, decide_eq_true_eq]
  unfold placementFaulty StoredConfig.faulty
  simp only [Bool.or_eq_true, sizes, placed, meets, or_assoc, Region.baseLine, Region.lines]

/-- R28: the entries 0 and 1 that the placement fills. -/
structure Placed (stored : Option StoredConfig) (map : Option AddressMap) (directive report : Region) : Prop where
  defaults : stored = none → directive = ⟨true, 0, 16384, false⟩ ∧ report = ⟨true, 16384, 8192, false⟩
  faulty : ∀ c m, stored = some c → map = some m → c.faulty m → directive = ⟨true, 0, 16384, false⟩ ∧ report = Region.empty
  asStored : ∀ c m, stored = some c → map = some m → ¬ c.faulty m →
    directive = ⟨true, c.directiveBase.toNat, c.directiveSize.toNat, false⟩ ∧ report = ⟨true, c.reportBase.toNat, 8192, false⟩

/-- The placement fills entries 0 and 1 and changes nothing else. -/
theorem placeRegions_spec (s : State) : ∃ directive report, Placed s.reporter.stored s.channel.map directive report ∧
    placeRegions s = (s.setRegion 0 directive).setRegion 1 report := by
  unfold placeRegions
  cases s.reporter.stored with
  | none => exact ⟨_, _, ⟨fun _ => ⟨rfl, rfl⟩, nofun, nofun⟩, rfl⟩
  | some c =>
    have lines (m : AddressMap) (h : s.channel.map = some m) : s.channelLines = m.lines := by simp only [State.channelLines, h, Option.map_some, Option.getD_some]
    by_cases f : placementFaulty c s.channelLines = true
    · refine ⟨_, _, ⟨nofun, fun _ _ _ _ _ => ⟨rfl, rfl⟩, ?_⟩, if_pos f⟩
      rintro _ m ⟨⟩ hm n
      exact absurd ((placementFaulty_iff c m).mp (lines m hm ▸ f)) n
    · refine ⟨_, _, ⟨nofun, ?_, ?_⟩, if_neg f⟩
      · rintro _ m ⟨⟩ hm n
        exact absurd ((placementFaulty_iff c m).mpr n) (lines m hm ▸ f)
      · rintro _ _ ⟨⟩ _ _
        exact ⟨rfl, rfl⟩

/-- R185: what the distribution gives the blocks, by the stored values taken. -/
structure Distributed (s t : State) : Prop where
  stored : t.reporter.stored = s.reporter.stored
  regions : t.regions = s.regions
  channel : t.channel = { s.channel with map := some ((s.reporter.stored.bind StoredConfig.map).getD AddressMap.default) }
  masterCapable : t.roster.masterCapable = (s.reporter.stored.map StoredConfig.masterCapable).getD false
  autoAdmit : t.roster.autoAdmit = (s.reporter.stored.map StoredConfig.autoAdmit).getD false
  defaults : s.reporter.stored = none → t.clock.settings = Settings.default
  settings : ∀ c, s.reporter.stored = some c → t.clock = RackTime.setSettings c.timeArgs s.clock

theorem distribute_spec (s : State) : Distributed s (distribute s) := by
  cases h : s.reporter.stored with
  | none =>
    have e : distribute s = distributeDefaults s := by unfold distribute; rw [h]
    rw [e]
    exact ⟨rfl, rfl, by rw [h]; rfl, by rw [h]; rfl, by rw [h]; rfl, fun _ => rfl, fun _ k => nomatch h.symm.trans k⟩
  | some c =>
    have e : distribute s = ((checkPlacement c (loadMap c s)).onRoster fun r =>
        { r with masterCapable := c.masterCapable, autoAdmit := c.autoAdmit }).onClock (RackTime.setSettings c.timeArgs) := by
      unfold distribute; rw [h]
    have loaded : (loadMap c s).reporter.stored = s.reporter.stored ∧ (loadMap c s).regions = s.regions ∧
        (loadMap c s).channel = { s.channel with map := some (c.map.getD AddressMap.default) } ∧ (loadMap c s).clock = s.clock := by
      unfold loadMap
      cases c.map <;> exact ⟨rfl, rfl, rfl, rfl⟩
    have checked (u : State) : (checkPlacement c u).reporter.stored = u.reporter.stored ∧ (checkPlacement c u).regions = u.regions ∧
        (checkPlacement c u).channel = u.channel ∧ (checkPlacement c u).clock = u.clock := by
      unfold checkPlacement
      split <;> exact ⟨rfl, rfl, rfl, rfl⟩
    obtain ⟨c1, c2, c3, c4⟩ := checked (loadMap c s)
    rw [e]
    refine ⟨c1.trans loaded.1, c2.trans loaded.2.1, ?_, by rw [h]; rfl, by rw [h]; rfl, fun k => (nomatch h.symm.trans k), ?_⟩
    · rw [h]
      exact c3.trans loaded.2.2.1
    · intro k hk
      cases h.symm.trans hk
      exact congrArg (RackTime.setSettings c.timeArgs) (c4.trans loaded.2.2.2)

end Sys2Proof.Machine
end

