-- ==== Sys2Proof/Laws/Steady.lean ====
section
/-! SUPPORT. What concluding an event leaves besides `Settled`, where the event has brought no change of the belief: the belief, the Rack
Order Unit but for its resend timer, a wait set that stands, and of every port that is sending the frame and the relay queue. -/

namespace Sys2Proof.Machine

/-- What the end of an event leaves where the belief has not changed. -/
structure Steady (s t : State) : Prop where
  belief : t.roster.belief = s.roster.belief
  orders : t.orders = { s.orders with resendTimer := t.orders.resendTimer }
  waits : s.roster.phase ≠ .draining → t.roster.phase ≠ .draining ∧ t.roster.waitSet = s.roster.waitSet
  sending : ∀ p, (s.port p).inTransmission.isSome = true →
    (t.port p).inTransmission = (s.port p).inTransmission ∧ (t.port p).relay = (s.port p).relay

namespace Steady

theorem refl (s : State) : Steady s s := ⟨rfl, rfl, fun h => ⟨h, rfl⟩, fun _ _ => ⟨rfl, rfl⟩⟩

theorem trans {s t u : State} (h : Steady s t) (k : Steady t u) : Steady s u where
  belief := k.belief.trans h.belief
  orders := by rw [k.orders, h.orders]
  waits hd := have ⟨ht, hw⟩ := h.waits hd; ⟨(k.waits ht).1, (k.waits ht).2.trans hw⟩
  sending p hp :=
    have ⟨ht, hr⟩ := h.sending p hp
    have ⟨ku, kr⟩ := k.sending p (ht ▸ hp)
    ⟨ku.trans ht, kr.trans hr⟩

/-- A fold of steps that are each steady. -/
theorem foldl {α : Type} {f : State → α → State} (h : ∀ s a, Steady s (f s a)) (l : List α) (s : State) : Steady s (l.foldl f s) := by
  induction l generalizing s with
  | nil => exact refl s
  | cons a l ih => exact (h s a).trans (ih _)

/-- Either branch of a choice. -/
theorem ite {c : Prop} [Decidable c] {s t u : State} (h : Steady s t) (k : Steady s u) : Steady s (if c then t else u) := by
  split <;> assumption

/-- A change outside the Roster Unit, the Rack Order Unit and the Link Controller is steady. -/
theorem of_eq {s t : State} (hr : t.roster = s.roster) (ho : t.orders = s.orders) (hl : t.link = s.link) : Steady s t where
  belief := by rw [hr]
  orders := by rw [ho]
  waits h := by rw [hr]; exact ⟨h, rfl⟩
  sending p _ := by simp only [State.port, hl, and_self]

end Steady

/-! ### The operations -/

/-- A change of the Link Controller that leaves every port's relay queue and frame in transmission. -/
theorem steady_link (s : State) (f : Link → Link) (h : (f s.link).ports = s.link.ports) : Steady s (s.onLink f) where
  belief := rfl
  orders := rfl
  waits h := ⟨h, rfl⟩
  sending p _ := by simp only [State.port, onLink_link, h, and_self]

/-- A change of a port's record that leaves its relay queue and its frame in transmission while it sends. -/
theorem steady_port (s : State) (p : Port) (f : PortRecord → PortRecord)
    (h : (s.port p).inTransmission.isSome = true →
      (f (s.port p)).inTransmission = (s.port p).inTransmission ∧ (f (s.port p)).relay = (s.port p).relay) :
    Steady s (s.onPort p f) where
  belief := rfl
  orders := rfl
  waits h := ⟨h, rfl⟩
  sending q hq := by cases p <;> cases q <;> first | exact ⟨rfl, rfl⟩ | exact h hq

/-- A change of the Roster Unit that leaves the belief and a standing wait set. -/
theorem steady_roster (s : State) (f : Roster → Roster) (hb : (f s.roster).belief = s.roster.belief)
    (hw : s.roster.phase ≠ .draining → (f s.roster).phase ≠ .draining ∧ (f s.roster).waitSet = s.roster.waitSet) :
    Steady s (s.onRoster f) := ⟨hb, rfl, hw, fun _ _ => ⟨rfl, rfl⟩⟩

theorem steady_post (s : State) (tag code : Word16) (r : DirectiveResult) : Steady s (postResult tag code r s) := .of_eq rfl rfl rfl

theorem steady_raise (s : State) (info : EventInfo) : Steady s (raise info s) := .of_eq rfl rfl rfl

theorem steady_settleTap (t : TapNo) (s : State) : Steady s (settleTap t s) := by
  unfold settleTap
  have idle : Steady s (s.onTap t fun k => { k with state := .idle, waiting := [] }) := .of_eq rfl rfl rfl
  exact .ite (idle.trans (.foldl (fun _ _ => steady_post ..) _ _)) (.refl _)

theorem steady_announceLeave (s : State) : Steady s (announceLeave s) := by
  unfold announceLeave
  split
  · exact steady_roster _ _ rfl fun h => absurd (‹_ ∧ _› : _ ∧ _).1 h
  · exact .refl _

theorem steady_completeLeave (s : State) : Steady s (completeLeave s) := by
  unfold completeLeave
  exact .ite (steady_roster _ _ rfl fun _ => ⟨nofun, rfl⟩) (.refl _)

theorem steady_advance (s : State) : Steady s (advance s) :=
  ((Steady.foldl (fun _ _ => steady_settleTap ..) _ _).trans (steady_announceLeave ..)).trans (steady_completeLeave ..)

theorem steady_queueControl (p : Port) (f : Frame) (s : State) : Steady s (queueControl p f s) := by
  unfold queueControl
  exact .ite (steady_port _ _ _ fun _ => ⟨rfl, rfl⟩) (.ite (steady_port _ _ _ fun _ => ⟨rfl, rfl⟩) (steady_port _ _ _ fun _ => ⟨rfl, rfl⟩))

theorem steady_broadcast (make : Word16 → Port → Body) (s : State) : Steady s (broadcast make s) := by
  have copy (p : Port) (f : Frame) (c : Bool) (u : State) : Steady u (if c then queueControl p f u else u) :=
    .ite (steady_queueControl ..) (.refl _)
  unfold broadcast
  exact .ite (((copy ..).trans (copy ..)).trans (steady_link _ _ rfl)) (.refl _)

theorem steady_changeLock (f : RackTime → RackTime) (s : State) : Steady s (changeLock f s) := by
  have k : Steady s (s.onClock f) := .of_eq rfl rfl rfl
  unfold changeLock
  exact .ite k (k.trans (steady_raise ..))

theorem steady_followMaster (former left : Option FrameNo) (s : State) : Steady s (followMaster former left s) := by
  unfold followMaster
  exact .ite (.ite (.refl _) (steady_changeLock ..)) (.ite (steady_changeLock ..) (.ite (steady_changeLock ..) (.refl _)))

theorem steady_notifyFrame (before s : State) (f : FrameNo) : Steady s (notifyFrame before s f) := by
  have k : Steady s (if (before.entry f).state ≠ .absent ∧ (s.entry f).state ≠ .absent ∧
      (before.entry f).incarnation ≠ (s.entry f).incarnation then raise (.restartSeen f ((s.entry f).incarnation.getD 0)) s else s) :=
    .ite (steady_raise ..) (.refl _)
  unfold notifyFrame
  exact .ite k (k.trans (steady_raise ..))

theorem steady_notifyDeparture (before s : State) : Steady s (notifyDeparture before s) := by
  have k : Steady s ((raise (.leaveComplete s.own s.roster.incarnation) s).onRoster fun r => { r with leaveTag := none }) :=
    (steady_raise ..).trans (steady_roster _ _ rfl fun h => ⟨h, rfl⟩)
  unfold notifyDeparture
  refine .ite ?_ (.refl _)
  split
  · exact k.trans (steady_post ..)
  · exact k

theorem steady_notify (left : Option FrameNo) (before s : State) : Steady s (notify left before s) := by
  have own : ∀ u, Steady u (notifyOwn before u) := fun u => by unfold notifyOwn; exact .ite (.refl _) (steady_raise ..)
  have belief : ∀ u, Steady u (notifyBelief before u) := fun u => by unfold notifyBelief; exact .ite (.refl _) (steady_raise ..)
  unfold notify
  exact ((((Steady.foldl (fun u f => steady_notifyFrame before u f) _ _).trans (own _)).trans (belief _)).trans
    (steady_followMaster ..)).trans (steady_notifyDeparture ..)

/-- The notices are steady where the belief is the one before: no pending entry is dealt with. -/
theorem steady_announce {before s : State} (h : before.roster.belief = s.roster.belief) : Steady s (announce before s) := by
  have k := steady_notify (resubmit before s).roster.belief before s
  unfold announce
  rw [resubmit, if_pos (h.trans k.belief.symm)]
  exact k

theorem steady_updateIfChanged (before s : State) : Steady s (updateIfChanged before s) := by
  unfold updateIfChanged makeRosterUpdate
  exact .ite (.refl _) ((steady_broadcast ..).trans (steady_roster _ _ rfl fun h => ⟨h, rfl⟩))

theorem steady_syncRefresh (s : State) : Steady s (syncRefresh s) := by
  unfold syncRefresh
  exact .ite (.ite (.refl _) (steady_roster _ _ rfl fun h => ⟨h, rfl⟩)) (steady_roster _ _ rfl fun h => ⟨h, rfl⟩)

theorem steady_syncResend (s : State) : Steady s (syncResend s) := by
  have k : ∀ t, Steady s (s.onOrders fun o => { o with resendTimer := t }) := fun _ => ⟨rfl, rfl, fun h => ⟨h, rfl⟩, fun _ _ => ⟨rfl, rfl⟩⟩
  unfold syncResend
  exact .ite (.ite (.refl _) (k _)) (k _)

/-- A change of an idle port's record, whatever it is. -/
theorem steady_idle {s : State} {p : Port} (h : ¬ (s.port p).inTransmission.isSome = true) (f : PortRecord → PortRecord) :
    Steady s (s.onPort p f) := steady_port _ _ _ fun k => absurd k h

/-- An idle port sends a frame, after a change that leaves it idle. -/
theorem steady_startIdle {s t : State} {p : Port} (h : Steady s t) (k : ¬ (t.port p).inTransmission.isSome = true) (f : Frame) :
    Steady s (startFrame p f t) := h.trans (steady_idle k _)

/-- A change of a port's record that leaves its frame in transmission leaves the port idle. -/
theorem idle_port {s : State} {p : Port} (h : ¬ (s.port p).inTransmission.isSome = true) (f : PortRecord → PortRecord)
    (k : (f (s.port p)).inTransmission = (s.port p).inTransmission) : ¬ ((s.onPort p f).port p).inTransmission.isSome = true := by
  rw [← k] at h
  cases p <;> exact h

section
variable {s : State} {p : Port} (h : ¬ (s.port p).inTransmission.isSome = true)
include h

theorem steady_grantControl : Steady s (grantControl p s) := by
  unfold grantControl
  split
  · exact steady_startIdle (steady_idle h _) (by exact idle_port h _ rfl) _
  · exact .refl _

theorem steady_grantSlot : Steady s (grantSlot p s) := by
  unfold grantSlot
  dsimp only
  split
  · exact steady_startIdle (steady_idle h _) (by exact idle_port h _ rfl) _
  · split
    · exact steady_startIdle (steady_idle h _) (by exact idle_port h _ rfl) _
    · exact .refl _

theorem steady_grantRelay : Steady s (grantRelay p s) := by
  unfold grantRelay
  split
  · exact steady_startIdle (steady_idle h _) (by exact idle_port h _ rfl) _
  · exact .refl _

theorem steady_grantTap (t : TapNo) : Steady s (grantTap p t s) := by
  have tap : ∀ q, Steady s (s.onTap t fun k => { k with queue := q }) := fun _ => .of_eq rfl rfl rfl
  unfold grantTap
  split
  split
  · exact steady_startIdle (tap _) h _
  · exact .refl _

theorem steady_grantRotating : Steady s (grantRotating p s) := by
  unfold grantRotating
  split
  · rename_i i _
    have k := idle_port h (fun r => { r with lastGranted := i }) rfl
    dsimp only
    split
    · exact (steady_idle h _).trans (steady_grantRelay k)
    · exact (steady_idle h _).trans (steady_grantTap k _)
  · exact .refl _

end

/-- A grant is steady: only an idle port is granted a frame. -/
theorem steady_grant (p : Port) (s : State) : Steady s (grant p s) := by
  unfold grant
  dsimp only
  split
  · exact .refl _
  · rename_i h
    split
    · exact .ite (steady_grantSlot h) (.ite (steady_grantControl h) (steady_grantRotating h))
    · exact .ite (steady_grantControl h) (.refl _)
    all_goals exact .refl _

/-- A round is steady where the belief is the one before. -/
theorem steady_round {before noted s : State} (h : noted.roster.belief = s.roster.belief) : Steady s (round before noted s) := by
  have k := steady_advance s
  unfold round
  exact (((((k.trans (steady_announce (h.trans k.belief.symm))).trans (steady_updateIfChanged ..)).trans
    (steady_syncRefresh _)).trans (steady_syncResend _)).trans (steady_grant ..)).trans (steady_grant ..)

/-- Concluding an event that has brought no change of the belief is steady. -/
theorem steady_concludeFrom {before noted s : State} (h : noted.roster.belief = s.roster.belief) : Steady s (concludeFrom before noted s) :=
  ((steady_round h).trans (steady_round rfl)).trans (steady_round rfl)

/-- What concludes the arrival of a Rack Order that has brought no change of the belief is steady. -/
theorem steady_concludeOrder {before s : State} (h : before.roster.belief = s.roster.belief) : Steady s (concludeOrder before s) := by
  rw [concludeOrder_of_belief h]
  exact steady_concludeFrom rfl

end Sys2Proof.Machine
end

