-- ==== Sys2Proof/Tests/Slice0.lean ====
section
/-! SUPPORT. The model's own tests: the checks of WellFormed, the manual's worked examples, one step of each kind of command,
and for each statement of Obligations.lean that has hypotheses a state and operands that meet them. -/

namespace Sys2Proof.Machine.Tests

-- One theorem at a time: side by side they hold a thread each, and the threads fill the memory limit.
set_option Elab.async false

/-! ### States -/

/-- A started part: frame 0, the Directive region in lines 0 to 255 and the Report region in lines 256 to 383. -/
def live : State := { State.reset with
  channel := { Channel.reset with map := some ⟨2, 16, 17, .c⟩, readCas := some 16, additive := some .clMinus2, writeCas := some 12 }
  regions := ((Vector.replicate 18 Region.empty).set 0 ⟨true, 0, 16384, false⟩).set 1 ⟨true, 16384, 8192, false⟩
  roster := { Roster.reset with ownState := .active }
  reporter := { Reporter.reset ⟨0, ⟨false, false⟩⟩ with loadStatus := .loaded, loadStep := .finished } }

/-- Frame 1 is a Present neighbour on port A, its gates open. -/
def rack : State :=
  { (live.onPort .a fun r => { r with state := .joined, neighbour := some (1, 5), signal := true }).onEntry 1 fun _ =>
    ⟨.present, ⟨some 1, none⟩, some .a, some 5, true, true, true, false, some 1⟩ with
    clock := { RackTime.reset with exchangeTimer := some 262144 } }

/-- The part with its port A in a state. -/
def portIn (st : PortState) : State := rack.onPort .a fun r => { r with state := st }

/-- The part with tap 0 bound to records of two lines, three of them, in lines 512 to 575, in a state. -/
def tapIn (st : TapState) : State :=
  (rack.onTap 0 fun k => { k with state := st, recordLen := 2, recordCount := 3, dests := 2, queueSize := 8, high := 6, low := 4 }).setRegion 2
    ⟨true, 32768, 4096, false⟩ |>.onTapEngine fun e => { e with presets := #v[2, 1, 1, 1] }

/-- The part with mirror 0 bound to tap 3 of frame 1, records of two lines, three of them, its even half in a state. -/
def mirrorIn (st : HalfState) : State :=
  ((rack.onMirror 0 fun k => { k with
    bound := true, sourceFrame := 1, sourceTap := 3, recordLen := 2, recordCount := 3, stride := 2, fill := 0xAA, ageLimit := 1,
    extentLength := 6, evenHalf := ⟨st, 7, [0], 1, some ⟨5, 2⟩, some ⟨9, 2⟩, none⟩ }).setRegion 10
    ⟨true, 40960, 4096, false⟩).onMirrorStore fun e => { e with extents := [⟨0, 0, 6⟩] }

/-- The part with a belief. -/
def believing (b : Option FrameNo) : State := rack.onRoster fun r => { r with belief := b }

/-- The part with an own part state. -/
def partIn (st : PartState) : State := rack.onRoster fun r => { r with ownState := st }

/-- A vector whose item 1 is reachable. -/
def someItems : Vector VectorItem 8 := (Vector.replicate 8 unreachableItem).set 1 ⟨0, 1, 1, 1, 5⟩

/-! ### WellFormed refuses each ill-formed term -/

theorem test_three_beats_refused : (Instr.writeAccess (List.replicate 3 ⟨0, 0⟩)).wellFormed = false := by decide
theorem test_eight_and_four_beats_taken :
    (Instr.writeAccess (List.replicate 8 ⟨0, 0⟩)).wellFormed = true ∧ (Instr.writeAccess (List.replicate 4 ⟨0, 0⟩)).wellFormed = true := by decide
theorem test_known_code_is_not_unknown : (Instr.unknownCode 1 0x5A).wellFormed = false := by decide
theorem test_unknown_code_taken : (Instr.unknownCode 1 0x5B).wellFormed = true := by decide
theorem test_sample_of_no_line_refused : (Instr.sample .a ⟨0, 0⟩ ⟨0, 0, 0, 0, 0, 0, ⟨0, 0⟩, []⟩).wellFormed = false := by decide
theorem test_sample_of_five_lines_refused :
    (Instr.sample .a ⟨0, 0⟩ ⟨0, 0, 0, 0, 0, 0, ⟨0, 0⟩, [0, 0, 0, 0, 0]⟩).wellFormed = false := by decide
theorem test_directive_of_known_code_refused : (Directive.unknown 1 0x24).wellFormed = false := by decide
theorem test_body_of_no_line_refused : (Body.sample ⟨0, 0, 0, 0, 0, 0, ⟨0, 0⟩, []⟩).wellFormed = false := by decide

/-! ### The manual's worked examples -/

/-- R191's check value: the CRC-32 of the ASCII digits 1 to 9. -/
theorem test_crc_of_nine_digits : crc32 [0x31, 0x32, 0x33, 0x34, 0x35, 0x36, 0x37, 0x38, 0x39] = 0xCBF43926 := by decide +kernel

/-- Worked address (The Memory Channel), under the four orders. -/
theorem test_worked_address :
    [MapOrder.a, .b, .c, .d].map (fun o => (⟨2, 16, 17, o⟩ : AddressMap).lineAddress 1 5 300 520) =
      [269050561, 1231553, 1230273, 352360001] := by decide

/-- R20: under order A, where R15's sum for rank 0 would lie within the channel, a row beyond the map lies past its last line. -/
theorem test_row_beyond_lies_past_the_channel :
    (⟨2, 16, 17, .a⟩ : AddressMap).lines ≤ (⟨2, 16, 17, .a⟩ : AddressMap).lineAddress 0 0 131072 0 := by decide

/-- Worked mapping (Regions). -/
theorem test_worked_mapping :
    [1059985, 1060017, 1064768, 1048625].map (fun l => (⟨true, 67108864, 1048576, true⟩ : Region).coord 48 160 50 l) =
      [⟨.odd, 3217, 64, 17, true⟩, ⟨.odd, 3249, 64, 49, false⟩, ⟨.odd, 8000, 160, 0, false⟩, ⟨.even, 49, 0, 49, false⟩] := by decide

/-- Worked example: placing extents (Mirror Windows), steps 3, 5 and 6 and the two later binds. -/
theorem test_placing_extents :
    firstFit [⟨0, 0, 32768⟩, ⟨1, 32768, 16384⟩] 8192 = some 49152 ∧ firstFit [⟨0, 0, 32768⟩, ⟨2, 49152, 8192⟩] 20000 = none ∧
      firstFit [⟨0, 0, 32768⟩, ⟨2, 49152, 8192⟩] 10000 = some 32768 ∧
      firstFit [⟨0, 0, 32768⟩, ⟨3, 32768, 10000⟩, ⟨2, 49152, 8192⟩] 6385 = some 57344 ∧
      firstFit [⟨0, 0, 32768⟩, ⟨3, 32768, 10000⟩, ⟨2, 49152, 8192⟩] 6384 = some 42768 := by decide

/-- The follower of the worked exchange (Rack Time), at t4. -/
def follower : State := (believing (some 1)).onClock fun c =>
  { c with time := 256491648 * 2 ^ 24, integral := -12000, lock := .acquiring, upPort := some .a, outstanding := some ⟨3, .a⟩, within := 5 }

/-- Worked exchange (Rack Time): F_int -2,400, F 151,200, the within count 0. -/
theorem test_worked_exchange : ∃ t, exec (.timeReply .a ⟨1, 0⟩ ⟨3, 4, 1, 256000000, 256063424, 256447424⟩) follower = .next t ∧
    t.clock.lastOffset = 9600 ∧ t.clock.lastDelay = 53824 ∧ t.clock.integral = -2400 ∧ t.clock.trim = 151200 ∧ t.clock.within = 0 ∧
    t.clock.lock = .acquiring := ⟨_, rfl, by decide⟩

/-- The same exchange with the leader 2,000 ns ahead steps: F is -12,000. -/
theorem test_worked_step : ∃ t, exec (.timeReply .a ⟨1, 0⟩ ⟨3, 4, 1, 256000000, 256565824, 256949824⟩) follower = .next t ∧
    t.clock.time = (256491648 + 512000) * 2 ^ 24 ∧ t.clock.trim = -12000 ∧ t.clock.counters.steps = 1 := ⟨_, rfl, by decide⟩

/-- The directive record of Arm Tap, tag 1234h, tap 5, time 9, byte by byte (The directive record). -/
theorem test_arm_tap_record :
    decodeRecord (BitVec.ofNat 512 (0x03 + 0x1234 * 2 ^ 16 + 5 * 2 ^ 64 + 9 * 2 ^ 128)) = .armTap 0x1234 5 9 := by decide +kernel

/-- The bytes of a Leave Ack before its CRC (Link frames). -/
theorem test_leave_ack_bytes : frameBytes ⟨⟨1, 2⟩, .leaveAck ⟨3, 1, 0x0605⟩⟩ = [7, 1, 2, 0, 3, 1, 0x05, 0x06] := by decide

/-! ### One step of each kind of command -/

theorem test_open_then_reopen : ∃ t u, exec (.openRow 1 5 300) live = .next t ∧ exec (.openRow 1 5 300) t = .next u ∧
    t.bank 21 = .opened 300 ∧ u.bank 21 = .unknown ∧ u.channel.lastFault = some (.reopen, some 1) := ⟨_, _, rfl, rfl, by decide⟩
theorem test_row_at_the_map_is_beyond : ∃ t, exec (.openRow 0 0 131072) live = .next t ∧ t.bank 0 = .unknown ∧
    t.channel.lastFault = some (.outOfMap, some 0) := ⟨_, rfl, by decide⟩
theorem test_starting_opens_any_row : ∃ t, exec (.openRow 1 15 262143) State.reset = .next t ∧ t.bank 31 = .opened 262143 := ⟨_, rfl, by decide⟩
theorem test_additive_follows_cas : ∃ t, exec (.modeSet 0 20) live = .next t ∧ live.channel.writeLatency = some 26 ∧
    t.channel.writeLatency = some 30 := ⟨_, rfl, by decide⟩
theorem test_half_burst_wraps : beatColumns 14 true = [6, 7, 4, 5] := by decide
theorem test_full_burst_wraps : beatColumns 13 false = [5, 6, 7, 0, 1, 2, 3, 4] := by decide
theorem test_first_fault_raises_one_event : ∃ t u, exec (.powerDownExit 0) live = .next t ∧ exec (.powerDownExit 0) t = .next u ∧
    u.channel.decodeFaults = 2 ∧ u.reporter.eventCount = 1 ∧ u.reporter.attention = true := ⟨_, _, rfl, rfl, by decide⟩
theorem test_start_up_without_eeprom : ∃ t, exec .eepromAbsent State.reset = .next t ∧ t.roster.ownState = .active ∧
    t.region 1 = ⟨true, 16384, 8192, false⟩ ∧ t.reporter.configFaults = 0b01100 := ⟨_, rfl, by decide +kernel⟩
theorem test_hello_joins : ∃ t, exec (.hello .a ⟨1, 0⟩ ⟨someItems⟩) (portIn .linked) = .next t ∧ (t.port .a).state = .joined ∧
    (t.port .a).neighbour = some (1, 5) := ⟨_, rfl, by decide +kernel⟩
theorem test_own_number_is_duplicate : ∃ t, exec (.hello .a ⟨0, 0⟩ ⟨someItems⟩) (portIn .linked) = .next t ∧
    (t.port .a).cause = .duplicateFrame := ⟨_, rfl, by decide +kernel⟩
theorem test_fourth_bad_crc_retrains : ∃ t, exec (.badCrcFrame .a) (rack.onPort .a fun r => { r with errorScore := 12 }) = .next t ∧
    (t.port .a).state = .training ∧ (t.entry 1).state = .lost := ⟨_, rfl, by decide +kernel⟩
theorem test_fifth_attempt_faults : ∃ t, exec (.trainingTimeout .a) ((portIn .training).onPort .a fun r => { r with attempt := 4 }) = .next t ∧
    (t.port .a).cause = .trainFail := ⟨_, rfl, by decide⟩
theorem test_sample_fills : ∃ t, exec (.sample .a ⟨1, 0⟩ ⟨1, 3, 0, 7, 2, 1, ⟨5, 2⟩, [0x55]⟩) (mirrorIn .filling) = .next t ∧
    ((t.mirror 0).half .even).present = [0, 5] ∧ Memory.read t.mirrorStore.store 320 = 0x55 := ⟨_, rfl, by decide +kernel⟩
theorem test_pass_end_leaves_partial : ∃ t, exec (.mark .a ⟨1, 0⟩ ⟨1, 3, 0, 1, 7, 6, ⟨9, 2⟩⟩) (mirrorIn .filling) = .next t ∧
    ((t.mirror 0).half .even).state = .partly := ⟨_, rfl, by decide +kernel⟩
theorem test_tap_captures_in_order : ∃ t, exec (.writeAccess (List.replicate 8 ⟨7, 0⟩))
    ((tapIn .running).onChannel fun c => { c with inFlight := [⟨some 512, 0, false, some 12⟩] }) = .next t ∧ (t.tap 0).x = 1 ∧
    (t.port .a).inTransmission.isSome = true := ⟨_, rfl, by decide +kernel⟩
theorem test_masked_write_is_partial_directive : ∃ t, exec (.writeAccess (List.replicate 8 ⟨7, 1⟩))
    (live.onChannel fun c => { c with inFlight := [⟨some 3, 0, false, some 12⟩] }) = .next t ∧
    (t.reporter.events[(0 : Fin 32)]).map EventRecord.info = some (.partialDirective 56 3) := ⟨_, rfl, by decide⟩
/-- R10, R18: the beats of a Write at a Closed bank are not taken for the access of the Write behind it. -/
theorem test_beats_stay_with_their_write : ∃ t u v,
    exec (.write 1 0 0 false false) (live.onChannel fun c => { c with banks := (Vector.replicate 32 .closed).set 0 (.opened 0) }) = .next t ∧
    exec (.write 0 0 8 false false) t = .next u ∧ exec (.writeAccess (List.replicate 8 ⟨7, 1⟩)) u = .next v ∧
    u.channel.inFlight = [⟨none, 0, false, some 26⟩, ⟨some 1, 8, false, some 26⟩] ∧ v.channel.inFlight = [⟨some 1, 8, false, some 26⟩] ∧
    v.reporter.partialDirectives = 0 := ⟨_, _, _, rfl, rfl, rfl, by decide +kernel⟩
/-- R75: a restarted part's first Roster Update clears the old pairs of its origin, and leaves those of another. -/
theorem test_new_life_clears_its_pairs : ∃ t, exec (.rosterUpdate .a ⟨1, 0⟩ ⟨0, (Vector.replicate 8 unreachableItem).set 1 ⟨0, 1, 1, 1, 6⟩⟩)
    (rack.onRoster fun r => { r with recent := [(1, 4), (2, 4), (1, 5)] }) = .next t ∧ t.roster.recent = [(2, 4), (1, 0)] :=
  ⟨_, rfl, by decide +kernel⟩
theorem test_tick_is_four_nanoseconds : ∃ t, exec .tick live = .next t ∧ t.clock.now = 1024 := ⟨_, rfl, by decide⟩

/-- R117: a k named between a request and its reply does not scale that reply. -/
theorem test_new_k_waits_for_the_timer : ∃ t u, exec (.timeSettings 9 ⟨1, 12, 0, 0, 0, 0, 0, 0, 0, 0⟩) follower = .next t ∧
    exec (.timeReply .a ⟨1, 0⟩ ⟨3, 4, 1, 256000000, 256063424, 256447424⟩) t = .next u ∧ u.clock.settings.k = 12 ∧ u.clock.trim = 151200 :=
  ⟨_, _, rfl, rfl, by decide +kernel⟩
/-- R95: the other items of a vector are taken whatever its sender's own item says. -/
theorem test_other_items_are_taken : ∃ t, exec (.hello .a ⟨1, 0⟩ ⟨(Vector.replicate 8 unreachableItem).set 2 ⟨1, 0, 1, 0xFF, 4⟩⟩) rack = .next t ∧
    (t.entry 2).hops.a = some 2 ∧ (t.entry 1).state = .present := ⟨_, rfl, by decide +kernel⟩
/-- R163: a handover behind the own record is discarded as a duplicate; the leave goes on. -/
theorem test_stale_handover_is_a_duplicate : ∃ t, exec (.leaveRack 9 false) (((believing (some 0)).onClock fun c => { c with lock := .master }).onOrders
      fun o => { o with applied := o.applied.set 0 (some 5) }) = .next t ∧ t.orders.applied[(0 : FrameNo)] = some 5 ∧
    t.orders.counters.duplicates = 1 ∧ t.orders.lastOrder = none ∧ t.roster.belief = some 1 ∧ t.roster.ownState = .leaving :=
  ⟨_, rfl, by decide +kernel⟩

/-! ### Every statement's hypotheses are met -/

/-- The part with every bank Open at row 0; then lines 0, 256, 512 and 640 are rank 0 of banks 0, 1 and 2, and rank 1 of bank 2. -/
def opened (s : State) : State := s.onChannel fun c => { c with banks := Vector.replicate 32 (.opened 0) }

/-- The part with rank 1 in a state. -/
def rankIn (st : RankState) (s : State) : State := s.onChannel fun c => { c with ranks := c.ranks.set 1 st }

/-- The part with Latencies Known clear. -/
def unknowing (s : State) : State := s.onChannel fun c => { c with additive := none }

/-- The part with one Write in flight to a line. -/
def writing (line : Nat) (s : State) : State := s.onChannel fun c => { c with inFlight := [⟨some line, 0, false, some 12⟩] }

theorem inMap (s : State) (h : s.channel.map = some ⟨2, 16, 17, .c⟩) (rank bank : Byte) (r : Fin 2) (b : Fin 16)
    (hr : rank.toNat = r.val) (hb : bank.toNat = b.val) : s.rankInMap rank r ∧ s.bankInMap bank b :=
  ⟨⟨hr, Or.inr ⟨_, h, r.isLt⟩⟩, hb, Or.inr ⟨_, h, b.isLt⟩⟩

theorem ready (s : State) (h : s.channel.map = some ⟨2, 16, 17, .c⟩) (h0 : s.channel.resetAsserted = false) (rank bank : Byte) (r : Fin 2)
    (b : Fin 16) (hr : rank.toNat = r.val) (hb : bank.toNat = b.val) (ha : s.channel.ranks[r] = .active) : s.bankReady rank bank r b :=
  ⟨⟨h0, (inMap s h rank bank r b hr hb).1, ha⟩, (inMap s h rank bank r b hr hb).2⟩

/-- A drained tap's event meets every premise of the frames together. -/
theorem witness_OtherStateIsLeft :
    let c : Instr := .tapDrained 0
    (isSweeping c = false ∧ isEepromEvent c = false ∧ onCommandLines c = false ∧ movesPorts c = false ∧ movesEntries c = false ∧ recordOf c = none) ∧
      (∀ f a b, c ≠ .partReset f a b) ∧ (∀ p h b, c ≠ .sample p h b) ∧ (∀ p h b, c ≠ .timeReply p h b) ∧ (∀ p h b, c ≠ .rosterUpdate p h b) ∧
      (∀ r b k a h, c ≠ .read r b k a h) ∧ c ≠ .channelResetAssert ∧ c ≠ .tick ∧ c ≠ .exchangeTimerExpiry :=
  ⟨by decide, fun _ _ _ => Instr.noConfusion, fun _ _ _ => Instr.noConfusion, fun _ _ _ => Instr.noConfusion, fun _ _ _ => Instr.noConfusion,
    fun _ _ _ _ _ => Instr.noConfusion, Instr.noConfusion, Instr.noConfusion, Instr.noConfusion⟩

theorem witness_FaultsResultsAndEventsTakeTheirSlots :
    live.channel.decodeFaults = 0 ∧ (live.onChannel fun c => { c with decodeFaults := 4294967295 }).channel.decodeFaults ≠ 0 := by decide

theorem witness_UnclassifiedCommandsOnlyFault :
    live.channel.resetAsserted = false ∧ rankNamed (.openRow 2 0 0) = some 2 ∧ live.rankBeyond 2 ∧ bankNamed (.close 1 16) = some 16 ∧
      live.bankBeyond 16 ∧ State.reset.channel.resetAsserted = false ∧ State.reset.rankBeyond 2 ∧ State.reset.bankBeyond 16 ∧
      (rankIn .selfRefresh live).rankInMap 1 1 ∧ (rankIn .selfRefresh live).bankInMap 15 15 ∧
      (rankIn .selfRefresh live).channel.ranks[(1 : Fin 2)] ≠ .active ∧ ownExit .selfRefresh (.powerDownExit 1) = false ∧
      live.rankInMap 1 1 ∧ live.channel.ranks[(1 : Fin 2)] = .active ∧ isExit (.powerDownExit 1) = true :=
  ⟨rfl, rfl, Or.inr ⟨by decide, _, rfl, by decide⟩, rfl, Or.inr ⟨by decide, _, rfl, by decide⟩, rfl, Or.inl ⟨rfl, by decide⟩,
    Or.inl ⟨rfl, by decide⟩, (inMap _ rfl 1 15 1 15 rfl rfl).1, (inMap _ rfl 1 15 1 15 rfl rfl).2, by decide, by decide,
    (inMap _ rfl 1 15 1 15 rfl rfl).1, rfl, rfl⟩

theorem witness_ChannelResetClearsTheTracker :
    onCommandLines (.writeAccess []) = true ∧ (live.onChannel fun c => { c with resetAsserted := true }).channel.resetAsserted = true := by decide

theorem witness_OpenRowOpensItsBank :
    live.bankReady 1 15 1 15 ∧ (live.bank 31).isOpen = false ∧ live.rowTaken 131071 ∧ live.rowBeyond 131072 ∧
      State.reset.rowTaken 262143 ∧ (opened live).bankReady 1 15 1 15 ∧ ((opened live).bank 31).isOpen = true :=
  ⟨ready _ rfl rfl 1 15 1 15 rfl rfl rfl, rfl, Or.inr ⟨_, rfl, by decide⟩, ⟨by decide, _, rfl, by decide⟩, Or.inl rfl,
    ready _ rfl rfl 1 15 1 15 rfl rfl rfl, by decide⟩

theorem witness_CloseAndRefreshMoveTheBanks :
    (live.rankInMap 1 1 ∧ live.bankInMap 15 15) ∧ live.channel.ranks[(1 : Fin 2)] = .active ∧
      (rankIn .activePowerDown live).channel.ranks[(1 : Fin 2)] ≠ .active ∧ live.rankReady 1 1 ∧
      (∀ i : Fin 32, i.val / 16 = 1 → (live.bank i).isOpen = false) ∧ (opened live).rankReady 1 1 ∧
      ((16 : Fin 32).val / 16 = 1 ∧ ((opened live).bank 16).isOpen = true) :=
  ⟨inMap _ rfl 1 15 1 15 rfl rfl, rfl, by decide, (ready _ rfl rfl 1 15 1 15 rfl rfl rfl).1, by decide,
    (ready _ rfl rfl 1 15 1 15 rfl rfl rfl).1, by decide⟩

theorem witness_SleepingRanksComeBack :
    live.rankInMap 1 1 ∧ live.channel.ranks[(1 : Fin 2)] = .active ∧ (∀ i : Fin 32, i.val / 16 = 1 → (live.bank i).isOpen = false) ∧
      (opened live).channel.ranks[(1 : Fin 2)] = .active ∧ ((31 : Fin 32).val / 16 = 1 ∧ ((opened live).bank 31).isOpen = true) ∧
      (rankIn .activePowerDown live).channel.ranks[(1 : Fin 2)] = .activePowerDown ∧
      (rankIn .prechargePowerDown live).channel.ranks[(1 : Fin 2)] = .prechargePowerDown ∧
      (rankIn .selfRefresh live).channel.ranks[(1 : Fin 2)] = .selfRefresh :=
  ⟨(inMap _ rfl 1 15 1 15 rfl rfl).1, rfl, by decide, rfl, by decide, rfl, rfl, rfl⟩

theorem witness_ModeSetTakesLatencies :
    live.channel.resetAsserted = false ∧ 5 ≤ (5 : Byte).toNat ∧ (24 : Byte).toNat ≤ 24 ∧ (4 : Byte).toNat < 5 ∧ 24 < (25 : Byte).toNat ∧
      (2, Additive.clMinus2) ∈ [((0 : Byte), Additive.off), (1, .clMinus1), (2, .clMinus2)] ∧ 2 < (3 : Byte).toNat ∧
      (20 : Byte).toNat ≤ 20 ∧ 20 < (21 : Byte).toNat := by decide

theorem witness_BurstsThatFormNoAccess :
    live.bankReady 1 15 1 15 ∧ (live.bank 31).isOpen = false ∧
      ((unknowing (opened (tapIn .idle))).bankReady 0 2 0 2 ∧ (unknowing (opened (tapIn .idle))).bank 2 = .opened 0) ∧
      (unknowing live).channel.latenciesKnown = false ∧ live.roster.ownState ≠ .starting ∧
      live.routeOfLine (AddressMap.default.lineAddress 0 1 0 1023) = some .report ∧
      (mirrorIn .empty).routeOfLine (AddressMap.default.lineAddress 1 2 0 0) = some (.mirror 0) ∧
      live.routeOfLine (AddressMap.default.lineAddress 1 0 0 1023) = some .directive ∧
      (tapIn .idle).routeOfLine (AddressMap.default.lineAddress 0 2 0 511) = some (.tap 0) ∧
      (tapIn .idle).routeOfLine (AddressMap.default.lineAddress 0 2 0 512) = none ∧
      ((opened State.reset).bankReady 1 15 1 15 ∧ (opened State.reset).bank 31 = .opened 0 ∧ (opened State.reset).roster.ownState = .starting ∧
        (opened State.reset).channel.map = none ∧ (opened (partIn .starting)).channel.latenciesKnown = true) :=
  ⟨ready _ rfl rfl 1 15 1 15 rfl rfl rfl, rfl, ⟨ready _ rfl rfl 0 2 0 2 rfl rfl rfl, by decide⟩, rfl, by decide, by decide +kernel,
    by decide +kernel, by decide +kernel, by decide +kernel, by decide +kernel,
    ⟨⟨rfl, ⟨rfl, Or.inl rfl⟩, rfl⟩, rfl, Or.inl rfl⟩, by decide, rfl, rfl, rfl⟩

theorem witness_ReadsAreServedOrPass :
    (opened (mirrorIn .complete)).bankReady 1 2 1 2 ∧ (opened (mirrorIn .complete)).bank 18 = .opened 0 ∧
      live.roster.ownState ≠ .starting ∧ live.channel.map = some AddressMap.default ∧ live.channel.latenciesKnown = true ∧
      live.routeOfLine (AddressMap.default.lineAddress 0 1 0 0) = some .report ∧
      (opened (mirrorIn .complete)).routeOfLine (AddressMap.default.lineAddress 1 2 0 511) = some (.mirror 0) ∧
      live.routeOfLine (AddressMap.default.lineAddress 1 0 0 0) = some .directive :=
  ⟨ready _ rfl rfl 1 2 1 2 rfl rfl rfl, by decide, by decide, rfl, rfl, by decide +kernel, by decide +kernel, by decide +kernel⟩

theorem witness_WritesAreRoutedWhole :
    ((opened live).bankReady 1 15 1 15 ∧ (opened live).bank 31 = .opened 0) ∧ live.channel.readCas = some 16 ∧
      live.channel.additive = some .clMinus2 ∧ live.channel.writeCas = some 12 ∧
      (writing 9 live).channel.inFlight = [⟨some 9, 0, false, some 12⟩] ∧ live.channel.inFlight = [] ∧
      live.routeOfLine 384 = none ∧ live.routeOfLine 383 = some .report ∧
      (mirrorIn .empty).routeOfLine 703 = some (.mirror 0) ∧ (tapIn .running).routeOfLine 512 = some (.tap 0) ∧
      live.routeOfLine 255 = some .directive ∧ writeEnables 0 false (List.replicate 8 ⟨0, 0⟩) = BitVec.allOnes 64 ∧
      writeEnables 0 false (List.replicate 8 ⟨0, 128⟩) ≠ BitVec.allOnes 64 :=
  ⟨⟨ready _ rfl rfl 1 15 1 15 rfl rfl rfl, by decide⟩, rfl, rfl, rfl, rfl, rfl, by decide +kernel, by decide +kernel, by decide +kernel,
    by decide +kernel, by decide +kernel, by decide +kernel, by decide +kernel⟩

/-- A Write at a Closed bank is in flight without an access. -/
theorem witness_WritesAreRoutedWhole_none : live.channel.resetAsserted = false ∧
    ∃ t, exec (.write 1 15 0 false false) live = .next t ∧ t.channel.inFlight = [⟨none, 0, false, some 26⟩] := ⟨rfl, _, rfl, by decide⟩

theorem witness_LinesAndBeatsAgree :
    AddressMap.default.right ∧ 1 < AddressMap.default.ranks ∧ 15 < AddressMap.default.banks ∧ 131071 < 2 ^ AddressMap.default.rowBits ∧
      1023 < 1024 ∧ 2 ^ AddressMap.default.rowBits ≤ 131072 ∧ ∀ o, (⟨2, 16, 17, o⟩ : AddressMap).order = o :=
  ⟨by unfold AddressMap.right; decide, by decide, by decide, by decide, by decide, by decide, fun _ => rfl⟩

theorem witness_CountsStayBounded : reporterRight live ∧ clockRight follower.clock ∧ ∃ t, step (live.withPending [.tick]) = .next t :=
  ⟨by unfold reporterRight acknowledgedRight attentionRight; decide, by unfold clockRight trimBounded; decide +kernel, _, rfl⟩

theorem witness_StoreAndExtentsStayRight :
    (Memory.wf [(3, 5), (4194303, 1)] ∧ ∃ t, step ((mirrorIn .filling).withPending [.restartPart 9]) = .next t) ∧
      extentsRight (mirrorIn .filling) ∧ ∃ t, step ((mirrorIn .filling).withPending [.unbindMirror 1 0]) = .next t :=
  ⟨⟨by decide, _, rfl⟩, by unfold extentsRight; decide, _, rfl⟩

theorem witness_QueuesAndListsStayBounded :
    (∀ p, queuesRight ((portIn .joined).port p) ∧ scoreRight ((portIn .joined).port p)) ∧ listsRight rack ∧ bufferRight (tapIn .running) ∧
      (∃ t, step (rack.withPending [.helloTimer .a]) = .next t) ∧ ∃ t, step ((tapIn .running).withPending [.tapDrained 0]) = .next t :=
  ⟨by intro p; unfold queuesRight scoreRight; cases p <;> decide, by unfold listsRight; decide, by unfold bufferRight; decide, ⟨_, rfl⟩, _, rfl⟩

theorem witness_PresentMapsStayRight : mirrorsRight (mirrorIn .filling) ∧ ∃ t, step ((mirrorIn .filling).withPending [.tick]) = .next t :=
  ⟨by intro m h; unfold halfRight; cases h <;> revert m <;> decide, _, rfl⟩

theorem witness_TapShapesStayFitting : tapsRight (tapIn .halted) ∧ ∃ t, step ((tapIn .halted).withPending [.startTap 1 0]) = .next t :=
  ⟨by unfold tapsRight tapRight; decide +kernel, _, rfl⟩

theorem witness_RoutesStayJoined : routesRight rack ∧ ∃ t, step (rack.withPending [.lossOfSignal .a]) = .next t :=
  ⟨by intro f; refine ⟨?_, fun p => ?_⟩ <;> [skip; cases p] <;> revert f <;> decide, _, rfl⟩

theorem witness_TimersFollowTheirRules :
    timersRight (rack.onRoster fun r => { r with refreshTimer := some 5 }) ∧ ∃ t, step (rack.withPending [.refreshTimerExpiry]) = .next t :=
  ⟨by unfold timersRight; decide, _, rfl⟩

theorem witness_RegionsLeaveAndMasterStayRight :
    (regionsRight (tapIn .idle) ∧ leaveRight (tapIn .idle) ∧ masterRight (tapIn .idle)) ∧
      ∃ t, step ((tapIn .idle).withPending [.leaveRack 1 true]) = .next t :=
  ⟨⟨⟨by decide, fun h => absurd h (by decide), by decide +kernel⟩, by unfold leaveRight; decide +kernel, by unfold masterRight; decide⟩, _, rfl⟩

theorem witness_IdlePortsHaveNothingToSend : idlePortsEmpty rack ∧ ∃ t, step (rack.withPending [.exchangeTimerExpiry]) = .next t :=
  ⟨by intro p _; refine ⟨fun _ => ⟨?_, ?_, ?_, ?_, fun t => ?_⟩, fun h => absurd h (by cases p <;> decide)⟩ <;> cases p <;>
      first | decide | (revert t; decide), _, rfl⟩

theorem witness_SearchesFindTheOnePlace :
    regionsRight live ∧ live.lookup 255 = some 0 ∧ live.lookup 256 = some 1 ∧ live.lookup 384 = none ∧ 1 ≤ 65536 ∧
      [(⟨0, 0, 32768⟩ : Extent), ⟨2, 49152, 16384⟩].Pairwise (fun e f => e.start + e.length ≤ f.start) ∧
      (∀ e ∈ [(⟨0, 0, 32768⟩ : Extent), ⟨2, 49152, 16384⟩], e.start + e.length ≤ 65536) :=
  ⟨⟨by decide, fun h => absurd h (by decide), by decide +kernel⟩, by decide +kernel, by decide +kernel, by decide +kernel, by decide, by decide,
    by decide⟩

/-- The first and the last line of a tap's region, and the ends of both halves of a mirror's paired one. -/
theorem witness_SearchesFindTheOnePlace_coordinates :
    ((tapIn .idle).lookup 575 = some 2 ∧ (2 : Fin 18).val = 2 + (0 : TapNo).val ∧ (tapIn .idle).tapEngine.presets[((tapIn .idle).tap 0).preset] = 2 ∧
      ((tapIn .idle).region 2).holds 2 .even 0 0 512 ∧ ((tapIn .idle).region 2).holds 2 .even 31 1 575) ∧
    ((mirrorIn .empty).lookup 703 = some 10 ∧ (10 : Fin 18).val = 10 + (0 : MirrorNo).val ∧ ((mirrorIn .empty).mirror 0).stride = 2 ∧
      (((mirrorIn .empty).setRegion 10 ⟨true, 40960, 4096, true⟩).region 10).holds 2 .even 15 1 671 ∧
      (((mirrorIn .empty).setRegion 10 ⟨true, 40960, 4096, true⟩).region 10).holds 2 .odd 0 0 672) := by
  unfold Region.holds; decide +kernel

theorem witness_StoredFormsDecodeAsWritten : (Directive.unknown 1 0x5B).wellFormed = true ∧ (Directive.restartPart 1).wellFormed = true := by decide

theorem witness_FramesDecodeAsSent : (Body.sample ⟨1, 0, 0, 0, 0, 0, ⟨0, 0⟩, [1, 2, 3, 4]⟩).wellFormed = true := by decide

/-- One extent of 6 lines at line 0: the longest gap is of 65,530 lines, from line 6 on. -/
theorem witness_SummaryLineShowsTheState :
    (reporterRight live ∧ 60 ≤ 60) ∧ extentsRight (mirrorIn .filling) ∧ (∃ start, freeAt (mirrorIn .filling).mirrorStore.extents 65530 start) ∧
      ∀ start, ¬ freeAt (mirrorIn .filling).mirrorStore.extents (65530 + 1) start := by
  refine ⟨⟨by unfold reporterRight acknowledgedRight attentionRight; decide, by decide⟩, by unfold extentsRight; decide,
    ⟨6, by unfold freeAt; decide⟩, fun start h => ?_⟩
  have h1 := h.1
  have h2 := h.2 ⟨0, 0, 6⟩ (List.mem_singleton.mpr rfl)
  simp only at h2
  omega

/-- Stored values in their ranges. -/
def stored : StoredConfig := ⟨2, 16, 17, 2, 0, 16384, 16384, true, false, 18, 2, 6, 2000, 16, 60000, 0, 0, 0⟩

/-- The part at a step of its load. -/
def loadingAt (l : LoadStep) : State := State.reset.onReporter fun d => { d with loadStep := l, writeInProgress := some 8 }

theorem witness_EepromEventsDriveTheLoad :
    State.reset.reporter.loadStep = .firstBlock ∧ (some (encodeStored stored)).bind decodeBlock = some stored ∧
      (loadingAt .secondBlock).reporter.loadStep = .secondBlock ∧ (some (0 : BitVec 448)).bind decodeBlock = none ∧
      (loadingAt .restartCount).reporter.loadStep = .restartCount ∧ State.reset.reporter.stored = none ∧
      ((loadingAt .restartCount).onReporter fun d => { d with stored := some stored }).reporter.stored = some stored ∧
      (stored.map = some ⟨2, 16, 17, .c⟩ ∧ { stored with rowBits := 19 }.map = none ∧ { stored with order := 4 }.map = none) ∧
      (16384 : Nat) % stored.directiveSize.toNat = 0 ∧ ({ stored with directiveSize := 8192 } : StoredConfig).directiveSize.toNat ≠ 4096 ∧
      State.reset.roster.phase = .none ∧ (loadingAt .finished).reporter.loadStep = .finished ∧
      (loadingAt .finished).reporter.writeInProgress = some 8 :=
  ⟨rfl, by decide +kernel, rfl, by decide +kernel, rfl, rfl, rfl, by decide, by decide, by decide, rfl, rfl, rfl⟩

/-- The endings of the start-up. -/
theorem witness_EepromEventsDriveTheLoad_ending :
    (∀ l ∈ [LoadStep.restartCount, .writeBack], leaveRight (loadingAt l) ∧ (loadingAt l).roster.phase = .none ∧ (loadingAt l).roster.belief = none ∧
      (∀ f, (loadingAt l).entry f = RosterEntry.absent) ∧ (loadingAt l).orders.pending = [] ∧ (loadingAt l).reporter.loadStep = l ∧
      (loadingAt l).reporter.writeInProgress = some 8) ∧ leaveRight State.reset := by
  unfold leaveRight; decide

theorem witness_DirectivesAreTaken :
    recordOf (.restartPart 1) = some (.restartPart 1) ∧ (live.region 0).valid = true ∧ (State.reset.region 0).valid = false := by decide

/-- Arguments of Bind Tap in their ranges. -/
def tapArgs : BindTapArgs := ⟨7, 0, true, 3, 32768, 1, 32, 2, false, 15, 256, 9, 9, 9, 0⟩

theorem witness_BindTapChecksInOrder :
    (live.region 0).valid = true ∧ 7 < (8 : Byte).toNat ∧ 3 < (4 : Byte).toNat ∧ 15 < (16 : Byte).toNat ∧
      (1 : Byte) &&& ~~~(1#8 <<< live.own.val) = 0 ∧ tapArgs.tap.toNat = (7 : TapNo).val ∧ tapArgs.preset.toNat = (3 : Fin 4).val ∧
      tapArgs.armGroup.toNat = (15 : Fin 16).val ∧ tapArgs.dests &&& ~~~(1#8 <<< live.own.val) ≠ 0 ∧ (live.tap 7).state = .unbound ∧
      (live.regionAllowed 0 32768 ∧ shapeAllowed 1 32 live.tapEngine.presets[(3 : Fin 4)] 0 true) ∧
      ¬ shapeAllowed 1 33 live.tapEngine.presets[(3 : Fin 4)] 0 true ∧ live.regionApart ⟨true, 32768, 4096, true⟩ ∧
      ¬ live.regionApart ⟨true, 20480, 4096, true⟩ ∧ live.reserved + 256 ≤ 512 ∧
      512 < (live.onTap 0 fun k => { k with queueSize := 257 }).reserved + 256 ∧ ((tapIn .idle).tap 0).state ≠ .unbound := by
  unfold State.regionAllowed shapeAllowed State.regionApart; decide +kernel

theorem witness_StopHaltAndUnbindEndATap :
    ((tapIn .idle).region 0).valid = true ∧ 7 < (8 : Byte).toNat ∧ (0 : Byte).toNat = (0 : TapNo).val ∧ (live.tap 0).state = .unbound ∧
      (∀ st, ((tapIn st).tap 0).state = st) ∧ ((tapIn .draining).tap 0).waiting.length < 4 ∧
      4 ≤ (((tapIn .draining).onTap 0 fun k => { k with waiting := [1, 2, 3, 4] }).tap 0).waiting.length :=
  ⟨by decide, by decide, by decide, by decide, fun _ => rfl, by decide, by decide⟩

theorem witness_StartAndArmCheckInOrder :
    (live.region 0).valid = true ∧ 7 < (8 : Byte).toNat ∧ (0 : Byte).toNat = (0 : TapNo).val ∧ (live.tap 0).state = .unbound ∧
      ((tapIn .idle).tap 0).state = .idle ∧ (tapIn .idle).away = false ∧ ((tapIn .armed).tap 0).state ≠ .idle ∧
      ((tapIn .idle).onRoster fun r => { r with ownState := .leaving }).away = true ∧
      (tapIn .idle).clock.time / 2 ^ 24 < (1 : TimeValue).toNat ∧ (0 : TimeValue).toNat ≤ (tapIn .idle).clock.time / 2 ^ 24 := by decide

/-- Tap 0 at a line of its shape. -/
def tapAt (st : TapState) (r x : Nat) : State := (tapIn st).onTap 0 fun k => { k with r := r, x := x }

theorem witness_TapWritesFollowTheCursor :
    (∀ st, ((tapAt st 2 1).tap 0).state = st ∧ ((tapAt st 2 1).tap 0).r = 2 ∧ ((tapAt st 2 1).tap 0).x = 1) ∧
      (((tapAt .running 2 0).tap 0).x + 1 < ((tapAt .running 2 0).tap 0).recordLen ∧
        ((tapAt .running 1 1).tap 0).recordLen ≤ ((tapAt .running 1 1).tap 0).x + 1 ∧
        ((tapAt .running 1 1).tap 0).r + 1 < ((tapAt .running 1 1).tap 0).recordCount ∧
        ((tapAt .running 2 1).tap 0).recordCount ≤ ((tapAt .running 2 1).tap 0).r + 1) ∧
      (⟨.even, 0, 2, 1, true⟩ : Coord).half = ((tapAt .running 2 1).tap 0).half ∧ (⟨.odd, 0, 2, 1, true⟩ : Coord).half ≠ ((tapAt .running 2 1).tap 0).half ∧
      ((tapAt .running 2 1).tap 0).strict = false ∧ (((tapAt .running 2 1).onTap 0 fun k => { k with strict := true }).tap 0).strict = true :=
  ⟨fun _ => ⟨rfl, rfl, rfl⟩, by decide⟩

/-- Tap 0 names preset 0, which holds 2: a change to 3 touches it, to 1 misfits its X, to 32 its half. -/
theorem witness_PresetsChangeTogether :
    ((tapIn .armed).region 0).valid = true ∧ (((tapIn .armed).tap 0).state ≠ .unbound ∧ 3 ≠ (tapIn .armed).tapEngine.presets[(0 : Fin 4)]) ∧
      ((tapIn .armed).tap 0).state = .armed ∧ 1 < ((tapIn .idle).tap 0).recordLen ∧
      shapeFits 2 3 32 (halfLines ((tapIn .idle).region 2).size false) = false ∧
      shapeFits 2 3 31 (halfLines ((tapIn .idle).region 2).size false) = true := by decide +kernel

/-- Arguments of Bind Mirror in their ranges. -/
def mirrorArgs : BindMirrorArgs := ⟨7, 7, 7, 0, true, 0, 49152, 1, 32, 1, 0⟩

theorem witness_MirrorsAreBoundAndUnbound :
    (live.region 0).valid = true ∧ 7 < (8 : Byte).toNat ∧ mirrorArgs.mirror.toNat = (7 : MirrorNo).val ∧
      mirrorArgs.sourceFrame.toNat = (7 : FrameNo).val ∧ mirrorArgs.sourceTap.toNat = (7 : TapNo).val ∧
      ((live.mirror 7).bound = false ∧ (7 : FrameNo) ≠ live.own ∧
        ∀ n, (live.mirror n).bound = true → (live.mirror n).sourceFrame = 7 → (live.mirror n).sourceTap ≠ 7) ∧
      ((mirrorIn .empty).mirror 0).bound = true ∧ (live.regionAllowed 0 49152 ∧ shapeAllowed 1 32 1 0 true) ∧ ¬ shapeAllowed 1 33 1 0 true ∧
      live.regionApart ⟨true, 49152, 4096, true⟩ ∧ ¬ live.regionApart ⟨true, 0, 4096, true⟩ ∧ firstFit [] 64 = some 0 ∧
      firstFit [⟨0, 0, 65473⟩] 64 = none := by
  unfold State.regionAllowed shapeAllowed State.regionApart; decide +kernel

theorem witness_FrameDirectivesChangeTheirEntry :
    (rack.region 0).valid = true ∧ 7 < (8 : Byte).toNat ∧ (0 : Byte).toNat = rack.own.val ∧ (1 : Byte).toNat = (1 : FrameNo).val ∧
      (1 : FrameNo) ≠ rack.own ∧ (rack.entry 2).state = .absent ∧ (rack.entry 1).state = .present ∧
      ((rack.onEntry 1 fun e => { e with state := .lost }).entry 1).state = .lost := by decide

theorem witness_LostSourcesLeaveStaleHalves :
    (∀ st, ((mirrorIn st).mirror 0).bound = true ∧ ((mirrorIn st).mirror 0).sourceFrame = 1 ∧ (((mirrorIn st).mirror 0).half .even).state = st) ∧
      (live.mirror 0).bound = false := ⟨fun _ => ⟨rfl, rfl, rfl⟩, by decide⟩

/-- The vector of frame 1 in another incarnation. -/
def restartedItems : Vector VectorItem 8 := (Vector.replicate 8 unreachableItem).set 1 ⟨0, 1, 1, 1, 6⟩

/-- Frame 1 leaves Present at a loss of signal, has its gate closed by Bar Frame, returns from Lost, and is seen to have restarted. -/
theorem witness_LostSourcesLeaveStaleHalves_commands :
    (∃ t, exec (.lossOfSignal .a) (mirrorIn .filling) = .next t ∧ ((mirrorIn .filling).entry 1).state = .present ∧ (t.entry 1).state = .lost) ∧
    (∃ t, exec (.barFrame 9 1) (mirrorIn .filling) = .next t ∧ ((mirrorIn .filling).entry 1).acceptGate = true ∧ (t.entry 1).acceptGate = false) ∧
    (∃ t, exec (.hello .a ⟨1, 0⟩ ⟨someItems⟩) ((mirrorIn .filling).onEntry 1 fun e => { e with state := .lost }) = .next t ∧
      (t.entry 1).state = .present) ∧
    ∃ t, exec (.hello .a ⟨1, 0⟩ ⟨restartedItems⟩) (mirrorIn .complete) = .next t ∧ (t.entry 1).incarnation = some 6 :=
  ⟨⟨_, rfl, by decide +kernel⟩, ⟨_, rfl, by decide +kernel⟩, ⟨_, rfl, by decide +kernel⟩, _, rfl, by decide +kernel⟩

theorem witness_LeaveAndRejoinChangeTheOwnState :
    ((rack.region 0).valid = true ∧ leaveRight rack) ∧ rack.roster.ownState = .active ∧ (partIn .departed).roster.ownState = .departed ∧
      leaveRight (partIn .departed) ∧ (believing (some 0)).roster.belief = some (believing (some 0)).own ∧ leaveRight (believing (some 0)) ∧
      (believing (some 0)).successor = some 1 ∧ (believing (some 0)).newOrder 0 0 = true ∧
      ((believing (some 0)).onOrders fun o => { o with applied := o.applied.set 0 (some 0) }).newOrder 0 0 = false ∧ ((believing (some 0)).onEntry 1 fun e => { e with masterCapable := false }).successor = none := by
  unfold leaveRight; decide

theorem witness_PortControlMovesItsPort :
    (∀ st, ((portIn st).region 0).valid = true ∧ ((portIn st).port .a).state = st ∧ ((portIn st).port .a).signal = true) ∧
      1 < (2 : Byte).toNat ∧ (0 : Byte).toNat = portCode .a ∧ (1 : Byte).toNat = portCode .b ∧
      (((portIn .disabled).onPort .a fun r => { r with signal := false }).port .a).signal = false := ⟨fun _ => ⟨rfl, rfl, rfl⟩, by decide⟩

theorem witness_SettingsAndAcknowledgeTakeTheirValues :
    (rack.region 0).valid = true ∧ (256 : BitVec 9).getLsbD 8 = true ∧ (255 : BitVec 9).getLsbD 8 = false ∧
      (rack.onClock fun c => { c with lock := .master }).clock.lock = .master := by decide

theorem witness_ClearCountersLeavesTheRest : (rack.region 0).valid = true := by decide

/-- The part with four pending entries. -/
def fullPending (s : State) : State :=
  s.onOrders fun o => { o with pending := (List.range 4).map fun i => ⟨BitVec.ofNat 16 i, .rackHalt 0, 9, .waiting⟩ }

theorem witness_RackDirectivesAreSubmitted :
    (rack.region 0).valid = true ∧ (7 < (8 : Byte).toNat ∧ 15 < (16 : Byte).toNat) ∧ ((7 : Byte).toNat ≤ 7 ∧ (15 : Byte).toNat ≤ 15) ∧
      rack.roster.belief = none ∧ 4 ≤ (fullPending rack).orders.pending.length ∧ rack.orders.pending.length < 4 ∧
      (believing (some 1)).roster.belief = some 1 ∧ (1 : FrameNo) ≠ (believing (some 1)).own ∧
      (believing (some 0)).roster.belief = some (believing (some 0)).own ∧ (believing (some 0)).orders.pending = [] ∧
      (believing (some 0)).newOrder (believing (some 0)).own (believing (some 0)).orders.nextSeq = true ∧
      (believing (some 0)).candidate 1 = true ∧ (believing (some 0)).candidate 2 = false := by decide

theorem witness_RestartPartKeepsTheChannel : (rack.region 0).valid = true := by decide

theorem witness_PortEventsMoveTheirPort :
    (∀ st, ((portIn st).port .a).state = st ∧ (portIn st).roster.ownState ≠ .starting) ∧ (partIn .starting).roster.ownState = .starting ∧
      (((portIn .training).onPort .a fun r => { r with attempt := 3 }).port .a).attempt < 4 ∧
      4 ≤ (((portIn .training).onPort .a fun r => { r with attempt := 4 }).port .a).attempt ∧
      (((portIn .linked).port .a).control.filter fun f => !isHello f).length < 16 :=
  ⟨fun _ => ⟨rfl, PartState.noConfusion⟩, by decide⟩

/-- A port A of error score n. -/
def scored (n : Nat) : State := rack.onPort .a fun r => { r with errorScore := n }

theorem witness_TurnedAwayFramesAreCounted :
    (∀ st, ((portIn st).port .a).state = st) ∧ (((scored 11).port .a).state = .joined ∧ ((scored 11).port .a).errorScore + 4 < 16) ∧
      16 ≤ ((scored 12).port .a).errorScore + 4 ∧
      frameArrived (.leaveAck .a ⟨1, 0⟩ ⟨0, 8, 1⟩) = some (.a, ⟨⟨1, 0⟩, .leaveAck ⟨0, 8, 1⟩⟩) ∧
      isHello ⟨⟨1, 0⟩, .leaveAck ⟨0, 8, 1⟩⟩ = false ∧ illFormed ⟨⟨1, 0⟩, .leaveAck ⟨0, 8, 1⟩⟩ = true ∧
      illFormed ⟨⟨1, 8⟩, .leaveAck ⟨0, 1, 1⟩⟩ = false ∧ 7 < (⟨1, 8⟩ : Header).hops.toNat := ⟨fun _ => rfl, by decide⟩

/-- A Sample frame of two lines for frames 0 and 2, of a tap, a pass, a record and a line of it. -/
def sampleOf (tap : Byte) (pass r x : Word16) : SampleBody := ⟨5, tap, 0, pass, r, x, ⟨5, 2⟩, [7, 8]⟩

theorem witness_SamplesFillTheirMirror :
    (mirrorIn .filling).passes .a ⟨⟨1, 7⟩, .sample (sampleOf 3 7 2 1)⟩ ∧ (1 : Byte) = eightByte 1 ∧ (1 : FrameNo) ≠ (mirrorIn .filling).own ∧
      inSet (sampleOf 3 7 2 1).dests (mirrorIn .filling).own = true ∧ toHalf (sampleOf 3 7 2 1).half = some .even ∧
      Memory.wf (mirrorIn .filling).mirrorStore.store ∧ (mirrorIn .filling).accepts 1 3 0 ∧ (∀ m, m < 0 → ¬ (mirrorIn .filling).accepts 1 3 m) ∧ (∀ m, ¬ (mirrorIn .filling).accepts 1 2 m) ∧
      ((mirrorIn .filling).mirror 0).recordCount ≤ (3 : Word16).toNat ∧ (2 : Word16).toNat < ((mirrorIn .filling).mirror 0).recordCount ∧
      ((mirrorIn .filling).mirror 0).recordLen ≤ (1 : Word16).toNat + 1 ∧ (1 : Word16).toNat + 0 < ((mirrorIn .filling).mirror 0).recordLen ∧
      (((mirrorIn .filling).mirror 0).half .even).pass = (7 : Word16) ∧ (((mirrorIn .filling).mirror 0).half .even).state = .filling ∧
      (((mirrorIn .empty).mirror 0).half .even).state ≠ .filling := by
  unfold State.passes State.accepts; decide

/-- A Mark frame for frames 0 and 2. -/
def markOf (tap kind : Byte) (pass : Word16) : MarkBody := ⟨5, tap, 0, kind, pass, 6, ⟨9, 2⟩⟩

theorem witness_MarksCloseTheirHalf :
    (mirrorIn .filling).passes .a ⟨⟨1, 0⟩, .mark (markOf 3 1 7)⟩ ∧ (1 : Byte) = eightByte 1 ∧ (1 : FrameNo) ≠ (mirrorIn .filling).own ∧
      inSet (markOf 3 1 7).dests (mirrorIn .filling).own = true ∧ toHalf (markOf 3 1 7).half = some .even ∧
      toMarkKind (1 : Byte) = some .passEnd ∧ toMarkKind (2 : Byte) = some .passAbandoned ∧ (mirrorIn .filling).accepts 1 3 0 ∧
      (∀ m, m < 0 → ¬ (mirrorIn .filling).accepts 1 3 m) ∧ (∀ m, ¬ (mirrorIn .filling).accepts 1 2 m) ∧ (((mirrorIn .filling).mirror 0).half .even).state = .filling ∧
      (((mirrorIn .filling).mirror 0).half .even).pass = (markOf 3 1 7).pass ∧ (((mirrorIn .stale).mirror 0).half .even).state ≠ .filling := by
  unfold State.passes State.accepts; decide

/-- Both ports are Joined and port B sends; frame 2 is reached through it. -/
def between : State :=
  ((rack.onPort .b fun r => { r with state := .joined, inTransmission := some ⟨⟨0, 0⟩, .timeRequest ⟨0, 0⟩⟩ }).onEntry 2 fun _ =>
    ⟨.present, ⟨none, some 1⟩, some .b, some 1, true, true, true, false, none⟩)

/-- As between, its relay queue toward port B full. -/
def crowded : State := between.onPort .b fun r => { r with relay := List.replicate 64 ⟨⟨1, 1⟩, .timeRequest ⟨0, 0⟩⟩ }

theorem witness_MulticastsAreSplitByRoute :
    between.passes .a ⟨⟨1, 7⟩, .sample ⟨0x0F, 3, 0, 0, 0, 0, ⟨5, 2⟩, [7]⟩⟩ ∧ between.passes .a ⟨⟨1, 6⟩, .mark ⟨0x0E, 3, 0, 1, 0, 0, ⟨5, 2⟩⟩⟩ ∧
      (1 : Byte) = eightByte 1 ∧ (1 : FrameNo) ≠ between.own ∧ inSet 0x0E between.own = false ∧ between.joined (otherPort .a) = true ∧
      (between.port (otherPort .a)).inTransmission.isSome = true ∧ (between.port (otherPort .a)).relay.length < 64 ∧
      64 ≤ (crowded.port (otherPort .a)).relay.length ∧ (between.entry 1).route = some .a ∧ (between.entry 3).route = none ∧
      (frameSet fun d => inSet 0x0E d && decide (d ≠ between.own) && ((between.entry d).route == some (otherPort .a) && between.joined (otherPort .a))) ≠ 0 ∧
      (frameSet fun d => inSet 0x0A d && decide (d ≠ between.own) && ((between.entry d).route == some (otherPort .a) && between.joined (otherPort .a))) = 0 := by
  unfold State.passes; decide

/-- The follower in a lock state. -/
def followerIn (l : LockState) : State := follower.onClock fun c => { c with lock := l }

theorem witness_TimeFramesFollowTheLeader :
    (follower.passes .a ⟨⟨1, 1⟩, .timeRequest ⟨3, 5⟩⟩ ∧ follower.passes .a ⟨⟨1, 7⟩, .timeReply ⟨3, 4, 1, 256000000, 256063424, 256447424⟩⟩ ∧
      min (((followerIn .locked).onClock fun c => { c with outside := 2 }).clock.outside + 1) 255 < 4 ∧
      4 ≤ min (((followerIn .locked).onClock fun c => { c with outside := 3 }).clock.outside + 1) 255) ∧
    follower.passes .a ⟨⟨1, 0⟩, .timeRequest ⟨3, 5⟩⟩ ∧ follower.passes .a ⟨⟨1, 0⟩, .timeReply ⟨3, 4, 1, 256000000, 256063424, 256447424⟩⟩ ∧
      follower.clock.outstanding = some ⟨3, .a⟩ ∧ follower.clock.outstanding ≠ some ⟨4, .a⟩ ∧ (∀ l, (followerIn l).clock.lock = l) ∧
      ((1 : Byte) = eightByte 1 ∧ follower.roster.belief = some 1) ∧
      (0 ≤ (((256063424 - 256000000 : Int) + (256491648 - 256447424)) / 2) ∧ ((256063424 - 256000000 : Int) + (256491648 - 256447424)) / 2 ≤ 2048000) ∧
      ((256063424 - 256000000 : Int) + (256491648 - 256599425)) / 2 < 0 ∧ 2048000 < ((260000000 - 256000000 : Int) + (256491648 - 256290000)) / 2 := by
  refine ⟨?_, ?_, ?_, rfl, by decide, fun _ => rfl, by decide, by decide, by decide, by decide⟩ <;> unfold State.passes <;> decide

theorem witness_HellosJoinAndAnnounce :
    (1 : Byte) = eightByte 1 ∧ (∀ st, ((portIn st).port .a).state = st) ∧ (0 : FrameNo) = rack.own ∧ rack.passes .a ⟨⟨1, 0⟩, .hello ⟨someItems⟩⟩ ∧
      rack.passes .a ⟨⟨1, 1⟩, .hello ⟨someItems⟩⟩ ∧ itemNews someItems[(1 : FrameNo)] = some ⟨0, true, .active, some 1, 5⟩ ∧
      ((between.entry 2).state = .present ∧ ((between.entry 2).hops.get (otherPort .a)).isSome = true ∧
        (between.entry 2).incarnation ≠ some (someItems[(2 : FrameNo)]).incarnation) := by
  refine ⟨rfl, fun _ => rfl, by decide, ?_, ?_, by decide, by decide⟩ <;> unfold State.passes <;> decide

/-- As between, a belief held and nothing pending; frame 1's Hello may make it master. -/
def settled (b : Option FrameNo) : State := between.onRoster fun r => { r with belief := b }

/-- The vector of a Leaving frame 1. -/
def leavingItems : Vector VectorItem 8 := (Vector.replicate 8 unreachableItem).set 1 ⟨0, 1, 2, 0xFF, 5⟩

/-- A rival is heard with no belief held; against a Present frame 2; and a leader that stays, and one that leaves. -/
theorem witness_HellosJoinAndAnnounce_merge :
    (1 : FrameNo) ≠ (settled none).own ∧ (settled none).orders.pending = [] ∧ leaveRight (settled none) ∧
      (∀ g k, g ≠ 1 → itemNews someItems[g] = some k → k.belief ≠ some g) ∧
      (∀ g k, g ≠ 1 → itemNews leavingItems[g] = some k → k.belief ≠ some g) ∧ (settled none).passes .a ⟨⟨1, 0⟩, .hello ⟨leavingItems⟩⟩ ∧
      itemNews leavingItems[(1 : FrameNo)] = some ⟨0, true, .leaving, none, 5⟩ ∧
      (∃ t, exec (.hello .a ⟨1, 0⟩ ⟨someItems⟩) (settled (some 2)) = .next t ∧ (t.entry 2).state = .present ∧
        (t.entry (min 1 2)).masterCapable = true ∧ t.roster.belief = some 1) ∧
      (∃ t, exec (.hello .a ⟨1, 0⟩ ⟨leavingItems⟩) (settled (some 2)) = .next t ∧ staysMaster (settled (some 2)) t 2) ∧
      ∃ t, exec (.hello .a ⟨1, 0⟩ ⟨leavingItems⟩) (settled (some 1)) = .next t ∧ ¬ staysMaster (settled (some 1)) t 1 := by
  have silent : ∀ g : FrameNo, g ≠ 1 → itemNews someItems[g] = none ∧ itemNews leavingItems[g] = none := by decide
  exact ⟨by decide, rfl, by unfold leaveRight; decide, fun g _ hg h => absurd (h.symm.trans (silent g hg).1) nofun,
    fun g _ hg h => absurd (h.symm.trans (silent g hg).2) nofun, by unfold State.passes; decide, by decide, ⟨_, rfl, by decide +kernel⟩,
    ⟨_, rfl, by unfold staysMaster; decide +kernel⟩, _, rfl, by unfold staysMaster; decide +kernel⟩

theorem witness_RosterUpdatesAreTakenOnce :
    rack.passes .a ⟨⟨0, 2⟩, .rosterUpdate ⟨9, someItems⟩⟩ ∧ (0 : Byte) = eightByte rack.own ∧ rack.passes .a ⟨⟨1, 0⟩, .rosterUpdate ⟨9, someItems⟩⟩ ∧
      (((1 : FrameNo), (9 : Word16)) ∈ (rack.onRoster fun r => { r with recent := [(1, 9)] }).roster.recent ∧ (rack.entry 1).state ≠ .absent ∧
        (rack.entry 1).incarnation = some (someItems[(1 : FrameNo)]).incarnation) ∧ ((1 : FrameNo), (9 : Word16)) ∉ rack.roster.recent ∧
      between.passes .a ⟨⟨1, 6⟩, .rosterUpdate ⟨9, someItems⟩⟩ ∧ (between.joined (otherPort .a) = true ∧ (between.port (otherPort .a)).inTransmission.isSome = true) ∧
      rack.passes .a ⟨⟨1, 7⟩, .rosterUpdate ⟨9, someItems⟩⟩ ∧ (rack.entry 3).state = .absent ∧ (1 : FrameNo) ≠ rack.own := by
  unfold State.passes; decide

/-- A listed pair of a fresh incarnation, and of an Absent entry, and a full list. -/
theorem witness_RosterUpdatesAreTakenOnce_list :
    ((rack.entry 1).state ≠ .absent ∧ (rack.entry 1).incarnation ≠ some 6) ∧ (rack.entry 3).state = .absent ∧
      (rack.onRoster fun r => { r with recent := (List.range 16).map fun k => (1, BitVec.ofNat 16 k) }).roster.recent.length = 16 := by decide

/-- The part in an announced leave that waits for a set of frames. -/
def leavingFor (set : Byte) : State :=
  rack.onRoster fun r => { r with ownState := .leaving, phase := .announced, leaveTag := some 9, waitSet := set, incarnation := 6 }

theorem witness_UnicastsReachTheirUnit :
    (frameArrived (.rackRequest .a ⟨1, 6⟩ ⟨2, 5, ⟨1, 1, 0⟩⟩) = some (.a, ⟨⟨1, 6⟩, .rackRequest ⟨2, 5, ⟨1, 1, 0⟩⟩⟩) ∧
      unicastTo (.rackRequest ⟨2, 5, ⟨1, 1, 0⟩⟩) = some 2 ∧ between.passes .a ⟨⟨1, 6⟩, .rackRequest ⟨2, 5, ⟨1, 1, 0⟩⟩⟩ ∧
      between.passes .a ⟨⟨1, 7⟩, .rackRequest ⟨2, 5, ⟨1, 1, 0⟩⟩⟩ ∧ (2 : Byte) = eightByte 2 ∧ (2 : FrameNo) ≠ between.own ∧
      (between.entry 2).route = some (otherPort .a) ∧ (between.entry 3).route ≠ some (otherPort .a)) ∧
    ((leavingFor 6).passes .a ⟨⟨1, 0⟩, .leaveAck ⟨0, 1, 6⟩⟩ ∧ (1 : Byte) = eightByte 1 ∧ (0 : Byte) = eightByte rack.own ∧
      (leavingFor 6).roster.waitSet &&& ~~~(1#8 <<< (1 : FrameNo).val) ≠ 0 ∧ (leavingFor 2).roster.waitSet &&& ~~~(1#8 <<< (1 : FrameNo).val) = 0 ∧
      (leavingFor 2).roster.waitSet ≠ 0) ∧
      (rack.passes .a ⟨⟨1, 0⟩, .rackRequest ⟨0, 5, ⟨1, 1, 0⟩⟩⟩ ∧ parseBlock ⟨4, 1, 0⟩ = none ∧ parseBlock ⟨1, 8, 0⟩ = none ∧
        parseBlock ⟨1, 2, 0⟩ = some (.masterClaim 2) ∧ (believing (some 0)).roster.belief = some (believing (some 0)).own ∧
        rack.roster.belief ≠ some rack.own ∧ (believing (some 0)).candidate 2 = false ∧ parseBlock ⟨2, 15, 3⟩ = some (.rackArm 15 3) ∧
        (believing (some 0)).newOrder 1 5 = true) ∧
      rack.passes .a ⟨⟨1, 0⟩, .rackRefusal ⟨0, 2, 3⟩⟩ ∧ rack.pendingEntry 3 = none ∧
      (fullPending rack).pendingEntry 3 = some ⟨3, .rackHalt 0, 9, .waiting⟩ ∧
      ((fullPending rack).onOrders fun o => { o with pending := [⟨3, .rackHalt 0, 9, .sent⟩] }).pendingEntry 3 = some ⟨3, .rackHalt 0, 9, .sent⟩ := by
  unfold State.passes; decide

theorem witness_RackOrdersApplyOnce :
    rack.passes .a ⟨⟨1, 0⟩, .rackOrder ⟨4, 9, 2, 5, ⟨2, 0, 8⟩⟩⟩ ∧ (1 : Byte) = eightByte 1 ∧ (2 : Byte) = eightByte 2 ∧
      parseBlock ⟨2, 0, 8⟩ = some (.rackArm 0 8) ∧ parseBlock ⟨3, 0, 8⟩ = some (.rackHalt 0) ∧ parseBlock ⟨1, 1, 0⟩ = some (.masterClaim 1) ∧
      (0 : Byte) = eightByte rack.own ∧ rack.newOrder 0 3 = true ∧ ((fullPending rack).orders.pending.takeWhile fun k => k.seq != 3).length = 3 ∧
      (fullPending rack).orders.pending.length = 4 ∧ between.passes .a ⟨⟨1, 6⟩, .rackOrder ⟨4, 9, 2, 5, ⟨2, 0, 8⟩⟩⟩ ∧
      rack.orders.pending = [] ∧ ((1 : FrameNo), (4 : Word16)) ∉ rack.roster.recent ∧
      ((1 : FrameNo), (4 : Word16)) ∈ (rack.onRoster fun r => { r with recent := [(1, 4)] }).roster.recent ∧ rack.newOrder 2 5 = true ∧
      (rack.onOrders fun o => { o with applied := Vector.replicate 8 (some 5) }).newOrder 2 5 = false ∧ (1 : FrameNo) ≠ rack.own ∧
      ((tapIn .idle).tap 0).state = .idle ∧ ((tapIn .idle).tap 0).armGroup = 0 ∧ (tapIn .idle).away = false ∧
      (tapIn .idle).clock.time / 2 ^ 24 < (8 : TimeValue).toNat := by
  unfold State.passes; decide

theorem witness_RackOrdersApplyOnce_window :
    newAfter 65535 0 ∧ newAfter 5 32772 ∧ ¬ newAfter 5 32773 ∧ ¬ newAfter 5 5 ∧ rack.orders.applied[(1 : FrameNo)] = none := by
  unfold newAfter; decide

theorem witness_MirrorReadsServeTheirHalf :
    (∀ st, (((mirrorIn st).mirror 0).half .even).state = st) ∧ (⟨.even, 0, 3, 0, false⟩ : Coord).inShape = false ∧
      (⟨.even, 0, 0, 0, true⟩ : Coord).inShape = true ∧ 0 ∈ (((mirrorIn .complete).mirror 0).half .even).present ∧
      1 ∉ (((mirrorIn .complete).mirror 0).half .even).present ∧ ((mirrorIn .complete).mirror 0).ageLimit ≠ 0 ∧
      (((mirrorIn .complete).mirror 0).half .even).endStamp = some ⟨9, 2⟩ ∧
      (9 : TimeValue).toNat + 1 * 256000 < ((mirrorIn .complete).onClock fun c => { c with time := 256010 * 2 ^ 24 }).clock.time / 2 ^ 24 ∧
      ¬ (9 : TimeValue).toNat + 1 * 256000 < ((mirrorIn .complete).onClock fun c => { c with time := 256009 * 2 ^ 24 }).clock.time / 2 ^ 24 :=
  ⟨fun _ => rfl, by decide⟩

theorem witness_WorkEndsAtItsEvent :
    (between.port .b).inTransmission = some ⟨⟨0, 0⟩, .timeRequest ⟨0, 0⟩⟩ ∧ (between.port .a).inTransmission = none ∧
      (((tapIn .draining).tap 0).state = .draining ∧ ((tapIn .draining).tap 0).queue = []) ∧
      (((tapIn .armed).tap 0).state = .armed ∧ ((tapIn .armed).tap 0).armTime.toNat ≤ (tapIn .armed).clock.time / 2 ^ 24) ∧
      ((tapIn .idle).tap 0).state ≠ .armed ∧ (leavingFor 2).roster.ownState = .leaving ∧
      (((leavingFor 0).onRoster fun r => { r with phase := .draining }).roster.phase = .draining ∧
        ∀ j, ((leavingFor 0).tap j).state = .idle ∨ ((leavingFor 0).tap j).state = .unbound ∨
          (((leavingFor 0).tap j).state = .halted ∧ ((leavingFor 0).tap j).queue = [])) ∧
      (frameSet fun f => decide (f ≠ (leavingFor 0).own) && ((leavingFor 0).entry f).state == .present) ≠ 0 ∧
      (frameSet fun f => decide (f ≠ live.own) && (live.entry f).state == .present) = 0 ∧
      ((leavingFor 0).roster.phase = .announced ∧ (leavingFor 0).roster.waitSet = 0) := by decide

/-- Becoming master for the first time and again, ceasing to be with a route and without, and a follower that keeps, changes and loses its
leader. -/
theorem witness_VectorsShowAndChangeTheRoster_mastership :
    (∀ l, (followerIn l).clock.lock = l ∧ (followerIn l).clock.upPort = some .a ∧ (followerIn l).own = 0) ∧
      (followerIn .locked).clock.beenMaster = false ∧ ((followerIn .locked).onClock fun c => { c with beenMaster := true }).clock.beenMaster = true ∧
      ((followerIn .locked).entry 1).route = some .a ∧ ((followerIn .locked).entry 2).route = none ∧ rack.clock.upPort = none ∧
      rack.clock.lock = .freeRun := by
  refine ⟨fun _ => ⟨rfl, rfl, rfl⟩, ?_⟩; decide

/-- Both ports send, and every timer runs by its rule. -/
def sending : State :=
  (between.onPort .a fun r => { r with inTransmission := some ⟨⟨0, 0⟩, .timeRequest ⟨0, 0⟩⟩ }).onRoster fun r => { r with refreshTimer := some 5 }

theorem witness_WorkEndsAtItsEvent_granted :
    (sending.port .a).inTransmission = some ⟨⟨0, 0⟩, .timeRequest ⟨0, 0⟩⟩ ∧ (sending.port (otherPort .a)).inTransmission.isSome = true ∧
      sending.roster.phase = .none ∧ (∀ j, (sending.tap j).state ≠ .draining) ∧ sending.upPortNow = sending.clock.upPort ∧ timersRight sending := by
  unfold timersRight; decide

/-- Port A is lost with port B sending: a leader that stays, one that leaves, and no leader. -/
theorem witness_PortEventsMoveTheirPort_lost :
    (∀ b, (settled b).orders.pending = [] ∧ ((settled b).port (otherPort .a)).inTransmission.isSome = true ∧ ((settled b).port .a).state = .joined) ∧
      leaveRight (settled none) ∧
      (∃ t, exec (.lossOfSignal .a) (settled (some 2)) = .next t ∧ staysMaster (settled (some 2)) t 2) ∧
      (∃ t, exec (.lossOfSignal .a) (settled (some 1)) = .next t ∧ ¬ staysMaster (settled (some 1)) t 1) ∧
      ∃ t, exec (.lossOfSignal .a) (settled none) = .next t ∧ (t.entry 1).state ≠ ((settled none).entry 1).state :=
  ⟨fun _ => ⟨rfl, rfl, rfl⟩, by unfold leaveRight; decide, ⟨_, rfl, by unfold staysMaster; decide +kernel⟩,
    ⟨_, rfl, by unfold staysMaster; decide +kernel⟩, _, rfl, by decide +kernel⟩

/-- Port A is idle, and tap 0 has two lines of a record for it, the second of another pass. -/
def offering : State := (tapIn .running).onTap 0 fun k => { k with queue :=
  [⟨1, .even, ⟨5, 0⟩, .line 0 0 7, ⟨2, 0⟩, ⟨true, false⟩⟩, ⟨2, .even, ⟨5, 0⟩, .line 0 1 8, ⟨2, 0⟩, ⟨true, false⟩⟩] }

theorem witness_QueuesAndListsStayBounded_pending : pendingRight offering ∧ ∃ t, step (offering.withPending [.lossOfSignal .a]) = .next t :=
  ⟨by intro t e h; refine ⟨?_, fun p => ?_⟩ <;> [skip; cases p] <;> revert t e <;> decide, _, rfl⟩

/-- A Draining tap whose entries wait on port A alone is emptied when that port leaves Joined, and goes Idle (R54, R43). -/
theorem test_lost_port_drains_its_tap : ∃ t, exec (.lossOfSignal .a) (offering.onTap 0 fun k => { k with state := .draining }) = .next t ∧
    (t.tap 0).queue = [] ∧ (t.tap 0).state = .idle := ⟨_, rfl, by decide +kernel⟩

/-- What an arbiter may find: a Hello at a Linked port, either slot, the control queue, the relay queue, and a tap above its stop. -/
theorem witness_WorkEndsAtItsEvent_arbiter :
    ((portIn .linked).port .a).inTransmission = none ∧ ((portIn .linked).port .a).state = .linked ∧
      isHello (rack.helloFrame .a) = true ∧ (rack.port .a).inTransmission = none ∧ (rack.port .a).state = .joined ∧
      ((rack.port .a).slotReply = none ∧ (rack.port .a).slotRequest = none ∧ (rack.port .a).control = [] ∧ (rack.port .a).relay = []) ∧
      (rack.port .a).lastGranted = 8 ∧ (crowded.port .b).relay.length = 64 ∧ (between.port .b).inTransmission.isSome = true ∧
      (((offering.tap 0).queue.filter fun e => e.pending.get .a).length = 2 ∧ (offering.tap 0).state = .running ∧
        (offering.tap 0).stop < 2 ∧ 2 < (offering.tap 0).low ∧ (∀ j, j ≠ 0 → (offering.tap j).state = .unbound)) := by decide

theorem test_arbiter_sends_one_pass : ((grant .a offering).port .a).inTransmission =
    some ⟨⟨0, 0⟩, .sample ⟨2, 0, 0, 1, 0, 0, ⟨5, 0⟩, [7]⟩⟩ ∧ ((grant .a offering).tap 0).queue.length = 1 := by decide +kernel

/-- A vector of the neighbour in item 1 and, in item 2, frame 2 a number of hops further, of an incarnation. -/
def vectorOf (hops : Byte) (incarnation : Word16) : Vector VectorItem 8 := someItems.set 2 ⟨hops, 0, 1, 0xFF, incarnation⟩

theorem witness_VectorsShowAndChangeTheRoster :
    ((0 : FrameNo) = rack.own ∧ rack.roster.ownState ≠ .starting ∧ (rack.entry 2).route = none ∧ (rack.entry 1).route = some .a ∧
      (rack.entry 1).route = some (otherPort .b) ∧ (rack.entry 1).hops.get (otherPort .b) = some 1 ∧ (rack.entry 1).incarnation = some 5 ∧
      (rack.entry 1).state = .present) ∧
    (rack.passes .a ⟨⟨1, 0⟩, .hello ⟨vectorOf 6 1⟩⟩ ∧ rack.passes .a ⟨⟨1, 0⟩, .rosterUpdate ⟨9, vectorOf 7 1⟩⟩ ∧
      ((1 : FrameNo), (9 : Word16)) ∉ rack.roster.recent ∧ (1 : Byte) = eightByte 1 ∧ (1 : FrameNo) ≠ rack.own ∧
      ((itemNews (vectorOf 6 1)[(2 : FrameNo)]).map ItemNews.hops = some 6 ∧ (rack.entry 2).state = .absent) ∧
      (itemNews (vectorOf 7 1)[(2 : FrameNo)]).map ItemNews.hops = some 7 ∧
      (between.entry 2).incarnation = some 1) ∧
    (rack.roster.ownState ≠ .departed ∧ (partIn .departed).roster.ownState = .departed) ∧
    (let s := (believing (some 1)).onEntry 2 fun e => { e with state := .lost }
      let u := s.onClock fun c => { c with upPort := some .a }
      (u.region 0).valid = true ∧ (2 : Byte).toNat = (2 : FrameNo).val ∧ (2 : FrameNo) ≠ u.own ∧ (u.entry 2).state = .lost ∧
        (u.entry 2).route = none ∧ u.roster.belief = some 1 ∧ (1 : FrameNo) ≠ u.own ∧ u.upPortNow = u.clock.upPort ∧ u.roster.phase = .none ∧
        ∀ k, (u.tap k).state ≠ .draining) := by
  unfold State.passes; decide

/-- Forget Frame raises its entry's change after its Done. -/
theorem test_forgetting_raises_one_event :
    let s := (believing (some 1)).onEntry 2 fun e => { e with state := .lost }
    ∃ t, exec (.forgetFrame 9 2) s = .next t ∧ (t.entry 2).state = .absent ∧
      (t.reporter.events[(0 : Fin 32)]).map EventRecord.info = some (.entryChanged 2 .absent) := ⟨_, rfl, by decide +kernel⟩

theorem witness_TimersActAtTheirExpiry :
    ((rack.onRoster fun r => { r with refreshTimer := some 5 }).roster.refreshTimer.isSome = true ∧ rack.orders.pending = []) ∧
      (rack.roster.refreshTimer = none ∧ live.clock.exchangeTimer = none ∧ rack.orders.resendTimer = none) ∧
      ((believing (some 2)).roster.belief = some 2 ∧ (2 : FrameNo) ≠ (believing (some 2)).own ∧ ((believing (some 2)).entry 2).state ≠ .present) ∧
      (rack.clock.exchangeTimer.isSome = true ∧ rack.upPortNow = rack.clock.upPort) ∧
      (follower.upPortNow = follower.clock.upPort ∧ follower.clock.upPort = some .a) ∧ (∀ l, (followerIn l).clock.lock = l) ∧
      ((between.entry 2).route = some .b ∧ between.joined .b = true ∧ (between.port .b).inTransmission.isSome = true ∧ (2 : FrameNo) ≠ between.own) ∧
      ((fullPending rack).orders.pending.map PendingEntry.seq).Nodup ∧ ((tapIn .armed).tap 0).state = .armed ∧
      ((tapIn .idle).tap 0).state ≠ .armed :=
  ⟨by decide, by decide, by decide, by decide, by decide, fun _ => rfl, by decide, by decide, by decide, by decide⟩

/-! ### The frames an event makes -/

/-- A frame whose place in a queue is all that counts. -/
def anyFrame : Frame := ⟨⟨0, 0⟩, .rackRefusal ⟨1, 1, 0⟩⟩

/-- As settled, with both ports sending. -/
def busyIn (b : Option FrameNo) : State := (settled b).onPort .a fun r => { r with inTransmission := some anyFrame }

/-- R81: a Roster Update at the tail, in the place of one unsent, and at a full queue. -/
theorem test_updates_take_their_place :
    queued ([anyFrame], 0) (rack.updateFrame 7 .a) = ([anyFrame, rack.updateFrame 7 .a], 0) ∧
      queued ([anyFrame, rack.updateFrame 6 .a, anyFrame], 0) (rack.updateFrame 7 .a) = ([anyFrame, rack.updateFrame 7 .a, anyFrame], 0) ∧
      queued (List.replicate 16 anyFrame, 4) (rack.updateFrame 7 .a) = (List.replicate 16 anyFrame, 5) := by decide

/-- Port A is lost: the roster changes and port B tells of it. Frame 1 leaves Present, so it is not advertised as it was. -/
theorem witness_PortControlMovesItsPort_told : (settled (some 2)).orders.pending = [] ∧ (settled (some 2)).roster.phase = .none ∧
    ∃ t, exec (.portDisable 9 0) (settled (some 2)) = .next t ∧ rosterChanged (settled (some 2)) t ∧ t.joined .b = true ∧
      t.roster.ownState ≠ .starting := ⟨rfl, rfl, _, rfl, by unfold rosterChanged; decide +kernel⟩

/-- A Hello Timer meets a control queue full of other frames, at a Linked port that sends and at one that is idle. -/
theorem witness_PortEventsMoveTheirPort_full :
    (let s := (portIn .linked).onPort .a (fun r => { r with control := List.replicate 16 anyFrame });
      (s.port .a).state = .linked ∧ 16 ≤ ((s.port .a).control.filter fun f => !isHello f).length ∧ (s.port .a).inTransmission = none) ∧
      ((portIn .training).port .a).state = .training := by decide

/-- Frame 1 enters Leaving at a Hello on a Joined port and on a Linked one, and repeats its announcement in a Roster Update. -/
theorem witness_HellosJoinAndAnnounce_told :
    (settled none).orders.pending = [] ∧ (settled none).roster.phase = .none ∧ leaverOf 1 leavingItems[(1 : FrameNo)] = some 1 ∧
      (∃ t, exec (.hello .a ⟨1, 0⟩ ⟨leavingItems⟩) (settled none) = .next t ∧ (leaveAcks (some 1) (settled none) t).length = 1 ∧
        rosterChanged (settled none) t) ∧
      ∃ t, exec (.hello .a ⟨1, 0⟩ ⟨leavingItems⟩) (portIn .linked) = .next t ∧ t.joined .a = true ∧
        (leaveAcks (some 1) (portIn .linked) t).length = 1 :=
  ⟨rfl, rfl, by decide, ⟨_, rfl, by unfold rosterChanged; decide +kernel⟩, _, rfl, by decide +kernel⟩

theorem witness_RosterUpdatesAreTakenOnce_told :
    let s := rack.onEntry 1 fun e => { e with state := .leaving, belief := none }
    s.orders.pending = [] ∧ s.roster.phase = .none ∧ ∃ t, exec (.rosterUpdate .a ⟨1, 0⟩ ⟨9, leavingItems⟩) s = .next t ∧
      (leaveAcks (leaverOf 1 leavingItems[(1 : FrameNo)]) s t).length = 1 ∧ ¬ rosterChanged s t :=
  ⟨rfl, rfl, _, rfl, by unfold rosterChanged; decide +kernel⟩

/-- A leave with every tap Unbound, and one with both ports sending, of a master and of a follower. -/
theorem witness_LeaveAndRejoinChangeTheOwnState_told :
    (∀ b, (settled b).orders.pending = [] ∧ (∀ k, ((settled b).tap k).state = .unbound) ∧
      (busyIn b).orders.pending = [] ∧ ∀ p, ((busyIn b).port p).inTransmission.isSome = true) ∧
      (settled (some 0)).successor = some 1 ∧ (settled (some 1)).roster.belief ≠ some (settled (some 1)).own :=
  ⟨fun _ => ⟨rfl, fun k => (by decide : ∀ k, (between.tap k).state = .unbound) k, rfl, fun p => by cases p <;> rfl⟩, by decide⟩

theorem witness_RackDirectivesAreSubmitted_told : (believing (some 1)).roster.phase = .none ∧ (believing (some 0)).roster.phase = .none ∧
    ((believing (some 1)).entry 1).route = some .a ∧ (believing (some 1)).joined .a = true ∧ ((believing (some 2)).entry 2).route = none := by decide

/-- Restart Part finds port A Joined and idle and port B Joined and sending; port A Linked. -/
theorem witness_RestartPartKeepsTheChannel_ports :
    ((between.region 0).valid = true ∧ (between.port .a).state = .joined ∧ (between.port .a).inTransmission = none ∧
      (between.port .b).state = .joined ∧ (between.port .b).inTransmission.isSome = true) ∧
      ((portIn .linked).port .a).state = .linked ∧ (live.joined .a = false ∧ live.joined .b = false) := by decide

/-- A Rack Arm whose time has come arms and starts tap 0 in one part, and skips it in one that is leaving. -/
theorem witness_RackOrdersApplyOnce_arm :
    ((tapIn .idle).tap 0).state = .idle ∧ ((tapIn .idle).tap 0).armGroup = 0 ∧ (tapIn .idle).away = false ∧
      (0 : TimeValue).toNat ≤ (tapIn .idle).clock.time / 2 ^ 24 ∧ parseBlock ⟨2, 0, 0⟩ = some (.rackArm 0 0) ∧
      ((tapIn .running).tap 0).state ≠ .idle ∧ (tapIn .idle).orders.pending = [] ∧ (tapIn .idle).roster.phase = .none ∧
      (∀ k, ((tapIn .idle).tap k).state ≠ .draining) ∧ (tapIn .idle).upPortNow = (tapIn .idle).clock.upPort := by decide

/-- A late Rack Arm starts its tap and raises its one event ahead of Rack Applied. -/
theorem test_late_arm_starts_its_tap : ∃ t, exec (.rackOrder .a ⟨1, 0⟩ ⟨4, 9, 1, 5, ⟨2, 0, 0⟩⟩) (tapIn .idle) = .next t ∧
    (t.tap 0).state = .running ∧ t.orders.counters.lateArms = 1 ∧ t.reporter.eventCount = 2 := ⟨_, rfl, by decide +kernel⟩

/-- A Master Claim for the own frame finds an own claim of frame 1 pending, and frame 1 believed. -/
def reclaiming : State := (believing (some 1)).onOrders fun o => { o with pending := [⟨5, .masterClaim 1, 3, .held⟩] }

theorem witness_RackOrdersApplyOnce_claims :
    reclaiming.passes .a ⟨⟨1, 0⟩, .rackOrder ⟨4, 9, 1, 6, ⟨1, 0, 0⟩⟩⟩ ∧ parseBlock ⟨1, 0, 0⟩ = some (.masterClaim reclaiming.own) ∧
      ((1 : FrameNo), (4 : Word16)) ∉ reclaiming.roster.recent ∧ reclaiming.newOrder 1 6 = true ∧ (1 : FrameNo) ≠ reclaiming.own ∧
      reclaiming.roster.ownState = .active ∧ reclaiming.roster.belief ≠ some reclaiming.own ∧ reclaiming.roster.phase = .none ∧
      reclaiming.orders.pending = [⟨5, .masterClaim 1, 3, .held⟩] ∧ reclaiming.candidate 1 = true ∧ reclaiming.newOrder reclaiming.own 5 = true := by
  unfold State.passes; decide

/-- R93: a belief that goes from frame 1 to the own frame and back in one event is a roster change: its Roster Update follows the Rack Order. -/
theorem test_belief_that_returns_is_told : ∃ t, exec (.rackOrder .a ⟨1, 0⟩ ⟨4, 9, 1, 6, ⟨1, 0, 0⟩⟩) reclaiming = .next t ∧
    t.roster.belief = some 1 ∧ t.roster.refreshTimer = some 25000000 ∧ (t.port .a).control = [t.updateFrame 1 .a] := ⟨_, rfl, by decide +kernel⟩

/-- R164: a believed frame that is not Present gives no up port, and its route port once it is Present. -/
theorem test_up_port_waits_for_present : (follower.onEntry 1 fun e => { e with state := .leaving }).upPortNow = none ∧
    follower.upPortNow = some .a := by decide

/-- The expiries: a refresh in no leave and in an announced one; an up port that sends, and one that is idle. -/
theorem witness_TimersActAtTheirExpiry_frames :
    (rack.roster.phase ≠ .draining ∧ rack.joined .a = true ∧ rack.roster.ownState ≠ .starting) ∧
      ((leavingFor 2).roster.phase = .announced ∧ (leavingFor 2).roster.waitSet ≠ 0) ∧ (∀ p, live.joined p = false) ∧
      ((follower.port .a).inTransmission = none ∧ follower.joined .a = true ∧ (follower.port .a).slotReply = none) ∧
      ((busyIn none).port .a).inTransmission.isSome = true :=
  ⟨by decide, by decide, fun p => by cases p <;> rfl, by decide, by decide⟩

/-- A start-up that ends with port B Dark, a signal on its cable, and port A Disabled. -/
theorem witness_EepromEventsDriveTheLoad_ports :
    let s := ((loadingAt .writeBack).onPort .b fun r => { r with signal := true }).onPort .a (fun r => { r with state := .disabled });
    ((s.port .b).state = .dark ∧ (s.port .b).signal = true) ∧ (s.port .a).state = .disabled := by decide

/-- Region values at the edge of R28's checks: a Report region that begins where the Directive region ends, and one that begins a step lower; a
Directive region that ends with the channel; a size between those of the table. -/
theorem witness_EepromEventsDriveTheLoad_placed :
    ¬ stored.faulty AddressMap.default ∧ { stored with reportBase := 8192 }.faulty AddressMap.default ∧
      ¬ { stored with directiveBase := 34359721984 }.faulty AddressMap.default ∧ { stored with directiveSize := 8192 }.faulty AddressMap.default ∧
      (∀ l, ((loadingAt l).onReporter fun d => { d with stored := some stored }).reporter.stored = some stored) ∧
      (setMap AddressMap.default (loadingAt .writeBack)).channel.map = some AddressMap.default ∧ (loadingAt .writeBack).reporter.stored = none := by
  unfold StoredConfig.faulty
  exact ⟨by decide, by decide, by decide, by decide, fun _ => rfl, rfl, rfl⟩

/-- R28: faulty stored values end the start-up with the Directive region at base 0 and no Report region. -/
theorem test_faulty_placement_falls_back :
    let s := setMap AddressMap.default ((loadingAt .writeBack).onReporter fun d => { d with stored := some { stored with reportBase := 8192 } })
    ∃ t, exec .restartCountWriteDone s = .next t ∧ t.region 0 = ⟨true, 0, 16384, false⟩ ∧ (t.region 1).valid = false := ⟨_, rfl, by decide +kernel⟩

/-- Frames of own origin that pass the form checks, for MulticastsAreSplitByRoute, RosterUpdatesAreTakenOnce, UnicastsReachTheirUnit and
RackOrdersApplyOnce. -/
theorem witness_own_origin :
    ((0 : Byte) = eightByte between.own ∧ (between.port .b).inTransmission.isSome = true) ∧
      between.passes .a ⟨⟨0, 2⟩, .sample ⟨0x0F, 3, 0, 0, 0, 0, ⟨5, 2⟩, [7]⟩⟩ ∧ between.passes .a ⟨⟨0, 2⟩, .mark ⟨0x0E, 3, 0, 1, 0, 0, ⟨5, 2⟩⟩⟩ ∧
      between.passes .a ⟨⟨0, 2⟩, .rosterUpdate ⟨9, someItems⟩⟩ ∧ between.passes .a ⟨⟨0, 7⟩, .leaveAck ⟨2, 1, 6⟩⟩ ∧
      between.passes .a ⟨⟨0, 2⟩, .rackRequest ⟨2, 5, ⟨1, 1, 0⟩⟩⟩ ∧ between.passes .a ⟨⟨0, 2⟩, .rackRefusal ⟨2, 2, 3⟩⟩ ∧
      between.passes .a ⟨⟨0, 2⟩, .rackOrder ⟨4, 9, 2, 5, ⟨2, 0, 8⟩⟩⟩ ∧
      (frameArrived (.sample .a ⟨0, 2⟩ ⟨0x0F, 3, 0, 0, 0, 0, ⟨5, 2⟩, [7]⟩)).isSome = true ∧ unicastTo (.leaveAck ⟨2, 1, 6⟩) = some 2 ∧
      unicastTo (.rackRefusal ⟨2, 2, 3⟩) = some 2 ∧ between.roster.phase ≠ .draining := by
  unfold State.passes; decide

/-- R73, step 5: a Rack Order and a Sample frame of own origin are neither applied, stored nor relayed. -/
theorem test_own_origin_is_discarded :
    (∃ t, exec (.rackOrder .a ⟨0, 2⟩ ⟨4, 9, 2, 5, ⟨2, 0, 8⟩⟩) between = .next t ∧ (t.port .a).counters.ownOrigin = 1 ∧
      t.orders = between.orders ∧ t.roster.recent = [] ∧ (t.port .b).relay = []) ∧
    ∃ t, exec (.sample .a ⟨0, 2⟩ ⟨0x0F, 3, 0, 0, 0, 0, ⟨5, 2⟩, [7]⟩) between = .next t ∧ (t.port .a).counters.ownOrigin = 1 ∧
      (t.port .b).relay = [] := ⟨⟨_, rfl, by decide +kernel⟩, _, rfl, by decide +kernel⟩

/-- An absent EEPROM leaves a part that was master-capable neither that nor auto-admitting. -/
theorem test_absent_eeprom_gives_the_defaults :
    let s := State.reset.onRoster fun r => { r with masterCapable := true, autoAdmit := true }
    ∃ t, exec .eepromAbsent s = .next t ∧ t.roster.masterCapable = false ∧ t.roster.autoAdmit = false := ⟨_, rfl, by decide +kernel⟩

end Sys2Proof.Machine.Tests
end

/-! PROOFS. The memory channel: what a channel command passes before its effect, and the statements on Channel Reset and Open Row. -/

namespace Sys2Proof.Machine

/-! ### What a channel command passes first (R2, R3) -/

section channelCommand
variable {s : State} (c : Instr) (effect : State → State)

/-- R19, R2: the part takes nothing from the command lines while Channel Reset is asserted. -/
theorem channelCommand_of_reset (h : s.channel.resetAsserted = true) : channelCommand c effect s = { s with toDram := some c } := by
  simp [channelCommand, h]

theorem channelCommand_of_released (h : s.channel.resetAsserted = false) :
    channelCommand c effect s = effect { s with toDram := some c } := by
  simp [channelCommand, h]

end channelCommand

/-- R2, R3: everything on the command lines, and every write burst, goes through the one gate. -/
theorem exec_of_onCommandLines {c : Instr} (h : onCommandLines c = true) :
    ∃ effect : State → State, ∀ s, exec c s = .next (channelCommand c effect s) := by
  cases c with
  | openRow rank bank row => exact ⟨_, fun _ => rfl⟩
  | read rank bank column autoClose halfBurst => exact ⟨_, fun _ => rfl⟩
  | write rank bank column autoClose halfBurst => exact ⟨_, fun _ => rfl⟩
  | writeAccess beats => exact ⟨_, fun _ => rfl⟩
  | close rank bank => exact ⟨_, fun _ => rfl⟩
  | closeAll rank => exact ⟨_, fun _ => rfl⟩
  | refresh rank => exact ⟨_, fun _ => rfl⟩
  | selfRefreshEnter rank => exact ⟨_, fun _ => rfl⟩
  | selfRefreshExit rank => exact ⟨_, fun _ => rfl⟩
  | powerDownEnter rank => exact ⟨_, fun _ => rfl⟩
  | powerDownExit rank => exact ⟨_, fun _ => rfl⟩
  | modeSet register value => exact ⟨_, fun _ => rfl⟩
  | _ => exact absurd h Bool.false_ne_true

/-! ### The checks against the map (R2, R6, R7) -/

section limits
variable {s : State}

theorem toRank_of_rankInMap {rank : Byte} {r : Fin 2} (h : s.rankInMap rank r) : s.toRank rank = some r := by
  obtain ⟨hr, hmap⟩ := h
  have hlim : r.val < s.rankLimit := by
    unfold State.rankLimit
    split
    · exact r.isLt
    · next hrun =>
      obtain ⟨m, hm, hlt⟩ := hmap.resolve_left hrun
      simpa [hm] using hlt
  simp [State.toRank, hr, hlim, r.is_le]

theorem toBank_of_bankInMap {bank : Byte} {b : Fin 16} (h : s.bankInMap bank b) : s.toBank bank = some b := by
  obtain ⟨hb, hmap⟩ := h
  have hlim : b.val < s.bankLimit := by
    unfold State.bankLimit
    split
    · exact b.isLt
    · next hrun =>
      obtain ⟨m, hm, hlt⟩ := hmap.resolve_left hrun
      simpa [hm] using hlt
  simp [State.toBank, hb, hlim]

/-- R7: while the part is Starting the limit is that of the row field itself, so the field's width is what is used. -/
theorem lt_rowLimit_of_rowTaken {row : BitVec 18} (h : s.rowTaken row.toNat) : row.toNat < s.rowLimit := by
  unfold State.rowLimit
  split
  · exact row.isLt
  · next hrun =>
    obtain ⟨m, hm, hlt⟩ := h.resolve_left hrun
    simpa [hm] using hlt

theorem rowLimit_le_of_rowBeyond {row : Nat} (h : s.rowBeyond row) : s.rowLimit ≤ row := by
  obtain ⟨hrun, m, hm, hle⟩ := h
  simpa [State.rowLimit, hrun, hm] using hle

/-- R2, R6: a command at a rank and bank within the map, the rank in Active, has its effect there. -/
theorem atBank_of_bankReady {rank bank : Byte} {r : Fin 2} {b : Fin 16} (effect : Fin 2 → Fin 16 → State → State)
    (h : s.bankReady rank bank r b) : atBank rank bank effect s = effect r b s := by
  obtain ⟨⟨-, hrank, hactive⟩, hbank⟩ := h
  simp [atBank, awake, toRank_of_rankInMap hrank, toBank_of_bankInMap hbank, hactive]

end limits

/-! ### Open Row (R7) -/

section openBank
variable {s : State} (rank : Byte) {r : Fin 2} {b : Fin 16}

theorem openBank_of_open (row : Nat) (h : (s.bank (bankIndex r b)).isOpen = true) :
    openBank rank row r b s = decodeFault .reopen (some rank) (setBank (bankIndex r b) .unknown s) := by
  simp [openBank, h]

theorem openBank_of_lt {row : Nat} (h : (s.bank (bankIndex r b)).isOpen = false) (hrow : row < s.rowLimit) :
    openBank rank row r b s = setBank (bankIndex r b) (.opened row) s := by
  simp [openBank, h, hrow]

theorem openBank_of_le {row : Nat} (h : (s.bank (bankIndex r b)).isOpen = false) (hrow : s.rowLimit ≤ row) :
    openBank rank row r b s = decodeFault .outOfMap (some rank) (setBank (bankIndex r b) .unknown s) := by
  simp [openBank, h, hrow.not_gt]

end openBank

/-- An Open Row that passes the checks is R7's effect on its bank. -/
theorem exec_openRow_of_bankReady {s : State} {rank bank : Byte} {r : Fin 2} {b : Fin 16} (row : BitVec 18)
    (h : s.bankReady rank bank r b) :
    exec (.openRow rank bank row) s = .next (openBank rank row.toNat r b (s.arrived (.openRow rank bank row))) := by
  have ⟨⟨hreleased, _, _⟩, _⟩ := h
  have hgate := channelCommand_of_released (.openRow rank bank row) (atBank rank bank (openBank rank row.toNat)) hreleased
  have hready : (s.arrived (.openRow rank bank row)).bankReady rank bank r b := h
  calc exec (.openRow rank bank row) s
      = .next (channelCommand (.openRow rank bank row) (atBank rank bank (openBank rank row.toNat)) s) := rfl
    _ = .next (atBank rank bank (openBank rank row.toNat) (s.arrived (.openRow rank bank row))) := congrArg _ hgate
    _ = .next (openBank rank row.toNat r b (s.arrived (.openRow rank bank row))) := congrArg _ (atBank_of_bankReady _ hready)

/-! ### The statements -/

/-- Settles O7: past the checks an Open Row is `openBank`, whose three branches are the three rows of R7's table. -/
theorem openRowOpensItsBank : Obligations.OpenRowOpensItsBank := by
  intro s rank bank row r b hready c i
  have hexec : exec c s = .next (openBank rank row.toNat r b (s.arrived c)) := exec_openRow_of_bankReady row hready
  rw [hexec]
  refine ⟨fun hshut htaken => ?_, fun hshut hbeyond => ?_, fun hopen => ?_⟩
  · exact congrArg _ (openBank_of_lt rank (s := s.arrived c) hshut (lt_rowLimit_of_rowTaken (s := s.arrived c) htaken))
  · exact congrArg _ (openBank_of_le rank (s := s.arrived c) hshut (rowLimit_le_of_rowBeyond (s := s.arrived c) hbeyond))
  · exact congrArg _ (openBank_of_open rank (s := s.arrived c) row.toNat hopen)

/-- Settles O6: assertion and release are R19's updates as they stand; between them every command stops at the gate. -/
theorem channelResetClearsTheTracker : Obligations.ChannelResetClearsTheTracker := by
  refine fun s => ⟨rfl, rfl, fun c hc hreset => ?_⟩
  obtain ⟨effect, hexec⟩ := exec_of_onCommandLines hc
  rw [hexec s, channelCommand_of_reset c effect hreset]

end Sys2Proof.Machine

/-! PROOFS. What a step can do, said once: a command's effect on the part is a chain of moves, each a change of one block that keeps what
the rules of that block keep. A move may touch some parts of the state only where its effect is allowed, so that a chain also says what
a command leaves. -/

namespace Sys2Proof.Machine

/-- The parts of the state that a command must be allowed to touch. `rack` stands for what concludes an event: the own part state, the
belief, the refresh and resend timers, the pending entries, and what the ports send; `lock` for the lock state and the steps of a leave. -/
inductive Effect where
  | toDram | drive | channel | regions | place | presets | bindings | bytes | extents | halves | signal | ports | entries | identity
  | recent | rack | time | settings | exchange | timeCounters | lock | seq | load | writes | taken | partials | acknowledged | restart
deriving DecidableEq

/-! ### What a change of one record keeps -/

/-- R54: an entry of a tap queue waits on a port, and only on Joined ones. -/
def State.entryWaits (s : State) (e : QueueEntry) : Prop :=
  (e.pending.a = true ∨ e.pending.b = true) ∧ ∀ p, e.pending.get p = true → s.joined p = true

/-- R46: a tap's cursor lies in its shape, on the even half of an unpaired region. -/
def Tap.cursorRight (k : Tap) (paired : Bool) : Prop := k.r < k.recordCount ∧ k.x < k.recordLen ∧ (paired = false → k.half = .even)

/-- R40, R44: a tap that a part that is away may not have. -/
def Tap.active (k : Tap) : Prop := k.state = .armed ∨ k.state = .running

/-- What a change of a tap's record outside Bind Tap and Unbind Tap keeps. -/
structure TapKept (L : List Effect) (s : State) (t : TapNo) (k k' : Tap) : Prop where
  bound : k'.bound = k.bound
  unbound : k'.state = .unbound ↔ k.state = .unbound
  queue : k.queue.length ≤ k.queueSize → k'.queue.length ≤ k.queueSize
  pending : (∀ e ∈ k.queue, s.entryWaits e) → ∀ e ∈ k'.queue, s.entryWaits e
  cursor : k.state ≠ .unbound → k.cursorRight (s.region (tapRegion t)).paired → k'.cursorRight (s.region (tapRegion t)).paired
  arms : k'.active → k.active ∨ s.away = false
  quiet : .rack ∉ L → ∀ p, k.level p = 0 → k'.level p = 0

/-- What a change of a mirror's record outside Bind Mirror and Unbind Mirror keeps. -/
structure MirrorKept (k k' : Mirror) : Prop where
  bound : k'.asBound = k.asBound
  right : (∀ h, halfRight k (k.half h)) → ∀ h, halfRight k' (k'.half h)

/-- What of a port's record its queues, its slot and its score do not move. -/
def PortRecord.view (r : PortRecord) : PortState × FaultCause × Nat × Option (FrameNo × Word16) × Option Nat × Option Nat :=
  (r.state, r.cause, r.attempt, r.neighbour, r.trainingTimer, r.helloTimer)

/-- What a port sends, and has to send. -/
def PortRecord.traffic (r : PortRecord) :
    PortState × Option Frame × Option TimeRequestBody × Option TimeReplyBody × List Frame × List Frame :=
  (r.state, r.inTransmission, r.slotRequest, r.slotReply, r.control, r.relay)

/-- A port is up: it may have something to send. -/
def PortRecord.up (r : PortRecord) : Prop := r.state = .joined ∨ r.state = .linked

/-- What a change of a port's record that does not take it from Joined keeps. -/
structure PortKept (L : List Effect) (r r' : PortRecord) : Prop where
  queues : queuesRight r → queuesRight r'
  score : scoreRight r → scoreRight r'
  joined : r.state = .joined → r'.state = .joined
  view : .ports ∉ L → r'.view = r.view
  signal : .signal ∉ L → r'.signal = r.signal
  quiet : .rack ∉ L → (¬ r.up ∧ ¬ r'.up) ∨ r'.traffic = r.traffic

/-- R91, R97: a roster entry's route port follows its hop counts, which are held via Joined ports. -/
def State.entryRouted (s : State) (e : RosterEntry) : Prop :=
  e.route = routeOf e.hops ∧ ∀ p, (e.hops.get p).isSome = true → s.joined p = true

/-- R104 to R107, R110: what a change of the Roster Unit that is no step of the part's own state keeps: the own state and the leave, whose wait
set gains no frame, and a belief in the own frame comes only to an Active part. -/
structure StandingKept (own : FrameNo) (r r' : Roster) : Prop where
  ownState : r'.ownState = r.ownState
  phase : r'.phase = r.phase
  leaveTag : r'.leaveTag = r.leaveTag
  waitSet : r.waitSet = 0 → r'.waitSet = 0
  belief : r'.belief = some own → r.belief = some own ∨ r.ownState = .active

/-- What a change of the Roster Unit outside its entries keeps. -/
structure RosterKept (L : List Effect) (own : FrameNo) (r r' : Roster) : Prop where
  entries : r'.entries = r.entries
  identity : .identity ∉ L → r'.incarnation = r.incarnation ∧ r'.heldCount = r.heldCount ∧ r'.masterCapable = r.masterCapable ∧
    r'.autoAdmit = r.autoAdmit
  recent : .recent ∉ L → r'.recent = r.recent
  bound : r.recent.length ≤ Config.recentPlaces ∧ r.recent.Nodup → r'.recent.length ≤ Config.recentPlaces ∧ r'.recent.Nodup
  rack : .rack ∉ L → r'.ownState = r.ownState ∧ r'.belief = r.belief ∧ r'.phase = r.phase ∧ r'.waitSet = r.waitSet ∧
    r'.leaveTag = r.leaveTag ∧ r'.refreshTimer = r.refreshTimer
  standing : .lock ∉ L → StandingKept own r r'

/-- What a change of the Rack Time Unit keeps. -/
structure ClockKept (L : List Effect) (c c' : RackTime) : Prop where
  right : clockRight c → clockRight c'
  time : .time ∉ L → c'.time = c.time
  settings : .settings ∉ L → c'.settings = c.settings
  exchange : .exchange ∉ L → c'.exchangeTimer = c.exchangeTimer ∧ c'.exponent = c.exponent
  counters : .timeCounters ∉ L → c'.counters = c.counters
  lock : .lock ∉ L → c'.lock = c.lock ∧ c'.upPort = c.upPort ∧ c'.outstanding = c.outstanding

/-- What a change of the Rack Order Unit keeps. -/
structure OrdersKept (L : List Effect) (o o' : RackOrders) : Prop where
  bound : o.pending.length ≤ Config.pendingPlaces → o'.pending.length ≤ Config.pendingPlaces
  seq : .seq ∉ L → o'.nextSeq = o.nextSeq
  rack : .rack ∉ L → o'.pending = o.pending ∧ o'.resendTimer = o.resendTimer

/-- R175, R177, R178: the counts of the Directive and Report Unit are right, and the attention line by them. -/
def Reporter.right (d : Reporter) : Prop :=
  d.acknowledged ≤ d.eventCount ∧ d.attention = decide (d.acknowledged < d.eventCount) ∧ d.eventCount ≤ Config.countMax ∧
    d.resultsPosted ≤ Config.countMax

/-- What a change of the Directive and Report Unit keeps. -/
structure ReportKept (L : List Effect) (d d' : Reporter) : Prop where
  right : d.right → d'.right
  straps : d'.straps = d.straps
  load : .load ∉ L → d'.loadStatus = d.loadStatus ∧ d'.loadStep = d.loadStep ∧ d'.stored = d.stored ∧ d'.configFaults = d.configFaults ∧
    d'.countUnreadable = d.countUnreadable
  writes : .writes ∉ L → d'.writeInProgress = d.writeInProgress ∧ d'.writeWaiting = d.writeWaiting
  taken : .taken ∉ L → d'.directivesTaken = d.directivesTaken
  partials : .partials ∉ L → d'.partialDirectives = d.partialDirectives
  acknowledged : .acknowledged ∉ L → d'.acknowledged = d.acknowledged

/-! ### Moves -/

/-- What a bind that passes its checks gives a tap and its region (R25, R26, R36). -/
structure TapBinds (s : State) (t : TapNo) (k : Tap) (e : Region) : Prop where
  free : (s.tap t).state = .unbound
  idle : k.state = .idle
  queue : k.queue = []
  right : tapRight k e s.tapEngine.presets[k.preset]
  room : s.reserved + k.queueSize ≤ Config.bufferEntries
  valid : e.valid = true
  apart : s.overlaps e = false

/-- What a bind that passes its checks gives a mirror and its region (R26, R138, R140, R141). -/
structure MirrorBinds (s : State) (m : MirrorNo) (k : Mirror) (e : Region) : Prop where
  free : (s.mirror m).bound = false
  bound : k.bound = true
  halves : ∀ h, k.half h = HalfRecord.empty
  long : 1 ≤ k.extentLength
  placed : firstFit s.mirrorStore.extents k.extentLength = some k.extentStart
  valid : e.valid = true
  apart : s.overlaps e = false

/-- A mirror bound with its extent and its region (R141). -/
def bindMirrorAs (m : MirrorNo) (k : Mirror) (e : Region) (s : State) : State :=
  (s.onMirrorStore fun x => { x with
    mirrors := x.mirrors.set m k, extents := insertExtent ⟨m, k.extentStart, k.extentLength⟩ x.extents }).setRegion (mirrorRegion m) e

/-- One move: a change of one block by the effects allowed, or one of the changes that join two blocks. -/
inductive Move (L : List Effect) : State → State → Prop where
  | toDram (s : State) (c : Option Instr) : .toDram ∈ L → Move L s { s with toDram := c }
  | drive (s : State) (d : ReadDrive) : .drive ∈ L → Move L s { s with toController := d }
  | channel (s : State) (f : Channel → Channel) : .channel ∈ L → Move L s (s.onChannel f)
  | place (s : State) (i : Fin 18) (e : Region) : .place ∈ L → i.val < 2 → Move L s (s.setRegion i e)
  | bindTap (s : State) (t : TapNo) (k : Tap) (e : Region) : .regions ∈ L → .bindings ∈ L → TapBinds s t k e →
      Move L s ((s.onTap t fun _ => k).setRegion (tapRegion t) e)
  | clearTap (s : State) (t : TapNo) : .regions ∈ L → .bindings ∈ L → Move L s (clearTap t s)
  | bindMirror (s : State) (m : MirrorNo) (k : Mirror) (e : Region) : .regions ∈ L → .extents ∈ L → MirrorBinds s m k e →
      Move L s (bindMirrorAs m k e s)
  | clearMirror (s : State) (m : MirrorNo) : .regions ∈ L → .extents ∈ L → Move L s (clearMirror m s)
  | presets (s : State) (a : PresetArgs) : .presets ∈ L →
      (∀ t, (s.tap t).state ≠ .unbound → s.presetChanges a t = true → s.misfit a t = false) →
      Move L s (s.onTapEngine fun e => { e with presets := s.newPresets a })
  | taps (s : State) (v : Vector Tap 8) : (∀ t : TapNo, TapKept L s t (s.tap t) v[t]) →
      Move L s (s.onTapEngine fun e => { e with taps := v })
  | mirrors (s : State) (v : Vector Mirror 8) : .halves ∈ L → (∀ m : MirrorNo, MirrorKept (s.mirror m) v[m]) →
      Move L s (s.onMirrorStore fun e => { e with mirrors := v })
  | store (s : State) (n : Nat) (l : Line) : .bytes ∈ L →
      Move L s (s.onMirrorStore fun e => { e with store := Memory.writeLine e.store n l })
  | link (s : State) (f : Link → Link) : (∀ p, PortKept L (s.port p) ((s.onLink f).port p)) → Move L s (s.onLink f)
  | lose (s : State) (p : Port) (st : PortState) (cause : FaultCause) : .ports ∈ L → .entries ∈ L → .rack ∈ L →
      Move L s (forgetHops p (stripPort p (setPortState p st cause s)))
  | entries (s : State) (v : Vector RosterEntry 8) : .entries ∈ L →
      (∀ f : FrameNo, s.entryRouted (s.entry f) → s.entryRouted v[f]) → Move L s (s.onRoster fun r => { r with entries := v })
  | roster (s : State) (f : Roster → Roster) : RosterKept L s.own s.roster (f s.roster) → Move L s (s.onRoster f)
  | clock (s : State) (f : RackTime → RackTime) : ClockKept L s.clock (f s.clock) → Move L s (s.onClock f)
  | orders (s : State) (f : RackOrders → RackOrders) : OrdersKept L s.orders (f s.orders) → Move L s (s.onOrders f)
  | report (s : State) (f : Reporter → Reporter) : ReportKept L s.reporter (f s.reporter) → Move L s (s.onReporter f)
  | restart (s : State) : .restart ∈ L → .rack ∈ L → Move L s (restartBlocks s)

/-- A chain of moves. -/
def Moves (L : List Effect) (s t : State) : Prop := Relation.ReflTransGen (Move L) s t

namespace Moves
variable {L : List Effect}

theorem refl (s : State) : Moves L s s := Relation.ReflTransGen.refl

theorem trans {s t u : State} (h : Moves L s t) (k : Moves L t u) : Moves L s u := Relation.ReflTransGen.trans h k

theorem one {s t : State} (h : Move L s t) : Moves L s t := Relation.ReflTransGen.single h

theorem foldl {α : Type} {f : State → α → State} (h : ∀ s a, Moves L s (f s a)) (l : List α) (s : State) : Moves L s (l.foldl f s) := by
  induction l generalizing s with
  | nil => exact refl s
  | cons a l ih => exact (h s a).trans (ih _)

theorem ite {c : Prop} [Decidable c] {s t u : State} (h : c → Moves L s t) (k : ¬ c → Moves L s u) : Moves L s (if c then t else u) := by
  split
  · exact h ‹_›
  · exact k ‹_›

/-- What every move keeps, a chain keeps. -/
theorem keeps {P : State → Prop} (h : ∀ s t, Move L s t → P s → P t) {s t : State} (m : Moves L s t) (hs : P s) : P t := by
  induction m with
  | refl => exact hs
  | tail _ k ih => exact h _ _ k ih

/-- What no move changes, a chain leaves. -/
theorem leaves {α : Type} {g : State → α} (h : ∀ s t, Move L s t → g t = g s) {s t : State} (m : Moves L s t) : g t = g s :=
  m.keeps (P := fun u => g u = g s) (fun u v k hu => (h u v k).trans hu) rfl

end Moves

/-! ### One record of a block -/

theorem TapKept.refl {L : List Effect} (s : State) (t : TapNo) (k : Tap) : TapKept L s t k k :=
  ⟨rfl, Iff.rfl, id, id, fun _ => id, .inl, fun _ _ => id⟩

theorem MirrorKept.refl (k : Mirror) : MirrorKept k k := ⟨rfl, id⟩

theorem PortKept.refl {L : List Effect} (r : PortRecord) : PortKept L r r := ⟨id, id, id, fun _ => rfl, fun _ => rfl, fun _ => .inr rfl⟩

section
variable {L : List Effect} {s : State}

theorem Moves.tap (t : TapNo) (f : Tap → Tap) (h : TapKept L s t (s.tap t) (f (s.tap t))) : Moves L s (s.onTap t f) := by
  refine .one (Move.taps s (s.tapEngine.taps.set t (f (s.tap t))) fun u => ?_)
  by_cases e : u = t
  · subst e; simpa using h
  · have : t.val ≠ u.val := fun k => e (Fin.ext k.symm)
    simpa [this, State.tap] using TapKept.refl s u (s.tap u)

theorem Moves.mirror (m : MirrorNo) (f : Mirror → Mirror) (hL : .halves ∈ L) (h : MirrorKept (s.mirror m) (f (s.mirror m))) :
    Moves L s (s.onMirror m f) := by
  refine .one (Move.mirrors s (s.mirrorStore.mirrors.set m (f (s.mirror m))) hL fun n => ?_)
  by_cases e : n = m
  · subst e; simpa using h
  · have : m.val ≠ n.val := fun k => e (Fin.ext k.symm)
    simpa [this, State.mirror] using MirrorKept.refl (s.mirror n)

theorem Moves.port (p : Port) (f : PortRecord → PortRecord) (h : PortKept L (s.port p) (f (s.port p))) : Moves L s (s.onPort p f) := by
  refine .one (Move.link s _ fun q => ?_)
  cases p <;> cases q <;> first | exact h | exact PortKept.refl _

theorem Moves.entry (n : FrameNo) (f : RosterEntry → RosterEntry) (hL : .entries ∈ L)
    (h : s.entryRouted (s.entry n) → s.entryRouted (f (s.entry n))) : Moves L s (s.onEntry n f) := by
  refine .one (Move.entries s (s.roster.entries.set n (f (s.entry n))) hL fun k hk => ?_)
  by_cases e : k = n
  · subst e; simpa using h hk
  · have : n.val ≠ k.val := fun j => e (Fin.ext j.symm)
    simpa [this, State.entry] using hk

theorem Moves.roster (f : Roster → Roster) (h : RosterKept L s.own s.roster (f s.roster)) : Moves L s (s.onRoster f) := .one (.roster s f h)

theorem Moves.clock (f : RackTime → RackTime) (h : ClockKept L s.clock (f s.clock)) : Moves L s (s.onClock f) := .one (.clock s f h)

theorem Moves.orders (f : RackOrders → RackOrders) (h : OrdersKept L s.orders (f s.orders)) : Moves L s (s.onOrders f) := .one (.orders s f h)

theorem Moves.report (f : Reporter → Reporter) (h : ReportKept L s.reporter (f s.reporter)) : Moves L s (s.onReporter f) :=
  .one (.report s f h)

theorem Moves.channel (f : Channel → Channel) (h : .channel ∈ L) : Moves L s (s.onChannel f) := .one (.channel s f h)

end

end Sys2Proof.Machine

namespace Sys2Proof.Machine

variable {L : List Effect}

/-! ### Results, events and the reporter -/

theorem countUp_le (n : Nat) : countUp n ≤ Config.countMax := Nat.min_le_right ..

theorem le_countUp {n : Nat} (h : n ≤ Config.countMax) : n ≤ countUp n := le_min (Nat.le_succ n) h

theorem moves_post (tag code : Word16) (r : DirectiveResult) (s : State) : Moves L s (postResult tag code r s) :=
  .report _ ⟨fun ⟨ha, hb, hc, _⟩ => ⟨ha, hb, hc, countUp_le _⟩, rfl, fun _ => ⟨rfl, rfl, rfl, rfl, rfl⟩, fun _ => ⟨rfl, rfl⟩, fun _ => rfl,
    fun _ => rfl, fun _ => rfl⟩

theorem moves_raise (info : EventInfo) (s : State) : Moves L s (raise info s) :=
  .report _ ⟨fun ⟨ha, _, hc, hd⟩ => ⟨ha.trans (le_countUp hc), rfl, countUp_le _, hd⟩, rfl, fun _ => ⟨rfl, rfl, rfl, rfl, rfl⟩,
    fun _ => ⟨rfl, rfl⟩, fun _ => rfl, fun _ => rfl, fun _ => rfl⟩

theorem moves_raiseConfigFault (cause : ConfigFault) (s : State) (h : .load ∈ L) : Moves L s (raiseConfigFault cause s) :=
  (Moves.report _ ⟨id, rfl, fun n => absurd h n, fun _ => ⟨rfl, rfl⟩, fun _ => rfl, fun _ => rfl, fun _ => rfl⟩).trans (moves_raise ..)

/-! ### Tap queues (R51 to R54) -/

theorem destsThrough_joined {s : State} {dests : Byte} {p : Port} (h : s.destsThrough dests p ≠ 0) : s.joined p = true := by
  by_contra hj
  refine h ?_
  have none (f : FrameNo) : (s.openRoute f == some p) = false := by
    unfold State.openRoute
    cases hr : (s.entry f).route with
    | none => rfl
    | some q =>
      by_cases hq : q = p
      · subst hq; simp [hj]
      · by_cases jq : s.joined q = true <;> simp [jq, hq]
  simp [State.destsThrough, frameSet, eight, none]

/-- R52: an entry made now waits on Joined ports alone. -/
theorem makeEntry_waits {s : State} {t : TapNo} {load : EntryLoad} (h : (s.makeEntry t load).waits = true) :
    s.entryWaits (s.makeEntry t load) := by
  refine ⟨by simpa [QueueEntry.waits] using h, fun p hp => ?_⟩
  cases p <;> exact destsThrough_joined (by simpa [State.makeEntry, PerPort.get] using hp)

/-- R53: an entry made now joins the queue of a tap that has a place for it. -/
theorem TapKept.append {s : State} {t : TapNo} {k k' : Tap} {load : EntryLoad} (hr : .rack ∈ L)
    (hw : (s.makeEntry t load).waits = true) (hroom : k.queue.length < k.queueSize) (hb : k'.bound = k.bound) (hs : k'.state = k.state)
    (hq : k'.queue = k.queue ++ [s.makeEntry t load]) (hc : ∀ p, k.cursorRight p → k'.cursorRight p) : TapKept L s t k k' where
  bound := hb
  unbound := by rw [hs]
  queue _ := by rw [hq, List.length_append]; exact hroom
  pending h e he := by
    rcases List.mem_append.mp (hq ▸ he) with he | he
    · exact h e he
    · rw [List.mem_singleton.mp he]; exact makeEntry_waits hw
  cursor _ := hc _
  arms h := .inl (by simpa [Tap.active, hs] using h)
  quiet n := absurd hr n

theorem moves_tapCounters (t : TapNo) (f : TapCounters → TapCounters) (s : State) : Moves L s (s.onTapCounters t f) :=
  .tap t _ ⟨rfl, Iff.rfl, id, id, fun _ => id, .inl, fun _ _ => id⟩

theorem moves_offerLine (t : TapNo) (r x : Nat) (data : Line) (s : State) (hr : .rack ∈ L) : Moves L s (offerLine t r x data s) := by
  unfold offerLine
  refine .ite (fun _ => moves_tapCounters ..) fun hw => .ite (fun hroom => .tap t _ ?_) fun _ => ?_
  · exact .append hr (by simpa using hw) (by omega) rfl rfl rfl fun _ => id
  · have drop : Moves L s (s.onTap t fun k => { k with dropSeen := true, counters := { k.counters with dropped := countUp k.counters.dropped } }) :=
      .tap t _ ⟨rfl, Iff.rfl, id, id, fun _ => id, .inl, fun _ _ => id⟩
    exact .ite (fun _ => drop) fun _ => drop.trans (moves_raise ..)

theorem moves_offerMark (t : TapNo) (kind : MarkKind) (s : State) (hr : .rack ∈ L) : Moves L s (offerMark t kind s) := by
  unfold offerMark
  refine .ite (fun h => .tap t _ ?_) fun _ => moves_tapCounters ..
  obtain ⟨hw, hroom⟩ := Bool.and_eq_true_iff.mp h
  exact .append hr hw (of_decide_eq_true hroom) rfl rfl rfl fun _ => id

theorem moves_abandonPass (t : TapNo) (s : State) (hr : .rack ∈ L) : Moves L s (abandonPass t s) :=
  .ite (fun _ => moves_offerMark _ _ _ hr) fun _ => .refl _

/-! ### The state of a tap while it queues and passes on -/

theorem offerMark_state (t : TapNo) (kind : MarkKind) (s : State) : ((offerMark t kind s).tap t).state = (s.tap t).state := by
  unfold offerMark; dsimp only
  split <;> simp [State.onTapCounters]

theorem offerLine_state (t : TapNo) (r x : Nat) (data : Line) (s : State) : ((offerLine t r x data s).tap t).state = (s.tap t).state := by
  have raised (i : EventInfo) (u : State) : (raise i u).tap t = u.tap t := rfl
  unfold offerLine; dsimp only
  split_ifs <;> simp [State.onTapCounters, raised]

theorem abandonPass_state (t : TapNo) (s : State) : ((abandonPass t s).tap t).state = (s.tap t).state := by
  unfold abandonPass; split
  · exact offerMark_state ..
  · rfl

/-! ### The cursor (R46 to R50) -/

theorem moves_nextPass (t : TapNo) (s : State) : Moves L s (nextPass t s) := by
  unfold nextPass
  refine .tap t _ ?_
  refine ⟨rfl, Iff.rfl, id, id, fun _ h => ?_, .inl, fun _ _ => id⟩
  obtain ⟨hr, hx, hh⟩ := h
  exact ⟨(Nat.zero_le _).trans_lt hr, (Nat.zero_le _).trans_lt hx, fun hp => by simp [hp, hh hp]⟩

theorem nextPass_state (t : TapNo) (s : State) : ((nextPass t s).tap t).state = (s.tap t).state := by simp [nextPass]

/-- A tap's state set by a rule that binds, unbinds, arms and starts nothing. -/
theorem moves_tapState (t : TapNo) (st : TapState) (s : State) (hr : .rack ∈ L) (h : (s.tap t).state ≠ .unbound)
    (hst : st ≠ .unbound ∧ st ≠ .armed ∧ st ≠ .running := by decide) : Moves L s (s.onTap t fun k => { k with state := st }) :=
  .tap t _ ⟨rfl, ⟨fun e => absurd e hst.1, fun e => absurd e h⟩, id, id, fun _ => id, fun e => absurd e (not_or.mpr hst.2),
    fun n => absurd hr n⟩

theorem moves_endPass (t : TapNo) (s : State) (hr : .rack ∈ L) (h : (s.tap t).state ≠ .unbound) : Moves L s (endPass t s) := by
  have before := (moves_offerMark t .passEnd s hr).trans (moves_nextPass t _)
  refine before.trans (.tap t _ ?_)
  have hs : ((nextPass t (offerMark t .passEnd s)).tap t).state ≠ .unbound := by rwa [nextPass_state, offerMark_state]
  refine ⟨rfl, ?_, id, id, fun _ => id, fun ha => .inl ?_, fun n => absurd hr n⟩
  · dsimp only
    split <;> simp [hs]
  · simp only [Tap.active] at ha ⊢
    split at ha
    · rcases ha with ha | ha <;> cases ha
    · exact ha

theorem moves_advanceCursor (t : TapNo) (s : State) (hr : .rack ∈ L) (h : (s.tap t).state ≠ .unbound) : Moves L s (advanceCursor t s) := by
  unfold advanceCursor
  refine .ite (fun hx => .tap t _ ?_) fun _ => .ite (fun hy => .tap t _ ?_) fun _ => moves_endPass t s hr h
  · exact ⟨rfl, Iff.rfl, id, id, fun _ ⟨a, _, c⟩ => ⟨a, hx, c⟩, .inl, fun _ _ => id⟩
  · exact ⟨rfl, Iff.rfl, id, id, fun _ ⟨_, b, c⟩ => ⟨hy, (Nat.zero_le _).trans_lt b, c⟩, .inl, fun _ _ => id⟩

theorem moves_stray (t : TapNo) (s : State) (hr : .rack ∈ L) (h : (s.tap t).state ≠ .unbound) : Moves L s (stray t s) := by
  have counted : Moves L s (s.onTapCounters t fun c => { c with strays := countUp c.strays }) := moves_tapCounters ..
  refine .ite (fun _ => (counted.trans ((moves_abandonPass t _ hr).trans (moves_tapState t _ _ hr ?_))).trans (moves_raise ..))
    fun _ => counted
  rw [abandonPass_state]
  simpa [State.onTapCounters] using h

theorem moves_tapWrite (t : TapNo) (c : Coord) (data : Line) (enables : BitVec 64) (s : State) (hr : .rack ∈ L) :
    Moves L s (tapWrite t c data enables s) := by
  unfold tapWrite
  dsimp only
  split
  · next h =>
    have hs : (s.tap t).state ≠ .unbound := by simp [h]
    refine .ite (fun _ => (moves_offerLine t _ _ data s hr).trans (moves_advanceCursor t _ hr ?_)) fun _ => moves_stray t s hr hs
    rwa [offerLine_state]
  · exact moves_tapCounters ..
  all_goals exact .refl _

/-! ### State changes (R39 to R44, R60) -/

/-- R55: a tap's request level goes by its queue, its thresholds, and whether it is bound and whether it empties its queue. -/
theorem level_of_state {k k' : Tap} {p : Port} (hq : k'.queue = k.queue) (hb : k'.bound = k.bound)
    (hk : k.state ≠ .unbound) (hd : k'.state ≠ .draining) (hh : k'.state ≠ .halted) (h : k.level p = 0) : k'.level p = 0 := by
  simp only [Tap.bound, Prod.mk.injEq] at hb
  obtain ⟨-, -, -, -, -, hhigh, hlow, hstop, -⟩ := hb
  simp only [Tap.level, Tap.waitingOn, hq, hhigh, hlow, hstop, hk, hd, hh] at h ⊢
  split_ifs at h ⊢ <;> grind

theorem moves_enterRunning (t : TapNo) (s : State) (h : (s.tap t).state = .idle ∨ (s.tap t).state = .armed)
    (ha : (s.tap t).state = .armed ∨ s.away = false) : Moves L s (enterRunning t s) := by
  have tidy : Moves L s (if (s.tap t).begun then nextPass t s else s) := .ite (fun _ => moves_nextPass t s) fun _ => .refl _
  have hs : ((if (s.tap t).begun then nextPass t s else s).tap t).state = (s.tap t).state := by split <;> simp [nextPass]
  have hw : (if (s.tap t).begun then nextPass t s else s).away = s.away := by split <;> rfl
  have hu : (s.tap t).state ≠ .unbound := by rcases h with h | h <;> simp [h]
  refine tidy.trans (.tap t _ ⟨rfl, ?_, id, id, fun _ ⟨a, b, c⟩ => ⟨(Nat.zero_le _).trans_lt a, (Nat.zero_le _).trans_lt b, c⟩, fun _ => ?_, fun _ p hp => ?_⟩)
  · rw [hs]; simp [hu]
  · rw [Tap.active, hs, hw]; exact ha.imp .inl id
  · exact level_of_state (k := (if (s.tap t).begun then nextPass t s else s).tap t) rfl rfl (by rwa [hs]) nofun nofun hp

theorem moves_startIfDue (t : TapNo) (s : State) : Moves L s (startIfDue t s) :=
  .ite (fun h => moves_enterRunning t s (.inr h.1) (.inl h.1)) fun _ => .refl _

theorem moves_startDue (s : State) : Moves L s (startDue s) := .foldl (fun s t => moves_startIfDue t s) _ _

theorem moves_drainRunning (t : TapNo) (s : State) (hr : .rack ∈ L) (h : (s.tap t).state ≠ .unbound) : Moves L s (drainRunning t s) :=
  (moves_abandonPass t s hr).trans (moves_tapState t _ _ hr (by rwa [abandonPass_state]))

/-- A tap's queue emptied. -/
theorem moves_emptyQueue (t : TapNo) (s : State) (hr : .rack ∈ L) : Moves L s (s.onTap t fun k => { k with queue := [] }) :=
  .tap t _ ⟨rfl, Iff.rfl, fun _ => Nat.zero_le _, fun _ _ h => absurd h List.not_mem_nil, fun _ => id, .inl, fun n => absurd hr n⟩

theorem moves_haltTap (t : TapNo) (s : State) (hr : .rack ∈ L) : Moves L s (haltTap t s) := by
  have drain (h : (s.tap t).state ≠ .unbound) :
      Moves L s ((abandonPass t (s.onTap t fun k => { k with queue := [] })).onTap t fun k => { k with state := .draining }) :=
    (moves_emptyQueue t s hr).trans (moves_drainRunning t _ hr (by simpa using h))
  unfold haltTap
  split
  · next h => exact moves_tapState t _ _ hr (by simp [h])
  · next h => exact drain (by simp [h])
  · next h => exact drain (by simp [h])
  · exact moves_emptyQueue t s hr
  · exact .refl _
  · exact .refl _

theorem moves_settleTap (t : TapNo) (s : State) (hr : .rack ∈ L) : Moves L s (settleTap t s) :=
  .ite (fun h => (Moves.tap t _ ⟨rfl, by simp [h.1], id, id, fun _ => id, fun a => by simp [Tap.active] at a, fun n => absurd hr n⟩).trans
    (.foldl (fun _ _ => moves_post ..) _ _)) fun _ => .refl _

theorem moves_leaveTap (t : TapNo) (s : State) (hr : .rack ∈ L) : Moves L s (leaveTap t s) := by
  unfold leaveTap
  split
  · next h => exact moves_drainRunning t s hr (by simp [h])
  · next h => exact moves_tapState t _ _ hr (by simp [h])
  all_goals exact .refl _

theorem moves_orderCounters (f : OrderCounters → OrderCounters) (s : State) : Moves L s (s.onOrderCounters f) :=
  .orders _ ⟨id, fun _ => rfl, fun _ => ⟨rfl, rfl⟩⟩

theorem inGroup_bound {k : Tap} {g : Fin 16} (h : k.inGroup g = true) : k.state ≠ .unbound := by
  simp only [Tap.inGroup, Bool.and_eq_true, bne_iff_ne] at h
  exact h.1

theorem moves_armTapOf (g : Fin 16) (time : TimeValue) (s : State) (t : TapNo) (hr : .rack ∈ L) : Moves L s (armTapOf g time s t) := by
  refine .ite (fun hg => .ite (fun h => .tap t _ ?_) fun _ => moves_orderCounters ..) fun _ => .refl _
  exact ⟨rfl, by simp [h.1], id, id, fun _ => id, fun _ => .inr (by simpa using h.2), fun n => absurd hr n⟩

theorem moves_haltTapOf (g : Fin 16) (s : State) (t : TapNo) (hr : .rack ∈ L) : Moves L s (haltTapOf g s t) :=
  .ite (fun _ => (moves_haltTap t s hr).trans (moves_settleTap t _ hr)) fun _ => .refl _

end Sys2Proof.Machine

namespace Sys2Proof.Machine

variable {L : List Effect}

/-! ### Halves (R143 to R155) -/

theorem markPresent_mem {n k : Nat} {l : List Nat} (h : k ∈ markPresent n l) : k = n ∨ k ∈ l := by
  induction l with
  | nil => exact .inl (List.mem_singleton.mp h)
  | cons a l ih =>
    simp only [markPresent] at h
    split_ifs at h
    · simpa using h
    · exact .inr h
    · rcases List.mem_cons.mp h with rfl | h
      · exact .inr List.mem_cons_self
      · exact (ih h).imp id (List.mem_cons_of_mem a)

theorem markPresent_sorted {n : Nat} {l : List Nat} (h : l.Pairwise (· < ·)) : (markPresent n l).Pairwise (· < ·) := by
  induction l with
  | nil => simp [markPresent]
  | cons a l ih =>
    obtain ⟨ha, hl⟩ := List.pairwise_cons.mp h
    simp only [markPresent]
    split_ifs with h1 h2
    · refine List.pairwise_cons.mpr ⟨fun b hb => ?_, h⟩
      rcases List.mem_cons.mp hb with rfl | hb
      · exact h1
      · exact h1.trans (ha b hb)
    · exact h
    · refine List.pairwise_cons.mpr ⟨fun b hb => ?_, ih hl⟩
      rcases markPresent_mem hb with rfl | hb
      · omega
      · exact ha b hb

theorem markPresent_length {n : Nat} {l : List Nat} (h : n ∉ l) : (markPresent n l).length = l.length + 1 := by
  induction l with
  | nil => rfl
  | cons a l ih =>
    obtain ⟨ha, hl⟩ := not_or.mp (mt List.mem_cons.mpr h)
    simp only [markPresent]
    split_ifs
    · rfl
    · simp [ih hl]

/-- One half of a mirror changed, its other half and its binding left. -/
def Mirror.withHalf (h : Half) (f : HalfRecord → HalfRecord) (k : Mirror) : Mirror := match h with
  | .even => { k with evenHalf := f k.evenHalf }
  | .odd => { k with oddHalf := f k.oddHalf }

theorem onHalf_eq (m : MirrorNo) (h : Half) (f : HalfRecord → HalfRecord) (s : State) : s.onHalf m h f = s.onMirror m (Mirror.withHalf h f) := rfl

theorem MirrorKept.half {k : Mirror} {h : Half} {f : HalfRecord → HalfRecord} (w : halfRight k (k.half h) → halfRight k (f (k.half h))) :
    MirrorKept k (k.withHalf h f) := by
  refine ⟨by cases h <;> rfl, fun r g => ?_⟩
  have shape : (k.withHalf h f).shapeLines = k.shapeLines := by cases h <;> rfl
  simp only [halfRight, shape]
  cases h <;> cases g
  · exact w (r .even)
  · exact r .odd
  · exact r .even
  · exact w (r .odd)

theorem moves_half (m : MirrorNo) (h : Half) (f : HalfRecord → HalfRecord) (s : State) (hL : .halves ∈ L)
    (w : halfRight (s.mirror m) ((s.mirror m).half h) → halfRight (s.mirror m) (f ((s.mirror m).half h))) : Moves L s (s.onHalf m h f) :=
  .mirror m _ hL (.half w)

/-- A half that is not Complete keeps its present map whatever becomes of its other fields. -/
theorem halfRight_of_state {m : Mirror} {k k' : HalfRecord} (hp : k'.present = k.present) (hr : k'.received = k.received)
    (hc : k'.state = .complete → k'.received = m.shapeLines) (h : halfRight m k) : halfRight m k' :=
  ⟨hp ▸ h.1, hp ▸ h.2.1, by rw [hr, hp]; exact h.2.2.1, hc⟩

theorem halfRight_toStale {m : Mirror} {k : HalfRecord} (h : halfRight m k) : halfRight m k.toStale :=
  halfRight_of_state (k := k) rfl rfl nofun h

theorem halfRight_staleFilling {m : Mirror} {k : HalfRecord} (h : halfRight m k) : halfRight m k.staleFilling := by
  unfold HalfRecord.staleFilling
  split
  · exact halfRight_toStale h
  · exact h

theorem moves_mirrorCounters (m : MirrorNo) (f : MirrorCounters → MirrorCounters) (s : State) (hL : .halves ∈ L) :
    Moves L s (s.onMirrorCounters m f) := .mirror m _ hL ⟨rfl, fun r h => by cases h; exacts [r .even, r .odd]⟩

theorem moves_halvesOf (f : FrameNo) (g : HalfRecord → HalfRecord) (s : State) (hL : .halves ∈ L)
    (w : ∀ (m : Mirror) k, halfRight m k → halfRight m (g k)) : Moves L s (s.onHalvesOf f g) := by
  refine .one (Move.mirrors s _ hL fun m => ?_)
  simp only [Fin.getElem_fin, Vector.getElem_map]
  change MirrorKept (s.mirror m) (if (s.mirror m).bound && (s.mirror m).sourceFrame == f then _ else s.mirror m)
  split
  · refine ⟨rfl, fun r h => ?_⟩
    cases h
    · exact w _ _ (r .even)
    · change halfRight (s.mirror m) (if (s.mirror m).paired then g (s.mirror m).oddHalf else (s.mirror m).oddHalf)
      split
      · exact w _ _ (r .odd)
      · exact r .odd
  · exact .refl _

theorem moves_sourceLeft (f : FrameNo) (s : State) (hL : .halves ∈ L) : Moves L s (sourceLeft f s) :=
  moves_halvesOf f _ s hL fun _ _ => halfRight_staleFilling

theorem moves_sourceRestarted (f : FrameNo) (s : State) (hL : .halves ∈ L) : Moves L s (sourceRestarted f s) :=
  moves_halvesOf f _ s hL fun _ _ => halfRight_toStale

theorem moves_openFill (m : MirrorNo) (h : Half) (pass : Word16) (stamp : Stamp) (s : State) (hL : .halves ∈ L) :
    Moves L s (openFill m h pass stamp s) := by
  have opened (u : State) : Moves L u (u.onHalf m h fun _ => HalfRecord.opened pass stamp) :=
    moves_half m h _ u hL fun _ => ⟨.nil, nofun, rfl, nofun⟩
  unfold openFill
  refine .ite (fun _ => .trans ?_ (opened _)) fun _ => .refl _
  exact .ite (fun _ => moves_mirrorCounters m _ s hL) fun _ => .refl _

/-- A half once it has been opened for a pass is Filling with it, in a mirror of the same shape. -/
theorem openFill_half (m : MirrorNo) (h : Half) (pass : Word16) (stamp : Stamp) (s : State) :
    (((openFill m h pass stamp s).mirror m).half h).state = .filling ∧
      ((openFill m h pass stamp s).mirror m).asBound = (s.mirror m).asBound := by
  unfold openFill
  dsimp only
  split
  · split <;> cases h <;> simp [State.onHalf, State.onMirrorCounters, Mirror.half, HalfRecord.opened, Mirror.asBound]
  · next hn => exact ⟨by simp [HalfRecord.opensFill] at hn; exact hn.1, rfl⟩

/-- R147: a place of the shape that is newly present is counted. -/
theorem halfRight_mark {k : Mirror} {h : HalfRecord} {place : Nat} (hf : h.state = .filling) (hp : place < k.shapeLines) (w : halfRight k h) :
    halfRight k (if place ∈ h.present then h else { h with present := markPresent place h.present, received := h.received + 1 }) := by
  split
  · exact w
  · next hn =>
    obtain ⟨hs, hb, hc, -⟩ := w
    refine ⟨markPresent_sorted hs, fun n hm => ?_, ?_, fun e => ?_⟩
    · rcases markPresent_mem hm with rfl | hm
      · exact hp
      · exact hb n hm
    · exact (congrArg (· + 1) hc).trans (markPresent_length hn).symm
    · cases hf.symm.trans e

theorem place_lt_shapeLines {k : Mirror} {r x : Nat} (hr : r < k.recordCount) (hx : x < k.recordLen) : r * k.recordLen + x < k.shapeLines :=
  calc r * k.recordLen + x < r * k.recordLen + k.recordLen := Nat.add_lt_add_left hx _
    _ = (r + 1) * k.recordLen := (Nat.succ_mul ..).symm
    _ ≤ k.recordCount * k.recordLen := Nat.mul_le_mul_right _ hr
    _ = k.shapeLines := Nat.mul_comm ..

theorem moves_storeLine (m : MirrorNo) (h : Half) (r x : Nat) (data : Line) (s : State) (hL : .halves ∈ L) (hB : .bytes ∈ L)
    (hf : ((s.mirror m).half h).state = .filling) (hr : r < (s.mirror m).recordCount) (hx : x < (s.mirror m).recordLen) :
    Moves L s (storeLine m h r x data s) := by
  have written (n : Nat) : Moves L s (s.onMirrorStore fun e => { e with store := Memory.writeLine e.store n data }) := .one (.store s n data hB)
  have mirror (n : Nat) : (s.onMirrorStore fun e => { e with store := Memory.writeLine e.store n data }).mirror m = s.mirror m := by
    simp only [State.mirror, onMirrorStore_mirrorStore]
  unfold storeLine
  dsimp only
  refine (written _).trans (moves_half m h _ _ hL ?_)
  rw [mirror]
  exact halfRight_mark hf (place_lt_shapeLines hr hx)

theorem moves_takeLine (m : MirrorNo) (h : Half) (pass : Word16) (stamp : Stamp) (r x : Nat) (data : Line) (s : State) (hL : .halves ∈ L)
    (hB : .bytes ∈ L) : Moves L s (takeLine m h pass stamp r x data s) := by
  refine .ite (fun hin => ?_) fun _ => moves_mirrorCounters m _ s hL
  obtain ⟨hf, hb⟩ := openFill_half m h pass stamp s
  simp only [Mirror.asBound, Prod.mk.injEq] at hb
  obtain ⟨-, -, -, -, hlen, hcount, -⟩ := hb
  exact (moves_openFill m h pass stamp s hL).trans
    (moves_storeLine m h r x data _ hL hB hf (hcount ▸ hin.1) (hlen ▸ hin.2))

theorem moves_takeLines (m : MirrorNo) (h : Half) (pass : Word16) (stamp : Stamp) (r x : Nat) (ls : List Line) (s : State) (hL : .halves ∈ L)
    (hB : .bytes ∈ L) : Moves L s (takeLines m h pass stamp r x ls s) := by
  induction ls generalizing x s with
  | nil => exact .refl s
  | cons l ls ih => exact (moves_takeLine m h pass stamp r x l s hL hB).trans (ih ..)

theorem moves_takeMark (m : MirrorNo) (h : Half) (kind : MarkKind) (pass : Word16) (stamp : Stamp) (forwarded : Nat) (s : State)
    (hL : .halves ∈ L) : Moves L s (takeMark m h kind pass stamp forwarded s) := by
  unfold takeMark
  dsimp only
  refine .ite (fun _ => moves_mirrorCounters m _ s hL) fun _ => ?_
  cases kind with
  | passEnd =>
    refine moves_half m h _ s hL (halfRight_of_state rfl rfl fun e => ?_)
    by_contra hn
    exact absurd e (by simp [hn])
  | passAbandoned => exact (moves_half m h _ s hL (halfRight_of_state rfl rfl (by exact nofun))).trans (moves_mirrorCounters m _ _ hL)

theorem moves_ageCheck (m : MirrorNo) (h : Half) (s : State) (hL : .halves ∈ L) : Moves L s (ageCheck m h s) :=
  .ite (fun _ => (moves_half m h _ s hL halfRight_toStale).trans (moves_raise ..)) fun _ => .refl _

theorem moves_serveHalf (m : MirrorNo) (h : Half) (r x : Nat) (s : State) (hL : .halves ∈ L) : Moves L s (serveHalf m h r x s).2 := by
  have stale : Moves L s (s.onMirrorCounters m fun c => { c with staleReads := countUp c.staleReads }) := moves_mirrorCounters m _ s hL
  have fill : Moves L s (s.onMirrorCounters m fun c => { c with absentReads := countUp c.absentReads }) := moves_mirrorCounters m _ s hL
  unfold serveHalf
  dsimp only
  split
  · exact stale
  · exact stale
  all_goals
    split
    · exact .refl s
    · exact fill

theorem moves_mirrorRead (m : MirrorNo) (c : Coord) (s : State) (hL : .halves ∈ L) : Moves L s (mirrorRead m c s).2 := by
  unfold mirrorRead
  split
  · exact (moves_ageCheck m _ s hL).trans (moves_serveHalf m _ _ _ _ hL)
  · exact .refl s

/-! ### Queues and slots of the ports (R64, R72, R80, R81) -/

/-- A change of a port's queues, slots, frame in transmission and counters within the queues' places. -/
theorem PortKept.queues_of {r r' : PortRecord} (hL : .rack ∈ L) (hv : r'.view = r.view) (hs : r'.signal = r.signal)
    (he : r'.errorScore = r.errorScore ∧ r'.goodRun = r.goodRun) (hq : queuesRight r → queuesRight r') : PortKept L r r' where
  queues := hq
  score h := by unfold scoreRight; rw [he.1, he.2]; exact h
  joined h := (congrArg (·.1) hv).trans h
  view _ := hv
  signal _ := hs
  quiet n := absurd hL n

theorem moves_portCounters (p : Port) (f : PortCounters → PortCounters) (s : State) : Moves L s (s.onPortCounters p f) :=
  .port p _ ⟨id, id, id, fun _ => rfl, fun _ => rfl, fun _ => .inr rfl⟩

theorem replaceUpdate_length (f : Frame) (q : List Frame) : (replaceUpdate f q).length = q.length := by
  induction q with
  | nil => rfl
  | cons g gs ih => simp only [replaceUpdate]; split <;> simp [ih]

theorem moves_queueControl (p : Port) (f : Frame) (s : State) (hL : .rack ∈ L) : Moves L s (queueControl p f s) := by
  unfold queueControl
  refine .ite (fun _ => .port p _ (.queues_of hL rfl rfl ⟨rfl, rfl⟩ fun h => ⟨h.1, ?_⟩)) fun _ =>
    .ite (fun hlt => .port p _ (.queues_of hL rfl rfl ⟨rfl, rfl⟩ fun h => ⟨h.1, ?_⟩)) fun _ => moves_portCounters ..
  · exact (replaceUpdate_length ..).trans_le h.2
  · simpa using hlt

theorem moves_offerRelay (p : Port) (f : Frame) (s : State) (hL : .rack ∈ L) : Moves L s (offerRelay p f s) :=
  .ite (fun hlt => .port p _ (.queues_of hL rfl rfl ⟨rfl, rfl⟩ fun h => ⟨by simpa using hlt, h.2⟩)) fun _ => moves_portCounters ..

theorem moves_placeHello (p : Port) (s : State) (hL : .rack ∈ L) : Moves L s (placeHello p s) := by
  refine .ite (fun hlt => .port p _ (.queues_of hL rfl rfl ⟨rfl, rfl⟩ fun h => ⟨h.1, hlt⟩)) fun _ =>
    .port p _ (.queues_of hL rfl rfl ⟨rfl, rfl⟩ fun h => ⟨h.1, ?_⟩)
  simp [Config.controlPlaces]

theorem moves_linkNumbers (f : Link → Link) (s : State) (h : (f s.link).ports = s.link.ports) : Moves L s (s.onLink f) := by
  refine .one (.link s f fun p => ?_)
  have : (s.onLink f).port p = s.port p := by simp [State.port, h]
  rw [this]; exact .refl _

theorem moves_broadcast (make : Word16 → Port → Body) (s : State) (hL : .rack ∈ L) : Moves L s (broadcast make s) := by
  have copy (p : Port) (f : Frame) (c : Bool) (u : State) : Moves L u (if c then queueControl p f u else u) :=
    .ite (fun _ => moves_queueControl p f u hL) fun _ => .refl u
  exact .ite (fun _ => ((copy ..).trans (copy ..)).trans (moves_linkNumbers _ _ rfl)) fun _ => .refl _

theorem moves_sendUnicast (dest : FrameNo) (body : Body) (s : State) (hL : .rack ∈ L) : Moves L s (sendUnicast dest body s) := by
  unfold sendUnicast
  split
  · exact moves_queueControl _ _ s hL
  · exact moves_linkNumbers _ s rfl

/-! ### Transmission (R82 to R85) -/

theorem moves_startFrame (p : Port) (f : Frame) (s : State) (hL : .rack ∈ L) : Moves L s (startFrame p f s) :=
  .port p _ (.queues_of hL rfl rfl ⟨rfl, rfl⟩ id)

/-- R56: an entry is the next of a frame that has taken `prev` last and has room for `room` more. -/
def QueueEntry.next (p : Port) (prev : Option QueueEntry) (room : Nat) (e : QueueEntry) : Bool :=
  decide (0 < room) && (prev.all fun q => q.follows p e)

theorem takeRun_cons (p : Port) (prev : Option QueueEntry) (room : Nat) (e : QueueEntry) (rest : List QueueEntry) :
    takeRun p prev room (e :: rest) =
      if e.pending.get p = false then ((takeRun p prev room rest).1, e :: (takeRun p prev room rest).2)
      else if e.next p prev room then
        let run := takeRun p (some e) (if e.isMark then 0 else room - 1) rest
        (e :: run.1, if (e.sentOn p).waits then e.sentOn p :: run.2 else run.2)
      else ([], e :: rest) := by
  rw [takeRun.eq_def]
  cases prev <;> simp [QueueEntry.next]

/-- What a frame leaves of a tap queue: entries that stood in it, some of them without the port. -/
theorem takeRun_left (p : Port) (prev : Option QueueEntry) (room : Nat) (q : List QueueEntry) :
    (takeRun p prev room q).2.length ≤ q.length ∧
      ∀ e ∈ (takeRun p prev room q).2, e ∈ q ∨ ∃ d ∈ q, e = d.sentOn p ∧ e.waits = true := by
  induction q generalizing prev room with
  | nil => simp [takeRun]
  | cons d q ih =>
    have keep (prev' room') : (takeRun p prev' room' q).2.length ≤ q.length ∧ ∀ e ∈ (takeRun p prev' room' q).2,
        e ∈ d :: q ∨ ∃ c ∈ d :: q, e = c.sentOn p ∧ e.waits = true := by
      refine ⟨(ih prev' room').1, fun e he => ?_⟩
      rcases (ih prev' room').2 e he with h | ⟨c, hc, hw⟩
      · exact .inl (List.mem_cons_of_mem d h)
      · exact .inr ⟨c, List.mem_cons_of_mem d hc, hw⟩
    rw [takeRun_cons]
    split
    · refine ⟨Nat.succ_le_succ (keep ..).1, fun e he => ?_⟩
      rcases List.mem_cons.mp he with rfl | he
      · exact .inl List.mem_cons_self
      · exact (keep ..).2 e he
    · split
      · dsimp only
        split
        · next hw =>
          refine ⟨Nat.succ_le_succ (keep ..).1, fun e he => ?_⟩
          rcases List.mem_cons.mp he with rfl | he
          · exact .inr ⟨d, List.mem_cons_self, rfl, hw⟩
          · exact (keep ..).2 e he
        · exact ⟨(keep ..).1.trans (Nat.le_succ _), (keep ..).2⟩
      · exact ⟨le_rfl, fun e he => .inl he⟩

theorem entryWaits_sentOn {s : State} {p : Port} {e : QueueEntry} (h : s.entryWaits e) (hw : (e.sentOn p).waits = true) :
    s.entryWaits (e.sentOn p) := by
  refine ⟨by simpa [QueueEntry.waits] using hw, fun q hq => h.2 q ?_⟩
  cases p <;> cases q <;> first | exact hq | exact absurd hq (by simp [QueueEntry.sentOn, PerPort.get, PerPort.set])

theorem moves_grantTap (p : Port) (t : TapNo) (s : State) (hL : .rack ∈ L) : Moves L s (grantTap p t s) := by
  obtain ⟨hlen, hmem⟩ := takeRun_left p none 4 (s.tap t).queue
  unfold grantTap
  dsimp only
  split
  · refine Moves.trans (.tap t _ ?_) (moves_startFrame p _ _ hL)
    refine ⟨rfl, Iff.rfl, hlen.trans, fun h e he => ?_, fun _ => id, .inl, fun n => absurd hL n⟩
    rcases hmem e he with he | ⟨d, hd, rfl, hw⟩
    · exact h e he
    · exact entryWaits_sentOn (h d hd) hw
  · exact .refl s

theorem moves_grantRelay (p : Port) (s : State) (hL : .rack ∈ L) : Moves L s (grantRelay p s) := by
  unfold grantRelay
  split
  · next hq =>
    refine Moves.trans (.port p _ (.queues_of hL rfl rfl ⟨rfl, rfl⟩ fun h => ⟨?_, h.2⟩)) (moves_startFrame p _ _ hL)
    have := h.1
    rw [hq] at this
    exact (Nat.le_succ _).trans this
  · exact .refl s

theorem moves_grantRotating (p : Port) (s : State) (hL : .rack ∈ L) : Moves L s (grantRotating p s) := by
  unfold grantRotating
  split
  · have turned (i : Fin 9) : Moves L s (s.onPort p fun r => { r with lastGranted := i }) := .port p _ (.queues_of hL rfl rfl ⟨rfl, rfl⟩ id)
    dsimp only
    split
    · exact (turned _).trans (moves_grantRelay p _ hL)
    · exact (turned _).trans (moves_grantTap p _ _ hL)
  · exact .refl s

theorem moves_grantControl (p : Port) (s : State) (hL : .rack ∈ L) : Moves L s (grantControl p s) := by
  unfold grantControl
  split
  · next hq =>
    refine Moves.trans (.port p _ (.queues_of hL rfl rfl ⟨rfl, rfl⟩ fun h => ⟨h.1, ?_⟩)) (moves_startFrame p _ _ hL)
    have := h.2
    rw [hq] at this
    exact (Nat.le_succ _).trans this
  · exact .refl s

theorem moves_grantSlot (p : Port) (s : State) (hL : .rack ∈ L) : Moves L s (grantSlot p s) := by
  unfold grantSlot
  dsimp only
  split
  · exact Moves.trans (.port p _ (.queues_of hL rfl rfl ⟨rfl, rfl⟩ id)) (moves_startFrame p _ _ hL)
  · split
    · exact Moves.trans (.port p _ (.queues_of hL rfl rfl ⟨rfl, rfl⟩ id)) (moves_startFrame p _ _ hL)
    · exact .refl s

theorem moves_grant (p : Port) (s : State) (hL : .rack ∈ L) : Moves L s (grant p s) := by
  unfold grant
  refine .ite (fun _ => .refl s) fun _ => ?_
  split
  · exact .ite (fun _ => moves_grantSlot p s hL) fun _ => .ite (fun _ => moves_grantControl p s hL) fun _ => moves_grantRotating p s hL
  · exact .ite (fun _ => moves_grantControl p s hL) fun _ => .refl s
  all_goals exact .refl s

theorem moves_completeFrame (p : Port) (s : State) (hL : .rack ∈ L) : Moves L s (completeFrame p s) :=
  .ite (fun _ => .port p _ (.queues_of hL rfl rfl ⟨rfl, rfl⟩ id)) fun _ => .refl s

/-! ### Changes of a port's state (R62 to R69) -/

/-- A port that is not up, or whose changes the event concludes, may lose what it sends. -/
def MaySend (L : List Effect) (r : PortRecord) : Prop := .rack ∉ L → ¬ r.up

theorem moves_cutOff (p : Port) (s : State) (hr : MaySend L (s.port p)) : Moves L s (cutOff p s) :=
  .port p _ ⟨id, id, id, fun _ => rfl, fun _ => rfl, fun n => .inl ⟨hr n, hr n⟩⟩

theorem moves_flushPort (p : Port) (s : State) (hr : MaySend L (s.port p)) : Moves L s (flushPort p s) :=
  .port p _ ⟨fun _ => ⟨Nat.zero_le _, Nat.zero_le _⟩, id, id, fun _ => rfl, fun _ => rfl, fun n => .inl ⟨hr n, hr n⟩⟩

/-- A port's attempt, timers, neighbour and score set. -/
theorem moves_portView (p : Port) (f : PortRecord → PortRecord) (s : State) (hp : .ports ∈ L)
    (hs : (f (s.port p)).traffic = (s.port p).traffic ∧ (f (s.port p)).signal = (s.port p).signal)
    (he : scoreRight (s.port p) → scoreRight (f (s.port p))) : Moves L s (s.onPort p f) := by
  obtain ⟨ht, hg⟩ := hs
  have htr := ht
  simp only [PortRecord.traffic, Prod.mk.injEq] at htr
  obtain ⟨hst, -, -, -, hc, hrl⟩ := htr
  refine .port p f ⟨fun h => ?_, he, fun h => hst.trans h, fun n => absurd hp n, fun _ => hg, fun _ => .inr ht⟩
  unfold queuesRight
  rw [hc, hrl]; exact h

theorem moves_setPortState (p : Port) (st : PortState) (cause : FaultCause) (s : State) (hp : .ports ∈ L) (hr : MaySend L (s.port p))
    (ht : .rack ∉ L → st ≠ .joined ∧ st ≠ .linked) (hj : (s.port p).state = .joined → st = .joined) :
    Moves L s (setPortState p st cause s) := by
  have set : Moves L s (s.onPort p fun r => { r with state := st, cause := cause }) :=
    .port p _ ⟨id, id, hj, fun n => absurd hp n, fun _ => rfl, fun n => .inl ⟨hr n, not_or.mpr (ht n)⟩⟩
  exact .ite (fun _ => set) fun _ => set.trans (moves_raise ..)

end Sys2Proof.Machine

namespace Sys2Proof.Machine

variable {L : List Effect}

/-- A fold of steps that each move the part, and keep what the next one needs. -/
theorem Moves.foldl_keeping {α : Type} {P : State → Prop} {f : State → α → State} (h : ∀ s a, P s → Moves L s (f s a) ∧ P (f s a))
    (l : List α) {s : State} (hs : P s) : Moves L s (l.foldl f s) ∧ P (l.foldl f s) := by
  induction l generalizing s with
  | nil => exact ⟨.refl s, hs⟩
  | cons a l ih =>
    obtain ⟨m, k⟩ := h s a hs
    exact (ih k).imp m.trans id

/-! ### Rack time (R114 to R136) -/

theorem clampTrim_bounded (z : Int) : trimBounded (clampTrim z) := by
  simp only [trimBounded, clampTrim, Config.trimBound]; omega

theorem moveTime_le (n : Nat) (z : Int) : moveTime n z ≤ Config.rackTimeMax := Nat.min_le_right ..

/-- A change of the lock state, of the trim within its bound, and of the exchange in hand. -/
theorem ClockKept.lock_of {c c' : RackTime} (hL : .lock ∈ L) (ht : clockRight c → clockRight c')
    (hs : c'.time = c.time ∧ c'.settings = c.settings ∧ c'.exchangeTimer = c.exchangeTimer ∧ c'.exponent = c.exponent ∧
      c'.counters = c.counters) : ClockKept L c c' :=
  ⟨ht, fun _ => hs.1, fun _ => hs.2.1, fun _ => ⟨hs.2.2.1, hs.2.2.2.1⟩, fun _ => hs.2.2.2.2, fun n => absurd hL n⟩

theorem toHoldover_right {c : RackTime} (h : clockRight c) : clockRight c.toHoldover := ⟨clampTrim_bounded _, h.2⟩

theorem toAcquiring_right {c : RackTime} (h : clockRight c) : clockRight c.toAcquiring := h

theorem kept_toMaster {c : RackTime} (hL : .lock ∈ L) : ClockKept L c c.toMaster := by
  refine .lock_of hL (fun h => ⟨?_, ?_, h.2.2⟩) ⟨rfl, rfl, rfl, rfl, rfl⟩
  · simp only [RackTime.toMaster]; split <;> exact clampTrim_bounded _
  · simp only [RackTime.toMaster]; split
    · exact h.2.1
    · exact clampTrim_bounded _

theorem kept_fromMaster {c : RackTime} (up : Option Port) (hL : .lock ∈ L) : ClockKept L c (c.fromMaster up) := by
  unfold RackTime.fromMaster
  dsimp only
  split
  · exact .lock_of hL id ⟨rfl, rfl, rfl, rfl, rfl⟩
  · exact .lock_of hL toHoldover_right ⟨rfl, rfl, rfl, rfl, rfl⟩

theorem kept_changeLeader {c : RackTime} (up : Option Port) (hL : .lock ∈ L) : ClockKept L c (c.changeLeader up) := by
  unfold RackTime.changeLeader
  dsimp only
  split
  · exact .lock_of hL toHoldover_right ⟨rfl, rfl, rfl, rfl, rfl⟩
  · exact .lock_of hL toHoldover_right ⟨rfl, rfl, rfl, rfl, rfl⟩
  all_goals exact .lock_of hL id ⟨rfl, rfl, rfl, rfl, rfl⟩

theorem moves_changeLock (f : RackTime → RackTime) (s : State) (h : ClockKept L s.clock (f s.clock)) : Moves L s (changeLock f s) :=
  .ite (fun _ => .clock f h) fun _ => (Moves.clock f h).trans (moves_raise ..)

theorem moves_followMaster (former left : Option FrameNo) (s : State) (hL : .lock ∈ L) : Moves L s (followMaster former left s) :=
  .ite (fun _ => .ite (fun _ => .refl s) fun _ => moves_changeLock _ s (kept_toMaster hL)) fun _ =>
    .ite (fun _ => moves_changeLock _ s (kept_fromMaster _ hL)) fun _ =>
      .ite (fun _ => moves_changeLock _ s (kept_changeLeader _ hL)) fun _ => .refl s

theorem moves_makeRequest (s : State) (hl : .lock ∈ L) (hr : .rack ∈ L) : Moves L s (makeRequest s) := by
  unfold makeRequest
  split
  · exact .refl s
  · exact (Moves.clock _ (.lock_of hl id ⟨rfl, rfl, rfl, rfl, rfl⟩)).trans (.port _ _ (.queues_of hr rfl rfl ⟨rfl, rfl⟩ id))

theorem expire_right {c : RackTime} (h : clockRight c) : clockRight c.expire := by
  have missed : clockRight c.countMissed := by unfold RackTime.countMissed; split <;> exact h
  have lost : clockRight (if c.countMissed.leaderLost then c.countMissed.toHoldover else c.countMissed) := by
    split
    · exact toHoldover_right missed
    · exact missed
  unfold RackTime.expire
  dsimp only
  split <;> exact lost

theorem kept_expire {c : RackTime} (hL : .lock ∈ L) : ClockKept L c c.expire := by
  refine .lock_of hL expire_right ?_
  unfold RackTime.expire RackTime.countMissed
  dsimp only
  split_ifs <;> exact ⟨rfl, rfl, rfl, rfl, rfl⟩

theorem moves_startExchange (s : State) (h : .exchange ∈ L) : Moves L s (s.onClock RackTime.startExchange) :=
  .clock _ ⟨id, fun _ => rfl, fun _ => rfl, fun n => absurd h n, fun _ => rfl, fun _ => ⟨rfl, rfl, rfl⟩⟩

theorem moves_answerRequest (p : Port) (f : TimeRequestBody) (s : State) (hr : .rack ∈ L) : Moves L s (answerRequest p f s) := by
  unfold answerRequest
  exact .port p _ (.queues_of hr rfl rfl ⟨rfl, rfl⟩ id)

theorem steer_right {c : RackTime} (offset : Int) (good : Bool) (h : clockRight c) : clockRight (c.steer offset good) := by
  have servo : clockRight (c.servo offset) := ⟨clampTrim_bounded _, clampTrim_bounded _, h.2.2⟩
  have approach (d : RackTime) (h : clockRight d) : clockRight (d.approach offset good) := by
    unfold RackTime.approach; dsimp only; split_ifs <;> exact h
  have keepLock (d : RackTime) (h : clockRight d) : clockRight (d.keepLock offset good) := by
    unfold RackTime.keepLock; dsimp only; split_ifs <;> exact h
  unfold RackTime.steer
  dsimp only
  split
  · exact approach _ servo
  · exact approach _ servo
  · exact keepLock _ servo
  · exact servo
  · exact servo

theorem kept_steer {c : RackTime} (offset : Int) (good : Bool) (hL : .lock ∈ L) : ClockKept L c (c.steer offset good) := by
  refine .lock_of hL (steer_right offset good) ?_
  unfold RackTime.steer RackTime.approach RackTime.keepLock
  dsimp only
  split
  all_goals (try split_ifs) <;> exact ⟨rfl, rfl, rfl, rfl, rfl⟩

/-- The effects of a Time Reply. -/
def replyEffects : List Effect := [.lock, .time, .timeCounters]

theorem moves_acceptExchange (offset : Int) (quality : Byte) (good : Bool) (s : State) (h : replyEffects ⊆ L) :
    Moves L s (acceptExchange offset quality good s) := by
  have hl : .lock ∈ L := h (by decide)
  have ht : .time ∈ L := h (by decide)
  have hc : .timeCounters ∈ L := h (by decide)
  have counted : Moves L s (s.onClock fun c => { c with missed := 0, lastQuality := some (quality, good), counters := { c.counters with accepted := countUp c.counters.accepted } }) :=
    .clock _ ⟨id, fun _ => rfl, fun _ => rfl, fun _ => ⟨rfl, rfl⟩, fun n => absurd hc n, fun _ => ⟨rfl, rfl, rfl⟩⟩
  refine .ite (fun _ => ?_) fun _ => counted.trans (moves_changeLock _ _ (kept_steer _ _ hl))
  refine ((counted.trans (moves_changeLock _ _ ?_)).trans (moves_raise ..)).trans (moves_startDue _)
  exact ⟨fun h => ⟨clampTrim_bounded _, h.2.1, moveTime_le ..⟩, fun n => absurd ht n, fun _ => rfl, fun _ => ⟨rfl, rfl⟩,
    fun n => absurd hc n, fun n => absurd hl n⟩

theorem moves_takeReply (p : Port) (f : TimeReplyBody) (s : State) (h : replyEffects ⊆ L) : Moves L s (takeReply p f s) := by
  have count (u : State) (g : TimeCounters → TimeCounters) : Moves L u (u.onClock fun c => { c with counters := g c.counters }) :=
    .clock _ ⟨id, fun _ => rfl, fun _ => rfl, fun _ => ⟨rfl, rfl⟩, fun n => absurd (h (by decide)) n, fun _ => ⟨rfl, rfl, rfl⟩⟩
  refine .ite (fun _ => ?_) fun _ => count s fun c => { c with lateReplies := countUp c.lateReplies }
  have taken (a b : Int) : Moves L s (s.onClock fun c => { c with outstanding := none, lastOffset := a, lastDelay := b }) :=
    .clock _ (.lock_of (h (by decide)) id ⟨rfl, rfl, rfl, rfl, rfl⟩)
  exact .ite (fun _ => (taken ..).trans (count _ fun c => { c with rejected := countUp c.rejected })) fun _ => (taken ..).trans (moves_acceptExchange _ _ _ _ h)

theorem moves_setSettings (a : TimeSettingsArgs) (s : State) (h : .settings ∈ L) : Moves L s (s.onClock (RackTime.setSettings a)) := by
  refine .clock _ ⟨fun hc => ?_, fun _ => ?_, fun n => absurd h n, fun _ => ?_, fun _ => ?_, fun _ => ?_⟩ <;> unfold RackTime.setSettings <;>
    dsimp only <;> split
  · exact ⟨clampTrim_bounded _, clampTrim_bounded _, hc.2.2⟩
  · exact hc
  all_goals first | rfl | exact ⟨rfl, rfl⟩ | exact ⟨rfl, rfl, rfl⟩

/-! ### Gates and entry states (R101, R106, R107, R150) -/

/-- The effects of a change of the roster's entries. -/
def entryEffects : List Effect := [.entries, .halves, .rack]

theorem moves_closeAccept (f : FrameNo) (s : State) (he : .entries ∈ L) (hh : .halves ∈ L) : Moves L s (closeAccept f s) :=
  .ite (fun _ => (Moves.entry f _ he id).trans (moves_sourceLeft f _ hh)) fun _ => .refl s

theorem moves_resetGates (f : FrameNo) (s : State) (he : .entries ∈ L) (hh : .halves ∈ L) : Moves L s (resetGates f s) :=
  (moves_closeAccept f s he hh).trans (.entry f _ he id)

/-- A change of the belief, the own part state, the leave and the refresh timer. -/
theorem moves_ownFields (f : Roster → Roster) (s : State) (hr : .rack ∈ L)
    (h : (f s.roster).entries = s.roster.entries ∧ ((f s.roster).incarnation = s.roster.incarnation ∧ (f s.roster).heldCount = s.roster.heldCount ∧
      (f s.roster).masterCapable = s.roster.masterCapable ∧ (f s.roster).autoAdmit = s.roster.autoAdmit) ∧
      (f s.roster).recent = s.roster.recent) (hk : .lock ∉ L → StandingKept s.own s.roster (f s.roster)) : Moves L s (s.onRoster f) :=
  .roster f ⟨h.1, fun _ => h.2.1, fun _ => h.2.2, fun b => by rw [h.2.2]; exact b, fun n => absurd hr n, hk⟩

theorem standingKept_of {own : FrameNo} {r r' : Roster} (ho : r'.ownState = r.ownState) (hp : r'.phase = r.phase) (ht : r'.leaveTag = r.leaveTag)
    (hw : r.waitSet = 0 → r'.waitSet = 0) (hb : r'.belief = r.belief) : StandingKept own r r' := ⟨ho, hp, ht, hw, fun h => .inl (hb ▸ h)⟩

theorem without_zero (f : FrameNo) : without 0 f = 0 := by
  unfold without
  simp

theorem moves_leaveWaitSet (f : FrameNo) (s : State) (hr : .rack ∈ L) : Moves L s (leaveWaitSet f s) :=
  moves_ownFields _ s hr ⟨rfl, ⟨rfl, rfl, rfl, rfl⟩, rfl⟩ fun _ => standingKept_of rfl rfl rfl (fun h => (congrArg (without · f) h).trans (without_zero f)) rfl

theorem moves_sourceStanding (f : FrameNo) (old : EntryState) (s : State) (hh : .halves ∈ L) : Moves L s (sourceStanding f old s) :=
  .ite (fun _ => moves_sourceLeft f s hh) fun _ => .refl s

/-- R90: an Absent entry has no route and no hop counts. -/
theorem entryRouted_absent (s : State) : s.entryRouted RosterEntry.absent :=
  ⟨rfl, fun p h => by cases p <;> cases h⟩

theorem moves_enterEntry (f : FrameNo) (st : EntryState) (s : State) (h : entryEffects ⊆ L) : Moves L s (enterEntry f st s) := by
  have he : .entries ∈ L := h (by decide)
  have hh : .halves ∈ L := h (by decide)
  have hr : .rack ∈ L := h (by decide)
  have set : Moves L s (s.onEntry f fun e => { e with state := st }) := .entry f _ he id
  have shut (u : State) : Moves L u (u.onEntry f fun e => { e with sendGate := false }) := .entry f _ he id
  refine .ite (fun _ => .refl s) fun _ => set.trans ?_
  cases st with
  | present => exact moves_resetGates f _ he hh
  | leaving => exact (shut _).trans (moves_sourceStanding f _ _ hh)
  | departed => exact (shut _).trans (moves_sourceStanding f _ _ hh)
  | lost => exact (moves_sourceStanding f _ _ hh).trans (moves_leaveWaitSet f _ hr)
  | absent => exact (Moves.entry f _ he fun _ => entryRouted_absent _).trans (moves_leaveWaitSet f _ hr)

theorem moves_clearRecord (f : FrameNo) (s : State) : Moves L s (clearRecord f s) := .orders _ ⟨id, fun _ => rfl, fun _ => ⟨rfl, rfl⟩⟩

theorem moves_restartFrame (f : FrameNo) (i : Word16) (s : State) (he : .entries ∈ L) (hh : .halves ∈ L) : Moves L s (restartFrame f i s) :=
  (((moves_resetGates f s he hh).trans (.entry f _ he id)).trans (moves_sourceRestarted f _ hh)).trans (moves_clearRecord f _)

theorem moves_loseUnreachable (s : State) (h : entryEffects ⊆ L) : Moves L s (loseUnreachable s) := by
  refine .foldl (fun u f => ?_) _ _
  have lost : Moves L u (if (u.entry f).route.isNone then enterEntry f .lost u else u) :=
    .ite (fun _ => moves_enterEntry f .lost u h) fun _ => .refl u
  split
  · exact lost
  · exact lost
  · exact lost
  · exact .refl u
  · exact .refl u

/-! ### Taking a vector (R94 to R96) -/

theorem get_set_cases {α : Type} (v : PerPort α) (p q : Port) (x : α) : (v.set p x).get q = if q = p then x else v.get q := by
  cases p <;> cases q <;> rfl

/-- R91: a hop count set via a Joined port, or forgotten. -/
theorem moves_setHops (f : FrameNo) (p : Port) (hops : Option Nat) (s : State) (he : .entries ∈ L)
    (hj : hops.isSome = true → s.joined p = true) : Moves L s (setHops f p hops s) := by
  refine .entry f _ he fun h => ⟨rfl, fun q hq => ?_⟩
  dsimp only at hq
  rw [get_set_cases] at hq
  split at hq
  · next e => exact e ▸ hj hq
  · exact h.2 q hq

section
variable (f : FrameNo) (s : State)

theorem closeAccept_link : (closeAccept f s).link = s.link := by unfold closeAccept; split <;> rfl

theorem takeAnnouncement_link (n : ItemNews) : (takeAnnouncement f n s).link = s.link := by
  unfold takeAnnouncement
  dsimp only
  split
  · exact closeAccept_link f s
  · rfl

theorem takeHops_link (p : Port) (item : VectorItem) : (takeHops p f item s).link = s.link := by
  unfold takeHops
  split
  · rfl
  · dsimp only; split_ifs <;> rfl

theorem hearNeighbour_link (p : Port) (news : Option ItemNews) : (hearNeighbour p f news s).link = s.link := by
  unfold hearNeighbour
  split
  · exact takeAnnouncement_link f s _
  · split <;> rfl

end

theorem joined_of_link {s t : State} {p : Port} (h : t.link = s.link) (hj : s.joined p = true) : t.joined p = true := by
  unfold State.joined State.port at hj ⊢; rwa [h]

theorem moves_takeAnnouncement (f : FrameNo) (n : ItemNews) (s : State) (he : .entries ∈ L) (hh : .halves ∈ L) :
    Moves L s (takeAnnouncement f n s) := by
  unfold takeAnnouncement
  refine Moves.trans ?_ (.entry f _ he id)
  exact .ite (fun _ => moves_restartFrame f _ s he hh) fun _ => .refl s

theorem moves_hearNeighbour (p : Port) (f : FrameNo) (news : Option ItemNews) (s : State) (he : .entries ∈ L) (hh : .halves ∈ L)
    (hj : s.joined p = true) : Moves L s (hearNeighbour p f news s) := by
  unfold hearNeighbour
  split
  · exact (moves_takeAnnouncement f _ s he hh).trans (moves_setHops f p _ _ he fun _ => joined_of_link (takeAnnouncement_link f s _) hj)
  · exact .ite (fun _ => .refl s) fun _ => moves_setHops f p _ s he fun _ => hj

theorem moves_takeHops (p : Port) (f : FrameNo) (item : VectorItem) (s : State) (he : .entries ∈ L) (hj : s.joined p = true) :
    Moves L s (takeHops p f item s) := by
  unfold takeHops
  split
  · exact moves_setHops f p _ s he nofun
  · refine .ite (fun _ => moves_setHops f p _ s he nofun) fun _ => .ite (fun _ => ?_) fun _ =>
      .ite (fun _ => moves_setHops f p _ s he fun _ => hj) fun _ => moves_setHops f p _ s he nofun
    exact (Moves.entry f _ he id).trans (moves_setHops f p _ _ he fun _ => hj)

theorem moves_takeItem (p : Port) (f : FrameNo) (item : VectorItem) (s : State) (h : entryEffects ⊆ L) : Moves L s (takeItem p f item s) := by
  refine .ite (fun _ => .ite (fun _ => .refl s) fun _ => moves_enterEntry f .lost s h) fun _ => .ite (fun _ => ?_) fun _ => .refl s
  split
  · exact (moves_enterEntry f _ s h).trans (.entry f _ (h (by decide)) id)
  · exact .refl s

theorem moves_enterAdvertised (f : FrameNo) (news : Option ItemNews) (s : State) (h : entryEffects ⊆ L) :
    Moves L s (enterAdvertised f news s) := by
  unfold enterAdvertised
  split
  · exact moves_enterEntry f _ s h
  · exact .refl s

theorem moves_takeVector (p : Port) (sender : FrameNo) (items : Vector VectorItem 8) (s : State) (h : entryEffects ⊆ L)
    (hj : s.joined p = true) : Moves L s (takeVector p sender items s) := by
  have he : .entries ∈ L := h (by decide)
  have heard := moves_hearNeighbour p sender (itemNews items[sender]) s he (h (by decide)) hj
  have hops := Moves.foldl_keeping (L := L) (P := fun u => u.joined p = true) (f := fun acc f => takeHops p f items[f] acc)
    (fun u f hu => ⟨moves_takeHops p f items[f] u he hu, joined_of_link (takeHops_link f u p items[f]) hu⟩) (s.thirds sender)
    (joined_of_link (hearNeighbour_link sender s p (itemNews items[sender])) hj)
  exact ((heard.trans hops.1).trans (moves_enterAdvertised sender _ _ h)).trans (.foldl (fun u f => moves_takeItem p f _ u h) _ _)

theorem moves_takeRelayed (sender : FrameNo) (news : Option ItemNews) (s : State) (h : entryEffects ⊆ L) :
    Moves L s (takeRelayed sender news s) := by
  unfold takeRelayed
  split
  · have taken := moves_takeAnnouncement (L := L) sender ‹ItemNews› s (h (by decide)) (h (by decide))
    exact .ite (fun _ => .refl s) fun _ => .ite (fun _ => taken.trans (moves_enterEntry sender _ _ h)) fun _ => taken
  · exact .refl s

/-! ### Leave Acks, the belief and the leave (R104 to R111) -/

theorem moves_takeLeaveAck (acking : Byte) (i : Word16) (s : State) (hr : .rack ∈ L) : Moves L s (takeLeaveAck acking i s) := by
  unfold takeLeaveAck
  split
  · exact .ite (fun _ => moves_leaveWaitSet _ s hr) fun _ => .refl s
  · exact .refl s

theorem moves_sendLeaveAck (f : FrameNo) (s : State) (hr : .rack ∈ L) : Moves L s (sendLeaveAck f s) :=
  .ite (fun _ => moves_takeLeaveAck _ _ s hr) fun _ => moves_sendUnicast _ _ s hr

theorem moves_ackLeavers (before : State) (announcer : Option FrameNo) (s : State) (hr : .rack ∈ L) : Moves L s (ackLeavers before announcer s) :=
  .foldl (fun u f => .ite (fun _ => moves_sendLeaveAck f u hr) fun _ => .refl u) _ _

/-- R110: the own frame counts while the part is Active. -/
theorem active_of_counted {s : State} (h : s.counted s.own = true) : s.roster.ownState = .active := by
  unfold State.counted at h
  rw [if_pos rfl] at h
  exact beq_iff_eq.mp h

theorem moves_setBelief (b : Option FrameNo) (s : State) (hr : .rack ∈ L)
    (hb : b = some s.own → s.roster.belief = some s.own ∨ s.roster.ownState = .active) : Moves L s (s.onRoster fun r => { r with belief := b }) :=
  moves_ownFields _ s hr ⟨rfl, ⟨rfl, rfl, rfl, rfl⟩, rfl⟩ fun _ => ⟨rfl, rfl, rfl, id, hb⟩

theorem moves_elect (s : State) (hr : .rack ∈ L) : Moves L s (elect s) := moves_setBelief _ s hr fun h => by
  have hc := List.find?_some h
  exact .inr (active_of_counted (Bool.and_eq_true_iff.mp hc).1)

theorem moves_claimBelief (f : FrameNo) (s : State) (hr : .rack ∈ L) : Moves L s (claimBelief f s) :=
  .ite (fun _ => moves_elect s hr) fun h => moves_setBelief _ s hr fun hf => .inr (by_contra fun ha => h ⟨Option.some.inj hf, ha⟩)

theorem moves_mergeOne (a : FrameNo) (s : State) (hr : .rack ∈ L) : Moves L s (mergeOne a s) := by
  refine .ite (fun _ => ?_) fun _ => .refl s
  split
  · refine .ite (fun h => moves_setBelief _ s hr fun ha => .inr ?_) fun _ => .refl s
    rw [Option.some.inj ha] at h
    exact active_of_counted (Bool.and_eq_true_iff.mp h).1
  · next b hb =>
    refine .ite (fun h => moves_setBelief _ s hr fun hl => .inr ?_) fun _ => .refl s
    obtain ⟨h, -⟩ := Bool.and_eq_true_iff.mp h
    obtain ⟨ha, hb⟩ := Bool.and_eq_true_iff.mp h
    rcases min_choice a b with hm | hm
    · rw [hm] at hl
      exact active_of_counted (Option.some.inj hl ▸ ha)
    · rw [hm] at hl
      exact active_of_counted (Option.some.inj hl ▸ hb)

theorem moves_electIfNeeded (before s : State) (hr : .rack ∈ L) : Moves L s (electIfNeeded before s) := by
  unfold electIfNeeded
  split
  · exact .ite (fun _ => .refl s) fun _ => moves_elect s hr
  · exact .ite (fun _ => .ite (fun _ => .refl s) fun _ => moves_elect s hr) fun _ => .ite (fun _ => moves_elect s hr) fun _ => .refl s

theorem moves_electIfNone (s : State) (hr : .rack ∈ L) : Moves L s (electIfNone s) := .ite (fun _ => moves_elect s hr) fun _ => .refl s

theorem moves_takeRoster (p : Port) (neighbour : Bool) (sender : FrameNo) (items : Vector VectorItem 8) (s : State)
    (h : entryEffects ⊆ L) (hj : s.joined p = true) : Moves L s (takeRoster p neighbour sender items s) := by
  have hr : .rack ∈ L := h (by decide)
  have taken : Moves L s (if neighbour then takeVector p sender items s else takeRelayed sender (itemNews items[sender]) s) :=
    .ite (fun _ => moves_takeVector p sender items s h hj) fun _ => moves_takeRelayed sender _ s h
  refine .ite (fun _ => .refl s) fun _ => ?_
  exact ((taken.trans (moves_ackLeavers _ _ _ hr)).trans (.foldl (fun u f => moves_mergeOne f u hr) _ _)).trans (moves_electIfNeeded _ _ hr)

theorem moves_announceLeave (s : State) (hr : .rack ∈ L) (hl : .lock ∈ L) : Moves L s (announceLeave s) :=
  .ite (fun _ => moves_ownFields _ s hr ⟨rfl, ⟨rfl, rfl, rfl, rfl⟩, rfl⟩ fun n => absurd hl n) fun _ => .refl s

theorem moves_completeLeave (s : State) (hr : .rack ∈ L) (hl : .lock ∈ L) : Moves L s (completeLeave s) :=
  .ite (fun _ => moves_ownFields _ s hr ⟨rfl, ⟨rfl, rfl, rfl, rfl⟩, rfl⟩ fun n => absurd hl n) fun _ => .refl s

theorem moves_settleTaps (s : State) (hr : .rack ∈ L) : Moves L s (settleTaps s) := .foldl (fun u t => moves_settleTap t u hr) _ _

theorem moves_advance (s : State) (hr : .rack ∈ L) (hl : .lock ∈ L) : Moves L s (advance s) :=
  ((moves_settleTaps s hr).trans (moves_announceLeave _ hr hl)).trans (moves_completeLeave _ hr hl)

/-! ### Notices and Roster Updates (R93, R107) -/

theorem moves_notifyFrame (before s : State) (f : FrameNo) : Moves L s (notifyFrame before s f) := by
  have seen : Moves L s (if (before.entry f).state ≠ .absent ∧ (s.entry f).state ≠ .absent ∧
      (before.entry f).incarnation ≠ (s.entry f).incarnation then raise (.restartSeen f ((s.entry f).incarnation.getD 0)) s else s) :=
    .ite (fun _ => moves_raise ..) fun _ => .refl s
  exact .ite (fun _ => seen) fun _ => seen.trans (moves_raise ..)

theorem moves_notifyOwn (before s : State) : Moves L s (notifyOwn before s) := .ite (fun _ => .refl s) fun _ => moves_raise ..

theorem moves_notifyBelief (before s : State) : Moves L s (notifyBelief before s) := .ite (fun _ => .refl s) fun _ => moves_raise ..

theorem moves_notifyDeparture (before s : State) (hr : .rack ∈ L) (hl : .lock ∈ L) : Moves L s (notifyDeparture before s) := by
  refine .ite (fun _ => ?_) fun _ => .refl s
  have told : Moves L s ((raise (.leaveComplete s.own s.roster.incarnation) s).onRoster fun r => { r with leaveTag := none }) :=
    (moves_raise ..).trans (moves_ownFields _ _ hr ⟨rfl, ⟨rfl, rfl, rfl, rfl⟩, rfl⟩ fun n => absurd hl n)
  split
  · exact told.trans (moves_post ..)
  · exact told

theorem moves_notify (left : Option FrameNo) (before s : State) (hr : .rack ∈ L) (hl : .lock ∈ L) : Moves L s (notify left before s) :=
  ((((Moves.foldl (fun u f => moves_notifyFrame before u f) _ _).trans (moves_notifyOwn ..)).trans (moves_notifyBelief ..)).trans
    (moves_followMaster _ _ _ hl)).trans (moves_notifyDeparture _ _ hr hl)

theorem moves_refreshTimer (v : Option Nat) (s : State) (hr : .rack ∈ L) : Moves L s (s.onRoster fun r => { r with refreshTimer := v }) :=
  moves_ownFields _ s hr ⟨rfl, ⟨rfl, rfl, rfl, rfl⟩, rfl⟩ fun _ => standingKept_of rfl rfl rfl id rfl

theorem moves_makeRosterUpdate (s : State) (hr : .rack ∈ L) : Moves L s (makeRosterUpdate s) :=
  (moves_broadcast _ s hr).trans (moves_refreshTimer _ _ hr)

theorem moves_syncRefresh (s : State) (hr : .rack ∈ L) : Moves L s (syncRefresh s) :=
  .ite (fun _ => .ite (fun _ => .refl s) fun _ => moves_refreshTimer _ s hr) fun _ => moves_refreshTimer _ s hr

/-! ### Ports that change their state (R62 to R69, R97) -/

/-- The effects of a port's change of state. -/
def portEffects : List Effect := [.ports, .entries, .halves, .rack]

theorem cutOff_state (p : Port) (s : State) : ((cutOff p s).port p).state = (s.port p).state := by simp [cutOff]

theorem flushPort_state (p : Port) (s : State) : ((flushPort p s).port p).state = (s.port p).state := by simp [flushPort]

/-- What an entry into a port state does ahead of the state itself, and the state that it then sets. -/
structure Enters (L : List Effect) (p : Port) (st : PortState) (enter : State → State) : Prop where
  ahead : ∀ s, MaySend L (s.port p) → ∃ u cause, enter s = setPortState p st cause u ∧ Moves L s u ∧ (u.port p).state = (s.port p).state

theorem enters_training (p : Port) (hp : .ports ∈ L) : Enters L p .training (enterTraining p) where
  ahead s hs := by
    refine ⟨_, _, rfl, (moves_cutOff p s hs).trans (moves_portView p _ _ hp ⟨rfl, rfl⟩ id), ?_⟩
    simpa using cutOff_state p s

theorem enters_dark (p : Port) (hp : .ports ∈ L) : Enters L p .dark (enterDark p) where
  ahead s hs := by
    have hs' : MaySend L ((cutOff p s).port p) := by simpa [MaySend, PortRecord.up, cutOff_state] using hs
    refine ⟨_, _, rfl, ((moves_cutOff p s hs).trans (moves_flushPort p _ hs')).trans (moves_portView p _ _ hp ⟨rfl, rfl⟩ id), ?_⟩
    simpa [flushPort_state] using cutOff_state p s

theorem enters_disabled (p : Port) (hp : .ports ∈ L) : Enters L p .disabled (enterDisabled p) where
  ahead s hs := by
    have hs' : MaySend L ((cutOff p s).port p) := by simpa [MaySend, PortRecord.up, cutOff_state] using hs
    refine ⟨_, _, rfl, ((moves_cutOff p s hs).trans (moves_flushPort p _ hs')).trans (moves_portView p _ _ hp ⟨rfl, rfl⟩ id), ?_⟩
    simpa [flushPort_state] using cutOff_state p s

theorem enters_fault (p : Port) (cause : FaultCause) (hp : .ports ∈ L) : Enters L p .fault (enterFault p cause) where
  ahead s hs := by
    have hs' : MaySend L ((cutOff p s).port p) := by simpa [MaySend, PortRecord.up, cutOff_state] using hs
    refine ⟨_, _, rfl, ((moves_cutOff p s hs).trans (moves_flushPort p _ hs')).trans (moves_portView p _ _ hp ⟨rfl, rfl⟩ id), ?_⟩
    simpa [flushPort_state] using cutOff_state p s

/-- A port that is not Joined enters another state. -/
theorem Enters.moves {p : Port} {st : PortState} {enter : State → State} (h : Enters L p st enter) {s : State} (hp : .ports ∈ L)
    (hs : MaySend L (s.port p)) (ht : .rack ∉ L → st ≠ .joined ∧ st ≠ .linked) (hj : (s.port p).state ≠ .joined) : Moves L s (enter s) := by
  obtain ⟨u, cause, e, m, k⟩ := h.ahead s hs
  have hu : MaySend L (u.port p) := by simpa [MaySend, PortRecord.up, k] using hs
  rw [e]
  exact m.trans (moves_setPortState p st cause u hp hu ht fun j => absurd (k ▸ j) hj)

/-- R66: a port leaves Joined, or only enters another state. -/
theorem Enters.moves_leave {p : Port} {st : PortState} {enter : State → State} (h : Enters L p st enter) (s : State)
    (hL : portEffects ⊆ L) : Moves L s (leavePort p enter s) := by
  have hr : .rack ∈ L := hL (by decide)
  have hp : .ports ∈ L := hL (by decide)
  have he : entryEffects ⊆ L := fun _ k => hL (List.mem_cons_of_mem _ k)
  refine .ite (fun _ => ?_) fun hj => h.moves hp (fun n => absurd hr n) (fun n => absurd hr n) hj
  obtain ⟨u, cause, e, m, -⟩ := h.ahead s fun n => absurd hr n
  rw [e]
  refine m.trans (Moves.trans (.one (.lose u p st cause hp (hL (by decide)) hr)) ?_)
  exact (moves_loseUnreachable _ he).trans (moves_electIfNeeded _ _ hr)

theorem moves_enterLinked (p : Port) (s : State) (hp : .ports ∈ L) (hr : .rack ∈ L) (hj : (s.port p).state ≠ .joined) :
    Moves L s (enterLinked p s) := by
  have timed (u : State) (f : PortRecord → PortRecord) (h : (f (u.port p)).traffic = (u.port p).traffic ∧ (f (u.port p)).signal = (u.port p).signal ∧
      (scoreRight (u.port p) → scoreRight (f (u.port p)))) : Moves L u (u.onPort p f) := moves_portView p f u hp ⟨h.1, h.2.1⟩ h.2.2
  refine ((timed s _ ⟨rfl, rfl, id⟩).trans (moves_setPortState p .linked .none _ hp (fun n => absurd hr n) (fun n => absurd hr n) ?_)).trans
    (moves_placeHello p _ hr)
  exact fun j => absurd (by simpa using j) hj

theorem moves_enterJoined (p : Port) (n : FrameNo) (i : Word16) (s : State) (hp : .ports ∈ L) (hr : .rack ∈ L) :
    Moves L s (enterJoined p n i s) := by
  refine ((moves_portView p _ s hp ⟨rfl, rfl⟩ fun _ => ⟨Nat.zero_le _, Nat.zero_le _⟩).trans
    (moves_setPortState p .joined .none _ hp (fun n => absurd hr n) (fun n => absurd hr n) fun _ => rfl)).trans (moves_placeHello p _ hr)

end Sys2Proof.Machine

namespace Sys2Proof.Machine

variable {L : List Effect}

/-! ### The Rack Order Unit (R158 to R171) -/

/-- A change of the pending entries that adds none, or of the resend timer. -/
theorem moves_pending (f : RackOrders → RackOrders) (s : State) (hr : .rack ∈ L)
    (h : (f s.orders).pending.length ≤ s.orders.pending.length) (hs : (f s.orders).nextSeq = s.orders.nextSeq) : Moves L s (s.onOrders f) :=
  .orders f ⟨h.trans, fun _ => hs, fun n => absurd hr n⟩

theorem moves_setStatus (seq : Word16) (st : PendingStatus) (s : State) (hr : .rack ∈ L) : Moves L s (setStatus seq st s) :=
  moves_pending _ s hr (List.length_map _).le rfl

theorem moves_removePending (seq : Word16) (s : State) (hr : .rack ∈ L) : Moves L s (removePending seq s) :=
  moves_pending _ s hr (List.length_filter_le ..) rfl

theorem moves_refuseEntry (e : PendingEntry) (f : FrameNo) (r : RefusalReason) (s : State) : Moves L s (refuseEntry e f r s) :=
  (moves_post ..).trans (moves_raise ..)

theorem moves_completePending (seq : Word16) (s : State) (hr : .rack ∈ L) : Moves L s (completePending seq s) := by
  unfold completePending
  split
  · exact .refl s
  · exact ((moves_pending _ s hr (List.length_drop.trans_le (Nat.sub_le ..)) rfl).trans (.foldl (fun _ _ => moves_refuseEntry ..) _ _)).trans (moves_post ..)

theorem moves_requestEntry (dest : FrameNo) (e : PendingEntry) (s : State) (hr : .rack ∈ L) : Moves L s (requestEntry dest e s) :=
  (moves_setStatus _ _ s hr).trans (moves_sendUnicast _ _ _ hr)

theorem moves_takeRefusal (sender : FrameNo) (reason : Byte) (seq : Word16) (s : State) (hr : .rack ∈ L) :
    Moves L s (takeRefusal sender reason seq s) := by
  unfold takeRefusal
  split
  · exact .refl s
  · exact .ite (fun _ => (moves_removePending _ s hr).trans (moves_refuseEntry ..)) fun _ =>
      .ite (fun _ => moves_setStatus _ _ s hr) fun _ => .refl s

theorem moves_sendRefusal (dest : FrameNo) (seq : Word16) (reason : RefusalReason) (s : State) (hr : .rack ∈ L) :
    Moves L s (sendRefusal dest seq reason s) := by
  have counted : Moves L s (s.onOrderCounters fun c => { c with refusals := countUp c.refusals }) := moves_orderCounters ..
  exact .ite (fun _ => counted.trans (moves_takeRefusal _ _ _ _ hr)) fun _ => counted.trans (moves_sendUnicast _ _ _ hr)

theorem moves_recordOrder (rackSeq : Nat) (master o : FrameNo) (seq : Word16) (s : State) : Moves L s (recordOrder rackSeq master o seq s) :=
  .orders _ ⟨id, fun _ => rfl, fun _ => ⟨rfl, rfl⟩⟩

theorem moves_applyArm (g : Fin 16) (time : TimeValue) (rackSeq : Nat) (s : State) (hr : .rack ∈ L) : Moves L s (applyArm g time rackSeq s) := by
  have armed : Moves L s (eight.foldl (armTapOf g time) s) := .foldl (fun u t => moves_armTapOf g time u t hr) _ _
  exact .ite (fun _ => ((armed.trans (moves_startDue _)).trans (moves_orderCounters ..)).trans (moves_raise ..)) fun _ => armed

theorem moves_applyDirective (rest : State → State) (d : RackDirective) (rackSeq : Nat) (s : State) (hr : .rack ∈ L) (hl : .lock ∈ L) :
    Moves L s (applyDirective rest d rackSeq s) := by
  cases d with
  | masterClaim f => exact .ite (fun _ => .refl s) fun _ => (moves_claimBelief f s hr).trans (moves_notify _ _ _ hr hl)
  | rackArm g time => exact moves_applyArm g time rackSeq s hr
  | rackHalt g => exact .foldl (fun u t => moves_haltTapOf g u t hr) _ _

theorem moves_finishOrder (o : FrameNo) (seq : Word16) (d : RackDirective) (rackSeq : Nat) (s : State) (hr : .rack ∈ L) :
    Moves L s (finishOrder o seq d rackSeq s) :=
  .ite (fun _ => (moves_raise ..).trans (moves_completePending _ _ hr)) fun _ => moves_raise ..

theorem moves_countDuplicate (s : State) : Moves L s (countDuplicate s) := moves_orderCounters ..

theorem moves_countOrdered (s : State) : Moves L s (countOrdered s) := moves_orderCounters ..

theorem moves_applyOrder (rest : State → State) (rackSeq : Nat) (master o : FrameNo) (seq : Word16) (d : RackDirective) (s : State)
    (hr : .rack ∈ L) (hl : .lock ∈ L) : Moves L s (applyOrder rest rackSeq master o seq d s) :=
  .ite (fun _ => ((moves_recordOrder ..).trans (moves_applyDirective _ _ _ _ hr hl)).trans (moves_finishOrder _ _ _ _ _ hr)) fun _ =>
    moves_countDuplicate s

theorem moves_issueOrder (o : FrameNo) (seq : Word16) (d : RackDirective) (s : State) (hr : .rack ∈ L) : Moves L s (issueOrder o seq d s) := by
  unfold issueOrder
  exact (Moves.orders _ ⟨id, fun _ => rfl, fun _ => ⟨rfl, rfl⟩⟩).trans (moves_broadcast _ _ hr)

theorem moves_order (o : FrameNo) (seq : Word16) (d : RackDirective) (s : State) (hr : .rack ∈ L) (hl : .lock ∈ L) :
    Moves L s (order o seq d s) :=
  ((moves_issueOrder o seq d s hr).trans (moves_applyOrder _ _ _ _ _ _ _ hr hl)).trans (moves_countOrdered _)

theorem moves_dealEntry (s : State) (e : PendingEntry) (hr : .rack ∈ L) (hl : .lock ∈ L) : Moves L s (dealEntry s e) := by
  unfold dealEntry
  split
  · exact moves_setStatus _ _ s hr
  · exact .ite (fun _ => .ite (fun _ => moves_order _ _ _ s hr hl) fun _ => (moves_removePending _ s hr).trans (moves_refuseEntry ..)) fun _ =>
      moves_requestEntry _ e s hr

theorem moves_resubmit (before s : State) (hr : .rack ∈ L) (hl : .lock ∈ L) : Moves L s (resubmit before s) :=
  .ite (fun _ => .refl s) fun _ => .foldl (fun u e => moves_dealEntry u e hr hl) _ _

theorem moves_takeRack (tag code : Word16) (d : Option RackDirective) (noWait : Bool) (s : State) (hr : .rack ∈ L) (hl : .lock ∈ L)
    (hs : .seq ∈ L) : Moves L s (takeRack tag code d noWait s) := by
  unfold takeRack
  split
  · exact moves_post ..
  · refine .ite (fun _ => moves_post ..) fun _ => .ite (fun _ => moves_post ..) fun hroom => ?_
    have joined (e : PendingEntry) : Moves L s (s.onOrders fun o => { o with pending := o.pending ++ [e], nextSeq := o.nextSeq + 1 }) :=
      .orders _ ⟨fun _ => by simpa using hroom, fun n => absurd hs n, fun n => absurd hr n⟩
    exact (((joined _).trans (moves_post ..)).trans (moves_dealEntry _ _ hr hl)).trans (moves_resubmit _ _ hr hl)

theorem moves_takeRequest (o : FrameNo) (seq : Word16) (block : RackBlock) (s : State) (hr : .rack ∈ L) (hl : .lock ∈ L) :
    Moves L s (takeRequest o seq block s) := by
  unfold takeRequest
  split
  · exact moves_orderCounters ..
  · exact .ite (fun _ => .ite (fun _ => (moves_order _ _ _ s hr hl).trans (moves_resubmit _ _ hr hl)) fun _ => moves_sendRefusal _ _ _ s hr)
      fun _ => moves_sendRefusal _ _ _ s hr

theorem moves_takeOrder (master : FrameNo) (f : RackOrderBody) (s : State) (hr : .rack ∈ L) (hl : .lock ∈ L) :
    Moves L s (takeOrder master f s) := by
  unfold takeOrder
  split
  · exact moves_applyOrder _ _ _ _ _ _ s hr hl
  · exact moves_orderCounters ..

/-! ### Concluding an event -/

theorem moves_syncResend (s : State) (hr : .rack ∈ L) : Moves L s (syncResend s) :=
  .ite (fun _ => .ite (fun _ => .refl s) fun _ => moves_pending _ s hr le_rfl rfl) fun _ => moves_pending _ s hr le_rfl rfl

theorem moves_announce (before s : State) (hr : .rack ∈ L) (hl : .lock ∈ L) : Moves L s (announce before s) :=
  (moves_notify _ _ s hr hl).trans (moves_resubmit _ _ hr hl)

theorem moves_round (before noted s : State) (hr : .rack ∈ L) (hl : .lock ∈ L) : Moves L s (round before noted s) := by
  have update (u : State) : Moves L u (updateIfChanged before u) := .ite (fun _ => .refl u) fun _ => moves_makeRosterUpdate u hr
  exact ((((((moves_advance s hr hl).trans (moves_announce _ _ hr hl)).trans (update _)).trans (moves_syncRefresh _ hr)).trans
    (moves_syncResend _ hr)).trans (moves_grant .a _ hr)).trans (moves_grant .b _ hr)

theorem moves_concludeFrom (before noted s : State) (hr : .rack ∈ L) (hl : .lock ∈ L) : Moves L s (concludeFrom before noted s) :=
  ((moves_round _ _ s hr hl).trans (moves_round _ _ _ hr hl)).trans (moves_round _ _ _ hr hl)

theorem moves_conclude (before s : State) (hr : .rack ∈ L) (hl : .lock ∈ L) : Moves L s (conclude before s) :=
  moves_concludeFrom before before s hr hl

theorem moves_concludeOrder (before s : State) (hr : .rack ∈ L) (hl : .lock ∈ L) : Moves L s (concludeOrder before s) :=
  (moves_resubmit before s hr hl).trans (moves_concludeFrom _ _ _ hr hl)

/-! ### Frames received (R64, R65, R70, R73 to R79) -/

theorem moves_scored (p : Port) (s : State) : Moves L s ((countReceived p s).onPort p PortRecord.goodFrame) := by
  refine (moves_portCounters p _ s).trans (.port p _ ?_)
  unfold PortRecord.goodFrame
  split
  · exact ⟨id, fun h => ⟨(Nat.sub_le ..).trans h.1, Nat.zero_le _⟩, id, fun _ => rfl, fun _ => rfl, fun _ => .inr rfl⟩
  · exact ⟨id, fun h => ⟨h.1, by show _ + 1 ≤ 255; omega⟩, id, fun _ => rfl, fun _ => rfl, fun _ => .inr rfl⟩

theorem scored_joined {p : Port} {s : State} (h : (s.port p).state = .joined) : ((countReceived p s).onPort p PortRecord.goodFrame).joined p = true := by
  simp only [State.joined, onPort_self, PortRecord.goodFrame, countReceived, State.onPortCounters]
  split <;> simp [h]

theorem moves_receive (p : Port) (f : Frame) (linked joined : State → State) (s : State)
    (hl : ∀ u, (u.port p).state = .linked → Moves L u (linked u)) (hj : ∀ u, u.joined p = true → Moves L u (joined u)) :
    Moves L s (receive p f linked joined s) := by
  unfold receive
  split
  · next h =>
    exact .ite (fun _ => (moves_scored p s).trans (moves_portCounters ..)) fun _ =>
      .ite (fun _ => (moves_scored p s).trans (moves_portCounters ..)) fun _ => (moves_scored p s).trans (hj _ (scored_joined h))
  · next h => exact (moves_portCounters p _ s).trans (hl _ (by simpa [countReceived, State.onPortCounters] using h))
  · exact (moves_portCounters p _ s).trans (moves_portCounters p _ _)
  all_goals exact .refl s

theorem moves_foreignFrame (p : Port) (h : Header) (act : FrameNo → State → State) (s : State) (ha : ∀ o, Moves L s (act o s)) :
    Moves L s (foreignFrame p h act s) := by
  unfold foreignFrame
  split
  · exact .ite (fun _ => moves_portCounters ..) fun _ => ha _
  · exact moves_portCounters ..

theorem moves_neighbourFrame (p : Port) (h : Header) (act : State → State) (s : State) (ha : Moves L s (act s)) :
    Moves L s (neighbourFrame p h act s) := .ite (fun _ => ha) fun _ => moves_portCounters ..

theorem moves_scoreBad (p : Port) (s : State) (hL : portEffects ⊆ L) : Moves L s (scoreBad p s) := by
  have scored : Moves L s (countCrc p (s.onPort p PortRecord.badFrame)) :=
    (Moves.port p _ ⟨id, fun _ => ⟨Nat.min_le_right .., Nat.zero_le _⟩, id, fun _ => rfl, fun _ => rfl, fun _ => .inr rfl⟩).trans
      (moves_portCounters ..)
  exact .ite (fun _ => scored.trans ((enters_training p (hL (by decide))).moves_leave _ hL)) fun _ => scored

theorem moves_badCrc (p : Port) (s : State) (hL : portEffects ⊆ L) : Moves L s (badCrc p s) := by
  unfold badCrc
  split
  · exact (moves_portCounters p _ s).trans (moves_scoreBad p _ hL)
  · exact (moves_portCounters p _ s).trans (moves_portCounters p _ _)
  · exact (moves_portCounters p _ s).trans (moves_portCounters p _ _)
  all_goals exact .refl s

theorem moves_malformed (p : Port) (fault : FrameFault) (s : State) : Moves L s (malformed p fault s) := by
  unfold malformed
  split
  · cases fault <;> exact (moves_scored p s).trans (moves_portCounters ..)
  · exact (moves_portCounters p _ s).trans (moves_portCounters p _ _)
  · exact (moves_portCounters p _ s).trans (moves_portCounters p _ _)
  all_goals exact .refl s

theorem moves_joinPort (p : Port) (n : FrameNo) (items : Vector VectorItem 8) (s : State) (hL : portEffects ⊆ L)
    (hs : (s.port p).state = .linked) : Moves L s (joinPort p n items s) := by
  have hp : .ports ∈ L := hL (by decide)
  have hr : .rack ∈ L := hL (by decide)
  refine .ite (fun _ => (enters_fault p .duplicateFrame hp).moves hp (fun n => absurd hr n) (fun n => absurd hr n) (by simp [hs])) fun _ => ?_
  refine (moves_enterJoined p n _ s hp hr).trans (moves_takeRoster p true n items _ (fun _ k => hL (List.mem_cons_of_mem _ k)) ?_)
  have hj : ∀ u : State, ((placeHello p u).port p).state = (u.port p).state := fun u => by unfold placeHello; dsimp only; split <;> simp
  have hset : ∀ u : State, ((setPortState p .joined .none u).port p).state = .joined := fun u => by
    unfold setPortState; dsimp only; split
    · simp
    · rw [State.port, raise_link]
      exact congrArg PortRecord.state (onPort_self u p _)
  simp only [State.joined, enterJoined, hj, hset, beq_self_eq_true]

theorem moves_linkedHello (p : Port) (h : Header) (items : Vector VectorItem 8) (s : State) (hL : portEffects ⊆ L)
    (hs : (s.port p).state = .linked) : Moves L s (linkedHello p h items s) := by
  unfold linkedHello
  split
  · exact moves_joinPort p _ items s hL hs
  · exact moves_portCounters ..

theorem moves_joinedHello (p : Port) (h : Header) (items : Vector VectorItem 8) (s : State) (hL : portEffects ⊆ L)
    (hs : s.joined p = true) : Moves L s (joinedHello p h items s) := by
  unfold joinedHello
  split
  · refine (moves_portView p _ s (hL (by decide)) ⟨rfl, rfl⟩ id).trans (moves_takeRoster p true _ items _ (fun _ k => hL (List.mem_cons_of_mem _ k)) ?_)
    simpa [State.joined] using hs
  · exact moves_portCounters ..

/-- R75: the list that a new broadcast leaves holds each pair once, where the broadcast is no duplicate. -/
theorem listBroadcast_nodup {s : State} {o : FrameNo} {seq : Word16} {i : Option Word16} (h : s.roster.recent.Nodup)
    (hd : s.duplicateBroadcast o seq i = false) : (listBroadcast (s.freshLife o i) o seq s.roster.recent).Nodup := by
  have kept : (if s.freshLife o i then s.roster.recent.filter fun k => k.1 ≠ o else s.roster.recent).Nodup ∧
      (o, seq) ∉ (if s.freshLife o i then s.roster.recent.filter fun k => k.1 ≠ o else s.roster.recent) := by
    split
    · exact ⟨h.filter _, by simp⟩
    · next hf => exact ⟨h, by simpa [State.duplicateBroadcast, hf] using hd⟩
  refine ((List.nodup_append.mpr ⟨kept.1, List.nodup_singleton _, ?_⟩)).sublist (List.drop_sublist ..)
  rintro a ha b hb rfl
  exact kept.2 (List.mem_singleton.mp hb ▸ ha)

theorem moves_relayBroadcast (p : Port) (f : Frame) (s : State) (hr : .rack ∈ L) : Moves L s (relayBroadcast p f s) :=
  .ite (fun _ => .ite (fun _ => moves_offerRelay _ _ s hr) fun _ => moves_portCounters ..) fun _ => .refl s

theorem offerRelay_state (p q : Port) (f : Frame) (s : State) : ((offerRelay p f s).port q).state = (s.port q).state := by
  unfold offerRelay
  split <;> cases p <;> cases q <;> rfl

theorem relayBroadcast_joined (p : Port) (f : Frame) (s : State) (q : Port) : (relayBroadcast p f s).joined q = s.joined q := by
  unfold relayBroadcast State.joined
  split
  · split
    · rw [offerRelay_state]
    · cases p <;> cases q <;> rfl
  · rfl

theorem moves_takeBroadcast (p : Port) (f : Frame) (seq : Word16) (i : FrameNo → Option Word16) (deliver : FrameNo → State → State)
    (o : FrameNo) (s : State) (hr : .rack ∈ L) (hc : .recent ∈ L) (hj : s.joined p = true)
    (hd : ∀ u, u.joined p = true → Moves L u (deliver o u)) : Moves L s (takeBroadcast p f seq i deliver o s) := by
  refine .ite (fun _ => moves_portCounters ..) fun hdup => ?_
  have listed : Moves L s (s.onRoster fun r => { r with recent := listBroadcast (s.freshLife o (i o)) o seq r.recent }) :=
    .roster _ ⟨rfl, fun _ => ⟨rfl, rfl, rfl, rfl⟩, fun n => absurd hc n,
      fun h => ⟨listBroadcast_length .., listBroadcast_nodup h.2 (by simpa using hdup)⟩, fun _ => ⟨rfl, rfl, rfl, rfl, rfl, rfl⟩,
      fun _ => standingKept_of rfl rfl rfl id rfl⟩
  refine (listed.trans (moves_relayBroadcast p f _ hr)).trans (hd _ ?_)
  rw [relayBroadcast_joined]; exact hj

theorem moves_takeUnicast (p : Port) (f : Frame) (dest : Byte) (deliver : FrameNo → State → State) (o : FrameNo) (s : State)
    (hr : .rack ∈ L) (hd : Moves L s (deliver o s)) : Moves L s (takeUnicast p f dest deliver o s) := by
  unfold takeUnicast
  split
  · exact .ite (fun _ => hd) fun _ => .ite (fun _ => .ite (fun _ => moves_offerRelay _ _ s hr) fun _ => moves_portCounters ..) fun _ =>
      moves_portCounters ..
  · exact moves_portCounters ..

theorem moves_passOn (p : Port) (dests hops : Byte) (copy : Byte → Frame) (s : State) (hr : .rack ∈ L) : Moves L s (passOn p dests hops copy s) := by
  have relayed (set : Byte) : Moves L s (relayMulticast p set hops copy s) :=
    .ite (fun _ => .refl s) fun _ => .ite (fun _ => moves_offerRelay _ _ s hr) fun _ => moves_portCounters ..
  have turned (u : State) (c : Bool) : Moves L u (if c then u.onPortCounters p fun c => { c with turnedBack := countUp c.turnedBack } else u) :=
    .ite (fun _ => moves_portCounters ..) fun _ => .refl u
  exact .ite (fun _ => ((relayed _).trans (turned _ _)).trans (moves_portCounters ..)) fun _ => (relayed _).trans (turned _ _)

theorem moves_deliverHere (p : Port) (dests : Byte) (deliver : State → Option State) (s : State)
    (hd : ∀ t, deliver s = some t → Moves L s t) : Moves L s (deliverHere p dests deliver s) := by
  refine .ite (fun _ => ?_) fun _ => .refl s
  split
  · exact hd _ ‹_›
  · exact moves_portCounters ..

theorem moves_takeSample (p : Port) (h : Header) (b : SampleBody) (o : FrameNo) (s : State) (hr : .rack ∈ L) (hh : .halves ∈ L)
    (hB : .bytes ∈ L) : Moves L s (takeSample p h b o s) := by
  refine (moves_deliverHere p _ _ s fun t ht => ?_).trans (moves_passOn p _ _ _ _ hr)
  obtain ⟨half, -, ht⟩ := Option.bind_eq_some_iff.mp ht
  obtain ⟨m, -, rfl⟩ := Option.map_eq_some_iff.mp ht
  exact moves_takeLines m _ _ _ _ _ _ s hh hB

theorem moves_takeMarkFrame (p : Port) (h : Header) (b : MarkBody) (o : FrameNo) (s : State) (hr : .rack ∈ L) (hh : .halves ∈ L) :
    Moves L s (takeMarkFrame p h b o s) := by
  refine (moves_deliverHere p _ _ s fun t ht => ?_).trans (moves_passOn p _ _ _ _ hr)
  obtain ⟨half, -, ht⟩ := Option.bind_eq_some_iff.mp ht
  obtain ⟨kind, -, ht⟩ := Option.bind_eq_some_iff.mp ht
  obtain ⟨m, -, rfl⟩ := Option.map_eq_some_iff.mp ht
  exact moves_takeMark m _ kind _ _ _ s hh

end Sys2Proof.Machine

namespace Sys2Proof.Machine

variable {L : List Effect}

/-! ### The memory channel (R2 to R20) -/

theorem moves_decodeFault (kind : DecodeFault) (rank : Option Byte) (s : State) (h : .channel ∈ L) : Moves L s (decodeFault kind rank s) :=
  .ite (fun _ => (Moves.channel _ h).trans (moves_raise ..)) fun _ => .channel _ h

theorem moves_channelCommand (c : Instr) (effect : State → State) (s : State) (h : .toDram ∈ L) (he : ∀ u, Moves L u (effect u)) :
    Moves L s (channelCommand c effect s) :=
  .ite (fun _ => .one (.toDram s _ h)) fun _ => (Moves.one (.toDram s _ h)).trans (he _)

theorem moves_atRank (rank : Byte) (effect : Fin 2 → State → State) (s : State) (h : .channel ∈ L) (he : ∀ r, Moves L s (effect r s)) :
    Moves L s (atRank rank effect s) := by
  unfold atRank
  split
  · exact he _
  · exact moves_decodeFault _ _ s h

theorem moves_awake (rank : Byte) (effect : Fin 2 → State → State) (r : Fin 2) (s : State) (h : .channel ∈ L)
    (he : Moves L s (effect r s)) : Moves L s (awake rank effect r s) :=
  .ite (fun _ => he) fun _ => moves_decodeFault _ _ s h

theorem moves_atBank (rank bank : Byte) (effect : Fin 2 → Fin 16 → State → State) (s : State) (h : .channel ∈ L)
    (he : ∀ r b, Moves L s (effect r b s)) : Moves L s (atBank rank bank effect s) := by
  unfold atBank
  split
  · exact moves_awake rank _ _ s h (he _ _)
  · exact moves_decodeFault _ _ s h

theorem moves_setBanks (r : Fin 2) (st : BankState) (s : State) (h : .channel ∈ L) : Moves L s (setBanks r st s) :=
  .foldl (fun _ _ => .channel _ h) _ _

theorem moves_setRank (r : Fin 2) (st : RankState) (s : State) (h : .channel ∈ L) : Moves L s (setRank r st s) := .channel _ h

theorem moves_openBank (rank : Byte) (row : Nat) (r : Fin 2) (b : Fin 16) (s : State) (h : .channel ∈ L) : Moves L s (openBank rank row r b s) :=
  .ite (fun _ => (Moves.channel _ h).trans (moves_decodeFault _ _ _ h)) fun _ =>
    .ite (fun _ => .channel _ h) fun _ => (Moves.channel _ h).trans (moves_decodeFault _ _ _ h)

theorem moves_refreshRank (rank : Byte) (r : Fin 2) (s : State) (h : .channel ∈ L) : Moves L s (refreshRank rank r s) :=
  .ite (fun _ => (moves_setBanks r _ s h).trans (moves_decodeFault _ _ _ h)) fun _ => .refl s

theorem moves_enterSelfRefresh (rank : Byte) (r : Fin 2) (s : State) (h : .channel ∈ L) : Moves L s (enterSelfRefresh rank r s) :=
  .ite (fun _ => ((Moves.channel _ h).trans (moves_setBanks r _ _ h)).trans (moves_decodeFault _ _ _ h)) fun _ => .channel _ h

theorem moves_exitSelfRefresh (rank : Byte) (r : Fin 2) (s : State) (h : .channel ∈ L) : Moves L s (exitSelfRefresh rank r s) := by
  unfold exitSelfRefresh
  split
  · exact (Moves.channel _ h).trans (moves_setBanks r _ _ h)
  all_goals exact moves_decodeFault _ _ s h

theorem moves_exitPowerDown (rank : Byte) (r : Fin 2) (s : State) (h : .channel ∈ L) : Moves L s (exitPowerDown rank r s) := by
  unfold exitPowerDown
  split
  · exact .channel _ h
  · exact .channel _ h
  all_goals exact moves_decodeFault _ _ s h

theorem moves_setLatency {α : Type} (v : Option α) (put : Option α → Channel → Channel) (s : State) (h : .channel ∈ L) :
    Moves L s (setLatency v put s) :=
  .ite (fun _ => .channel _ h) fun _ => (Moves.channel _ h).trans (moves_decodeFault _ _ _ h)

theorem moves_setMode (register value : Byte) (s : State) (h : .channel ∈ L) : Moves L s (setMode register value s) :=
  .ite (fun _ => moves_setLatency _ _ s h) fun _ => .ite (fun _ => moves_setLatency _ _ s h) fun _ =>
    .ite (fun _ => moves_setLatency _ _ s h) fun _ => .refl s

/-- The effects of a Read. -/
def readEffects : List Effect := [.toDram, .channel, .drive, .halves]

theorem moves_serveRead (line : Nat) (column : BitVec 10) (halfBurst : Bool) (s : State) (h : readEffects ⊆ L) :
    Moves L s (serveRead line column halfBurst s) := by
  have hd : .drive ∈ L := h (by decide)
  unfold serveRead
  split
  · exact .one (.drive s _ hd)
  · exact (moves_mirrorRead _ _ s (h (by decide))).trans (.one (.drive _ _ hd))
  all_goals exact .one (.drive s _ hd)

theorem moves_unserved (line : Nat) (s : State) (h : .channel ∈ L) : Moves L s (unserved line s) := by
  unfold unserved
  dsimp only
  split
  · exact .channel _ h
  · exact .channel _ h
  all_goals exact .refl s

theorem moves_missed (line : Nat) (s : State) (h : .channel ∈ L) : Moves L s (missed line s) := by
  unfold missed
  dsimp only
  split
  · exact .channel _ h
  · exact .channel _ h
  all_goals exact .refl s

theorem moves_readOpen (line : Option Nat) (column : BitVec 10) (halfBurst : Bool) (s : State) (h : readEffects ⊆ L) :
    Moves L s (readOpen line column halfBurst s) := by
  cases line with
  | none => exact .refl s
  | some l => exact .ite (fun _ => moves_serveRead l column halfBurst s h) fun _ => moves_unserved l s (h (by decide))

theorem moves_writeOpen (line : Option Nat) (s : State) (h : .channel ∈ L) : Moves L s (writeOpen line s) := by
  cases line with
  | none => exact .refl s
  | some l => exact .ite (fun _ => .refl s) fun _ => moves_missed l s h

theorem moves_burst (rank : Byte) (autoClose : Bool) (row : Nat → Fin 2 → Fin 16 → State → State) (r : Fin 2) (b : Fin 16) (s : State)
    (h : .channel ∈ L) (hrow : ∀ n, Moves L s (row n r b s)) : Moves L s (burst rank autoClose row r b s) := by
  have open' : ∀ st : BankState, s.bank (bankIndex r b) = st → Moves L s (match st with
      | .opened n => row n r b s
      | .closed => decodeFault .closedAccess (some rank) s
      | .unknown => decodeFault .closedAccess (some rank) s) := by
    intro st _
    cases st with
    | opened n => exact hrow n
    | closed => exact moves_decodeFault _ _ s h
    | unknown => exact moves_decodeFault _ _ s h
  exact .ite (fun _ => (open' _ rfl).trans (.channel _ h)) fun _ => open' _ rfl

theorem moves_readBurst (rank bank : Byte) (column : BitVec 10) (a k : Bool) (s : State) (h : readEffects ⊆ L) :
    Moves L s (readBurst rank bank column a k s) := by
  have hc : .channel ∈ L := h (by decide)
  exact (Moves.one (.drive s .dram (h (by decide)))).trans
    (moves_atBank rank bank _ _ hc fun r b => moves_burst rank a _ r b _ hc fun n => moves_readOpen _ column k _ h)

theorem moves_writeBurst (rank bank : Byte) (column : BitVec 10) (a k : Bool) (s : State) (h : .channel ∈ L) :
    Moves L s (writeBurst rank bank column a k s) :=
  (Moves.channel _ h).trans (moves_atBank rank bank _ _ h fun r b => moves_burst rank a _ r b _ h fun _ => moves_writeOpen _ _ h)

/-! ### Start-up (R14, R28, R89, R184 to R187) -/

/-- The effects of the EEPROM's events. -/
def loadEffects : List Effect := [.place, .channel, .identity, .settings, .exchange, .ports, .rack, .lock, .load, .writes]

/-- A change of the restart count and of the stored role. -/
theorem moves_identity (f : Roster → Roster) (s : State) (h : .identity ∈ L) (hf : (f s.roster).entries = s.roster.entries ∧
    (f s.roster).recent = s.roster.recent ∧ (f s.roster).ownState = s.roster.ownState ∧ (f s.roster).belief = s.roster.belief ∧
    (f s.roster).phase = s.roster.phase ∧ (f s.roster).waitSet = s.roster.waitSet ∧ (f s.roster).leaveTag = s.roster.leaveTag ∧
    (f s.roster).refreshTimer = s.roster.refreshTimer) : Moves L s (s.onRoster f) :=
by
  obtain ⟨he, hrecent, ho, hb, hp, hw, ht, hf⟩ := hf
  exact .roster f ⟨he, fun n => absurd h n, fun _ => hrecent, fun b => by rw [hrecent]; exact b, fun _ => ⟨ho, hb, hp, hw, ht, hf⟩,
    fun _ => standingKept_of ho hp ht (fun k => hw.trans k) hb⟩

theorem moves_setMap (m : AddressMap) (s : State) (h : .channel ∈ L) : Moves L s (setMap m s) := .channel _ h

theorem moves_settingsDefault (s : State) (h : .settings ∈ L) : Moves L s (s.onClock fun c => { c with settings := Settings.default }) :=
  .clock _ ⟨id, fun _ => rfl, fun n => absurd h n, fun _ => ⟨rfl, rfl⟩, fun _ => rfl, fun _ => ⟨rfl, rfl, rfl⟩⟩

theorem moves_distribute (s : State) (h : [.channel, .identity, .settings, .load] ⊆ L) : Moves L s (distribute s) := by
  have hc : .channel ∈ L := h (by decide)
  have hi : .identity ∈ L := h (by decide)
  have hs : .settings ∈ L := h (by decide)
  have hl : .load ∈ L := h (by decide)
  unfold distribute
  split
  · next c _ =>
    have loaded : Moves L s (loadMap c s) := by
      unfold loadMap
      split
      · exact moves_setMap _ s hc
      · exact (moves_setMap _ s hc).trans (moves_raiseConfigFault _ _ hl)
    have checked (u : State) : Moves L u (checkPlacement c u) := .ite (fun _ => moves_raiseConfigFault _ u hl) fun _ => .refl u
    exact ((loaded.trans (checked _)).trans (moves_identity _ _ hi ⟨rfl, rfl, rfl, rfl, rfl, rfl, rfl, rfl⟩)).trans (moves_setSettings _ _ hs)
  · exact ((moves_setMap _ s hc).trans (moves_identity _ _ hi ⟨rfl, rfl, rfl, rfl, rfl, rfl, rfl, rfl⟩)).trans (moves_settingsDefault _ hs)

theorem moves_placeRegions (s : State) (h : .place ∈ L) : Moves L s (placeRegions s) := by
  obtain ⟨d, r, -, e⟩ := placeRegions_spec s
  rw [e]
  exact (Moves.one (.place s 0 d h (by decide))).trans (.one (.place _ 1 r h (by decide)))

theorem moves_wakePort (p : Port) (s : State) (h : .ports ∈ L) : Moves L s (wakePort p s) :=
  .ite (fun hd => (enters_training p h).moves h (fun _ => by simp [PortRecord.up, hd.1]) (fun _ => by decide) (by simp [hd.1]))
    fun _ => .refl s

theorem moves_becomeActive (s : State) (h : loadEffects ⊆ L) : Moves L s (becomeActive s) := by
  have hr : .rack ∈ L := h (by decide)
  have hp : .ports ∈ L := h (by decide)
  have active : Moves L s ((s.onRoster fun r => { r with ownState := .active }).onReporter fun d => { d with loadStep := .finished }) :=
    (moves_ownFields _ s hr ⟨rfl, ⟨rfl, rfl, rfl, rfl⟩, rfl⟩ fun n => absurd (h (by decide)) n).trans
      (.report _ ⟨id, rfl, fun n => absurd (h (by decide)) n, fun _ => ⟨rfl, rfl⟩, fun _ => rfl, fun _ => rfl, fun _ => rfl⟩)
  have woken := (((active.trans (moves_placeRegions _ (h (by decide)))).trans (moves_wakePort .a _ hp)).trans (moves_wakePort .b _ hp)).trans
    (moves_startExchange _ (h (by decide)))
  exact (woken.trans (moves_electIfNone _ hr)).trans (moves_conclude _ _ hr (h (by decide)))

/-- A change of the load and of the restart-count writes. -/
theorem moves_load (f : Reporter → Reporter) (s : State) (hl : .load ∈ L) (hw : .writes ∈ L)
    (hf : (s.reporter.right → (f s.reporter).right) ∧ (f s.reporter).straps = s.reporter.straps ∧
      (f s.reporter).directivesTaken = s.reporter.directivesTaken ∧ (f s.reporter).partialDirectives = s.reporter.partialDirectives ∧
      (f s.reporter).acknowledged = s.reporter.acknowledged) : Moves L s (s.onReporter f) :=
  .report f ⟨hf.1, hf.2.1, fun n => absurd hl n, fun n => absurd hw n, fun _ => hf.2.2.1, fun _ => hf.2.2.2.1, fun _ => hf.2.2.2.2⟩

theorem moves_setIncarnation (n : Word16) (s : State) (h : .identity ∈ L) : Moves L s (setIncarnation n s) :=
  moves_identity _ s h ⟨rfl, rfl, rfl, rfl, rfl, rfl, rfl, rfl⟩

theorem moves_noRestartCount (s : State) (h : loadEffects ⊆ L) : Moves L s (noRestartCount s) :=
  (moves_setIncarnation 0 s (h (by decide))).trans (moves_raiseConfigFault _ _ (h (by decide)))

theorem moves_requestWrite (n : Word16) (s : State) (h : .writes ∈ L) : Moves L s (requestWrite n s) := by
  refine .ite (fun _ => .refl s) fun _ => .report _ ?_
  split <;> exact ⟨id, rfl, fun _ => ⟨rfl, rfl, rfl, rfl, rfl⟩, fun n => absurd h n, fun _ => rfl, fun _ => rfl, fun _ => rfl⟩

section
variable (s : State) (h : loadEffects ⊆ L)
include h

theorem moves_readBlock (block : Option (BitVec 448)) : Moves L s (readBlock block s) := by
  have hl : .load ∈ L := h (by decide)
  have hw : .writes ∈ L := h (by decide)
  unfold readBlock
  split
  · exact moves_load _ s hl hw ⟨id, rfl, rfl, rfl, rfl⟩
  · exact .ite (fun _ => moves_load _ s hl hw ⟨id, rfl, rfl, rfl, rfl⟩) fun _ =>
      (moves_load _ s hl hw ⟨id, rfl, rfl, rfl, rfl⟩).trans (moves_raiseConfigFault _ _ hl)

theorem moves_readCount (count : Option Word16) : Moves L s (readCount count s) := by
  have hl : .load ∈ L := h (by decide)
  have hw : .writes ∈ L := h (by decide)
  unfold readCount
  split
  · exact (moves_distribute s (List.Subset.trans (by decide) h)).trans (moves_load _ _ hl hw ⟨id, rfl, rfl, rfl, rfl⟩)
  · exact (((moves_load _ s hl hw ⟨id, rfl, rfl, rfl, rfl⟩).trans (moves_noRestartCount _ h)).trans (moves_distribute _ (List.Subset.trans (by decide) h))).trans
      (moves_becomeActive _ h)

theorem moves_absent : Moves L s (absent s) := by
  have hl : .load ∈ L := h (by decide)
  have hw : .writes ∈ L := h (by decide)
  exact ((((moves_load _ s hl hw ⟨id, rfl, rfl, rfl, rfl⟩).trans (moves_raiseConfigFault _ _ hl)).trans (moves_noRestartCount _ h)).trans
    (moves_distribute _ (List.Subset.trans (by decide) h))).trans (moves_becomeActive _ h)

theorem moves_writeDone : Moves L s (writeDone s) := by
  have hl : .load ∈ L := h (by decide)
  have hw : .writes ∈ L := h (by decide)
  unfold writeDone
  split
  · exact ((moves_load _ s hl hw ⟨id, rfl, rfl, rfl, rfl⟩).trans (moves_setIncarnation _ _ (h (by decide)))).trans (moves_becomeActive _ h)
  · exact moves_load _ s hl hw ⟨id, rfl, rfl, rfl, rfl⟩
  · exact .refl s

theorem moves_writeFail : Moves L s (writeFail s) := by
  have hl : .load ∈ L := h (by decide)
  have hw : .writes ∈ L := h (by decide)
  unfold writeFail
  split
  · exact ((moves_load _ s hl hw ⟨id, rfl, rfl, rfl, rfl⟩).trans (moves_noRestartCount _ h)).trans (moves_becomeActive _ h)
  · exact (moves_raiseConfigFault _ s hl).trans (moves_load _ _ hl hw ⟨id, rfl, rfl, rfl, rfl⟩)
  · exact .refl s

end

/-! ### Operations that may conclude an event -/

/-- An operation answers a result, or moves the part by its effects and concludes an event. -/
inductive Course (L : List Effect) (s : State) : State → Prop where
  | answers (tag code : Word16) (r : DirectiveResult) : Course L s (postResult tag code r s)
  | concludes {u : State} : Moves L s u → Course L s (conclude s u)

namespace Course
variable {s t u : State}

theorem toMoves (h : Course L s t) (hr : .rack ∈ L) (hl : .lock ∈ L) : Moves L s t := by
  cases h with
  | answers => exact moves_post ..
  | concludes h => exact h.trans (moves_conclude _ _ hr hl)

theorem ite {c : Prop} [Decidable c] (h : c → Course L s t) (k : ¬ c → Course L s u) : Course L s (if c then t else u) := by
  split
  · exact h ‹_›
  · exact k ‹_›

end Course

/-! ### Directives (R34 to R42, R100 to R108, R117, R140 to R142, R158, R178, R182, R188) -/

theorem bindCheck_none {s : State} {sizeExp base len count stride : Nat} {paired : Bool}
    (h : s.bindCheck sizeExp base paired len count stride = none) :
    shapeInRange len count stride = true ∧ shapeFits len count stride (halfLines (regionSize sizeExp) paired) = true ∧
      s.overlaps ⟨true, base, regionSize sizeExp, paired⟩ = false := by
  simp only [State.bindCheck] at h
  split_ifs at h with h1 h2 h3 h4 h5
  simp only [Bool.not_eq_true', Bool.not_eq_false, Bool.not_eq_true] at h3 h4 h5
  exact ⟨h3, h4, h5⟩

theorem moves_bindTap (tag : Word16) (a : BindTapArgs) (s : State) (hr : .regions ∈ L) (hb : .bindings ∈ L) : Moves L s (bindTap tag a s) := by
  unfold bindTap
  dsimp only
  split
  · refine .ite (fun _ => moves_post ..) fun _ => .ite (fun _ => moves_post ..) fun hfree => ?_
    split
    · exact moves_post ..
    · next hcheck =>
      refine .ite (fun _ => moves_post ..) fun hroom => Moves.trans (.one (.bindTap s _ _ _ hr hb ?_)) (moves_post ..)
      obtain ⟨hrange, hfit, happart⟩ := bindCheck_none hcheck
      refine ⟨by simpa using hfree, rfl, rfl, ?_, by omega, rfl, happart⟩
      have hcr := hrange
      simp only [shapeInRange, Bool.and_eq_true, decide_eq_true_eq] at hcr
      obtain ⟨⟨⟨hlen, -⟩, hcount⟩, -⟩ := hcr
      exact ⟨rfl, hrange, hfit, hcount, hlen, fun _ => rfl⟩
  · exact moves_post ..

theorem moves_fromIdle (tag code : Word16) (act : State → State) (t : TapNo) (s : State)
    (h : (s.tap t).state = .idle → s.away = false → Moves L s (act s)) : Moves L s (fromIdle tag code act t s) :=
  .ite (fun _ => moves_post ..) fun _ => .ite (fun _ => moves_post ..) fun ha => .ite (fun _ => moves_post ..) fun hi =>
    (h (by simpa using hi) (by simpa using ha)).trans (moves_post ..)

theorem moves_armTapAt (tag : Word16) (time : TimeValue) (t : TapNo) (s : State) : Moves L s (armTapAt tag time t s) := by
  refine moves_fromIdle tag 0x03 _ t s fun hi ha => Moves.trans (.tap t _ ?_) (moves_startIfDue t _)
  refine ⟨rfl, by simp [hi], id, id, fun _ => id, fun _ => .inr ha, fun _ p hp => ?_⟩
  exact level_of_state (k := s.tap t) rfl rfl (by simp [hi]) nofun nofun hp

theorem moves_startTapAt (tag : Word16) (t : TapNo) (s : State) : Moves L s (startTapAt tag t s) :=
  moves_fromIdle tag 0x04 _ t s fun hi ha => moves_enterRunning t s (.inl hi) (.inr ha)

theorem moves_waitOnTap (tag : Word16) (t : TapNo) (s : State) : Moves L s (waitOnTap tag t s) := by
  have waits : Moves L s (s.onTap t fun k => { k with waiting := k.waiting ++ [tag] }) :=
    .tap t _ ⟨rfl, Iff.rfl, id, id, fun _ => id, .inl, fun _ _ => id⟩
  exact waits.trans (moves_post ..)

theorem course_stopTapAt (tag : Word16) (t : TapNo) (s : State) (hr : .rack ∈ L) : Course L s (stopTapAt tag t s) := by
  unfold stopTapAt
  split
  · exact .answers ..
  · exact .answers ..
  · next h => exact .concludes ((moves_tapState t .idle s hr (by simp [h])).trans (moves_post ..))
  · next h => exact .concludes ((moves_drainRunning t s hr (by simp [h])).trans (moves_waitOnTap ..))
  · exact .ite (fun _ => .answers ..) fun _ => .concludes (moves_waitOnTap ..)
  · next h =>
    have idle : Moves L s (s.onTap t fun k => { k with state := .idle, queue := [] }) :=
      .tap t _ ⟨rfl, by simp [h], fun _ => Nat.zero_le _, fun _ _ k => absurd k List.not_mem_nil, fun _ => id,
        fun a => absurd a (by simp [Tap.active]), fun n => absurd hr n⟩
    exact .concludes (idle.trans (moves_post ..))

theorem course_unbindTapAt (tag : Word16) (t : TapNo) (s : State) (hr : .regions ∈ L) (hb : .bindings ∈ L) :
    Course L s (unbindTapAt tag t s) := by
  have clear : Course L s (conclude s (postResult tag 0x02 .done (clearTap t s))) :=
    .concludes ((Moves.one (.clearTap s t hr hb)).trans (moves_post ..))
  unfold unbindTapAt
  split
  · exact .answers ..
  · exact clear
  · exact clear
  all_goals exact .answers ..

theorem moves_setStridePresets (tag : Word16) (a : PresetArgs) (s : State) (h : .presets ∈ L) : Moves L s (setStridePresets tag a s) := by
  refine .ite (fun _ => moves_post ..) fun _ => .ite (fun _ => moves_post ..) fun hfit => Moves.trans (.one (.presets s a h ?_)) (moves_post ..)
  intro t hb hc
  simp only [List.any_eq_true, List.mem_filter, not_exists, not_and, Bool.not_eq_true] at hfit
  refine hfit t ⟨?_, by simp [hb, hc]⟩
  fin_cases t <;> decide

theorem extentLength_pos {len count stride : Nat} {paired : Bool} (h : shapeInRange len count stride = true) :
    1 ≤ extentLength len count paired := by
  simp only [shapeInRange, Bool.and_eq_true, decide_eq_true_eq] at h
  obtain ⟨⟨⟨hlen, -⟩, hcount⟩, -⟩ := h
  refine Nat.mul_pos (Nat.mul_pos hlen hcount) ?_
  split <;> decide

theorem moves_bindMirror (tag : Word16) (a : BindMirrorArgs) (s : State) (hr : .regions ∈ L) (hx : .extents ∈ L) :
    Moves L s (bindMirror tag a s) := by
  unfold bindMirror
  split
  · next m source tap _ _ _ =>
    refine .ite (fun _ => moves_post ..) fun hbusy => ?_
    split
    · exact moves_post ..
    · next hcheck =>
      unfold placeMirror
      dsimp only
      split
      · exact moves_post ..
      · next start hfit =>
        have hfree : (s.mirror m).bound = false := by
          simp only [State.mirrorBusy, Bool.or_eq_true, not_or, Bool.not_eq_true] at hbusy
          exact hbusy.1.1
        obtain ⟨hrange, -, happart⟩ := bindCheck_none hcheck
        exact (Moves.one (.bindMirror s m (mirrorRecord a source tap start _) _ hr hx
          ⟨hfree, rfl, fun h => by cases h <;> rfl, extentLength_pos hrange, hfit, rfl, happart⟩)).trans (moves_post ..)
  · exact moves_post ..

theorem moves_unbindMirror (tag : Word16) (mirror : Byte) (s : State) (hr : .regions ∈ L) (hx : .extents ∈ L) :
    Moves L s (unbindMirror tag mirror s) := by
  unfold unbindMirror
  split
  · exact moves_post ..
  · exact .ite (fun _ => (Moves.one (.clearMirror s _ hr hx)).trans (moves_post ..)) fun _ => moves_post ..

theorem course_onOther (tag code : Word16) (frame : Byte) (act : FrameNo → State → State) (s : State) (h : ∀ f, Course L s (act f s)) :
    Course L s (onOther tag code frame act s) := by
  unfold onOther
  split
  · exact .ite (fun _ => .answers ..) fun _ => h _
  · exact .answers ..

theorem moves_onOther (tag code : Word16) (frame : Byte) (act : FrameNo → State → State) (s : State) (h : ∀ f, Moves L s (act f s)) :
    Moves L s (onOther tag code frame act s) := by
  unfold onOther
  split
  · exact .ite (fun _ => moves_post ..) fun _ => h _
  · exact moves_post ..

theorem moves_onMember (tag code : Word16) (act : FrameNo → State → State) (f : FrameNo) (s : State) (h : Moves L s (act f s)) :
    Moves L s (onMember tag code act f s) := .ite (fun _ => moves_post ..) fun _ => h.trans (moves_post ..)

theorem course_forgetAt (tag : Word16) (f : FrameNo) (s : State) (h : entryEffects ⊆ L) : Course L s (forgetAt tag f s) :=
  .ite (fun _ => .concludes ((((moves_enterEntry f _ s h).trans (moves_clearRecord f _)).trans (moves_electIfNeeded _ _ (h (by decide)))).trans
    (moves_post ..))) fun _ => .answers ..

theorem moves_acknowledgeRestart (tag : Word16) (frame : Byte) (s : State) (h : .entries ∈ L) : Moves L s (acknowledgeRestart tag frame s) := by
  unfold acknowledgeRestart
  split
  · exact (Moves.entry _ _ h id).trans (moves_post ..)
  · exact moves_post ..

theorem moves_leaveTaps (s : State) (hr : .rack ∈ L) : Moves L s (leaveTaps s) := .foldl (fun u t => moves_leaveTap t u hr) _ _

theorem moves_startLeaving (tag : Word16) (s : State) (hr : .rack ∈ L) (hl : .lock ∈ L) : Moves L s (startLeaving tag s) :=
  moves_ownFields _ s hr ⟨rfl, ⟨rfl, rfl, rfl, rfl⟩, rfl⟩ fun n => absurd hl n

theorem moves_goLeaving (tag : Word16) (before s : State) (hr : .rack ∈ L) (hl : .lock ∈ L) : Moves L s (goLeaving tag before s) :=
  (((moves_startLeaving tag s hr hl).trans (moves_leaveTaps _ hr)).trans (moves_electIfNeeded _ _ hr)).trans (moves_announce _ _ hr hl)

theorem moves_handOver (tag : Word16) (f : FrameNo) (s : State) (hr : .rack ∈ L) (hl : .lock ∈ L) (hs : .seq ∈ L) :
    Moves L s (handOver tag f s) := by
  have issued : Moves L s (issueOrder s.own s.orders.nextSeq (.masterClaim f) (s.onOrders fun o => { o with nextSeq := o.nextSeq + 1 })) :=
    (Moves.orders _ ⟨id, fun n => absurd hs n, fun _ => ⟨rfl, rfl⟩⟩).trans (moves_issueOrder _ _ _ _ hr)
  refine .ite (fun _ => ?_) fun _ => ((issued.trans (moves_countDuplicate _)).trans (moves_countOrdered _)).trans (moves_goLeaving tag s _ hr hl)
  have changed := ((issued.trans (moves_recordOrder s.orders.nextRackSeq s.own s.own s.orders.nextSeq _)).trans (moves_claimBelief f _ hr)).trans (moves_startLeaving tag _ hr hl)
  exact ((((changed.trans (moves_notify _ _ _ hr hl)).trans (moves_finishOrder _ _ _ _ _ hr)).trans (moves_countOrdered _)).trans
    (moves_resubmit _ _ hr hl)).trans (moves_leaveTaps _ hr)

theorem moves_leaveRack (tag : Word16) (force : Bool) (s : State) (hr : .rack ∈ L) (hl : .lock ∈ L) (hs : .seq ∈ L) :
    Moves L s (leaveRack tag force s) := by
  have left : Moves L s (leave tag s) := by
    unfold leave
    split
    · exact .ite (fun _ => moves_handOver tag _ s hr hl hs) fun _ => moves_goLeaving tag s s hr hl
    · exact moves_goLeaving tag s s hr hl
  exact .ite (fun _ => moves_post ..) fun _ => .ite (fun _ => moves_post ..) fun _ =>
    (left.trans (moves_post ..)).trans (moves_concludeFrom _ _ _ hr hl)

theorem moves_rejoinRack (tag : Word16) (s : State) (hr : .rack ∈ L) (hl : .lock ∈ L) : Moves L s (rejoinRack tag s) :=
  .ite (fun _ => (((moves_ownFields _ s hr ⟨rfl, ⟨rfl, rfl, rfl, rfl⟩, rfl⟩ fun n => absurd hl n).trans (moves_electIfNone _ hr)).trans (moves_post ..)).trans
    (moves_conclude _ _ hr hl)) fun _ => moves_post ..

theorem moves_enablePort (p : Port) (s : State) (hp : .ports ∈ L) (hr : .rack ∈ L) : Moves L s (enablePort p s) := by
  refine .ite (fun hd => ?_) fun _ => .refl s
  have dark : Moves L s (setPortState p .dark .none (flushPort p s)) :=
    (moves_flushPort p s fun n => absurd hr n).trans (moves_setPortState p .dark .none _ hp (fun n => absurd hr n) (fun n => absurd hr n)
      fun j => by simp [flushPort_state, hd] at j)
  have hdark : ((setPortState p .dark .none (flushPort p s)).port p).state = .dark := by
    unfold setPortState; dsimp only; split
    · simp
    · rw [State.port, raise_link]
      exact congrArg PortRecord.state (onPort_self _ p _)
  exact .ite (fun _ => dark.trans ((enters_training p hp).moves hp (fun n => absurd hr n) (fun n => absurd hr n) (by simp [hdark]))) fun _ => dark

theorem moves_disablePort (p : Port) (s : State) (h : portEffects ⊆ L) : Moves L s (disablePort p s) :=
  .ite (fun _ => .refl s) fun _ => (enters_disabled p (h (by decide))).moves_leave s h

theorem moves_retrainPort (p : Port) (s : State) (h : portEffects ⊆ L) : Moves L s (retrainPort p s) :=
  .ite (fun _ => .refl s) fun _ => (enters_training p (h (by decide))).moves_leave s h

theorem course_onPortNumber (tag : Word16) (port : Byte) (act : Port → State → State) (s : State) (h : ∀ p, Course L s (act p s)) :
    Course L s (onPortNumber tag port act s) := by
  unfold onPortNumber
  split
  · exact h _
  · exact .answers ..

/-- The effects of Port Control, by its action: Enable takes no port from Joined. -/
def controlEffects (action : Byte) : List Effect := if action = 1 then [.ports, .rack, .lock] else .lock :: portEffects

theorem course_portControl (tag : Word16) (port action : Byte) (s : State) (hp : .ports ∈ L) (hr : .rack ∈ L) (h : action ≠ 1 → portEffects ⊆ L) :
    Course L s (portControl tag port action s) := by
  refine .ite (fun _ => course_onPortNumber tag port _ s fun p => .concludes ((moves_enablePort p s hp hr).trans (moves_post ..))) fun h1 => ?_
  refine .ite (fun _ => course_onPortNumber tag port _ s fun p => ?_) fun _ =>
    .ite (fun _ => course_onPortNumber tag port _ s fun p => .ite (fun _ => .answers ..) fun _ => ?_) fun _ => .answers ..
  · exact .concludes ((moves_disablePort p s (h h1)).trans (moves_post ..))
  · exact .concludes ((moves_retrainPort p s (h h1)).trans (moves_post ..))

theorem moves_portControl (tag : Word16) (port action : Byte) (s : State) (h : controlEffects action ⊆ L) :
    Moves L s (portControl tag port action s) := by
  have hmem : .ports ∈ L ∧ .rack ∈ L ∧ .lock ∈ L ∧ (action ≠ 1 → portEffects ⊆ L) := by
    unfold controlEffects at h
    split at h
    · next h1 => exact ⟨h (by decide), h (by decide), h (by decide), fun k => absurd h1 k⟩
    · exact ⟨h (by decide), h (by decide), h (by decide), fun _ _ k => h (List.mem_cons_of_mem _ k)⟩
  obtain ⟨hp, hr, hl, heffects⟩ := hmem
  exact (course_portControl tag port action s hp hr heffects).toMoves hr hl

theorem moves_acknowledgeEvents (tag : Word16) (count : BitVec 32) (s : State) (h : .acknowledged ∈ L) :
    Moves L s (acknowledgeEvents tag count s) := by
  refine Moves.trans (.report _ ?_) (moves_post ..)
  exact ⟨fun ⟨_, _, hc, hd⟩ => ⟨Nat.min_le_right .., rfl, hc, hd⟩, rfl, fun _ => ⟨rfl, rfl, rfl, rfl, rfl⟩, fun _ => ⟨rfl, rfl⟩,
    fun _ => rfl, fun _ => rfl, fun n => absurd h n⟩

/-- The effects of Clear Counters. -/
def clearEffects : List Effect := [.channel, .halves, .timeCounters, .partials]

theorem moves_clearCounters (tag : Word16) (s : State) (h : clearEffects ⊆ L) : Moves L s (clearCounters tag s) := by
  have taps (u : State) : Moves L u (u.onTapEngine fun e =>
      { e with taps := e.taps.map fun k => if k.state = .unbound then k else { k with counters := TapCounters.zero } }) := by
    refine .one (Move.taps u _ fun t => ?_)
    simp only [Fin.getElem_fin, Vector.getElem_map]
    change TapKept L u t (u.tap t) (if (u.tap t).state = .unbound then u.tap t else _)
    split
    · exact .refl ..
    · exact ⟨rfl, Iff.rfl, id, id, fun _ => id, .inl, fun _ _ => id⟩
  have mirrors (u : State) : Moves L u (u.onMirrorStore fun e =>
      { e with mirrors := e.mirrors.map fun m => if m.bound then { m with counters := MirrorCounters.zero } else m }) := by
    refine .one (Move.mirrors u _ (h (by decide)) fun m => ?_)
    simp only [Fin.getElem_fin, Vector.getElem_map]
    change MirrorKept (u.mirror m) (if (u.mirror m).bound then _ else u.mirror m)
    split
    · exact ⟨rfl, fun r h => by cases h; exacts [r .even, r .odd]⟩
    · exact .refl _
  have link (u : State) : Moves L u (u.onLink fun l => { l with
      ports := ⟨{ l.ports.a with counters := PortCounters.zero }, { l.ports.b with counters := PortCounters.zero }⟩, unsentOwn := 0 }) :=
    .one (.link u _ fun p => by cases p <;> exact ⟨id, id, id, fun _ => rfl, fun _ => rfl, fun _ => .inr rfl⟩)
  have clock (u : State) : Moves L u (u.onClock fun c => { c with counters := TimeCounters.zero }) :=
    .clock _ ⟨id, fun _ => rfl, fun _ => rfl, fun _ => ⟨rfl, rfl⟩, fun n => absurd (h (by decide)) n, fun _ => ⟨rfl, rfl, rfl⟩⟩
  have orders (u : State) : Moves L u (u.onOrders fun o => { o with counters := OrderCounters.zero }) :=
    .orders _ ⟨id, fun _ => rfl, fun _ => ⟨rfl, rfl⟩⟩
  have report (u : State) : Moves L u (u.onReporter fun d => { d with partialDirectives := 0 }) :=
    .report _ ⟨id, rfl, fun _ => ⟨rfl, rfl, rfl, rfl, rfl⟩, fun _ => ⟨rfl, rfl⟩, fun _ => rfl, fun n => absurd (h (by decide)) n, fun _ => rfl⟩
  exact (((((((Moves.channel _ (h (by decide))).trans (taps _)).trans (mirrors _)).trans (link _)).trans (clock _)).trans
    (orders _)).trans (report _)).trans (moves_post ..)

/-- The effects of Restart Part. -/
def restartEffects : List Effect := [.restart, .rack, .lock, .writes]

theorem moves_restartPart (tag : Word16) (s : State) (h : restartEffects ⊆ L) : Moves L s (restartPart tag s) := by
  have hr : .rack ∈ L := h (by decide)
  have hl : .lock ∈ L := h (by decide)
  have notices (u : State) : Moves L u (notifyRestart s u) := by
    have free : Moves L u (notifyFreeRun s u) := .ite (fun _ => .refl u) fun _ => moves_raise ..
    have belief (v : State) : Moves L v (notifyRestartBelief s v) := .ite (fun _ => .refl v) fun _ => moves_raise ..
    exact (((free.trans (.foldl (fun v f => moves_notifyFrame s v f) _ _)).trans (moves_notifyOwn ..)).trans (belief _)).trans
      (moves_followMaster _ _ _ hl)
  have hello (p : Port) (u : State) : Moves L u (helloIfUp p u) := by
    unfold helloIfUp
    split
    · exact moves_placeHello p u hr
    · exact moves_placeHello p u hr
    all_goals exact .refl u
  have begun := ((Moves.one (.restart s (h (by decide)) hr)).trans (moves_post tag 0x5A .done _)).trans (moves_requestWrite (restartBlocks s).roster.heldCount _ (h (by decide)))
  have told := ((begun.trans (moves_electIfNone _ hr)).trans (notices _)).trans ((hello .a _).trans (hello .b _))
  exact (told.trans (moves_makeRosterUpdate _ hr)).trans (moves_concludeFrom _ _ _ hr hl)

theorem course_onTapNumber (tag code : Word16) (tap : Byte) (act : TapNo → State → State) (s : State) (h : ∀ t, Course L s (act t s)) :
    Course L s (onTapNumber tag code tap act s) := by
  unfold onTapNumber
  split
  · exact h _
  · exact .answers ..

theorem moves_onTapNumber (tag code : Word16) (tap : Byte) (act : TapNo → State → State) (s : State) (h : ∀ t, Moves L s (act t s)) :
    Moves L s (onTapNumber tag code tap act s) := by
  unfold onTapNumber
  split
  · exact h _
  · exact moves_post ..

theorem course_haltTapAt (tag : Word16) (t : TapNo) (s : State) (hr : .rack ∈ L) : Course L s (haltTapAt tag t s) :=
  .ite (fun _ => .answers ..) fun _ => .concludes ((moves_haltTap t s hr).trans (moves_post ..))

/-- The effects of a directive. -/
def Directive.effects : Directive → List Effect
  | .bindTap _ _ => [.regions, .bindings]
  | .unbindTap _ _ => [.regions, .bindings, .rack, .lock]
  | .armTap _ _ _ => []
  | .startTap _ _ => []
  | .stopTap _ _ => [.rack, .lock]
  | .haltTap _ _ => [.rack, .lock]
  | .setStridePresets _ _ => [.presets]
  | .bindMirror _ _ => [.regions, .extents]
  | .unbindMirror _ _ => [.regions, .extents]
  | .admitFrame _ _ => [.entries]
  | .barFrame _ _ => [.entries, .halves]
  | .forgetFrame _ _ => .lock :: entryEffects
  | .acknowledgeRestart _ _ => [.entries]
  | .leaveRack _ _ => [.rack, .lock, .seq]
  | .rejoinRack _ => [.rack, .lock]
  | .portControl _ _ action => controlEffects action
  | .timeSettings _ _ => [.settings]
  | .masterClaim _ _ _ => [.rack, .lock, .seq]
  | .rackArm _ _ _ _ => [.rack, .lock, .seq]
  | .rackHalt _ _ _ => [.rack, .lock, .seq]
  | .acknowledgeEvents _ _ => [.acknowledged]
  | .clearCounters _ => clearEffects
  | .restartPart _ => restartEffects
  | .unknown _ _ => []

theorem moves_rackDirective (tag code : Word16) (d : Option RackDirective) (noWait : Bool) (s : State) (h : [.rack, .lock, .seq] ⊆ L) :
    Moves L s (rackDirective tag code d noWait s) :=
  (moves_takeRack tag code d noWait s (h (by decide)) (h (by decide)) (h (by decide))).trans
    (moves_concludeFrom _ _ _ (h (by decide)) (h (by decide)))

/-- A fact that evaluates: an effect is among those of a command, whatever the operands. -/
theorem of_eval {p : Prop} [Decidable p] (h : decide p = true := by rfl) : p := of_decide_eq_true h

/-- R173: a directive dispatched moves the part by its effects. -/
theorem moves_dispatch (d : Directive) (s : State) (h : Directive.effects d ⊆ L) : Moves L s (dispatch d s) := by
  cases d with
  | bindTap tag a => exact moves_bindTap tag a s (h of_eval) (h of_eval)
  | unbindTap tag t => exact (course_onTapNumber _ _ _ _ s fun t => course_unbindTapAt tag t s (h of_eval) (h of_eval)).toMoves (h of_eval) (h of_eval)
  | armTap tag t time => exact moves_onTapNumber _ _ _ _ s fun t => moves_armTapAt tag time t s
  | startTap tag t => exact moves_onTapNumber _ _ _ _ s fun t => moves_startTapAt tag t s
  | stopTap tag t => exact (course_onTapNumber _ _ _ _ s fun t => course_stopTapAt tag t s (h of_eval)).toMoves (h of_eval) (h of_eval)
  | haltTap tag t => exact (course_onTapNumber _ _ _ _ s fun t => course_haltTapAt tag t s (h of_eval)).toMoves (h of_eval) (h of_eval)
  | setStridePresets tag a => exact moves_setStridePresets tag a s (h of_eval)
  | bindMirror tag a => exact moves_bindMirror tag a s (h of_eval) (h of_eval)
  | unbindMirror tag m => exact moves_unbindMirror tag m s (h of_eval) (h of_eval)
  | admitFrame tag f => exact moves_onOther _ _ _ _ s fun f => moves_onMember _ _ _ f s (.entry f _ (h of_eval) id)
  | barFrame tag f =>
    refine moves_onOther _ _ _ _ s fun f => moves_onMember tag 0x21 closeGates f s ?_
    exact ((moves_closeAccept f s (h of_eval) (h of_eval)).trans (.entry f _ (h of_eval) id))
  | forgetFrame tag f => exact (course_onOther _ _ _ _ s fun f => course_forgetAt tag f s fun _ k => h (List.mem_cons_of_mem _ k)).toMoves (h of_eval) (h of_eval)
  | acknowledgeRestart tag f => exact moves_acknowledgeRestart tag f s (h of_eval)
  | leaveRack tag force => exact moves_leaveRack tag force s (h of_eval) (h of_eval) (h of_eval)
  | rejoinRack tag => exact moves_rejoinRack tag s (h of_eval) (h of_eval)
  | portControl tag port action => exact moves_portControl tag port action s h
  | timeSettings tag a => exact (moves_setSettings a s (h of_eval)).trans (moves_post ..)
  | masterClaim tag f noWait => exact moves_rackDirective _ _ _ _ s h
  | rackArm tag g time noWait => exact moves_rackDirective _ _ _ _ s h
  | rackHalt tag g noWait => exact moves_rackDirective _ _ _ _ s h
  | acknowledgeEvents tag count => exact moves_acknowledgeEvents tag count s (h of_eval)
  | clearCounters tag => exact moves_clearCounters tag s h
  | restartPart tag => exact moves_restartPart tag s h
  | unknown tag code => exact moves_post ..

theorem moves_takeDirective (d : Directive) (s : State) (ht : .taken ∈ L) (h : Directive.effects d ⊆ L) : Moves L s (takeDirective d s) :=
  (Moves.report _ ⟨id, rfl, fun _ => ⟨rfl, rfl, rfl, rfl, rfl⟩, fun _ => ⟨rfl, rfl⟩, fun n => absurd ht n, fun _ => rfl, fun _ => rfl⟩).trans
    (moves_dispatch d _ h)

theorem moves_takePartial (enabled position : Nat) (s : State) (h : .partials ∈ L) : Moves L s (takePartial enabled position s) :=
  (Moves.report _ ⟨id, rfl, fun _ => ⟨rfl, rfl, rfl, rfl, rfl⟩, fun _ => ⟨rfl, rfl⟩, fun _ => rfl, fun n => absurd h n, fun _ => rfl⟩).trans
    (moves_raise ..)

/-! ### Every command -/

/-- The effects of a write burst, whose line may be any directive. -/
def writeEffects : List Effect :=
  [.toDram, .channel, .regions, .presets, .bindings, .extents, .halves, .ports, .entries, .rack, .settings, .timeCounters, .lock, .seq,
   .writes, .taken, .partials, .acknowledged, .restart]

theorem directive_effects_write (d : Directive) : Directive.effects d ⊆ writeEffects := by
  cases d with
  | portControl tag port action =>
    have controls (c : Prop) [Decidable c] :
        (if c then [.ports, .rack, .lock] else .lock :: portEffects) ⊆ writeEffects := by split <;> decide
    exact controls _
  | _ => exact of_decide_eq_true rfl

/-- What a command may touch, beside a part reset. -/
def effectsOf : Instr → List Effect
  | .partReset _ _ _ => []
  | .eepromAbsent => loadEffects
  | .configurationBlockRead _ => loadEffects
  | .restartCountRead _ => loadEffects
  | .restartCountWriteDone => loadEffects
  | .restartCountWriteFail => loadEffects
  | .channelResetAssert => [.toDram, .drive, .channel]
  | .channelResetRelease => [.toDram, .channel]
  | .openRow _ _ _ => [.toDram, .channel]
  | .read _ _ _ _ _ => readEffects
  | .write _ _ _ _ _ => [.toDram, .channel]
  | .writeAccess _ => writeEffects
  | .close _ _ => [.toDram, .channel]
  | .closeAll _ => [.toDram, .channel]
  | .refresh _ => [.toDram, .channel]
  | .selfRefreshEnter _ => [.toDram, .channel]
  | .selfRefreshExit _ => [.toDram, .channel]
  | .powerDownEnter _ => [.toDram, .channel]
  | .powerDownExit _ => [.toDram, .channel]
  | .modeSet _ _ => [.toDram, .channel]
  | .partialDirective _ _ => [.partials]
  | .signalDetected _ => [.signal, .ports]
  | .lossOfSignal _ => .signal :: .lock :: portEffects
  | .neighbourTraining _ => .lock :: portEffects
  | .alignmentComplete _ => [.ports, .rack, .lock]
  | .trainingTimeout _ => [.ports]
  | .helloTimer _ => [.rack, .lock]
  | .badCrcFrame _ => .lock :: portEffects
  | .malformedFrame _ _ => []
  | .sample _ _ _ => [.halves, .bytes, .rack, .lock]
  | .mark _ _ _ => [.halves, .rack, .lock]
  | .timeRequest _ _ _ => [.rack, .lock]
  | .timeReply _ _ _ => replyEffects
  | .hello _ _ _ => .lock :: portEffects
  | .rosterUpdate _ _ _ => .recent :: .lock :: entryEffects
  | .leaveAck _ _ _ => [.rack, .lock]
  | .rackRequest _ _ _ => [.rack, .lock]
  | .rackOrder _ _ _ => [.recent, .rack, .lock]
  | .rackRefusal _ _ _ => [.rack, .lock]
  | .transmissionComplete _ => [.rack, .lock]
  | .tapDrained _ => [.rack, .lock]
  | .armTimeReached _ => []
  | .leaveAnnounced => [.rack, .lock]
  | .leaveComplete => [.rack, .lock]
  | .refreshTimerExpiry => [.rack, .lock]
  | .exchangeTimerExpiry => [.rack, .lock, .exchange]
  | .resendTimerExpiry => [.rack, .lock]
  | .tick => [.time]
  | c => match recordOf c with
    | some d => .taken :: Directive.effects d
    | none => []

/-- A command is a part reset, or a chain of moves by its effects. -/
def MovesBy (c : Instr) : Prop := ∀ s, ∃ t, exec c s = .next t ∧ Moves (effectsOf c) s t

theorem movesBy_of {c : Instr} {f : State → State} (h : ∀ s, exec c s = .next (f s)) (m : ∀ s, Moves (effectsOf c) s (f s)) : MovesBy c :=
  fun s => ⟨f s, h s, m s⟩

/-- A directive's command is its record taken while the Directive region is valid. -/
theorem exec_of_recordOf {c : Instr} {d : Directive} (h : recordOf c = some d) (s : State) :
    exec c s = .next (throughRegion (takeDirective d) s) := by
  cases c <;> first | (cases h; rfl) | exact absurd h nofun

theorem movesBy_directive {c : Instr} {d : Directive} (h : recordOf c = some d) : MovesBy c := by
  have he : effectsOf c = .taken :: Directive.effects d := by cases c <;> first | (cases h; rfl) | exact absurd h nofun
  refine movesBy_of (exec_of_recordOf h) fun s => .ite (fun _ => ?_) fun _ => .refl s
  rw [he]
  exact moves_takeDirective d s List.mem_cons_self fun _ k => List.mem_cons_of_mem _ k

theorem moves_concluded {s u : State} {before noted : State} (h : [.rack, .lock] ⊆ L) (m : Moves L s u) : Moves L s (concludeFrom before noted u) :=
  m.trans (moves_concludeFrom _ _ _ (h (by decide)) (h (by decide)))

theorem movesBy_writeAccess (beats : List Beat) : MovesBy (.writeAccess beats) := by
  refine movesBy_of (fun _ => rfl) fun s => moves_channelCommand _ _ s (of_eval) fun u => ?_
  have passed (w : WriteBurst) (v : State) : Moves writeEffects v (passWrite w beats v) := by
    unfold passWrite
    split
    · unfold serveWrite
      split
      · exact .ite (fun _ => moves_takeDirective _ v (of_eval) (directive_effects_write _)) fun _ => moves_takePartial _ _ v (of_eval)
      · exact (moves_tapWrite _ _ _ _ v (of_eval)).trans (moves_conclude _ _ (of_eval) (of_eval))
      · exact moves_mirrorCounters _ _ v (of_eval)
      · exact .refl v
      · exact .refl v
    · exact .refl v
  unfold handOn
  split
  · exact .refl u
  · exact (Moves.channel _ (of_eval)).trans (passed _ _)

theorem moves_setSignal (p : Port) (b : Bool) (s : State) (h : .signal ∈ L) : Moves L s (setSignal p b s) :=
  .port p _ ⟨id, id, id, fun _ => rfl, fun n => absurd h n, fun _ => .inr rfl⟩

theorem moves_detectSignal (p : Port) (s : State) (h : .ports ∈ L) : Moves L s (detectSignal p s) :=
  .ite (fun hd => (enters_training p h).moves h (fun _ => by simp [PortRecord.up, hd.1]) (fun _ => by decide) (by simp [hd.1]))
    fun _ => .refl s

theorem moves_loseSignal (p : Port) (s : State) (h : portEffects ⊆ L) : Moves L s (loseSignal p s) := by
  have dark (hj : (s.port p).state ≠ .joined) : Moves L s (enterDark p s) :=
    (enters_dark p (h (by decide))).moves (h (by decide)) (fun n => absurd (h (by decide)) n) (fun n => absurd (h (by decide)) n) hj
  unfold loseSignal
  split
  · next hs => exact dark (by simp [hs])
  · next hs => exact dark (by simp [hs])
  · exact (enters_dark p (h (by decide))).moves_leave _ h
  · next hs => exact dark (by simp [hs])
  all_goals exact .refl _

/-! ### Port events, frames and timers, ahead of what concludes them (R62 to R64, R73 to R79, R159) -/

section
variable (p : Port) (h : Header) (s : State)

theorem moves_signalLost (hg : .signal ∈ L) (hL : portEffects ⊆ L) : Moves L s (loseSignal p (setSignal p false s)) :=
  (moves_setSignal p false s hg).trans (moves_loseSignal p _ hL)

theorem moves_neighbourTrains (hL : portEffects ⊆ L) : Moves L s (neighbourTrains p s) :=
  .ite (fun _ => (enters_training p (hL (by decide))).moves_leave s hL) fun _ => .refl s

theorem moves_align (hp : .ports ∈ L) (hr : .rack ∈ L) : Moves L s (align p s) :=
  .ite (fun h => moves_enterLinked p s hp hr (by simp [h])) fun _ => .refl s

theorem moves_helloExpires (hr : .rack ∈ L) : Moves L s (helloExpires p s) := .ite (fun _ => moves_placeHello p s hr) fun _ => .refl s

theorem moves_sampleReceived (b : SampleBody) (hh : .halves ∈ L) (hb : .bytes ∈ L) (hr : .rack ∈ L) :
    Moves L s (receive p ⟨h, .sample b⟩ (countNotJoined p) (foreignFrame p h (takeSample p h b)) s) :=
  moves_receive p _ _ _ s (fun _ _ => moves_portCounters ..) fun u _ => moves_foreignFrame p h _ u fun o => moves_takeSample p h b o u hr hh hb

theorem moves_markReceived (b : MarkBody) (hh : .halves ∈ L) (hr : .rack ∈ L) :
    Moves L s (receive p ⟨h, .mark b⟩ (countNotJoined p) (foreignFrame p h (takeMarkFrame p h b)) s) :=
  moves_receive p _ _ _ s (fun _ _ => moves_portCounters ..) fun u _ => moves_foreignFrame p h _ u fun o => moves_takeMarkFrame p h b o u hr hh

theorem moves_timeRequestReceived (b : TimeRequestBody) (hr : .rack ∈ L) :
    Moves L s (receive p ⟨h, .timeRequest b⟩ (countNotJoined p) (neighbourFrame p h (answerRequest p b)) s) :=
  moves_receive p _ _ _ s (fun _ _ => moves_portCounters ..) fun u _ => moves_neighbourFrame p h _ u (moves_answerRequest p b u hr)

theorem moves_timeReplyReceived (b : TimeReplyBody) (hL : replyEffects ⊆ L) :
    Moves L s (receive p ⟨h, .timeReply b⟩ (countNotJoined p) (neighbourFrame p h (takeReply p b)) s) :=
  moves_receive p _ _ _ s (fun _ _ => moves_portCounters ..) fun u _ => moves_neighbourFrame p h _ u (moves_takeReply p b u hL)

theorem moves_helloReceived (b : HelloBody) (hL : portEffects ⊆ L) :
    Moves L s (receive p ⟨h, .hello b⟩ (linkedHello p h b.items) (neighbourFrame p h (joinedHello p h b.items)) s) :=
  moves_receive p _ _ _ s (fun u hu => moves_linkedHello p h _ u hL hu) fun u hu => moves_neighbourFrame p h _ u (moves_joinedHello p h _ u hL hu)

theorem moves_rosterUpdateReceived (b : RosterUpdateBody) (hL : entryEffects ⊆ L) (hc : .recent ∈ L) :
    Moves L s (receive p ⟨h, .rosterUpdate b⟩ (countNotJoined p)
      (foreignFrame p h (takeBroadcast p ⟨h, .rosterUpdate b⟩ b.seq (fun o => some b.items[o].incarnation)
        fun o => takeRoster p (h.hops == 0) o b.items)) s) :=
  moves_receive p _ _ _ s (fun _ _ => moves_portCounters ..) fun u hu => moves_foreignFrame p h _ u fun o =>
    moves_takeBroadcast p _ _ _ _ o u (hL (by decide)) hc hu fun v hv => moves_takeRoster p _ o _ v hL hv

theorem moves_leaveAckReceived (b : LeaveAckBody) (hr : .rack ∈ L) :
    Moves L s (receive p ⟨h, .leaveAck b⟩ (countNotJoined p)
      (foreignFrame p h (takeUnicast p ⟨h, .leaveAck b⟩ b.dest fun _ => takeLeaveAck b.acking b.incarnation)) s) :=
  moves_receive p _ _ _ s (fun _ _ => moves_portCounters ..) fun u _ =>
    moves_foreignFrame p h _ u fun o => moves_takeUnicast p _ _ _ o u hr (moves_takeLeaveAck _ _ u hr)

theorem moves_refusalReceived (b : RackRefusalBody) (hr : .rack ∈ L) :
    Moves L s (receive p ⟨h, .rackRefusal b⟩ (countNotJoined p)
      (foreignFrame p h (takeUnicast p ⟨h, .rackRefusal b⟩ b.dest fun o => takeRefusal o b.reason b.seq)) s) :=
  moves_receive p _ _ _ s (fun _ _ => moves_portCounters ..) fun u _ =>
    moves_foreignFrame p h _ u fun o => moves_takeUnicast p _ _ _ o u hr (moves_takeRefusal _ _ _ u hr)

theorem moves_refreshElection (hr : .rack ∈ L) : Moves L s (refreshElection s) := by
  unfold refreshElection
  split
  · exact .ite (fun _ => moves_elect s hr) fun _ => .refl s
  · exact .refl s

theorem moves_resendAll (hr : .rack ∈ L) : Moves L s (resendAll s) := by
  unfold resendAll
  split
  · exact .ite (fun _ => .refl s) fun _ => .foldl (fun u e => moves_requestEntry _ e u hr) _ _
  · exact .refl s

end

/-- Every command but a part reset moves the part by its effects. -/
theorem movesBy_of_ne_partReset (c : Instr) (hc : ∀ f a b, c ≠ .partReset f a b) : MovesBy c := by
  have channel {e : State → State} (c : Instr) (he : ∀ u, Moves [.toDram, .channel] u (e u)) (s : State) :
      Moves [.toDram, .channel] s (channelCommand c e s) := moves_channelCommand c e s of_eval he
  cases c with
  | partReset f a b => exact absurd rfl (hc f a b)
  | eepromAbsent => exact movesBy_of (fun _ => rfl) fun s => .ite (fun _ => moves_absent s (List.Subset.refl _)) fun _ => .refl s
  | configurationBlockRead b => exact movesBy_of (fun _ => rfl) fun s => .ite (fun _ => moves_readBlock s (List.Subset.refl _) b) fun _ => .refl s
  | restartCountRead n => exact movesBy_of (fun _ => rfl) fun s => .ite (fun _ => moves_readCount s (List.Subset.refl _) n) fun _ => .refl s
  | restartCountWriteDone => exact movesBy_of (fun _ => rfl) fun s => moves_writeDone s (List.Subset.refl _)
  | restartCountWriteFail => exact movesBy_of (fun _ => rfl) fun s => moves_writeFail s (List.Subset.refl _)
  | channelResetAssert =>
    exact movesBy_of (fun _ => rfl) fun s => ((Moves.channel (s := s) Channel.assertReset of_eval).trans
      (.one (.toDram _ (some .channelResetAssert) of_eval))).trans (.one (.drive _ .idle of_eval))
  | channelResetRelease =>
    exact movesBy_of (fun _ => rfl) fun s => (Moves.channel (s := s) (fun c => { c with resetAsserted := false }) of_eval).trans
      (.one (.toDram _ (some .channelResetRelease) of_eval))
  | openRow r b n => exact movesBy_of (fun _ => rfl) (channel _ fun u => moves_atBank r b _ u of_eval fun _ _ => moves_openBank r _ _ _ u of_eval)
  | read r b c a k => exact movesBy_of (fun _ => rfl) fun s => moves_channelCommand _ _ s of_eval fun u => moves_readBurst r b c a k u (List.Subset.refl _)
  | write r b c a k => exact movesBy_of (fun _ => rfl) (channel _ fun u => moves_writeBurst r b c a k u of_eval)
  | writeAccess beats => exact movesBy_writeAccess beats
  | close r b => exact movesBy_of (fun _ => rfl) (channel _ fun u => moves_atBank r b _ u of_eval fun _ _ => .channel _ of_eval)
  | closeAll r => exact movesBy_of (fun _ => rfl) (channel _ fun u => moves_atRank r _ u of_eval fun _ => moves_awake r _ _ u of_eval (moves_setBanks _ _ u of_eval))
  | refresh r => exact movesBy_of (fun _ => rfl) (channel _ fun u => moves_atRank r _ u of_eval fun _ => moves_awake r _ _ u of_eval (moves_refreshRank r _ u of_eval))
  | selfRefreshEnter r => exact movesBy_of (fun _ => rfl) (channel _ fun u => moves_atRank r _ u of_eval fun _ => moves_awake r _ _ u of_eval (moves_enterSelfRefresh r _ u of_eval))
  | selfRefreshExit r => exact movesBy_of (fun _ => rfl) (channel _ fun u => moves_atRank r _ u of_eval fun _ => moves_exitSelfRefresh r _ u of_eval)
  | powerDownEnter r => exact movesBy_of (fun _ => rfl) (channel _ fun u => moves_atRank r _ u of_eval fun _ => moves_awake r _ _ u of_eval (moves_setRank _ _ u of_eval))
  | powerDownExit r => exact movesBy_of (fun _ => rfl) (channel _ fun u => moves_atRank r _ u of_eval fun _ => moves_exitPowerDown r _ u of_eval)
  | modeSet r v => exact movesBy_of (fun _ => rfl) (channel _ fun u => moves_setMode r v u of_eval)
  | partialDirective n k => exact movesBy_of (fun _ => rfl) fun s => .ite (fun _ => moves_takePartial _ _ s of_eval) fun _ => .refl s
  | signalDetected p =>
    exact movesBy_of (fun _ => rfl) fun s => (moves_setSignal p true s of_eval).trans (moves_detectSignal p _ of_eval)
  | lossOfSignal p =>
    exact movesBy_of (fun _ => rfl) fun s => moves_concluded of_eval (moves_signalLost p s of_eval of_eval)
  | neighbourTraining p =>
    exact movesBy_of (fun _ => rfl) fun s => moves_concluded of_eval (moves_neighbourTrains p s of_eval)
  | alignmentComplete p =>
    exact movesBy_of (fun _ => rfl) fun s => moves_concluded of_eval (moves_align p s of_eval of_eval)
  | trainingTimeout p =>
    refine movesBy_of (fun _ => rfl) fun s => .ite (fun h => .ite (fun _ => ?_) fun _ => ?_) fun _ => .refl s
    · exact moves_portView p _ s of_eval ⟨rfl, rfl⟩ id
    · exact ((enters_fault p .trainFail of_eval).moves of_eval (fun _ => by simp [PortRecord.up, h]) (fun _ => of_eval) (by simp [h])).trans
        (moves_portCounters ..)
  | helloTimer p =>
    exact movesBy_of (fun _ => rfl) fun s => moves_concluded of_eval (moves_helloExpires p s of_eval)
  | badCrcFrame p => exact movesBy_of (fun _ => rfl) fun s => moves_concluded of_eval (moves_badCrc p s of_eval)
  | malformedFrame p fault => exact movesBy_of (fun _ => rfl) fun s => moves_malformed p fault s
  | sample p h b =>
    exact movesBy_of (fun _ => rfl) fun s => moves_concluded of_eval (moves_sampleReceived p h s b of_eval of_eval of_eval)
  | mark p h b =>
    exact movesBy_of (fun _ => rfl) fun s => moves_concluded of_eval (moves_markReceived p h s b of_eval of_eval)
  | timeRequest p h b =>
    exact movesBy_of (fun _ => rfl) fun s => moves_concluded of_eval (moves_timeRequestReceived p h s b of_eval)
  | timeReply p h b =>
    exact movesBy_of (fun _ => rfl) fun s => moves_timeReplyReceived p h s b (List.Subset.refl _)
  | hello p h b =>
    exact movesBy_of (fun _ => rfl) fun s => moves_concluded of_eval (moves_helloReceived p h s b of_eval)
  | rosterUpdate p h b =>
    exact movesBy_of (fun _ => rfl) fun s => moves_concluded of_eval (moves_rosterUpdateReceived p h s b of_eval of_eval)
  | leaveAck p h b =>
    exact movesBy_of (fun _ => rfl) fun s => moves_concluded of_eval (moves_leaveAckReceived p h s b of_eval)
  | rackRequest p h b =>
    exact movesBy_of (fun _ => rfl) fun s => moves_concluded of_eval (moves_receive p _ _ _ s (fun u _ => moves_portCounters ..) fun u _ =>
      moves_foreignFrame p h _ u fun o => moves_takeUnicast p _ _ _ o u of_eval (moves_takeRequest _ _ _ u of_eval of_eval))
  | rackOrder p h b =>
    refine movesBy_of (fun _ => rfl) fun s => Moves.trans ?_ (moves_concludeOrder _ _ of_eval of_eval)
    exact moves_receive p _ _ _ s (fun u _ => moves_portCounters ..) fun u hu => moves_foreignFrame p h _ u fun o =>
      moves_takeBroadcast p _ _ _ _ o u of_eval of_eval hu fun v _ => moves_takeOrder _ _ v of_eval of_eval
  | rackRefusal p h b =>
    exact movesBy_of (fun _ => rfl) fun s => moves_concluded of_eval (moves_refusalReceived p h s b of_eval)
  | transmissionComplete p => exact movesBy_of (fun _ => rfl) fun s => moves_concluded of_eval (moves_completeFrame p s of_eval)
  | tapDrained t => exact movesBy_of (fun _ => rfl) fun s => moves_concluded of_eval (moves_settleTap t s of_eval)
  | armTimeReached t => exact movesBy_of (fun _ => rfl) fun s => moves_startIfDue t s
  | leaveAnnounced => exact movesBy_of (fun _ => rfl) fun s => moves_concluded of_eval (moves_announceLeave s of_eval of_eval)
  | leaveComplete => exact movesBy_of (fun _ => rfl) fun s => moves_concluded of_eval (moves_completeLeave s of_eval of_eval)
  | refreshTimerExpiry =>
    exact movesBy_of (fun _ => rfl) fun s => .ite (fun _ => moves_concluded of_eval (((moves_refreshElection s of_eval).trans
      (moves_announce _ _ of_eval of_eval)).trans (moves_makeRosterUpdate _ of_eval))) fun _ => .refl s
  | exchangeTimerExpiry =>
    exact movesBy_of (fun _ => rfl) fun s => .ite (fun _ => moves_concluded of_eval
      (((moves_changeLock _ s (kept_expire of_eval)).trans (moves_makeRequest _ of_eval of_eval)).trans
        (moves_startExchange _ of_eval))) fun _ => .refl s
  | resendTimerExpiry =>
    exact movesBy_of (fun _ => rfl) fun s => .ite (fun _ => moves_concluded of_eval (moves_resendAll s of_eval)) fun _ => .refl s
  | tick =>
    refine movesBy_of (fun _ => rfl) fun s => Moves.trans (.clock _ ?_) (moves_startDue _)
    exact ⟨fun h => ⟨h.1, h.2.1, moveTime_le ..⟩, fun n => absurd of_eval n, fun _ => rfl, fun _ => ⟨rfl, rfl⟩, fun _ => rfl, fun _ => ⟨rfl, rfl, rfl⟩⟩
  | _ => exact movesBy_directive rfl

end Sys2Proof.Machine

/-! PROOFS. What every step keeps of the counts, the clock, the store, the queues and lists, the halves, the taps' shapes and the routes: each
move keeps it, and a part reset meets it. -/

namespace Sys2Proof.Machine
variable {L : List Effect} {s t : State}

/-! ### A step -/

/-- A step is idle, a part reset, or a chain of moves by the effects of the command in front. -/
theorem step_cases (h : step s = .next t) : t = s ∨ (∃ straps signal q, t = State.resetWith straps signal q) ∨
    ∃ c q, exec c (s.withPending q) = .next t ∧ Moves (effectsOf c) (s.withPending q) t := by
  unfold step at h
  split at h
  · cases h; exact .inl rfl
  · next c q _ =>
    by_cases hc : ∃ f a b, c = .partReset f a b
    · obtain ⟨f, a, b, rfl⟩ := hc
      cases h; exact .inr (.inl ⟨_, _, _, rfl⟩)
    · obtain ⟨u, hu, m⟩ := movesBy_of_ne_partReset c (fun f a b e => hc ⟨f, a, b, e⟩) (s.withPending q)
      obtain rfl : u = t := by rw [h] at hu; cases hu; rfl
      exact .inr (.inr ⟨c, q, h, m⟩)

/-- What every move keeps, a part reset meets and the waiting commands do not touch, every step keeps. -/
theorem step_keeps {P : State → Prop} (move : ∀ L s t, Move L s t → P s → P t) (reset : ∀ a b q, P (State.resetWith a b q))
    (queue : ∀ s q, P s → P (s.withPending q)) (h : step s = .next t) (hs : P s) : P t := by
  rcases step_cases h with rfl | ⟨a, b, q, rfl⟩ | ⟨c, q, -, m⟩
  · exact hs
  · exact reset a b q
  · exact m.keeps (move _) (queue s q hs)

/-! ### What the changes of several blocks leave of each -/

section setPortState
variable (p : Port) (st : PortState) (cause : FaultCause) (s : State)

theorem setPortState_eq : setPortState p st cause s = { s.onPort p (fun r => { r with state := st, cause := cause }) with
    reporter := (setPortState p st cause s).reporter } := by
  unfold setPortState
  dsimp only
  split <;> rfl

@[simp] theorem setPortState_channel : (setPortState p st cause s).channel = s.channel := by rw [setPortState_eq]; rfl
@[simp] theorem setPortState_regions : (setPortState p st cause s).regions = s.regions := by rw [setPortState_eq]; rfl
@[simp] theorem setPortState_tapEngine : (setPortState p st cause s).tapEngine = s.tapEngine := by rw [setPortState_eq]; rfl
@[simp] theorem setPortState_mirrorStore : (setPortState p st cause s).mirrorStore = s.mirrorStore := by rw [setPortState_eq]; rfl
@[simp] theorem setPortState_roster : (setPortState p st cause s).roster = s.roster := by rw [setPortState_eq]; rfl
@[simp] theorem setPortState_clock : (setPortState p st cause s).clock = s.clock := by rw [setPortState_eq]; rfl
@[simp] theorem setPortState_orders : (setPortState p st cause s).orders = s.orders := by rw [setPortState_eq]; rfl
@[simp] theorem setPortState_toDram : (setPortState p st cause s).toDram = s.toDram := by rw [setPortState_eq]; rfl
@[simp] theorem setPortState_toController : (setPortState p st cause s).toController = s.toController := by rw [setPortState_eq]; rfl
@[simp] theorem setPortState_pending : (setPortState p st cause s).pending = s.pending := by rw [setPortState_eq]; rfl

@[simp] theorem setPortState_port : (setPortState p st cause s).port p = { s.port p with state := st, cause := cause } := by
  rw [setPortState_eq]; cases p <;> rfl

@[simp] theorem setPortState_port_other : (setPortState p st cause s).port (otherPort p) = s.port (otherPort p) := by
  rw [setPortState_eq]; cases p <;> rfl

theorem setPortState_reporter (h : s.reporter.right) : (setPortState p st cause s).reporter.right := by
  unfold setPortState
  dsimp only
  split
  · exact h
  · obtain ⟨ha, -, hc, hd⟩ := h
    exact ⟨ha.trans (le_countUp hc), rfl, countUp_le _, hd⟩

end setPortState

section lose
variable (p : Port) (s : State)

@[simp] theorem stripPort_channel : (stripPort p s).channel = s.channel := rfl
@[simp] theorem stripPort_regions : (stripPort p s).regions = s.regions := rfl
@[simp] theorem stripPort_mirrorStore : (stripPort p s).mirrorStore = s.mirrorStore := rfl
@[simp] theorem stripPort_link : (stripPort p s).link = s.link := rfl
@[simp] theorem stripPort_roster : (stripPort p s).roster = s.roster := rfl
@[simp] theorem stripPort_clock : (stripPort p s).clock = s.clock := rfl
@[simp] theorem stripPort_orders : (stripPort p s).orders = s.orders := rfl
@[simp] theorem stripPort_reporter : (stripPort p s).reporter = s.reporter := rfl
@[simp] theorem stripPort_pending : (stripPort p s).pending = s.pending := rfl

@[simp] theorem forgetHops_channel : (forgetHops p s).channel = s.channel := rfl
@[simp] theorem forgetHops_regions : (forgetHops p s).regions = s.regions := rfl
@[simp] theorem forgetHops_tapEngine : (forgetHops p s).tapEngine = s.tapEngine := rfl
@[simp] theorem forgetHops_mirrorStore : (forgetHops p s).mirrorStore = s.mirrorStore := rfl
@[simp] theorem forgetHops_link : (forgetHops p s).link = s.link := rfl
@[simp] theorem forgetHops_clock : (forgetHops p s).clock = s.clock := rfl
@[simp] theorem forgetHops_orders : (forgetHops p s).orders = s.orders := rfl
@[simp] theorem forgetHops_reporter : (forgetHops p s).reporter = s.reporter := rfl
@[simp] theorem forgetHops_pending : (forgetHops p s).pending = s.pending := rfl

end lose

/-! ### The counts and the clock (R114, R175, R177, R178) -/

theorem reporter_right_move (h : Move L s t) (hs : s.reporter.right) : t.reporter.right := by
  cases h with
  | report f k => exact k.right hs
  | lose p st cause => simpa using setPortState_reporter p st cause s hs
  | restart => exact ⟨Nat.le_refl 0, rfl, Nat.zero_le _, Nat.zero_le _⟩
  | _ => simpa [clearTap, clearMirror, bindMirrorAs] using hs

theorem clockRight_move (h : Move L s t) (hs : clockRight s.clock) : clockRight t.clock := by
  cases h with
  | clock f k => exact k.right hs
  | restart => exact hs
  | _ => simpa [clearTap, clearMirror, bindMirrorAs] using hs

/-! ### The store and the extents (R138, R139) -/

theorem store_wf_move (h : Move L s t) (hs : Memory.wf s.mirrorStore.store) : Memory.wf t.mirrorStore.store := by
  cases h with
  | store n l => simpa only [onMirrorStore_mirrorStore] using Memory.writeLine_wf n l hs
  | restart => exact hs
  | _ => simpa [clearTap, clearMirror, bindMirrorAs] using hs

/-- R138: what first fit finds from a line on: the lowest start line there at which `n` lines are free, or none where none is. -/
def FirstFree (extents : List Extent) (n k : Nat) : Option Nat → Prop
  | some b => k ≤ b ∧ freeAt extents n b ∧ ∀ c, k ≤ c → c < b → ¬ freeAt extents n c
  | none => ∀ c, k ≤ c → ¬ freeAt extents n c

theorem firstFree_freeGaps {extents : List Extent} {n k : Nat} (hn : 1 ≤ n)
    (hsort : extents.Pairwise fun e f => e.start + e.length ≤ f.start) (hfrom : ∀ e ∈ extents, k ≤ e.start)
    (hin : ∀ e ∈ extents, e.start + e.length ≤ 65536) :
    FirstFree extents n k (((freeGaps k extents).find? fun g => decide (n ≤ g.2)).map Prod.fst) := by
  induction extents generalizing k with
  | nil =>
    by_cases hroom : n ≤ 65536 - k
    · have hfit : n ≤ Config.storeLines - k := hroom
      simp only [freeGaps, List.find?_cons, hfit, decide_true, Option.map_some]
      exact ⟨Nat.le_refl k, ⟨by omega, by simp⟩, fun c h1 h2 => by omega⟩
    · have hfit : ¬ n ≤ Config.storeLines - k := hroom
      simp only [freeGaps, List.find?_cons, hfit, decide_false, List.find?_nil, Option.map_none]
      exact fun c hc h => by have := h.1; omega
  | cons e es ih =>
    obtain ⟨hafter, hsort'⟩ := List.pairwise_cons.mp hsort
    have hk : k ≤ e.start := hfrom e List.mem_cons_self
    by_cases hroom : n ≤ e.start - k
    · simp only [freeGaps, List.find?_cons, hroom, decide_true, Option.map_some]
      refine ⟨Nat.le_refl k, ⟨by have := hin e List.mem_cons_self; omega, fun f hf => .inl ?_⟩, fun c h1 h2 => by omega⟩
      rcases List.mem_cons.mp hf with rfl | hf
      · omega
      · have := hafter f hf; omega
    · simp only [freeGaps, List.find?_cons, hroom, decide_false]
      have later := ih hsort' (k := e.start + e.length) hafter fun f hf => hin f (List.mem_cons_of_mem _ hf)
      have below {c : Nat} (hc : k ≤ c) (h : freeAt (e :: es) n c) : e.start + e.length ≤ c ∧ freeAt es n c := by
        have := h.2 e List.mem_cons_self
        exact ⟨by omega, h.1, fun f hf => h.2 f (List.mem_cons_of_mem _ hf)⟩
      revert later
      generalize (List.find? _ _).map Prod.fst = found
      cases found with
      | none => exact fun later c hc h => later c (below hc h).1 (below hc h).2
      | some b =>
        intro ⟨hb, hfree, hleast⟩
        refine ⟨by omega, ⟨hfree.1, fun f hf => ?_⟩, fun c hc hlt h => hleast c (below hc h).1 hlt (below hc h).2⟩
        rcases List.mem_cons.mp hf with rfl | hf
        · exact .inr hb
        · exact hfree.2 f hf

/-- R138: first fit finds the lowest start line at which the length is free. -/
theorem firstFree_firstFit {extents : List Extent} {n : Nat} (hn : 1 ≤ n)
    (hsort : extents.Pairwise fun e f => e.start + e.length ≤ f.start) (hin : ∀ e ∈ extents, e.start + e.length ≤ 65536) :
    FirstFree extents n 0 (firstFit extents n) := firstFree_freeGaps hn hsort (fun _ _ => Nat.zero_le _) hin

theorem mem_insertExtent {e f : Extent} {extents : List Extent} : f ∈ insertExtent e extents ↔ f = e ∨ f ∈ extents := by
  induction extents with
  | nil => simp [insertExtent]
  | cons g gs ih =>
    unfold insertExtent
    split
    · simp
    · simp only [List.mem_cons, ih]; tauto

/-- R138: an item that stands in free lines joins the list in its order. -/
theorem insertExtent_pairwise {m : MirrorNo} {extents : List Extent} {n b : Nat} (hn : 1 ≤ n)
    (hsort : extents.Pairwise fun e f => e.start + e.length ≤ f.start) (hfree : ∀ e ∈ extents, b + n ≤ e.start ∨ e.start + e.length ≤ b) :
    (insertExtent ⟨m, b, n⟩ extents).Pairwise fun e f => e.start + e.length ≤ f.start := by
  induction extents with
  | nil => simp [insertExtent]
  | cons f fs ih =>
    obtain ⟨hafter, hsort'⟩ := List.pairwise_cons.mp hsort
    unfold insertExtent
    split
    · next hlt =>
      refine List.pairwise_cons.mpr ⟨fun x hx => ?_, hsort⟩
      have := hfree x hx
      rcases List.mem_cons.mp hx with rfl | hx
      · simp only at hlt ⊢; omega
      · have := hafter x hx; simp only at hlt ⊢; omega
    · next hge =>
      refine List.pairwise_cons.mpr ⟨fun x hx => ?_, ih hsort' fun e he => hfree e (List.mem_cons_of_mem _ he)⟩
      rcases mem_insertExtent.mp hx with rfl | hx
      · have := hfree f List.mem_cons_self; simp only at hge ⊢; omega
      · exact hafter x hx

theorem mirrors_of_asBound {k k' : Mirror} (h : k'.asBound = k.asBound) :
    k'.bound = k.bound ∧ k'.extentStart = k.extentStart ∧ k'.extentLength = k.extentLength ∧ k'.shapeLines = k.shapeLines := by
  simp only [Mirror.asBound, Prod.mk.injEq] at h
  obtain ⟨hb, -, -, -, hl, hc, -, -, -, hs, he⟩ := h
  exact ⟨hb, hs, he, by simp [Mirror.shapeLines, hl, hc]⟩

theorem mirror_set_self (s : State) (m : MirrorNo) (k : Mirror) (f : MirrorStore → Memory × List Extent) :
    (s.onMirrorStore fun e => ⟨e.mirrors.set m k, (f e).1, (f e).2⟩).mirror m = k := by
  simp [State.mirror]

theorem mirror_set_other (s : State) {m n : MirrorNo} (k : Mirror) (f : MirrorStore → Memory × List Extent) (h : n ≠ m) :
    (s.onMirrorStore fun e => ⟨e.mirrors.set m k, (f e).1, (f e).2⟩).mirror n = s.mirror n := by
  have : m.val ≠ n.val := fun j => h (Fin.ext j.symm)
  simp [State.mirror, this]

theorem extentsRight_move (h : Move L s t) (hs : extentsRight s) : extentsRight t := by
  obtain ⟨hsort, hright⟩ := hs
  cases h with
  | bindMirror m k e _ _ hk =>
    have hfree := firstFree_firstFit hk.long hsort fun e he => (hright e he).1
    rw [hk.placed] at hfree
    obtain ⟨-, ⟨hroom, hapart⟩, -⟩ := hfree
    refine ⟨insertExtent_pairwise hk.long hsort hapart, fun f hf => ?_⟩
    change (_ : Prop) ∧ ((s.onMirrorStore fun x => ⟨x.mirrors.set m k, x.store, insertExtent _ x.extents⟩).mirror f.mirror).bound = true ∧ _
    rcases mem_insertExtent.mp hf with rfl | hf
    · refine ⟨hroom, ?_⟩
      have hm := mirror_set_self s m k fun x => (x.store, insertExtent ⟨m, k.extentStart, k.extentLength⟩ x.extents)
      exact ⟨(congrArg Mirror.bound hm).trans hk.bound, congrArg Mirror.extentStart hm, congrArg Mirror.extentLength hm⟩
    · have hne : f.mirror ≠ m := fun j => by have := (hright f hf).2.1; rw [j, hk.free] at this; cases this
      have hm := mirror_set_other s k (fun x => (x.store, insertExtent ⟨m, k.extentStart, k.extentLength⟩ x.extents)) hne
      exact ⟨(hright f hf).1, hm.symm ▸ (hright f hf).2⟩
  | clearMirror m =>
    refine ⟨hsort.filter _, fun f hf => ?_⟩
    obtain ⟨hf, hne⟩ := List.mem_filter.mp hf
    have hm := mirror_set_other s Mirror.unbound (fun x => (x.store, removeExtent m x.extents)) (by simpa using hne)
    exact ⟨(hright f hf).1, hm.symm ▸ (hright f hf).2⟩
  | mirrors v _ hv =>
    refine ⟨hsort, fun f hf => ?_⟩
    obtain ⟨hb, hst, hle, -⟩ := mirrors_of_asBound (hv f.mirror).bound
    obtain ⟨hroom, hbound, hstart, hlength⟩ := hright f hf
    exact ⟨hroom, hb.trans hbound, hst.trans hstart, hle.trans hlength⟩
  | restart => exact ⟨List.Pairwise.nil, by simp [restartBlocks, MirrorStore.restart]⟩
  | store n l =>
    simp only [extentsRight, State.mirror, onMirrorStore_mirrorStore]
    exact ⟨hsort, hright⟩
  | _ => simpa [extentsRight, State.mirror, clearTap] using And.intro hsort hright

/-! ### Queues, scores and lists (R37, R54, R70, R75, R80, R81, R158) -/

/-- A port is one of the two. -/
theorem port_cases (p q : Port) : q = p ∨ q = otherPort p := by cases p <;> cases q <;> decide

theorem ports_move (h : Move L s t) (hs : ∀ p, queuesRight (s.port p) ∧ scoreRight (s.port p)) :
    ∀ p, queuesRight (t.port p) ∧ scoreRight (t.port p) := by
  cases h with
  | link f k => exact fun p => ⟨(k p).queues (hs p).1, (k p).score (hs p).2⟩
  | lose q st cause =>
    intro p
    change queuesRight ((setPortState q st cause s).port p) ∧ scoreRight ((setPortState q st cause s).port p)
    rcases port_cases q p with rfl | rfl
    · rw [setPortState_port]; exact hs p
    · rw [setPortState_port_other]; exact hs _
  | restart =>
    intro p
    obtain ⟨-, hscore⟩ := hs p
    have hqueues : queuesRight (s.port p).restart := ⟨Nat.zero_le _, Nat.zero_le _⟩
    cases p <;> exact ⟨hqueues, hscore⟩
  | _ => simpa [State.port, clearTap, clearMirror, bindMirrorAs] using hs

theorem listsRight_move (h : Move L s t) (hs : listsRight s) : listsRight t := by
  obtain ⟨hlen, hnodup, hpending⟩ := hs
  cases h with
  | roster f k => exact ⟨(k.bound ⟨hlen, hnodup⟩).1, (k.bound ⟨hlen, hnodup⟩).2, hpending⟩
  | orders f k => exact ⟨hlen, hnodup, k.bound hpending⟩
  | restart => exact ⟨Nat.zero_le _, List.nodup_nil, Nat.zero_le _⟩
  | lose q st cause => exact ⟨by simpa [forgetHops] using hlen, by simpa [forgetHops] using hnodup, by simpa using hpending⟩
  | _ => simpa [listsRight, clearTap, clearMirror, bindMirrorAs] using And.intro hlen (And.intro hnodup hpending)

theorem sum_eight_le {g h : TapNo → Nat} (t : TapNo) (c : Nat) (hle : ∀ u, u ≠ t → g u ≤ h u) (ht : g t ≤ c) :
    (eight.map g).sum ≤ (eight.map h).sum + c := by
  have each (u : TapNo) : g u ≤ h u + if u = t then c else 0 := by
    split
    · next e => subst e; omega
    · next e => exact hle u e
  have one : (eight.map fun u => if u = t then c else 0).sum = c := by fin_cases t <;> simp [eight]
  calc (eight.map g).sum ≤ (eight.map fun u => h u + if u = t then c else 0).sum := List.sum_le_sum fun u _ => each u
    _ = (eight.map h).sum + c := by rw [List.sum_map_add, one]

theorem bufferRight_move (h : Move L s t) (hs : bufferRight s) : bufferRight t := by
  obtain ⟨hsum, hqueue⟩ := hs
  cases h with
  | bindTap n k e _ _ hk =>
    refine ⟨(sum_eight_le n k.queueSize (fun u hu => ?_) ?_).trans hk.room, fun u => ?_⟩
    · change ((s.onTap n fun _ => k).tap u).queueSize ≤ _
      rw [onTap_other s _ hu]
    · change ((s.onTap n fun _ => k).tap n).queueSize ≤ _
      rw [onTap_self]
    · change ((s.onTap n fun _ => k).tap u).queue.length ≤ ((s.onTap n fun _ => k).tap u).queueSize
      by_cases e : u = n
      · subst e; simp [hk.queue]
      · rw [onTap_other s _ e]; exact hqueue u
  | clearTap n =>
    refine ⟨Nat.le_trans (sum_eight_le (h := fun u => (s.tap u).queueSize) n 0 (fun u hu => ?_) ?_) hsum, fun u => ?_⟩
    · change ((s.onTap n fun _ => Tap.unbound).tap u).queueSize ≤ _
      rw [onTap_other s _ hu]
    · change ((s.onTap n fun _ => Tap.unbound).tap n).queueSize ≤ _
      rw [onTap_self]; exact Nat.le_refl 0
    · change ((s.onTap n fun _ => Tap.unbound).tap u).queue.length ≤ ((s.onTap n fun _ => Tap.unbound).tap u).queueSize
      by_cases e : u = n
      · subst e; simp [Tap.unbound]
      · rw [onTap_other s _ e]; exact hqueue u
  | taps v hv =>
    have size (u : TapNo) : v[u].queueSize = (s.tap u).queueSize := congrArg (·.2.2.2.2.1) (hv u).bound
    refine ⟨?_, fun u => ?_⟩
    · change (eight.map fun u : TapNo => v[u].queueSize).sum ≤ _
      rw [List.map_congr_left fun u _ => size u]; exact hsum
    · change v[u].queue.length ≤ v[u].queueSize
      rw [size u]; exact (hv u).queue (hqueue u)
  | lose q st cause =>
    have strip (u : TapNo) : (forgetHops q (stripPort q (setPortState q st cause s))).tap u =
        { s.tap u with queue := ((s.tap u).queue.map (QueueEntry.strip q)).filter QueueEntry.waits } := by
      simp [State.tap, stripPort]
    refine ⟨?_, fun u => ?_⟩
    · unfold State.reserved
      rw [List.map_congr_left fun u _ => congrArg Tap.queueSize (strip u)]; exact hsum
    · rw [strip u]
      exact ((List.length_filter_le _ _).trans (List.length_map _).le).trans (hqueue u)
  | restart =>
    have tap (u : TapNo) : (restartBlocks s).tap u = Tap.unbound := by simp [restartBlocks, State.tap, TapEngine.reset]
    refine ⟨?_, fun u => by simp [tap, Tap.unbound]⟩
    simp [State.reserved, tap, Tap.unbound]
  | _ => simpa [bufferRight, State.reserved, State.tap, clearMirror, bindMirrorAs] using And.intro hsum hqueue

/-- An entry that waits keeps waiting where the Joined ports stay Joined. -/
theorem State.entryWaits.mono {e : QueueEntry} (h : s.entryWaits e) (hj : ∀ p, s.joined p = true → t.joined p = true) : t.entryWaits e :=
  ⟨h.1, fun p hp => hj p (h.2 p hp)⟩

theorem tap_lose (q : Port) (st : PortState) (cause : FaultCause) (s : State) (u : TapNo) :
    (forgetHops q (stripPort q (setPortState q st cause s))).tap u =
      { s.tap u with queue := ((s.tap u).queue.map (QueueEntry.strip q)).filter QueueEntry.waits } := by
  simp [State.tap, stripPort]

theorem joined_lose (q : Port) (st : PortState) (cause : FaultCause) (s : State) :
    (forgetHops q (stripPort q (setPortState q st cause s))).joined (otherPort q) = s.joined (otherPort q) := by
  change (((setPortState q st cause s).port (otherPort q)).state == .joined) = _
  rw [setPortState_port_other]; rfl

theorem pendingRight_move (h : Move L s t) (hs : pendingRight s) : pendingRight t := by
  cases h with
  | bindTap n k e _ _ hk =>
    intro u
    change ∀ e ∈ ((s.onTap n fun _ => k).tap u).queue, s.entryWaits e
    by_cases e : u = n
    · subst e; simp [hk.queue]
    · rw [onTap_other s _ e]; exact hs u
  | clearTap n =>
    intro u
    change ∀ e ∈ ((s.onTap n fun _ => Tap.unbound).tap u).queue, s.entryWaits e
    by_cases e : u = n
    · subst e; simp [Tap.unbound]
    · rw [onTap_other s _ e]; exact hs u
  | taps v hv => exact fun u => (hv u).pending (hs u)
  | link f k =>
    refine fun u e he => State.entryWaits.mono (hs u e he) fun p hp => ?_
    have := (k p).joined (by simpa [State.joined] using hp)
    simpa [State.joined] using this
  | lose q st cause =>
    intro u e he
    rw [tap_lose] at he
    obtain ⟨hmem, hwaits⟩ := List.mem_filter.mp he
    obtain ⟨e', he', rfl⟩ := List.mem_map.mp hmem
    refine ⟨by simpa [QueueEntry.waits] using hwaits, fun p hp => ?_⟩
    rcases port_cases q p with rfl | rfl
    · simp [QueueEntry.strip] at hp
    · rw [joined_lose]
      exact (hs u e' he').2 _ (by simpa [QueueEntry.strip] using hp)
  | restart => exact fun u e he => by simp [restartBlocks, State.tap, TapEngine.reset, Tap.unbound] at he
  | _ => simpa [pendingRight, State.tap, State.joined, State.port, clearMirror, bindMirrorAs] using hs

/-! ### Halves, shapes and routes (R25, R33, R46, R91, R97, R143, R147, R148) -/

theorem halfRight_empty (k : Mirror) : halfRight k HalfRecord.empty := ⟨List.Pairwise.nil, by simp [HalfRecord.empty], rfl, by simp [HalfRecord.empty]⟩

theorem mirrorsRight_move (h : Move L s t) (hs : mirrorsRight s) : mirrorsRight t := by
  cases h with
  | bindMirror m k e _ _ hk =>
    intro n h
    have hbound (j : MirrorNo) : (bindMirrorAs m k e s).mirror j = if j = m then k else s.mirror j := by
      by_cases hj : j = m
      · subst hj; simp [State.mirror, bindMirrorAs]
      · have : m.val ≠ j.val := fun i => hj (Fin.ext i.symm)
        simp [State.mirror, bindMirrorAs, hj, this]
    rw [hbound]
    split
    · rw [hk.halves]; exact halfRight_empty k
    · exact hs n h
  | clearMirror m =>
    intro n h
    have hclear (j : MirrorNo) : (clearMirror m s).mirror j = if j = m then Mirror.unbound else s.mirror j := by
      by_cases hj : j = m
      · subst hj; simp [State.mirror, clearMirror]
      · have : m.val ≠ j.val := fun i => hj (Fin.ext i.symm)
        simp [State.mirror, clearMirror, hj, this]
    rw [hclear]
    split
    · cases h <;> exact halfRight_empty _
    · exact hs n h
  | mirrors v _ hv => exact fun m h => (hv m).right (hs m) h
  | restart =>
    intro m h
    have : (restartBlocks s).mirror m = Mirror.unbound := by simp [restartBlocks, State.mirror, MirrorStore.restart]
    rw [this]
    cases h <;> exact halfRight_empty _
  | store n l => simpa only [mirrorsRight, State.mirror, onMirrorStore_mirrorStore] using hs
  | _ => simpa [mirrorsRight, State.mirror, clearTap] using hs

theorem tapRegion_ne_mirrorRegion (t : TapNo) (m : MirrorNo) : tapRegion t ≠ mirrorRegion m := by
  simp only [tapRegion, mirrorRegion, ne_eq, Fin.mk.injEq]; omega

theorem tapRegion_injective {t u : TapNo} (h : tapRegion t = tapRegion u) : t = u := by
  simp only [tapRegion, Fin.mk.injEq] at h; exact Fin.ext (by omega)

theorem tapRight_unbound (stride : Nat) : tapRight Tap.unbound Region.empty stride := by simp [tapRight, Tap.unbound, Region.empty]

theorem tapRight_congr {k k' : Tap} {e e' : Region} {v v' : Vector Nat 4} (hk : k' = k) (he : e' = e) (hv : v' = v)
    (h : tapRight k e v[k.preset]) : tapRight k' e' v'[k'.preset] := by subst hk he hv; exact h

/-- A tap whose record keeps its shape, its standing and its cursor stays right. -/
theorem TapKept.tapRight {k k' : Tap} {n : TapNo} (h : TapKept L s n k k') (stride : Vector Nat 4)
    (hk : tapRight k (s.region (tapRegion n)) stride[k.preset]) : tapRight k' (s.region (tapRegion n)) stride[k'.preset] := by
  have hb := h.bound
  simp only [Tap.bound, Prod.mk.injEq] at hb
  obtain ⟨hlen, hcount, hpreset, -⟩ := hb
  unfold Machine.tapRight at hk ⊢
  by_cases hu : k.state = .unbound
  · rw [if_pos hu] at hk
    rwa [if_pos (h.unbound.mpr hu)]
  · rw [if_neg hu] at hk
    have hstride : stride[k'.preset] = stride[k.preset] := by simp only [hpreset]
    rw [if_neg fun j => hu (h.unbound.mp j), hlen, hcount, hstride]
    obtain ⟨hvalid, hrange, hfits, hcursor⟩ := hk
    obtain ⟨hr, hx, hh⟩ := h.cursor hu hcursor
    exact ⟨hvalid, hrange, hfits, hcount ▸ hr, hlen ▸ hx, hh⟩

theorem tapsRight_move (h : Move L s t) (hs : tapsRight s) : tapsRight t := by
  cases h with
  | place i e _ hi =>
    intro u
    have hne : tapRegion u ≠ i := fun j => by have := congrArg Fin.val j; simp only [tapRegion] at this; omega
    rw [setRegion_other s e hne]; exact hs u
  | bindTap n k e _ _ hk =>
    intro u
    by_cases hu : u = n
    · subst hu; exact tapRight_congr (onTap_self s u fun _ => k) (setRegion_self ..) rfl hk.right
    · exact tapRight_congr (onTap_other s (fun _ => k) hu) (setRegion_other _ e fun j => hu (tapRegion_injective j)) rfl (hs u)
  | clearTap n =>
    intro u
    by_cases hu : u = n
    · subst hu; exact tapRight_congr (onTap_self s u fun _ => Tap.unbound) (setRegion_self ..) (v := s.tapEngine.presets) rfl (tapRight_unbound _)
    · exact tapRight_congr (onTap_other s (fun _ => Tap.unbound) hu) (setRegion_other _ _ fun j => hu (tapRegion_injective j)) rfl (hs u)
  | bindMirror m k e =>
    intro u
    unfold bindMirrorAs
    rw [setRegion_other _ e (tapRegion_ne_mirrorRegion u m)]; exact hs u
  | clearMirror m =>
    intro u
    unfold clearMirror
    rw [setRegion_other _ _ (tapRegion_ne_mirrorRegion u m)]; exact hs u
  | presets a _ ha =>
    intro u
    change tapRight (s.tap u) (s.region (tapRegion u)) (s.newPresets a)[(s.tap u).preset]
    by_cases hc : s.presetChanges a u = true
    · by_cases hu : (s.tap u).state = .unbound
      · have := hs u; rw [tapRight, if_pos hu] at this ⊢; exact this
      · have hfit := ha u hu hc
        have := hs u
        rw [tapRight, if_neg hu] at this ⊢
        obtain ⟨hvalid, hrange, -, hcursor⟩ := this
        simp only [State.misfit, Bool.or_eq_false_iff, decide_eq_false_iff_not, Bool.not_eq_false'] at hfit
        simp only [shapeInRange, Bool.and_eq_true, decide_eq_true_eq] at hrange ⊢
        exact ⟨hvalid, ⟨hrange.1, by omega⟩, hfit.2, hcursor⟩
    · simp only [State.presetChanges, bne_iff_ne, ne_eq, not_not] at hc
      rw [hc]; exact hs u
  | taps v hv => exact fun u => (hv u).tapRight s.tapEngine.presets (hs u)
  | lose q st cause =>
    intro u
    have hregion : (forgetHops q (stripPort q (setPortState q st cause s))).region (tapRegion u) = s.region (tapRegion u) := by
      simp [State.region]
    have hpresets : (forgetHops q (stripPort q (setPortState q st cause s))).tapEngine.presets = s.tapEngine.presets := by
      simp [stripPort]
    exact tapRight_congr (tap_lose q st cause s u) hregion hpresets (hs u)
  | restart =>
    intro u
    have htap : (restartBlocks s).tap u = Tap.unbound := by simp [restartBlocks, State.tap, TapEngine.reset]
    have hregion : (restartBlocks s).region (tapRegion u) = Region.empty := by
      simp only [restartBlocks, State.region, restartRegions, tapRegion, Fin.getElem_fin, Vector.getElem_ofFn]
      exact if_neg (by omega)
    exact tapRight_congr htap hregion (v := TapEngine.reset.presets) rfl (tapRight_unbound _)
  | store n l => simpa only [tapsRight, State.tap, State.region, onMirrorStore_tapEngine, onMirrorStore_regions] using hs
  | _ => simpa [tapsRight, State.tap, State.region] using hs

theorem routesRight_move (h : Move L s t) (hs : routesRight s) : routesRight t := by
  cases h with
  | entries v _ hv => exact fun n => hv n (hs n)
  | roster f k =>
    intro n
    have : (s.onRoster f).entry n = s.entry n := by simp [State.entry, k.entries]
    rw [this]; exact hs n
  | link f k =>
    refine fun n => ⟨(hs n).1, fun p hp => ?_⟩
    have := (k p).joined (by simpa [State.joined] using (hs n).2 p hp)
    simpa [State.joined] using this
  | lose q st cause =>
    intro n
    have hentry : (forgetHops q (stripPort q (setPortState q st cause s))).entry n =
        { s.entry n with hops := (s.entry n).hops.set q none, route := routeOf ((s.entry n).hops.set q none) } := by
      simp [State.entry, forgetHops]
    rw [hentry]
    refine ⟨rfl, fun p hp => ?_⟩
    rcases port_cases q p with rfl | rfl
    · simp at hp
    · rw [joined_lose]; exact (hs n).2 _ (by simpa using hp)
  | restart =>
    intro n
    have : (restartBlocks s).entry n = RosterEntry.absent := by simp [restartBlocks, State.entry, Roster.restart]
    rw [this]
    exact ⟨rfl, fun p hp => by cases p <;> simp [RosterEntry.absent, PerPort.get] at hp⟩
  | _ => simpa [routesRight, State.entry, State.joined, State.port, clearTap, clearMirror, bindMirrorAs] using hs

end Sys2Proof.Machine

/-! PROOFS. A part reset meets every invariant; the statements on the counts, the store, the queues and lists, the halves, the shapes and the
routes, and on the queue of commands. -/

namespace Sys2Proof.Machine

/-! ### After a part reset (R20, R21, R61, R113, R135, R157, R171, R189) -/

section reset
variable (a : Straps) (b : PerPort Bool) (q : List Instr)

theorem reset_tap (t : TapNo) : (State.resetWith a b q).tap t = Tap.unbound := by simp [State.resetWith, State.tap, TapEngine.reset]

theorem reset_mirror (m : MirrorNo) : (State.resetWith a b q).mirror m = Mirror.unbound := by
  simp [State.resetWith, State.mirror, MirrorStore.reset]

theorem reset_entry (f : FrameNo) : (State.resetWith a b q).entry f = RosterEntry.absent := by
  simp [State.resetWith, State.entry, Roster.reset]

theorem reset_region (i : Fin 18) : (State.resetWith a b q).region i = Region.empty := by simp [State.resetWith, State.region]

theorem reset_port (p : Port) : (State.resetWith a b q).port p = PortRecord.reset (a.disable.get p) (b.get p) := by cases p <;> rfl

theorem reset_port_state (p : Port) :
    ((State.resetWith a b q).port p).state = .disabled ∨ ((State.resetWith a b q).port p).state = .dark := by
  rw [reset_port]
  cases h : a.disable.get p
  · exact .inr rfl
  · exact .inl rfl

theorem reset_joined (p : Port) : (State.resetWith a b q).joined p = false := by
  rcases reset_port_state a b q p with h | h <;> simp [State.joined, h]

theorem reporterRight_reset : reporterRight (State.resetWith a b q) := ⟨Nat.le_refl 0, rfl, Nat.zero_le _, Nat.zero_le _⟩

theorem clockRight_reset : clockRight (State.resetWith a b q).clock := by
  change clockRight RackTime.reset
  exact of_eval (p := (_ ∧ _) ∧ (_ ∧ _) ∧ _)

theorem store_wf_reset : Memory.wf (State.resetWith a b q).mirrorStore.store := ⟨List.Pairwise.nil, by simp [State.resetWith, MirrorStore.reset]⟩

theorem ports_reset (p : Port) : queuesRight ((State.resetWith a b q).port p) ∧ scoreRight ((State.resetWith a b q).port p) := by
  rw [reset_port]
  exact ⟨⟨Nat.zero_le _, Nat.zero_le _⟩, Nat.zero_le _, Nat.zero_le _⟩

theorem bufferRight_reset : bufferRight (State.resetWith a b q) :=
  ⟨by simp [State.reserved, reset_tap, Tap.unbound], fun t => by simp [reset_tap, Tap.unbound]⟩

theorem pendingRight_reset : pendingRight (State.resetWith a b q) := fun t e he => by simp [reset_tap, Tap.unbound] at he

theorem extentsRight_reset : extentsRight (State.resetWith a b q) := ⟨List.Pairwise.nil, by simp [State.resetWith, MirrorStore.reset]⟩

theorem mirrorsRight_reset : mirrorsRight (State.resetWith a b q) := by
  intro m h
  rw [reset_mirror]
  cases h <;> exact halfRight_empty _

theorem tapsRight_reset : tapsRight (State.resetWith a b q) := fun t =>
  tapRight_congr (reset_tap a b q t) (reset_region a b q _) (v := TapEngine.reset.presets) rfl (tapRight_unbound _)

theorem regionsRight_reset : regionsRight (State.resetWith a b q) := by
  refine ⟨by simp [State.resetWith, Roster.reset, Reporter.reset], fun _ => ⟨fun i => ?_, reset_port_state a b q⟩, fun i j _ h => ?_⟩
  · rw [reset_region]; rfl
  · rw [reset_region] at h; cases h

theorem routesRight_reset : routesRight (State.resetWith a b q) := by
  intro f
  rw [reset_entry]
  exact ⟨rfl, fun p hp => by cases p <;> simp [RosterEntry.absent, PerPort.get] at hp⟩

theorem listsRight_reset : listsRight (State.resetWith a b q) := ⟨Nat.zero_le _, List.nodup_nil, Nat.zero_le _⟩

theorem timersRight_reset : timersRight (State.resetWith a b q) :=
  ⟨by simp [State.refreshRuns, State.resetWith, Roster.reset], by simp [State.resendRuns, State.resetWith, RackOrders.reset]⟩

theorem leaveRight_reset : leaveRight (State.resetWith a b q) := by
  refine ⟨fun _ => rfl, by simp [State.resetWith, Roster.reset], by simp [State.resetWith, Roster.reset], fun _ => rfl, fun _ t => ?_⟩
  rw [reset_tap]; exact ⟨nofun, nofun⟩

theorem masterRight_reset : masterRight (State.resetWith a b q) := by
  simp [masterRight, State.resetWith, Roster.reset, RackTime.reset]

theorem idlePortsEmpty_reset : idlePortsEmpty (State.resetWith a b q) := by
  intro p _
  rcases reset_port_state a b q p with h | h <;> rw [h] <;> exact ⟨nofun, nofun⟩

end reset

/-- Settles O15: the state after reset is a part reset's. -/
theorem resetMeetsTheInvariants : Obligations.ResetMeetsTheInvariants :=
  ⟨reporterRight_reset _ _ _, clockRight_reset _ _ _, store_wf_reset _ _ _, ports_reset _ _ _, bufferRight_reset _ _ _, pendingRight_reset _ _ _,
    extentsRight_reset _ _ _, mirrorsRight_reset _ _ _, tapsRight_reset _ _ _, regionsRight_reset _ _ _, routesRight_reset _ _ _, listsRight_reset _ _ _,
    timersRight_reset _ _ _, leaveRight_reset _ _ _, masterRight_reset _ _ _, idlePortsEmpty_reset _ _ _⟩

/-! ### The invariants that every move keeps -/

/-- Settles O16: each move keeps the counts of the reporter, and the bounds of the clock. -/
theorem countsStayBounded : Obligations.CountsStayBounded :=
  ⟨fun _ _ hs h => step_keeps (P := reporterRight) (fun _ _ _ => reporter_right_move) reporterRight_reset (fun _ _ => id) h hs,
    fun _ _ hs h => step_keeps (P := fun s => clockRight s.clock) (fun _ _ _ => clockRight_move) clockRight_reset (fun _ _ => id) h hs⟩

/-- Settles O17: only a Sample's lines are written to the store; an extent joins where first fit found it and goes with its mirror. -/
theorem storeAndExtentsStayRight : Obligations.StoreAndExtentsStayRight :=
  ⟨fun _ _ hs h => step_keeps (P := fun s => Memory.wf s.mirrorStore.store) (fun _ _ _ => store_wf_move) store_wf_reset (fun _ _ => id) h hs,
    fun _ _ hs h => step_keeps (fun _ _ _ => extentsRight_move) extentsRight_reset (fun _ _ => id) h hs⟩

/-- Settles O18: each move keeps the places of its block; a port that leaves Joined is taken from every tap entry. -/
theorem queuesAndListsStayBounded : Obligations.QueuesAndListsStayBounded :=
  ⟨fun _ _ hs h => step_keeps (P := fun s => ∀ p, queuesRight (s.port p) ∧ scoreRight (s.port p)) (fun _ _ _ => ports_move)
      (fun a b q p => ports_reset a b q p) (fun _ _ => id) h hs,
    fun _ _ hs h => step_keeps (fun _ _ _ => listsRight_move) listsRight_reset (fun _ _ => id) h hs,
    fun _ _ hs h => step_keeps (fun _ _ _ => bufferRight_move) bufferRight_reset (fun _ _ => id) h hs,
    fun _ _ hs h => step_keeps (fun _ _ _ => pendingRight_move) pendingRight_reset (fun _ _ => id) h hs⟩

/-- Settles O19: each move keeps the halves of every mirror right. -/
theorem presentMapsStayRight : Obligations.PresentMapsStayRight := fun _ _ hs h =>
  step_keeps (fun _ _ _ => mirrorsRight_move) mirrorsRight_reset (fun _ _ => id) h hs

/-- Settles O20: a tap is bound only with a region that it fits, and the presets change only where every bound tap still fits. -/
theorem tapShapesStayFitting : Obligations.TapShapesStayFitting := fun _ _ hs h =>
  step_keeps (fun _ _ _ => tapsRight_move) tapsRight_reset (fun _ _ => id) h hs

/-- Settles O21: each change of an entry sets its route with its hop counts, and a port that leaves Joined takes its hop counts along. -/
theorem routesStayJoined : Obligations.RoutesStayJoined := by
  refine ⟨fun _ _ hs h => step_keeps (fun _ _ _ => routesRight_move) routesRight_reset (fun _ _ => id) h hs,
    fun x y => ⟨rfl, rfl, rfl, fun hle => ?_, fun hlt => ?_⟩⟩
  · simp [routeOf, Nat.not_lt.mpr hle]
  · simp [routeOf, hlt]

/-! ### The queue of commands -/

/-- Settles O1. -/
theorem frontCommandIsRun : Obligations.FrontCommandIsRun := ⟨fun _ _ _ => rfl, fun _ => rfl⟩

theorem pending_move {L : List Effect} {s t : State} (h : Move L s t) : t.pending = s.pending := by
  cases h <;> simp [clearTap, clearMirror, bindMirrorAs, restartBlocks]

/-- Settles O2: a part reset keeps the waiting commands, and no move touches them. -/
theorem everyCommandCompletes : Obligations.EveryCommandCompletes := by
  intro c s
  by_cases hc : ∃ f a b, c = .partReset f a b
  · obtain ⟨f, a, b, rfl⟩ := hc
    exact ⟨_, rfl, rfl⟩
  · obtain ⟨t, ht, m⟩ := movesBy_of_ne_partReset c (fun f a b e => hc ⟨f, a, b, e⟩) s
    exact ⟨t, ht, m.leaves fun _ _ => pending_move⟩

end Sys2Proof.Machine

/-! PROOFS. What each command leaves as it stands: a part of the state moves only where the effects of the command allow it. -/

namespace Sys2Proof.Machine
variable {L : List Effect} {s t : State}

/-! ### What a move leaves -/

theorem setPortState_reporter_kept (p : Port) (st : PortState) (cause : FaultCause) (s : State) :
    ReportKept [] s.reporter (setPortState p st cause s).reporter := by
  unfold setPortState
  dsimp only
  split
  · exact ⟨id, rfl, fun _ => ⟨rfl, rfl, rfl, rfl, rfl⟩, fun _ => ⟨rfl, rfl⟩, fun _ => rfl, fun _ => rfl, fun _ => rfl⟩
  · exact ⟨fun ⟨ha, _, hc, hd⟩ => ⟨ha.trans (le_countUp hc), rfl, countUp_le _, hd⟩, rfl, fun _ => ⟨rfl, rfl, rfl, rfl, rfl⟩,
      fun _ => ⟨rfl, rfl⟩, fun _ => rfl, fun _ => rfl, fun _ => rfl⟩

theorem straps_move (h : Move L s t) : t.reporter.straps = s.reporter.straps := by
  cases h with
  | report f k => exact k.straps
  | lose p st cause => exact (setPortState_reporter_kept p st cause s).straps
  | _ => simp [clearTap, clearMirror, bindMirrorAs, restartBlocks, Reporter.restart]

theorem channel_move (hc : .channel ∉ L) (hr : .restart ∉ L) (h : Move L s t) : t.channel = s.channel := by
  cases h with
  | channel f k => exact absurd k hc
  | restart k => exact absurd k hr
  | _ => simp [clearTap, clearMirror, bindMirrorAs]

theorem toDram_move (hc : .toDram ∉ L) (h : Move L s t) : t.toDram = s.toDram := by
  cases h with
  | toDram c k => exact absurd k hc
  | lose p st cause => exact setPortState_toDram p st cause s
  | _ => simp [clearTap, clearMirror, bindMirrorAs, restartBlocks]

theorem toController_move (hc : .drive ∉ L) (h : Move L s t) : t.toController = s.toController := by
  cases h with
  | drive c k => exact absurd k hc
  | lose p st cause => exact setPortState_toController p st cause s
  | _ => simp [clearTap, clearMirror, bindMirrorAs, restartBlocks]

theorem regions_move (hp : .place ∉ L) (hg : .regions ∉ L) (hr : .restart ∉ L) (h : Move L s t) : t.regions = s.regions := by
  cases h with
  | place i e k => exact absurd k hp
  | bindTap n k e j => exact absurd j hg
  | clearTap n j => exact absurd j hg
  | bindMirror n k e j => exact absurd j hg
  | clearMirror n j => exact absurd j hg
  | restart k => exact absurd k hr
  | _ => simp

theorem presets_move (hp : .presets ∉ L) (hr : .restart ∉ L) (h : Move L s t) : t.tapEngine.presets = s.tapEngine.presets := by
  cases h with
  | presets a k => exact absurd k hp
  | restart k => exact absurd k hr
  | lose p st cause => simp [stripPort]
  | _ => simp [clearTap, clearMirror, bindMirrorAs]

theorem bindings_move (hb : .bindings ∉ L) (hr : .restart ∉ L) (h : Move L s t) (n : TapNo) : (t.tap n).bound = (s.tap n).bound := by
  cases h with
  | bindTap n k e _ j => exact absurd j hb
  | clearTap n _ j => exact absurd j hb
  | taps v hv => exact (hv n).bound
  | lose p st cause => rw [tap_lose]; rfl
  | restart k => exact absurd k hr
  | _ => simp [State.tap, clearMirror, bindMirrorAs]

theorem store_move (hb : .bytes ∉ L) (h : Move L s t) : t.mirrorStore.store = s.mirrorStore.store := by
  cases h with
  | store n l k => exact absurd k hb
  | restart => rfl
  | _ => simp [clearTap, clearMirror, bindMirrorAs]

theorem extents_move (hx : .extents ∉ L) (hr : .restart ∉ L) (h : Move L s t) :
    t.mirrorStore.extents = s.mirrorStore.extents ∧ ∀ m, (t.mirror m).asBound = (s.mirror m).asBound := by
  cases h with
  | bindMirror m k e _ j => exact absurd j hx
  | clearMirror m _ j => exact absurd j hx
  | mirrors v _ hv => exact ⟨rfl, fun m => (hv m).bound⟩
  | restart k => exact absurd k hr
  | store n l => simp only [State.mirror, onMirrorStore_mirrorStore, implies_true, and_self]
  | _ => simp [State.mirror, clearTap]

theorem mirrors_move (hh : .halves ∉ L) (hx : .extents ∉ L) (hr : .restart ∉ L) (h : Move L s t) :
    t.mirrorStore.mirrors = s.mirrorStore.mirrors := by
  cases h with
  | bindMirror m k e _ j => exact absurd j hx
  | clearMirror m _ j => exact absurd j hx
  | mirrors v k => exact absurd k hh
  | restart k => exact absurd k hr
  | _ => simp [clearTap]

theorem signal_move (hg : .signal ∉ L) (h : Move L s t) (p : Port) : (t.port p).signal = (s.port p).signal := by
  cases h with
  | link f k => exact (k p).signal hg
  | lose q st cause =>
    change ((setPortState q st cause s).port p).signal = _
    rcases port_cases q p with rfl | rfl
    · rw [setPortState_port]
    · rw [setPortState_port_other]
  | restart => cases p <;> rfl
  | _ => simp [State.port, clearTap, clearMirror, bindMirrorAs]

theorem portView_move (hp : .ports ∉ L) (h : Move L s t) (p : Port) : t.portView p = s.portView p := by
  cases h with
  | link f k => exact (k p).view hp
  | lose q st cause k => exact absurd k hp
  | restart => cases p <;> rfl
  | _ => simp [State.portView, State.port, clearTap, clearMirror, bindMirrorAs]

theorem entries_move (he : .entries ∉ L) (hr : .restart ∉ L) (h : Move L s t) : t.roster.entries = s.roster.entries := by
  cases h with
  | entries v k => exact absurd k he
  | lose q st cause _ k => exact absurd k he
  | roster f k => exact k.entries
  | restart k => exact absurd k hr
  | _ => simp [clearTap, clearMirror, bindMirrorAs]

/-- What of the Roster Unit the load sets. -/
def Roster.identity (r : Roster) : Word16 × Word16 × Bool × Bool := (r.incarnation, r.heldCount, r.masterCapable, r.autoAdmit)

theorem identity_move (hi : .identity ∉ L) (hr : .restart ∉ L) (h : Move L s t) : t.roster.identity = s.roster.identity := by
  cases h with
  | roster f k =>
    obtain ⟨h1, h2, h3, h4⟩ := k.identity hi
    simp [Roster.identity, h1, h2, h3, h4]
  | lose p st cause => simp [Roster.identity, forgetHops]
  | restart k => exact absurd k hr
  | _ => simp [Roster.identity, clearTap, clearMirror, bindMirrorAs]

theorem recent_move (hi : .recent ∉ L) (hr : .restart ∉ L) (h : Move L s t) : t.roster.recent = s.roster.recent := by
  cases h with
  | roster f k => exact k.recent hi
  | lose p st cause => simp [forgetHops]
  | restart k => exact absurd k hr
  | _ => simp [clearTap, clearMirror, bindMirrorAs]

theorem time_move (hi : .time ∉ L) (h : Move L s t) : t.clock.time = s.clock.time := by
  cases h with
  | clock f k => exact k.time hi
  | restart => rfl
  | _ => simp [clearTap, clearMirror, bindMirrorAs]

theorem settings_move (hi : .settings ∉ L) (h : Move L s t) : t.clock.settings = s.clock.settings := by
  cases h with
  | clock f k => exact k.settings hi
  | restart => rfl
  | _ => simp [clearTap, clearMirror, bindMirrorAs]

theorem exchange_move (hi : .exchange ∉ L) (h : Move L s t) :
    (t.clock.exchangeTimer, t.clock.exponent) = (s.clock.exchangeTimer, s.clock.exponent) := by
  cases h with
  | clock f k => rw [onClock_clock, (k.exchange hi).1, (k.exchange hi).2]
  | restart => rfl
  | _ => simp [clearTap, clearMirror, bindMirrorAs]

theorem timeCounters_move (hi : .timeCounters ∉ L) (hr : .restart ∉ L) (h : Move L s t) : t.clock.counters = s.clock.counters := by
  cases h with
  | clock f k => exact k.counters hi
  | restart k => exact absurd k hr
  | _ => simp [clearTap, clearMirror, bindMirrorAs]

/-- What of the Directive and Report Unit the load sets. -/
def Reporter.load (d : Reporter) : LoadStatus × LoadStep × Option StoredConfig × BitVec 5 × Bool :=
  (d.loadStatus, d.loadStep, d.stored, d.configFaults, d.countUnreadable)

theorem load_of_kept {d d' : Reporter} (hi : .load ∉ L) (k : ReportKept L d d') : d'.load = d.load := by
  obtain ⟨h1, h2, h3, h4, h5⟩ := k.load hi
  simp [Reporter.load, h1, h2, h3, h4, h5]

theorem load_move (hi : .load ∉ L) (h : Move L s t) : t.reporter.load = s.reporter.load := by
  cases h with
  | report f k => exact load_of_kept hi k
  | lose p st cause => exact load_of_kept List.not_mem_nil (setPortState_reporter_kept p st cause s)
  | restart => rfl
  | _ => simp [clearTap, clearMirror, bindMirrorAs]

theorem writes_move (hi : .writes ∉ L) (h : Move L s t) :
    (t.reporter.writeInProgress, t.reporter.writeWaiting) = (s.reporter.writeInProgress, s.reporter.writeWaiting) := by
  have kept {L : List Effect} {d d' : Reporter} (hi : .writes ∉ L) (k : ReportKept L d d') :
      (d'.writeInProgress, d'.writeWaiting) = (d.writeInProgress, d.writeWaiting) := by rw [(k.writes hi).1, (k.writes hi).2]
  cases h with
  | report f k => exact kept hi k
  | lose p st cause => exact kept List.not_mem_nil (setPortState_reporter_kept p st cause s)
  | restart => rfl
  | _ => simp [clearTap, clearMirror, bindMirrorAs]

theorem taken_move (hi : .taken ∉ L) (hr : .restart ∉ L) (h : Move L s t) : t.reporter.directivesTaken = s.reporter.directivesTaken := by
  cases h with
  | report f k => exact k.taken hi
  | lose p st cause => exact (setPortState_reporter_kept p st cause s).taken List.not_mem_nil
  | restart k => exact absurd k hr
  | _ => simp [clearTap, clearMirror, bindMirrorAs]

theorem partials_move (hi : .partials ∉ L) (hr : .restart ∉ L) (h : Move L s t) :
    t.reporter.partialDirectives = s.reporter.partialDirectives := by
  cases h with
  | report f k => exact k.partials hi
  | lose p st cause => exact (setPortState_reporter_kept p st cause s).partials List.not_mem_nil
  | restart k => exact absurd k hr
  | _ => simp [clearTap, clearMirror, bindMirrorAs]

theorem acknowledged_move (hi : .acknowledged ∉ L) (hr : .restart ∉ L) (h : Move L s t) :
    t.reporter.acknowledged = s.reporter.acknowledged := by
  cases h with
  | report f k => exact k.acknowledged hi
  | lose p st cause => exact (setPortState_reporter_kept p st cause s).acknowledged List.not_mem_nil
  | restart k => exact absurd k hr
  | _ => simp [clearTap, clearMirror, bindMirrorAs]

theorem nextSeq_move (hi : .seq ∉ L) (hr : .restart ∉ L) (h : Move L s t) : t.orders.nextSeq = s.orders.nextSeq := by
  cases h with
  | orders f k => exact k.seq hi
  | restart k => exact absurd k hr
  | _ => simp [clearTap, clearMirror, bindMirrorAs]

/-! ### The effects that a command does not have -/

theorem of_true_eq_false {p : Prop} (h : true = false) : p := Bool.noConfusion h

section effects
variable {c : Instr}

theorem restart_not_mem (h1 : isSweeping c = false) : .restart ∉ effectsOf c := by
  cases c <;> first | exact of_eval rfl | exact of_true_eq_false h1

theorem channel_not_mem (h1 : onCommandLines c = false) (h2 : isSweeping c = false) (h3 : isEepromEvent c = false)
    (h4 : c ≠ .channelResetAssert) (h5 : c ≠ .channelResetRelease) (h6 : ∀ tag, c ≠ .clearCounters tag) : .channel ∉ effectsOf c := by
  cases c <;> first | exact of_eval rfl | exact of_true_eq_false h1 | exact of_true_eq_false h2 | exact of_true_eq_false h3 |
    exact absurd rfl h4 | exact absurd rfl h5 | exact absurd rfl (h6 _)

theorem toDram_not_mem (h1 : onCommandLines c = false) (h4 : c ≠ .channelResetAssert) (h5 : c ≠ .channelResetRelease) :
    .toDram ∉ effectsOf c := by
  cases c <;> first | exact of_eval rfl | exact of_true_eq_false h1 | exact absurd rfl h4 | exact absurd rfl h5

theorem drive_not_mem (h1 : ∀ r b k a h, c ≠ .read r b k a h) (h2 : c ≠ .channelResetAssert) : .drive ∉ effectsOf c := by
  cases c <;> first | exact of_eval rfl | exact absurd rfl (h1 _ _ _ _ _) | exact absurd rfl h2

theorem place_not_mem (h1 : isEepromEvent c = false) : .place ∉ effectsOf c := by
  cases c <;> first | exact of_eval rfl | exact of_true_eq_false h1

theorem regions_not_mem (h1 : isSweeping c = false) (h2 : ∀ tag a, c ≠ .bindTap tag a) (h3 : ∀ tag k, c ≠ .unbindTap tag k)
    (h4 : ∀ tag a, c ≠ .bindMirror tag a) (h5 : ∀ tag m, c ≠ .unbindMirror tag m) : .regions ∉ effectsOf c := by
  cases c <;> first | exact of_eval rfl | exact of_true_eq_false h1 | exact absurd rfl (h2 _ _) | exact absurd rfl (h3 _ _) |
    exact absurd rfl (h4 _ _) | exact absurd rfl (h5 _ _)

theorem presets_not_mem (h1 : isSweeping c = false) (h2 : ∀ tag a, c ≠ .setStridePresets tag a) : .presets ∉ effectsOf c := by
  cases c <;> first | exact of_eval rfl | exact of_true_eq_false h1 | exact absurd rfl (h2 _ _)

theorem bindings_not_mem (h1 : isSweeping c = false) (h2 : ∀ tag a, c ≠ .bindTap tag a) (h3 : ∀ tag k, c ≠ .unbindTap tag k) :
    .bindings ∉ effectsOf c := by
  cases c <;> first | exact of_eval rfl | exact of_true_eq_false h1 | exact absurd rfl (h2 _ _) | exact absurd rfl (h3 _ _)

theorem bytes_not_mem (h1 : ∀ p h b, c ≠ .sample p h b) : .bytes ∉ effectsOf c := by
  cases c <;> first | exact of_eval rfl | exact absurd rfl (h1 _ _ _)

theorem extents_not_mem (h1 : isSweeping c = false) (h2 : ∀ tag a, c ≠ .bindMirror tag a) (h3 : ∀ tag m, c ≠ .unbindMirror tag m) :
    .extents ∉ effectsOf c := by
  cases c <;> first | exact of_eval rfl | exact of_true_eq_false h1 | exact absurd rfl (h2 _ _) | exact absurd rfl (h3 _ _)

theorem halves_not_mem (h1 : isSweeping c = false) (h2 : movesEntries c = false) (h3 : ∀ tag, c ≠ .clearCounters tag)
    (h4 : ∀ r b k a h, c ≠ .read r b k a h) (h5 : ∀ p h b, c ≠ .sample p h b) (h6 : ∀ p h b, c ≠ .mark p h b) : .halves ∉ effectsOf c := by
  cases c <;> first | exact of_eval rfl | exact of_true_eq_false h1 | exact of_true_eq_false h2 | exact absurd rfl (h3 _) |
    exact absurd rfl (h4 _ _ _ _ _) | exact absurd rfl (h5 _ _ _) | exact absurd rfl (h6 _ _ _)

theorem signal_not_mem (h1 : ∀ p, c ≠ .signalDetected p) (h2 : ∀ p, c ≠ .lossOfSignal p) : .signal ∉ effectsOf c := by
  cases c <;> first | exact of_eval rfl | exact absurd rfl (h1 _) | exact absurd rfl (h2 _)

theorem ports_not_mem (h1 : isSweeping c = false) (h2 : isEepromEvent c = false) (h3 : movesPorts c = false) : .ports ∉ effectsOf c := by
  cases c <;> first | exact of_eval rfl | exact of_true_eq_false h1 | exact of_true_eq_false h2 | exact of_true_eq_false h3

theorem entries_not_mem (h1 : isSweeping c = false) (h2 : movesEntries c = false) : .entries ∉ effectsOf c := by
  cases c <;> first | exact of_eval rfl | exact of_true_eq_false h1 | exact of_true_eq_false h2

theorem identity_not_mem (h1 : isEepromEvent c = false) : .identity ∉ effectsOf c := by
  cases c <;> first | exact of_eval rfl | exact of_true_eq_false h1

theorem recent_not_mem (h1 : ∀ p h b, c ≠ .rosterUpdate p h b) (h2 : ∀ p h b, c ≠ .rackOrder p h b) : .recent ∉ effectsOf c := by
  cases c <;> first | exact of_eval rfl | exact absurd rfl (h1 _ _ _) | exact absurd rfl (h2 _ _ _)

theorem time_not_mem (h1 : ∀ p h b, c ≠ .timeReply p h b) (h2 : c ≠ .tick) : .time ∉ effectsOf c := by
  cases c <;> first | exact of_eval rfl | exact absurd rfl (h1 _ _ _) | exact absurd rfl h2

theorem settings_not_mem (h1 : isSweeping c = false) (h2 : isEepromEvent c = false) (h3 : ∀ tag a, c ≠ .timeSettings tag a) :
    .settings ∉ effectsOf c := by
  cases c <;> first | exact of_eval rfl | exact of_true_eq_false h1 | exact of_true_eq_false h2 | exact absurd rfl (h3 _ _)

theorem exchange_not_mem (h1 : isEepromEvent c = false) (h2 : c ≠ .exchangeTimerExpiry) : .exchange ∉ effectsOf c := by
  cases c <;> first | exact of_eval rfl | exact of_true_eq_false h1 | exact absurd rfl h2

theorem timeCounters_not_mem (h1 : isSweeping c = false) (h2 : ∀ tag, c ≠ .clearCounters tag) (h3 : ∀ p h b, c ≠ .timeReply p h b) :
    .timeCounters ∉ effectsOf c := by
  cases c <;> first | exact of_eval rfl | exact of_true_eq_false h1 | exact absurd rfl (h2 _) | exact absurd rfl (h3 _ _ _)

theorem load_not_mem (h1 : isEepromEvent c = false) : .load ∉ effectsOf c := by
  cases c <;> first | exact of_eval rfl | exact of_true_eq_false h1

theorem writes_not_mem (h1 : isSweeping c = false) (h2 : isEepromEvent c = false) : .writes ∉ effectsOf c := by
  cases c <;> first | exact of_eval rfl | exact of_true_eq_false h1 | exact of_true_eq_false h2

theorem taken_not_mem (h1 : isSweeping c = false) (h2 : recordOf c = none) : .taken ∉ effectsOf c := by
  cases c <;> first | exact of_eval rfl | exact of_true_eq_false h1 | exact absurd h2 (Option.some_ne_none _)

theorem partials_not_mem (h1 : isSweeping c = false) (h2 : ∀ n k, c ≠ .partialDirective n k) (h3 : ∀ tag, c ≠ .clearCounters tag) :
    .partials ∉ effectsOf c := by
  cases c <;> first | exact of_eval rfl | exact of_true_eq_false h1 | exact absurd rfl (h2 _ _) | exact absurd rfl (h3 _)

theorem acknowledged_not_mem (h1 : isSweeping c = false) (h2 : ∀ tag n, c ≠ .acknowledgeEvents tag n) : .acknowledged ∉ effectsOf c := by
  cases c <;> first | exact of_eval rfl | exact of_true_eq_false h1 | exact absurd rfl (h2 _ _)

theorem seq_not_mem (h1 : isSweeping c = false) (h2 : ∀ tag f, c ≠ .leaveRack tag f) (h3 : ∀ tag f w, c ≠ .masterClaim tag f w)
    (h4 : ∀ tag g x w, c ≠ .rackArm tag g x w) (h5 : ∀ tag g w, c ≠ .rackHalt tag g w) : .seq ∉ effectsOf c := by
  cases c <;> first | exact of_eval rfl | exact of_true_eq_false h1 | exact absurd rfl (h2 _ _) | exact absurd rfl (h3 _ _ _) |
    exact absurd rfl (h4 _ _ _ _) | exact absurd rfl (h5 _ _ _)

end effects

/-! ### What a command leaves -/

section leaves
variable {c : Instr} (m : Moves (effectsOf c) s t)
include m

theorem leavesChannelSide : LeavesChannelSide c s t where
  straps _ := m.leaves fun _ _ => straps_move
  channel h1 h2 h3 h4 h5 h6 := m.leaves fun _ _ => channel_move (channel_not_mem h1 h2 h3 h4 h5 h6) (restart_not_mem h2)
  toDram h1 h2 h3 _ := m.leaves fun _ _ => toDram_move (toDram_not_mem h1 h2 h3)
  toController h1 h2 _ := m.leaves fun _ _ => toController_move (drive_not_mem h1 h2)
  regions h1 h2 h3 h4 h5 h6 := m.leaves fun _ _ => regions_move (place_not_mem h2) (regions_not_mem h1 h3 h4 h5 h6) (restart_not_mem h1)
  presets h1 h2 := m.leaves (g := fun s => s.tapEngine.presets) fun _ _ => presets_move (presets_not_mem h1 h2) (restart_not_mem h1)

theorem leavesStores : LeavesStores c s t where
  bindings h1 h2 h3 n := m.leaves (g := fun s => (s.tap n).bound) fun _ _ h =>
    bindings_move (bindings_not_mem h1 h2 h3) (restart_not_mem h1) h n
  bytes _ h2 a := congrArg (Memory.read · a) (m.leaves (g := fun s => s.mirrorStore.store) fun _ _ => store_move (bytes_not_mem h2))
  extents h1 h2 h3 :=
    have kept {s t : State} (h : Move (effectsOf c) s t) := extents_move (extents_not_mem h1 h2 h3) (restart_not_mem h1) h
    ⟨m.leaves (g := fun s => s.mirrorStore.extents) fun _ _ h => (kept h).1,
      fun n => m.leaves (g := fun s => (s.mirror n).asBound) fun _ _ h => (kept h).2 n⟩
  mirrors h1 h2 h3 h4 h5 h6 h7 h8 := m.leaves (g := fun s => s.mirrorStore.mirrors) fun _ _ =>
    mirrors_move (halves_not_mem h1 h2 h5 h6 h7 h8) (extents_not_mem h1 h3 h4) (restart_not_mem h1)

theorem leavesReports : LeavesReports c s t where
  load _ h2 := by
    have := m.leaves (g := fun s => s.reporter.load) fun _ _ => load_move (load_not_mem h2)
    simpa only [Reporter.load, Prod.mk.injEq] using this
  writes h1 h2 := by
    have := m.leaves (g := fun s => (s.reporter.writeInProgress, s.reporter.writeWaiting)) fun _ _ => writes_move (writes_not_mem h1 h2)
    simpa only [Prod.mk.injEq] using this
  taken h1 h2 := m.leaves (g := fun s => s.reporter.directivesTaken) fun _ _ => taken_move (taken_not_mem h1 h2) (restart_not_mem h1)
  partials h1 h2 h3 := m.leaves (g := fun s => s.reporter.partialDirectives) fun _ _ =>
    partials_move (partials_not_mem h1 h2 h3) (restart_not_mem h1)
  acknowledged h1 h2 := m.leaves (g := fun s => s.reporter.acknowledged) fun _ _ =>
    acknowledged_move (acknowledged_not_mem h1 h2) (restart_not_mem h1)
  nextSeq h1 h2 h3 h4 h5 := m.leaves (g := fun s => s.orders.nextSeq) fun _ _ => nextSeq_move (seq_not_mem h1 h2 h3 h4 h5) (restart_not_mem h1)

theorem leavesRackSide (hsignal : ∀ p, c ≠ .signalDetected p → c ≠ .lossOfSignal p → (t.port p).signal = (s.port p).signal) :
    LeavesRackSide c s t where
  signal := hsignal
  ports h1 h2 h3 p := m.leaves (g := fun s => s.portView p) fun _ _ h => portView_move (ports_not_mem h1 h2 h3) h p
  entries h1 h2 := m.leaves (g := fun s => s.roster.entries) fun _ _ => entries_move (entries_not_mem h1 h2) (restart_not_mem h1)
  identity h1 h2 := by
    have := m.leaves (g := fun s => s.roster.identity) fun _ _ => identity_move (identity_not_mem h2) (restart_not_mem h1)
    simpa only [Roster.identity, Prod.mk.injEq] using this
  recent h1 h2 h3 := m.leaves (g := fun s => s.roster.recent) fun _ _ => recent_move (recent_not_mem h2 h3) (restart_not_mem h1)
  time _ h2 h3 := m.leaves (g := fun s => s.clock.time) fun _ _ => time_move (time_not_mem h2 h3)
  settings h1 h2 h3 := m.leaves (g := fun s => s.clock.settings) fun _ _ => settings_move (settings_not_mem h1 h2 h3)
  exchange _ h2 h3 := by
    have := m.leaves (g := fun s => (s.clock.exchangeTimer, s.clock.exponent)) fun _ _ => exchange_move (exchange_not_mem h2 h3)
    simpa only [Prod.mk.injEq] using this
  timeCounters h1 h2 h3 := m.leaves (g := fun s => s.clock.counters) fun _ _ =>
    timeCounters_move (timeCounters_not_mem h1 h2 h3) (restart_not_mem h1)

end leaves

/-- The signal of a cable moves only at its own port's events (notes/assumptions/1.md). -/
theorem signal_kept {c : Instr} (h : exec c s = .next t) (m : Moves (effectsOf c) s t) (p : Port) (h1 : c ≠ .signalDetected p)
    (h2 : c ≠ .lossOfSignal p) : (t.port p).signal = (s.port p).signal := by
  have other (q : Port) (b : Bool) (hq : q ≠ p) : ((setSignal q b s).port p).signal = (s.port p).signal := by
    rcases port_cases q p with rfl | rfl
    · exact absurd rfl hq
    · exact congrArg PortRecord.signal (onPort_other s q _)
  have after {L : List Effect} {u v : State} (hL : .signal ∉ L) (m : Moves L u v) : (v.port p).signal = (u.port p).signal :=
    m.leaves (g := fun s => (s.port p).signal) fun _ _ h => signal_move hL h p
  by_cases hd : ∃ q, c = .signalDetected q
  · obtain ⟨q, rfl⟩ := hd
    have e : detectSignal q (setSignal q true s) = t := Host.Outcome.next.inj h
    rw [← e]
    exact (after (L := [.ports]) of_eval (moves_detectSignal q _ of_eval)).trans (other q true fun e => h1 (e ▸ rfl))
  by_cases hl : ∃ q, c = .lossOfSignal q
  · obtain ⟨q, rfl⟩ := hl
    have e : conclude s (loseSignal q (setSignal q false s)) = t := Host.Outcome.next.inj h
    rw [← e]
    have m : Moves (.lock :: portEffects) (setSignal q false s) (conclude s (loseSignal q (setSignal q false s))) :=
      moves_concluded of_eval (moves_loseSignal q _ of_eval)
    exact (after of_eval m).trans (other q false fun e => h2 (e ▸ rfl))
  · exact after (signal_not_mem (fun q e => hd ⟨q, e⟩) fun q e => hl ⟨q, e⟩) m

/-- A part reset leaves the signal of each cable (notes/assumptions/1.md), and nothing else that the statement names. -/
theorem partReset_leaves (f : FrameNo) (a b : Bool) (s : State) : ∃ t, exec (.partReset f a b) s = .next t ∧
    LeavesChannelSide (.partReset f a b) s t ∧ LeavesStores (.partReset f a b) s t ∧ LeavesRackSide (.partReset f a b) s t ∧
      LeavesReports (.partReset f a b) s t := by
  have swept {p : Prop} (h : isSweeping (.partReset f a b) = false) : p := of_true_eq_false h
  have reset {p : Prop} (h : ∀ f' a' b', Instr.partReset f a b ≠ .partReset f' a' b') : p := absurd rfl (h f a b)
  refine ⟨_, rfl, ?_, ?_, ?_, ?_⟩
  · exact ⟨reset, fun _ => swept, fun _ _ _ => reset, fun _ _ => reset, swept, swept⟩
  · exact ⟨swept, reset, swept, swept⟩
  · exact ⟨fun p _ _ => by cases p <;> rfl, swept, swept, swept, swept, reset, swept, reset, swept⟩
  · exact ⟨reset, swept, swept, swept, swept, swept⟩

/-- Settles O3: every command is a part reset or moves by its effects, and each part of the state moves by its own effects alone. -/
theorem otherStateIsLeft : Obligations.OtherStateIsLeft := by
  intro c s
  by_cases hc : ∃ f a b, c = .partReset f a b
  · obtain ⟨f, a, b, rfl⟩ := hc
    exact partReset_leaves f a b s
  · obtain ⟨t, ht, m⟩ := movesBy_of_ne_partReset c (fun f a b e => hc ⟨f, a, b, e⟩) s
    exact ⟨t, ht, leavesChannelSide m, leavesStores m, leavesRackSide m (signal_kept ht m), leavesReports m⟩

end Sys2Proof.Machine

/-! PROOFS. The transmit arbiter (R55 to R57, R83, R84): the entries that a frame takes from a tap's queue, the requester chosen, and what a
grant moves. -/

namespace Sys2Proof.Machine

/-! ### The entries one frame takes (R56, R57) -/

/-- R57: what an entry that a frame on a port passes over or takes leaves in the queue. -/
def QueueEntry.leftBy (p : Port) (e : QueueEntry) : Option QueueEntry :=
  if e.pending.get p then (if (e.sentOn p).waits then some (e.sentOn p) else none) else some e

/-- R56, R57: the entries `taken` of a run stand one behind the other, as far as the room goes, up to the first entry that does not join. -/
def RunOf (p : Port) : Option QueueEntry → Nat → List QueueEntry → Option QueueEntry → Prop
  | prev, room, [], next => ∀ e, next = some e → e.next p prev room = false
  | prev, room, e :: es, next => e.next p prev room = true ∧ RunOf p (some e) (if e.isMark then 0 else room - 1) es next

section takeRun
variable {p : Port}

theorem takeRun_skip {e : QueueEntry} (prev : Option QueueEntry) (room : Nat) (rest : List QueueEntry) (h : e.pending.get p = false) :
    takeRun p prev room (e :: rest) = ((takeRun p prev room rest).1, e :: (takeRun p prev room rest).2) := by
  simp [takeRun_cons, h]

theorem takeRun_take {e : QueueEntry} {prev : Option QueueEntry} {room : Nat} (rest : List QueueEntry) (h : e.pending.get p = true)
    (hj : e.next p prev room = true) : takeRun p prev room (e :: rest) =
      (e :: (takeRun p (some e) (if e.isMark then 0 else room - 1) rest).1,
        (e.leftBy p).toList ++ (takeRun p (some e) (if e.isMark then 0 else room - 1) rest).2) := by
  simp only [takeRun_cons, h, hj, QueueEntry.leftBy, Bool.true_eq_false, if_false, if_true]
  by_cases hw : (e.sentOn p).waits = true <;> simp [hw]

theorem takeRun_stop {e : QueueEntry} {prev : Option QueueEntry} {room : Nat} (rest : List QueueEntry) (h : e.pending.get p = true)
    (hj : e.next p prev room = false) : takeRun p prev room (e :: rest) = ([], e :: rest) := by
  simp [takeRun_cons, h, hj]

/-- R56, R57: a frame takes the pending entries of a front of the queue, one run, and stops at the first that does not join. -/
theorem takeRun_spec (prev : Option QueueEntry) (room : Nat) (queue : List QueueEntry) : ∃ front back, queue = front ++ back ∧
    takeRun p prev room queue = (front.filter fun e => e.pending.get p, front.filterMap (QueueEntry.leftBy p) ++ back) ∧
    RunOf p prev room (front.filter fun e => e.pending.get p) (back.find? fun e => e.pending.get p) := by
  induction queue generalizing prev room with
  | nil => exact ⟨[], [], rfl, rfl, by simp [RunOf]⟩
  | cons e rest ih =>
    by_cases h : e.pending.get p = true
    · by_cases hj : e.next p prev room = true
      · obtain ⟨front, back, hq, hrun, hof⟩ := ih (some e) (if e.isMark then 0 else room - 1)
        refine ⟨e :: front, back, by rw [hq]; rfl, ?_, ?_⟩
        · rw [takeRun_take rest h hj, hrun]
          cases hl : e.leftBy p <;> simp [h, hl]
        · simpa [h, RunOf, hj] using hof
      · rw [Bool.not_eq_true] at hj
        exact ⟨[], e :: rest, rfl, takeRun_stop rest h hj, by simp [RunOf, h, hj]⟩
    · rw [Bool.not_eq_true] at h
      obtain ⟨front, back, hq, hrun, hof⟩ := ih prev room
      refine ⟨e :: front, back, by rw [hq]; rfl, ?_, by simpa [h] using hof⟩
      rw [takeRun_skip prev room rest h, hrun]
      simp [h, QueueEntry.leftBy]

/-- R57: what a frame on one port leaves counts the same on the other. -/
theorem countP_leftBy {P : QueueEntry → Bool} (hsent : ∀ e, P (e.sentOn p) = P e) (hwaits : ∀ e, P e = true → (e.sentOn p).waits = true)
    (front : List QueueEntry) : (front.filterMap (QueueEntry.leftBy p)).countP P = front.countP P := by
  induction front with
  | nil => rfl
  | cons e es ih =>
    by_cases h : e.pending.get p = true
    · by_cases hw : (e.sentOn p).waits = true
      · simp [QueueEntry.leftBy, h, hw, List.countP_cons, ih, hsent]
      · have : P e = false := Bool.eq_false_iff.mpr fun hp => hw (hwaits e hp)
        simp [QueueEntry.leftBy, h, hw, ih, this]
    · simp [QueueEntry.leftBy, h, List.countP_cons, ih]

theorem countP_takeRun {P : QueueEntry → Bool} (hsent : ∀ e, P (e.sentOn p) = P e) (hwaits : ∀ e, P e = true → (e.sentOn p).waits = true)
    (prev : Option QueueEntry) (room : Nat) (queue : List QueueEntry) : (takeRun p prev room queue).2.countP P = queue.countP P := by
  obtain ⟨front, back, rfl, hrun, -⟩ := takeRun_spec (p := p) prev room queue
  rw [hrun, List.countP_append, List.countP_append, countP_leftBy hsent hwaits]

theorem sentOn_pending_other (p : Port) (e : QueueEntry) : (e.sentOn p).pending.get (otherPort p) = e.pending.get (otherPort p) :=
  get_set_other ..

theorem sentOn_waits (p : Port) (e : QueueEntry) : (e.sentOn p).waits = e.pending.get (otherPort p) := by
  cases p <;> simp [QueueEntry.sentOn, QueueEntry.waits, PerPort.set, PerPort.get, otherPort]

theorem any_eq_countP {α : Type} (P : α → Bool) (l : List α) : l.any P = decide (0 < l.countP P) := by
  rw [Bool.eq_iff_iff, List.any_eq_true, decide_eq_true_eq, List.countP_pos_iff]

/-- R55: a frame on one port leaves the tap's request level on the other. -/
theorem level_takeRun_other (k : Tap) (prev : Option QueueEntry) (room : Nat) :
    ({ k with queue := (takeRun p prev room k.queue).2 } : Tap).level (otherPort p) = k.level (otherPort p) := by
  have hwaits (e : QueueEntry) (h : e.pending.get (otherPort p) = true) : (e.sentOn p).waits = true := by rw [sentOn_waits, h]
  have hn := countP_takeRun (p := p) (P := fun e => e.pending.get (otherPort p)) (sentOn_pending_other p) hwaits prev room k.queue
  have hm := countP_takeRun (p := p) (P := fun e => e.isMark && e.pending.get (otherPort p))
    (fun e => by rw [sentOn_pending_other]; rfl) (fun e h => hwaits e (Bool.and_eq_true_iff.mp h).2) prev room k.queue
  simp only [Tap.level, Tap.waitingOn, ← List.countP_eq_length_filter, any_eq_countP, hn, hm]

/-- R56: a frame with room takes the first entry that waits on the port. -/
theorem takeRun_fst_eq_nil {room : Nat} (hr : 0 < room) {queue : List QueueEntry} (h : (takeRun p none room queue).1 = []) :
    ∀ e ∈ queue, e.pending.get p = false := by
  obtain ⟨front, back, rfl, hrun, hof⟩ := takeRun_spec (p := p) none room queue
  rw [hrun] at h
  simp only at h
  rw [h] at hof
  have hback : back.find? (fun e => e.pending.get p) = none := by
    cases hf : back.find? fun e => e.pending.get p with
    | none => rfl
    | some e => simpa [QueueEntry.next, hr] using hof e hf
  intro e he
  rcases List.mem_append.mp he with he | he
  · simpa using List.filter_eq_nil_iff.mp h e he
  · simpa using List.find?_eq_none.mp hback e he

end takeRun

/-- R55: a tap with nothing that waits on a port has no request there. -/
theorem level_eq_zero {k : Tap} {p : Port} (h : ∀ e ∈ k.queue, e.pending.get p = false) : k.level p = 0 := by
  have hn : k.waitingOn p = 0 := by
    simp only [Tap.waitingOn, List.length_eq_zero_iff, List.filter_eq_nil_iff, Bool.not_eq_true]; exact h
  simp [Tap.level, hn]

theorem tapFrame_eq_none {own : FrameNo} {t : TapNo} {p : Port} {taken : List QueueEntry} (h : tapFrame own t p taken = none) : taken = [] := by
  cases taken with
  | nil => rfl
  | cons e es =>
    simp only [tapFrame] at h
    split at h <;> cases h

/-! ### The requester chosen (R83, R84) -/

theorem rotation_length (last : Fin 9) : (rotation last).length = 9 := by simp [rotation]

theorem rotation_getElem (last : Fin 9) (j : Nat) (h : j < (rotation last).length) :
    (rotation last)[j].val = (last.val + 1 + j) % 9 := by simp [rotation]

/-- R84: how far behind the last granted a requester stands in the rotation. -/
def turnOf (last i : Fin 9) : Nat := (i.val + 8 - last.val) % 9

theorem turnOf_rotation (last : Fin 9) (j : Nat) (h : j < (rotation last).length) : turnOf last (rotation last)[j] = j := by
  have h9 : j < 9 := rotation_length last ▸ h
  simp only [turnOf, rotation_getElem]
  omega

theorem rotation_turnOf (last i : Fin 9) : ∃ h : turnOf last i < (rotation last).length, (rotation last)[turnOf last i] = i := by
  have h : turnOf last i < (rotation last).length := by rw [rotation_length]; exact Nat.mod_lt _ (by decide)
  refine ⟨h, Fin.ext ?_⟩
  rw [rotation_getElem]
  simp only [turnOf]
  omega

theorem mem_rotation (last i : Fin 9) : i ∈ rotation last := by
  obtain ⟨h, e⟩ := rotation_turnOf last i
  exact e ▸ List.getElem_mem h

theorem le_foldl_max (l : List Nat) (k : Nat) : k ≤ l.foldl max k ∧ ∀ n ∈ l, n ≤ l.foldl max k := by
  induction l generalizing k with
  | nil => exact ⟨Nat.le_refl k, by simp⟩
  | cons a l ih =>
    obtain ⟨h1, h2⟩ := ih (max k a)
    refine ⟨(Nat.le_max_left ..).trans h1, fun n hn => ?_⟩
    rcases List.mem_cons.mp hn with rfl | hn
    · exact (Nat.le_max_right ..).trans h1
    · exact h2 n hn

theorem foldl_max_le {l : List Nat} {k m : Nat} (hk : k ≤ m) (h : ∀ n ∈ l, n ≤ m) : l.foldl max k ≤ m := by
  induction l generalizing k with
  | nil => exact hk
  | cons a l ih => exact ih (Nat.max_le.mpr ⟨hk, h a List.mem_cons_self⟩) fun n hn => h n (List.mem_cons_of_mem _ hn)

section rotatingChoice
variable {s : State} {p : Port}

/-- R84: the highest request level of a port. -/
def State.topLevel (s : State) (p : Port) : Nat := ((rotation (s.port p).lastGranted).map (s.rotatingLevel p)).foldl max 0

theorem rotatingLevel_le_topLevel (s : State) (p : Port) (i : Fin 9) : s.rotatingLevel p i ≤ s.topLevel p :=
  (le_foldl_max _ 0).2 _ (List.mem_map.mpr ⟨i, mem_rotation _ i, rfl⟩)

theorem topLevel_le {m : Nat} (h : ∀ i, s.rotatingLevel p i ≤ m) : s.topLevel p ≤ m :=
  foldl_max_le (Nat.zero_le m) fun n hn => by obtain ⟨i, -, rfl⟩ := List.mem_map.mp hn; exact h i

theorem rotatingChoice_eq (s : State) (p : Port) : s.rotatingChoice p = if s.topLevel p = 0 then none else
    (rotation (s.port p).lastGranted).find? fun i => s.rotatingLevel p i == s.topLevel p := rfl

/-- R83: with no request nothing is chosen. -/
theorem rotatingChoice_of_zero (h : ∀ i, s.rotatingLevel p i = 0) : s.rotatingChoice p = none := by
  have : s.topLevel p = 0 := Nat.le_zero.mp (topLevel_le fun i => (h i).le)
  rw [rotatingChoice_eq, if_pos this]

/-- R84: the requester chosen is the first in turn of those at the highest level. -/
theorem rotatingChoice_of_first {i : Fin 9} (hi : s.rotatingLevel p i ≠ 0) (hfirst : ∀ j, s.rotatingLevel p j < s.rotatingLevel p i ∨
    (s.rotatingLevel p j = s.rotatingLevel p i ∧ turnOf (s.port p).lastGranted i ≤ turnOf (s.port p).lastGranted j)) :
    s.rotatingChoice p = some i := by
  have htop : s.topLevel p = s.rotatingLevel p i :=
    Nat.le_antisymm (topLevel_le fun j => (hfirst j).elim Nat.le_of_lt fun h => h.1.le) (rotatingLevel_le_topLevel s p i)
  rw [rotatingChoice_eq, htop, if_neg hi, List.find?_eq_some_iff_getElem]
  obtain ⟨hlt, hturn⟩ := rotation_turnOf (s.port p).lastGranted i
  refine ⟨by simp, _, hlt, hturn, fun j hj => ?_⟩
  have hj' : j < (rotation (s.port p).lastGranted).length := hj.trans hlt
  have hdiff := hfirst (rotation (s.port p).lastGranted)[j]
  rw [turnOf_rotation _ j hj'] at hdiff
  simp only [Bool.not_eq_true', beq_eq_false_iff_ne]
  omega

/-- R83: where nothing is chosen there is no request. -/
theorem rotatingLevel_of_none (h : s.rotatingChoice p = none) (i : Fin 9) : s.rotatingLevel p i = 0 := by
  rw [rotatingChoice_eq] at h
  split at h
  · next h0 => exact Nat.le_zero.mp (h0 ▸ rotatingLevel_le_topLevel s p i)
  · next h0 =>
    exfalso
    have hlt : s.topLevel p ≤ s.topLevel p - 1 := topLevel_le fun j => by
      have := List.find?_eq_none.mp h j (mem_rotation _ j)
      have hle := rotatingLevel_le_topLevel s p j
      simp only [beq_iff_eq] at this
      omega
    omega

/-- R83: a requester that is chosen has a request. -/
theorem rotatingLevel_of_some {i : Fin 9} (h : s.rotatingChoice p = some i) : s.rotatingLevel p i ≠ 0 := by
  rw [rotatingChoice_eq] at h
  split at h
  · cases h
  · next h0 =>
    have := List.find?_some h
    rw [beq_iff_eq] at this
    rwa [this]

theorem rotatingLevel_relay (s : State) (p : Port) : s.rotatingLevel p 0 = relayLevel (s.port p).relay.length := rfl

theorem rotatingLevel_tap {s : State} {p : Port} {i : Fin 9} (h : i.val ≠ 0) :
    s.rotatingLevel p i = (s.tap ⟨i.val - 1, by omega⟩).level p := by simp [State.rotatingLevel, h]

theorem relayLevel_eq_zero {n : Nat} : relayLevel n = 0 ↔ n = 0 := by
  unfold relayLevel
  split_ifs <;> simp <;> omega

end rotatingChoice

/-! ### A grant (R83) -/

theorem onPort_tap (s : State) (p : Port) (f : PortRecord → PortRecord) (k : TapNo) : (s.onPort p f).tap k = s.tap k := rfl

/-- R64, R83: a port has nothing it may send. -/
def State.nothingFor (s : State) (p : Port) : Prop :=
  ((s.port p).state = .joined → (s.port p).slotRequest = none ∧ (s.port p).slotReply = none ∧ (s.port p).control = [] ∧
    (s.port p).relay = [] ∧ ∀ t, (s.tap t).level p = 0) ∧
  ((s.port p).state = .linked → ∀ f, (s.port p).control.head? = some f → isHello f = false)

/-- What a grant on a port may move: the port's queues, slot, turn and transmission, and the taps' queues without a change of a request on
the other port. -/
structure Granted (p : Port) (s t : State) : Prop where
  parts : t = { s with tapEngine := t.tapEngine, link := t.link }
  other : t.port (otherPort p) = s.port (otherPort p)
  standing : (t.port p).standing = (s.port p).standing
  broadcasts : t.link.broadcastSeq = s.link.broadcastSeq ∧ t.link.unsentOwn = s.link.unsentOwn
  presets : t.tapEngine.presets = s.tapEngine.presets
  taps : ∀ k, t.tap k = { s.tap k with queue := (t.tap k).queue }
  levels : ∀ k, (t.tap k).level (otherPort p) = (s.tap k).level (otherPort p)
  sends : (s.port p).inTransmission.isSome = true → t = s

section grant
variable (p : Port) (s : State)

theorem Granted.refl : Granted p s s := ⟨rfl, rfl, rfl, ⟨rfl, rfl⟩, rfl, fun _ => rfl, fun _ => rfl, fun _ => rfl⟩

theorem granted_port (f : PortRecord → PortRecord) (hf : (f (s.port p)).standing = (s.port p).standing)
    (hs : (s.port p).inTransmission = none) : Granted p s (s.onPort p f) := by
  refine ⟨rfl, onPort_other .., ?_, ⟨rfl, rfl⟩, rfl, fun _ => rfl, fun _ => rfl, by simp [hs]⟩
  rw [onPort_self]; exact hf

/-- R56, R57: a tap granted sends the frame of the entries taken, which leave its queue where the other port does not wait on them. -/
theorem grantTap_eq (t : TapNo) : grantTap p t s = match tapFrame s.own t p (takeRun p none 4 (s.tap t).queue).1 with
    | some f => (s.onTap t fun k => { k with queue := (takeRun p none 4 k.queue).2 }).onPort p fun r => { r with inTransmission := some f }
    | none => s := by
  cases h : tapFrame s.own t p (takeRun p none 4 (s.tap t).queue).1 with
  | none => simp only [grantTap, h]
  | some f => simp only [grantTap, h]; rfl

theorem grantTap_of_waiting {t : TapNo} (h : (s.tap t).level p ≠ 0) : ∃ f,
    tapFrame s.own t p (takeRun p none 4 (s.tap t).queue).1 = some f ∧ grantTap p t s =
      (s.onTap t fun k => { k with queue := (takeRun p none 4 k.queue).2 }).onPort p fun r => { r with inTransmission := some f } := by
  cases hf : tapFrame s.own t p (takeRun p none 4 (s.tap t).queue).1 with
  | none => exact absurd (level_eq_zero (takeRun_fst_eq_nil (by decide) (tapFrame_eq_none hf))) h
  | some f => exact ⟨f, rfl, by rw [grantTap_eq, hf]⟩

theorem grantRelay_of_cons {f : Frame} {rest : List Frame} (h : (s.port p).relay = f :: rest) :
    grantRelay p s = s.onPort p fun r => { r with relay := rest, inTransmission := some f } := by
  simp only [grantRelay, h, startFrame]
  cases p <;> rfl

theorem grantControl_of_cons {f : Frame} {rest : List Frame} (h : (s.port p).control = f :: rest) :
    grantControl p s = s.onPort p fun r => { r with control := rest, inTransmission := some f } := by
  simp only [grantControl, h, startFrame]
  cases p <;> rfl

theorem grant_of_busy (h : (s.port p).inTransmission.isSome = true) : grant p s = s := by simp [grant, h]

theorem grant_of_down (h : (s.port p).state ≠ .joined ∧ (s.port p).state ≠ .linked) : grant p s = s := by
  unfold grant
  dsimp only
  split
  · rfl
  · split
    · next hj => exact absurd hj h.1
    · next hl => exact absurd hl h.2
    all_goals rfl

section idle
variable {p s} (hidle : (s.port p).inTransmission = none)
include hidle

theorem grant_of_hello (hl : (s.port p).state = .linked) {f : Frame} {rest : List Frame} (hc : (s.port p).control = f :: rest)
    (hf : isHello f = true) : grant p s = s.onPort p fun r => { r with control := rest, inTransmission := some f } := by
  simp [grant, hidle, hl, hc, hf, grantControl_of_cons p s hc]

theorem grant_of_no_hello (hl : (s.port p).state = .linked) (hc : ∀ f, (s.port p).control.head? = some f → isHello f = false) :
    grant p s = s := by
  cases hh : (s.port p).control.head? with
  | none => simp [grant, hidle, hl, hh]
  | some f => simp [grant, hidle, hl, hh, hc f hh]

variable (hj : (s.port p).state = .joined)
include hj

theorem grant_of_reply {b : TimeReplyBody} (hb : (s.port p).slotReply = some b) : grant p s = s.onPort p fun r =>
    { r with slotReply := none, inTransmission := some ⟨s.ownHeader, .timeReply { b with t3 := BitVec.ofNat 72 s.clock.now }⟩ } := by
  simp only [grant, hidle, hj, hb, grantSlot, startFrame, Option.isSome_none, Option.isSome_some, Bool.true_or, Bool.false_eq_true,
    if_false, if_true]
  cases p <;> rfl

theorem grant_of_request {b : TimeRequestBody} (hr : (s.port p).slotReply = none) (hb : (s.port p).slotRequest = some b) :
    grant p s = s.onPort p fun r => { r with
      slotRequest := none, inTransmission := some ⟨s.ownHeader, .timeRequest { b with t1 := BitVec.ofNat 72 s.clock.now }⟩ } := by
  simp only [grant, hidle, hj, hr, hb, grantSlot, startFrame, Option.isSome_none, Option.isSome_some, Bool.or_true, Bool.false_eq_true,
    if_false, if_true]
  cases p <;> rfl

variable (hr : (s.port p).slotReply = none) (hq : (s.port p).slotRequest = none)
include hr hq

theorem grant_of_control {f : Frame} {rest : List Frame} (hc : (s.port p).control = f :: rest) :
    grant p s = s.onPort p fun r => { r with control := rest, inTransmission := some f } := by
  simp [grant, hidle, hj, hr, hq, hc, grantControl_of_cons p s hc]

variable (hc : (s.port p).control = [])
include hc

theorem grant_eq_rotating : grant p s = grantRotating p s := by simp [grant, hidle, hj, hr, hq, hc]

theorem grant_of_none (h : ∀ i, s.rotatingLevel p i = 0) : grant p s = s := by
  rw [grant_eq_rotating hidle hj hr hq hc, grantRotating, rotatingChoice_of_zero h]

theorem grant_of_relay (h : s.rotatingChoice p = some 0) {f : Frame} {rest : List Frame} (hf : (s.port p).relay = f :: rest) :
    grant p s = s.onPort p fun r => { r with relay := rest, lastGranted := 0, inTransmission := some f } := by
  rw [grant_eq_rotating hidle hj hr hq hc, grantRotating, h]
  simp only [Fin.val_zero, dite_true]
  rw [grantRelay_of_cons (f := f) (rest := rest) p _ (by rw [onPort_self]; exact hf)]
  cases p <;> rfl

theorem grant_of_tap {i : Fin 9} (h : s.rotatingChoice p = some i) (hi : i.val ≠ 0) : ∃ f,
    tapFrame s.own ⟨i.val - 1, by omega⟩ p (takeRun p none 4 (s.tap ⟨i.val - 1, by omega⟩).queue).1 = some f ∧ grant p s =
      (s.onTap ⟨i.val - 1, by omega⟩ fun k => { k with queue := (takeRun p none 4 k.queue).2 }).onPort p fun r =>
        { r with lastGranted := i, inTransmission := some f } := by
  have hlevel := rotatingLevel_of_some h
  rw [rotatingLevel_tap hi] at hlevel
  obtain ⟨f, hf, hg⟩ := grantTap_of_waiting p (s.onPort p fun r => { r with lastGranted := i }) (t := ⟨i.val - 1, by omega⟩) hlevel
  refine ⟨f, hf, ?_⟩
  rw [grant_eq_rotating hidle hj hr hq hc, grantRotating, h]
  simp only [hi, dite_false]
  rw [hg]
  cases p <;> rfl

end idle

/-- R83: a grant starts a frame, or the port has nothing it may send and nothing moves. -/
theorem granted_cases : Granted p s (grant p s) ∧ ((s.port p).inTransmission = none →
    ((grant p s).port p).inTransmission.isSome = true ∨ (grant p s = s ∧ s.nothingFor p)) := by
  by_cases hidle : (s.port p).inTransmission = none
  case neg =>
    have hbusy : (s.port p).inTransmission.isSome = true := Option.isSome_iff_ne_none.mpr hidle
    rw [grant_of_busy p s hbusy]
    exact ⟨.refl p s, fun h => absurd h hidle⟩
  have started (f : PortRecord → PortRecord) (hf : (f (s.port p)).standing = (s.port p).standing)
      (hsome : (f (s.port p)).inTransmission.isSome = true) (e : grant p s = s.onPort p f) :
      Granted p s (grant p s) ∧ ((s.port p).inTransmission = none →
        ((grant p s).port p).inTransmission.isSome = true ∨ (grant p s = s ∧ s.nothingFor p)) := by
    rw [e]
    exact ⟨granted_port p s f hf hidle, fun _ => .inl (by rw [onPort_self]; exact hsome)⟩
  have stays (h : s.nothingFor p) (e : grant p s = s) : Granted p s (grant p s) ∧ ((s.port p).inTransmission = none →
      ((grant p s).port p).inTransmission.isSome = true ∨ (grant p s = s ∧ s.nothingFor p)) := by
    rw [e]
    exact ⟨.refl p s, fun _ => .inr ⟨rfl, h⟩⟩
  by_cases hj : (s.port p).state = .joined
  case neg =>
    by_cases hl : (s.port p).state = .linked
    case neg => exact stays ⟨fun h => absurd h hj, fun h => absurd h hl⟩ (grant_of_down p s ⟨hj, hl⟩)
    by_cases hh : ∀ f, (s.port p).control.head? = some f → isHello f = false
    · exact stays ⟨fun h => absurd h hj, fun _ => hh⟩ (grant_of_no_hello hidle hl hh)
    · simp only [not_forall] at hh
      obtain ⟨f, hf, hello⟩ := hh
      obtain ⟨rest, hc⟩ := List.head?_eq_some_iff.mp hf
      exact started _ rfl rfl (grant_of_hello hidle hl hc (by simpa using hello))
  cases hr : (s.port p).slotReply with
  | some b => exact started _ rfl rfl (grant_of_reply hidle hj hr)
  | none =>
  cases hq : (s.port p).slotRequest with
  | some b => exact started _ rfl rfl (grant_of_request hidle hj hr hq)
  | none =>
  cases hc : (s.port p).control with
  | cons f rest => exact started _ rfl rfl (grant_of_control hidle hj hr hq hc)
  | nil =>
  cases h : s.rotatingChoice p with
  | none =>
    have hzero := rotatingLevel_of_none h
    refine stays ⟨fun _ => ⟨hq, hr, hc, ?_, fun t => ?_⟩, fun hl => by rw [hj] at hl; cases hl⟩ (grant_of_none hidle hj hr hq hc hzero)
    · exact List.length_eq_zero_iff.mp (relayLevel_eq_zero.mp (rotatingLevel_relay s p ▸ hzero 0))
    · have := hzero ⟨t.val + 1, by omega⟩
      rwa [rotatingLevel_tap (Nat.succ_ne_zero _)] at this
  | some i =>
    by_cases hi : i = 0
    · subst hi
      have hrelay : (s.port p).relay ≠ [] := fun e => by
        have := rotatingLevel_of_some h
        rw [rotatingLevel_relay, e] at this
        exact this rfl
      obtain ⟨f, rest, hf⟩ := List.exists_cons_of_ne_nil hrelay
      exact started _ rfl rfl (grant_of_relay hidle hj hr hq hc h hf)
    · obtain ⟨f, -, e⟩ := grant_of_tap hidle hj hr hq hc h fun k => hi (Fin.ext k)
      rw [e]
      refine ⟨⟨rfl, onPort_other .., by rw [onPort_self]; rfl, ⟨rfl, rfl⟩, rfl, fun k => ?_, fun k => ?_, by simp [hidle]⟩,
        fun _ => .inl (by rw [onPort_self]; rfl)⟩
      · rw [onPort_tap]
        by_cases hk : k = ⟨i.val - 1, by omega⟩
        · subst hk; rw [onTap_self]
        · rw [onTap_other s _ hk]
      · rw [onPort_tap]
        by_cases hk : k = ⟨i.val - 1, by omega⟩
        · subst hk; rw [onTap_self]; exact level_takeRun_other _ none 4
        · rw [onTap_other s _ hk]

theorem granted : Granted p s (grant p s) := (granted_cases p s).1

/-- R83: a port idle after its grant has nothing it may send. -/
theorem grant_idle (h : ((grant p s).port p).inTransmission = none) : grant p s = s ∧ s.nothingFor p := by
  have hidle : (s.port p).inTransmission = none := by
    by_contra hne
    have hbusy : (s.port p).inTransmission.isSome = true := Option.isSome_iff_ne_none.mpr hne
    rw [grant_of_busy p s hbusy] at h
    exact hne h
  exact ((granted_cases p s).2 hidle).resolve_left (by simp [h])

end grant

/-! ### What a grant leaves -/

section Granted
variable {p : Port} {s t : State} (h : Granted p s t)
include h

theorem Granted.roster : t.roster = s.roster := by have := congrArg State.roster h.parts; exact this

theorem Granted.orders : t.orders = s.orders := by have := congrArg State.orders h.parts; exact this

theorem Granted.clock : t.clock = s.clock := by have := congrArg State.clock h.parts; exact this

theorem Granted.reporter : t.reporter = s.reporter := by have := congrArg State.reporter h.parts; exact this

theorem Granted.regions : t.regions = s.regions := by have := congrArg State.regions h.parts; exact this

theorem Granted.mirrorStore : t.mirrorStore = s.mirrorStore := by have := congrArg State.mirrorStore h.parts; exact this

theorem Granted.state (q : Port) : (t.port q).state = (s.port q).state := by
  rcases port_cases p q with rfl | rfl
  · exact congrArg PortStanding.state h.standing
  · rw [h.other]

theorem Granted.joined (q : Port) : t.joined q = s.joined q := by rw [State.joined, State.joined, h.state]

/-- A grant on one port gives the other nothing to send. -/
theorem Granted.nothingFor_other (hs : s.nothingFor (otherPort p)) : t.nothingFor (otherPort p) := by
  obtain ⟨hj, hl⟩ := hs
  refine ⟨fun k => ?_, fun k => ?_⟩
  · rw [h.other] at k ⊢
    obtain ⟨h1, h2, h3, h4, h5⟩ := hj k
    exact ⟨h1, h2, h3, h4, fun n => (h.levels n).trans (h5 n)⟩
  · rw [h.other] at k ⊢
    exact hl k

end Granted

end Sys2Proof.Machine

/-! PROOFS. Every command ends by what concludes an event, or moves nothing of what that settles: the timers follow their rules, and an idle port
has nothing it may send. -/

namespace Sys2Proof.Machine
variable {L : List Effect} {s t u : State}

/-! ### Commands that conclude, and commands that need not -/

/-- A move that touches nothing of what concludes an event. -/
def QuietMove (s t : State) : Prop := ∃ L, Effect.rack ∉ L ∧ Move L s t

/-- A chain of moves that touches nothing of what concludes an event. -/
def Quiet (s t : State) : Prop := Relation.ReflTransGen QuietMove s t

theorem Moves.quiet (h : Moves L s t) (hL : .rack ∉ L) : Quiet s t := by
  induction h with
  | refl => exact Relation.ReflTransGen.refl
  | tail _ k ih => exact Relation.ReflTransGen.tail ih ⟨L, hL, k⟩

theorem Quiet.keeps {P : State → Prop} (h : ∀ L s t, .rack ∉ L → Move L s t → P s → P t) (m : Quiet s t) (hs : P s) : P t := by
  induction m with
  | refl => exact hs
  | tail _ k ih =>
    obtain ⟨L, hL, k⟩ := k
    exact h L _ _ hL k ih

/-- A command's effect ends by concluding an event, or is quiet. -/
inductive Ends : State → State → Prop where
  | concluded (s before noted u : State) : Ends s (concludeFrom before noted u)
  | quiet {s t : State} : Quiet s t → Ends s t

theorem Ends.refl (s : State) : Ends s s := .quiet Relation.ReflTransGen.refl

theorem Ends.after (m : Quiet s u) (h : Ends u t) : Ends s t := by
  cases h with
  | concluded before noted u => exact .concluded ..
  | quiet k => exact .quiet (Relation.ReflTransGen.trans m k)

theorem Ends.of (m : Moves [] s t) : Ends s t := .quiet (m.quiet List.not_mem_nil)

theorem Ends.conclude (s before u : State) : Ends s (conclude before u) := .concluded ..

theorem Ends.ite {c : Prop} [Decidable c] (h : c → Ends s t) (k : ¬ c → Ends s u) : Ends s (if c then t else u) := by
  split
  · exact h ‹_›
  · exact k ‹_›

theorem ends_post (tag code : Word16) (r : DirectiveResult) (s : State) : Ends s (postResult tag code r s) := .of (moves_post ..)

theorem ends_onTapNumber (tag code : Word16) (tap : Byte) (act : TapNo → State → State) (s : State) (h : ∀ t, Ends s (act t s)) :
    Ends s (onTapNumber tag code tap act s) := by
  unfold onTapNumber
  split
  · exact h _
  · exact ends_post ..

theorem ends_unbindTapAt (tag : Word16) (t : TapNo) (s : State) : Ends s (unbindTapAt tag t s) := by
  unfold unbindTapAt
  split
  · exact ends_post ..
  · exact .conclude ..
  · exact .conclude ..
  all_goals exact ends_post ..

theorem ends_stopTapAt (tag : Word16) (t : TapNo) (s : State) : Ends s (stopTapAt tag t s) := by
  unfold stopTapAt
  split
  · exact ends_post ..
  · exact ends_post ..
  · exact .conclude ..
  · exact .conclude ..
  · exact .ite (fun _ => ends_post ..) fun _ => .conclude ..
  · exact .conclude ..

theorem ends_forgetFrame (tag : Word16) (f : Byte) (s : State) : Ends s (onOther tag 0x22 f (forgetAt tag) s) := by
  unfold onOther
  split
  · exact .ite (fun _ => ends_post ..) fun _ => .ite (fun _ => .conclude ..) fun _ => ends_post ..
  · exact ends_post ..

theorem ends_onPortNumber (tag : Word16) (port : Byte) (act : Port → State → State) (s : State) (h : ∀ p, Ends s (act p s)) :
    Ends s (onPortNumber tag port act s) := by
  unfold onPortNumber
  split
  · exact h _
  · exact ends_post ..

theorem ends_portControl (tag : Word16) (port action : Byte) (s : State) : Ends s (portControl tag port action s) :=
  .ite (fun _ => ends_onPortNumber tag port _ s fun _ => .conclude ..) fun _ =>
    .ite (fun _ => ends_onPortNumber tag port _ s fun _ => .conclude ..) fun _ =>
      .ite (fun _ => ends_onPortNumber tag port _ s fun _ => .ite (fun _ => ends_post ..) fun _ => .conclude ..) fun _ => ends_post ..

theorem ends_leaveRack (tag : Word16) (force : Bool) (s : State) : Ends s (leaveRack tag force s) := by
  unfold leaveRack
  exact .ite (fun _ => ends_post ..) fun _ => .ite (fun _ => ends_post ..) fun _ => .concluded ..

theorem ends_rejoinRack (tag : Word16) (s : State) : Ends s (rejoinRack tag s) := by
  unfold rejoinRack
  exact .ite (fun _ => .conclude ..) fun _ => ends_post ..

theorem ends_rackDirective (tag code : Word16) (d : Option RackDirective) (noWait : Bool) (s : State) :
    Ends s (rackDirective tag code d noWait s) := by
  unfold rackDirective
  exact .concluded ..

theorem ends_restartPart (tag : Word16) (s : State) : Ends s (restartPart tag s) := by
  unfold restartPart
  exact .concluded ..

/-- A directive ends by concluding its event, or is quiet. -/
theorem ends_dispatch (d : Directive) (s : State) : Ends s (dispatch d s) := by
  have quiet (h : .rack ∉ Directive.effects d) : Ends s (dispatch d s) := .quiet ((moves_dispatch d s (List.Subset.refl _)).quiet h)
  cases d with
  | unbindTap tag t => exact ends_onTapNumber _ _ _ _ s fun t => ends_unbindTapAt tag t s
  | stopTap tag t => exact ends_onTapNumber _ _ _ _ s fun t => ends_stopTapAt tag t s
  | haltTap tag t => exact ends_onTapNumber _ _ _ _ s fun t => .ite (fun _ => ends_post ..) fun _ => .conclude ..
  | forgetFrame tag f => exact ends_forgetFrame tag f s
  | leaveRack tag force => exact ends_leaveRack tag force s
  | rejoinRack tag => exact ends_rejoinRack tag s
  | portControl tag port action => exact ends_portControl tag port action s
  | masterClaim tag f noWait => exact ends_rackDirective _ _ _ _ s
  | rackArm tag g time noWait => exact ends_rackDirective _ _ _ _ s
  | rackHalt tag g noWait => exact ends_rackDirective _ _ _ _ s
  | restartPart tag => exact ends_restartPart tag s
  | _ => exact quiet of_eval

theorem ends_takeDirective (d : Directive) (s : State) : Ends s (takeDirective d s) :=
  .after (Moves.quiet (L := [.taken]) (.report _ ⟨id, rfl, fun _ => ⟨rfl, rfl, rfl, rfl, rfl⟩, fun _ => ⟨rfl, rfl⟩,
    fun n => absurd of_eval n, fun _ => rfl, fun _ => rfl⟩) of_eval) (ends_dispatch d _)

theorem ends_becomeActive (s u : State) : Ends s (becomeActive u) := .conclude ..

theorem ends_readCount (count : Option Word16) (s : State) : Ends s (readCount count s) := by
  cases count with
  | none => exact ends_becomeActive ..
  | some c =>
    have quiet : Moves [.channel, .identity, .settings, .load, .writes] s (beginWriteBack c (distribute s)) :=
      (moves_distribute s of_eval).trans (moves_load _ _ of_eval of_eval ⟨id, rfl, rfl, rfl, rfl⟩)
    exact .quiet (quiet.quiet of_eval)

theorem ends_writeAccess (beats : List Beat) (s : State) : Ends s (channelCommand (.writeAccess beats) (handOn beats) s) := by
  have passed : Quiet s { s with toDram := some (.writeAccess beats) } := (Moves.one (.toDram (L := [.toDram]) s _ of_eval)).quiet of_eval
  have routed (w : WriteBurst) (v : State) : Ends v (passWrite w beats v) := by
    unfold passWrite
    split
    · unfold serveWrite
      split
      · refine .ite (fun _ => ends_takeDirective _ v) fun _ => .quiet ((moves_takePartial (L := [.partials]) _ _ v of_eval).quiet of_eval)
      · exact .conclude ..
      · exact .quiet ((moves_mirrorCounters (L := [.halves]) _ _ v of_eval).quiet of_eval)
      · exact .refl v
      · exact .refl v
    · exact .refl v
  refine .ite (fun _ => .quiet passed) fun _ => .after passed ?_
  unfold handOn
  split
  · exact .refl _
  · exact .after ((Moves.channel (L := [.channel]) _ of_eval).quiet of_eval) (routed _ _)

theorem ends_directive {c : Instr} {d : Directive} (h : recordOf c = some d) (s : State) : ∃ t, exec c s = .next t ∧ Ends s t :=
  ⟨_, exec_of_recordOf h s, .ite (fun _ => ends_takeDirective d s) fun _ => .refl s⟩

theorem ends_refresh (s : State) : Ends s (refresh s) := by
  unfold refresh
  exact .ite (fun _ => .concluded ..) fun _ => .refl s

theorem ends_writeDone (s : State) : Ends s (writeDone s) := by
  unfold writeDone
  split
  · exact ends_becomeActive ..
  · exact .quiet ((moves_load (L := [.load, .writes]) _ s of_eval of_eval ⟨id, rfl, rfl, rfl, rfl⟩).quiet of_eval)
  · exact .refl s

theorem ends_writeFail (s : State) : Ends s (writeFail s) := by
  unfold writeFail
  split
  · exact ends_becomeActive ..
  · have quiet : Moves [.load, .writes] s (beginWaiting (raiseConfigFault .restartCount s)) :=
      (moves_raiseConfigFault _ s of_eval).trans (moves_load _ _ of_eval of_eval ⟨id, rfl, rfl, rfl, rfl⟩)
    exact .quiet (quiet.quiet of_eval)
  · exact .refl s

/-- A block read: only what the load holds moves. -/
theorem ends_readBlock (block : Option (BitVec 448)) (s : State) : Ends s (readBlock block s) := by
  have quiet : Moves [.load, .writes] s (readBlock block s) := by
    unfold readBlock
    split
    · exact moves_load _ s of_eval of_eval ⟨id, rfl, rfl, rfl, rfl⟩
    · exact .ite (fun _ => moves_load _ s of_eval of_eval ⟨id, rfl, rfl, rfl, rfl⟩) fun _ =>
        (moves_load _ s of_eval of_eval ⟨id, rfl, rfl, rfl, rfl⟩).trans (moves_raiseConfigFault _ _ of_eval)
  exact .quiet (quiet.quiet of_eval)

/-- Every command but a part reset ends by concluding its event, or is quiet. -/
theorem ends_exec (c : Instr) (hc : ∀ f a b, c ≠ .partReset f a b) (s : State) : ∃ t, exec c s = .next t ∧ Ends s t := by
  have quiet (h : .rack ∉ effectsOf c) : ∃ t, exec c s = .next t ∧ Ends s t :=
    (movesBy_of_ne_partReset c hc s).imp fun t ht => ⟨ht.1, .quiet (ht.2.quiet h)⟩
  cases c with
  | partReset f a b => exact absurd rfl (hc f a b)
  | eepromAbsent => exact ⟨_, rfl, .ite (fun _ => ends_becomeActive ..) fun _ => .refl s⟩
  | configurationBlockRead b => exact ⟨_, rfl, .ite (fun _ => ends_readBlock b s) fun _ => .refl s⟩
  | restartCountRead n => exact ⟨_, rfl, .ite (fun _ => ends_readCount n s) fun _ => .refl s⟩
  | restartCountWriteDone => exact ⟨_, rfl, ends_writeDone s⟩
  | restartCountWriteFail => exact ⟨_, rfl, ends_writeFail s⟩
  | writeAccess beats => exact ⟨_, rfl, ends_writeAccess beats s⟩
  | unbindTap tag t => exact ends_directive rfl s
  | stopTap tag t => exact ends_directive rfl s
  | haltTap tag t => exact ends_directive rfl s
  | forgetFrame tag f => exact ends_directive rfl s
  | leaveRack tag force => exact ends_directive rfl s
  | rejoinRack tag => exact ends_directive rfl s
  | portEnable tag p => exact ends_directive rfl s
  | portDisable tag p => exact ends_directive rfl s
  | portRetrain tag p => exact ends_directive rfl s
  | masterClaim tag f noWait => exact ends_directive rfl s
  | rackArm tag g time noWait => exact ends_directive rfl s
  | rackHalt tag g noWait => exact ends_directive rfl s
  | restartPart tag => exact ends_directive rfl s
  | lossOfSignal p => exact ⟨_, rfl, .conclude ..⟩
  | neighbourTraining p => exact ⟨_, rfl, .conclude ..⟩
  | alignmentComplete p => exact ⟨_, rfl, .conclude ..⟩
  | helloTimer p => exact ⟨_, rfl, .conclude ..⟩
  | badCrcFrame p => exact ⟨_, rfl, .conclude ..⟩
  | sample p h b => exact ⟨_, rfl, .conclude ..⟩
  | mark p h b => exact ⟨_, rfl, .conclude ..⟩
  | timeRequest p h b => exact ⟨_, rfl, .conclude ..⟩
  | hello p h b => exact ⟨_, rfl, .conclude ..⟩
  | rosterUpdate p h b => exact ⟨_, rfl, .conclude ..⟩
  | leaveAck p h b => exact ⟨_, rfl, .conclude ..⟩
  | rackRequest p h b => exact ⟨_, rfl, .concluded ..⟩
  | rackOrder p h b => exact ⟨_, rfl, .concluded ..⟩
  | rackRefusal p h b => exact ⟨_, rfl, .concluded ..⟩
  | transmissionComplete p => exact ⟨_, rfl, .conclude ..⟩
  | tapDrained t => exact ⟨_, rfl, .conclude ..⟩
  | leaveAnnounced => exact ⟨_, rfl, .conclude ..⟩
  | leaveComplete => exact ⟨_, rfl, .conclude ..⟩
  | refreshTimerExpiry => exact ⟨_, rfl, ends_refresh s⟩
  | exchangeTimerExpiry => exact ⟨_, rfl, .ite (fun _ => .conclude ..) fun _ => .refl s⟩
  | resendTimerExpiry => exact ⟨_, rfl, .ite (fun _ => .conclude ..) fun _ => .refl s⟩
  | _ => exact quiet of_eval

/-- What concluding an event brings about, quiet moves keep and a part reset meets, every step keeps. -/
theorem step_settles {P : State → Prop} (conclude : ∀ before noted s, P (concludeFrom before noted s))
    (move : ∀ L s t, .rack ∉ L → Move L s t → P s → P t) (reset : ∀ a b q, P (State.resetWith a b q))
    (queue : ∀ s q, P s → P (s.withPending q)) (h : step s = .next t) (hs : P s) : P t := by
  unfold step at h
  split at h
  · rw [← Host.Outcome.next.inj h]; exact hs
  · next c q _ =>
    by_cases hc : ∃ f a b, c = .partReset f a b
    · obtain ⟨f, a, b, rfl⟩ := hc
      rw [← Host.Outcome.next.inj h]; exact reset _ _ _
    · obtain ⟨u, hu, ends⟩ := ends_exec c (fun f a b e => hc ⟨f, a, b, e⟩) (s.withPending q)
      rw [hu] at h
      rw [← Host.Outcome.next.inj h]
      have hv := queue s q hs
      generalize s.withPending q = v at ends hv
      cases ends with
      | concluded before noted w => exact conclude before noted w
      | quiet m => exact m.keeps move hv

/-! ### The timers (R93, R159) -/

theorem syncRefresh_right (s : State) : (syncRefresh s).roster.refreshTimer.isSome = (syncRefresh s).refreshRuns := by
  unfold syncRefresh
  by_cases hr : s.refreshRuns = true
  · rw [if_pos hr]
    split
    · next h => rw [h, hr]
    · exact hr.symm
  · rw [if_neg hr]
    exact (Bool.not_eq_true _ ▸ hr : s.refreshRuns = false).symm

theorem syncResend_right (s : State) : (syncResend s).orders.resendTimer.isSome = (syncResend s).resendRuns := by
  unfold syncResend
  by_cases hr : s.resendRuns = true
  · rw [if_pos hr]
    split
    · next h => rw [h, hr]
    · exact hr.symm
  · rw [if_neg hr]
    exact (Bool.not_eq_true _ ▸ hr : s.resendRuns = false).symm

theorem syncResend_roster (s : State) : (syncResend s).roster = s.roster := by
  unfold syncResend; split_ifs <;> rfl

theorem syncResend_link (s : State) : (syncResend s).link = s.link := by
  unfold syncResend; split_ifs <;> rfl

theorem timersRight_sync (s : State) : timersRight (syncResend (syncRefresh s)) := by
  refine ⟨?_, syncResend_right _⟩
  have hrun : (syncResend (syncRefresh s)).refreshRuns = (syncRefresh s).refreshRuns := by
    simp only [State.refreshRuns, State.anyJoined, State.joined, State.port, syncResend_roster, syncResend_link]
  rw [hrun, syncResend_roster]
  exact syncRefresh_right s

theorem Granted.timersRight {p : Port} (h : Granted p s t) (hs : timersRight s) : timersRight t := by
  have hroster := h.roster
  have horders := h.orders
  have hown : t.own = s.own := congrArg (fun d => d.straps.frame) h.reporter
  have hrefresh : t.refreshRuns = s.refreshRuns := by
    simp only [State.refreshRuns, State.anyJoined, hroster, h.joined]
  have hresend : t.resendRuns = s.resendRuns := by
    simp only [State.resendRuns, hroster, horders, hown]
  exact ⟨by rw [hroster, hrefresh]; exact hs.1, by rw [horders, hresend]; exact hs.2⟩

theorem timersRight_round (before noted s : State) : timersRight (round before noted s) :=
  (granted ..).timersRight ((granted ..).timersRight (timersRight_sync _))

theorem joined_quiet (h : Move L s t) (hL : .rack ∉ L) (p : Port) : t.joined p = s.joined p := by
  cases h with
  | link f k =>
    have hp := k p
    rcases hp.quiet hL with ⟨h1, h2⟩ | h
    · have down {r : PortRecord} (h : ¬ r.up) : r.state ≠ .joined := fun e => h (.inl e)
      have hs : s.joined p = false := by simpa [State.joined] using down h1
      have ht : (s.onLink f).joined p = false := by simpa [State.joined] using down h2
      rw [hs, ht]
    · have : ((s.onLink f).port p).state = (s.port p).state := congrArg Prod.fst h
      rw [State.joined, State.joined, this]
  | lose q st cause _ _ k => exact absurd k hL
  | restart _ k => exact absurd k hL
  | _ => simp [State.joined, State.port, clearTap, clearMirror, bindMirrorAs]

/-- What of the roster and the orders only what concludes an event moves. -/
def State.rackView (s : State) : PartState × Option FrameNo × LeavePhase × Byte × Option Word16 × Option Nat × List PendingEntry × Option Nat :=
  (s.roster.ownState, s.roster.belief, s.roster.phase, s.roster.waitSet, s.roster.leaveTag, s.roster.refreshTimer, s.orders.pending,
    s.orders.resendTimer)

theorem rackView_quiet (h : Move L s t) (hL : .rack ∉ L) : t.rackView = s.rackView := by
  cases h with
  | roster f k =>
    obtain ⟨h1, h2, h3, h4, h5, h6⟩ := k.rack hL
    simp [State.rackView, h1, h2, h3, h4, h5, h6]
  | orders f k =>
    obtain ⟨h1, h2⟩ := k.rack hL
    simp [State.rackView, h1, h2]
  | lose q st cause _ _ k => exact absurd k hL
  | restart _ k => exact absurd k hL
  | _ => simp [State.rackView, clearTap, clearMirror, bindMirrorAs]

theorem own_move (h : Move L s t) : t.own = s.own := congrArg Straps.frame (straps_move h)

theorem timersRight_quiet (hL : .rack ∉ L) (h : Move L s t) (hs : timersRight s) : timersRight t := by
  have hview := rackView_quiet h hL
  simp only [State.rackView, Prod.mk.injEq] at hview
  obtain ⟨hown, hbelief, -, -, -, hrefresh, hpending, hresend⟩ := hview
  simpa only [timersRight, State.refreshRuns, State.resendRuns, State.anyJoined, joined_quiet h hL, hown, hbelief, hrefresh, hpending,
    hresend, own_move h] using hs

/-- Settles O22: the two timers are set by the state that an event leaves, and no quiet command moves what they go by. -/
theorem timersFollowTheirRules : Obligations.TimersFollowTheirRules := fun _ _ hs h =>
  step_settles (fun _ _ _ => timersRight_round ..) (fun _ _ _ => timersRight_quiet) timersRight_reset (fun _ _ => id) h hs

/-! ### What an idle port may send (R64, R83) -/

theorem idlePortsEmpty_iff : idlePortsEmpty s ↔ ∀ p, (s.port p).inTransmission = none → s.nothingFor p := Iff.rfl

/-- After the two grants of a round, a port that is idle has nothing it may send. -/
theorem idlePortsEmpty_grants (s : State) : idlePortsEmpty (grant .b (grant .a s)) := by
  intro p hp
  cases p with
  | a =>
    have g := granted .b (grant .a s)
    have hport : (grant .b (grant .a s)).port .a = (grant .a s).port .a := g.other
    rw [hport] at hp
    obtain ⟨e, h⟩ := grant_idle .a s hp
    rw [e] at g ⊢
    exact g.nothingFor_other h
  | b =>
    obtain ⟨e, h⟩ := grant_idle .b (grant .a s) hp
    rw [e]; exact h

theorem idlePortsEmpty_concludeFrom (before noted s : State) : idlePortsEmpty (concludeFrom before noted s) := by
  unfold concludeFrom round
  exact idlePortsEmpty_grants _

theorem level_quiet (h : Move L s t) (hL : .rack ∉ L) (k : TapNo) (p : Port) (hk : (s.tap k).level p = 0) : (t.tap k).level p = 0 := by
  have unbound : Tap.unbound.level p = 0 := by simp [Tap.level, Tap.unbound]
  cases h with
  | bindTap n k' e _ _ hb =>
    change ((s.onTap n fun _ => k').tap k).level p = 0
    by_cases e : k = n
    · subst e; rw [onTap_self]; exact level_eq_zero (by simp [hb.queue])
    · rw [onTap_other s _ e]; exact hk
  | clearTap n =>
    change ((s.onTap n fun _ => Tap.unbound).tap k).level p = 0
    by_cases e : k = n
    · subst e; rw [onTap_self]; exact unbound
    · rw [onTap_other s _ e]; exact hk
  | taps v hv => exact (hv k).quiet hL p hk
  | lose q st cause _ _ j => exact absurd j hL
  | restart _ j => exact absurd j hL
  | _ => simpa [State.tap, clearMirror, bindMirrorAs] using hk

theorem port_quiet (h : Move L s t) (hL : .rack ∉ L) (p : Port) :
    (¬ (s.port p).up ∧ ¬ (t.port p).up) ∨ (t.port p).traffic = (s.port p).traffic := by
  cases h with
  | link f k => exact (k p).quiet hL
  | lose q st cause _ _ j => exact absurd j hL
  | restart _ j => exact absurd j hL
  | _ => exact .inr (by simp [State.port, clearTap, clearMirror, bindMirrorAs])

theorem idlePortsEmpty_quiet (hL : .rack ∉ L) (h : Move L s t) (hs : idlePortsEmpty s) : idlePortsEmpty t := by
  intro p hp
  rcases port_quiet h hL p with ⟨-, hdown⟩ | htraffic
  · exact ⟨fun hj => absurd (.inl hj) hdown, fun hl => absurd (.inr hl) hdown⟩
  · simp only [PortRecord.traffic, Prod.mk.injEq] at htraffic
    obtain ⟨hstate, hsend, hrequest, hreply, hcontrol, hrelay⟩ := htraffic
    rw [hsend] at hp
    rw [hstate, hrequest, hreply, hcontrol, hrelay]
    obtain ⟨hj, hl⟩ := hs p hp
    refine ⟨fun k => ?_, hl⟩
    obtain ⟨h1, h2, h3, h4, h5⟩ := hj k
    exact ⟨h1, h2, h3, h4, fun n => level_quiet h hL n p (h5 n)⟩

/-- Settles O24: a round ends with a grant on each port, and no quiet command gives an idle port anything to send. -/
theorem idlePortsHaveNothingToSend : Obligations.IdlePortsHaveNothingToSend := fun _ _ hs h =>
  step_settles (P := idlePortsEmpty) idlePortsEmpty_concludeFrom (fun _ _ _ => idlePortsEmpty_quiet) idlePortsEmpty_reset (fun _ _ => id) h hs

end Sys2Proof.Machine

/-! PROOFS. The memory channel's commands: decode faults, the checks against the map, the Bank Table, the latencies, and the bursts that form
no access. -/

namespace Sys2Proof.Machine
variable {s : State}

/-! ### Records and decode faults (R13, R175, R177) -/

/-- R13: a decode fault changes the fault record and, as the first, raises its event. -/
theorem decodeFault_eq (kind : DecodeFault) (rank : Option Byte) (s : State) :
    decodeFault kind rank s = { s with
      channel := { s.channel with decodeFaults := min (s.channel.decodeFaults + 1) (2 ^ 32 - 1), lastFault := some (kind, rank) }
      reporter := (decodeFault kind rank s).reporter } := by
  unfold decodeFault
  split <;> rfl

theorem decodeFault_banks (kind : DecodeFault) (rank : Option Byte) (s : State) : (decodeFault kind rank s).channel.banks = s.channel.banks := by
  rw [decodeFault_eq]

theorem decodeFault_ranks (kind : DecodeFault) (rank : Option Byte) (s : State) : (decodeFault kind rank s).channel.ranks = s.channel.ranks := by
  rw [decodeFault_eq]

theorem vector_set_get {α : Type} {n i : Nat} (v : Vector α n) (x : α) (h : i < n) (k : Fin n) :
    (v.set i x h)[k] = if k.val = i then x else v[k] := by
  simp only [Fin.getElem_fin, Vector.getElem_set, eq_comm (a := i)]

/-- Settles O4: each is one update, and its slot is the one that the record's number names. -/
theorem faultsResultsAndEventsTakeTheirSlots : Obligations.FaultsResultsAndEventsTakeTheirSlots := by
  refine ⟨fun kind rank s => ⟨decodeFault_eq kind rank s, fun h => ?_, fun h => ?_⟩, fun s tag code result info =>
    ⟨rfl, vector_set_get _ _ (Nat.mod_lt _ (by decide)), rfl, vector_set_get _ _ (Nat.mod_lt _ (by decide))⟩⟩
  · simp [decodeFault, h]
  · simp only [decodeFault, h, if_true]
    rfl

/-! ### Commands beyond the map and at sleeping ranks (R2, R6) -/

theorem toRank_of_rankBeyond {rank : Byte} (h : s.rankBeyond rank) : s.toRank rank = none := by
  have hlim : 2 ≤ rank.toNat ∨ s.rankLimit ≤ rank.toNat := by
    rcases h with ⟨-, h⟩ | ⟨hrun, m, hm, h⟩
    · exact .inl h
    · exact .inr (by simpa [State.rankLimit, hrun, hm] using h)
  unfold State.toRank
  split
  · exact if_neg (by omega)
  · rfl

theorem toBank_of_bankBeyond {bank : Byte} (h : s.bankBeyond bank) : s.toBank bank = none := by
  have hlim : 16 ≤ bank.toNat ∨ s.bankLimit ≤ bank.toNat := by
    rcases h with ⟨-, h⟩ | ⟨hrun, m, hm, h⟩
    · exact .inl h
    · exact .inr (by simpa [State.bankLimit, hrun, hm] using h)
  unfold State.toBank
  split
  · exact if_neg (by omega)
  · rfl

section arrived
variable (c : Instr)
@[simp] theorem arrived_ranks : (s.arrived c).channel.ranks = s.channel.ranks := by cases c <;> rfl
@[simp] theorem arrived_banks : (s.arrived c).channel.banks = s.channel.banks := by cases c <;> rfl
@[simp] theorem arrived_toRank (rank : Byte) : (s.arrived c).toRank rank = s.toRank rank := by cases c <;> rfl
@[simp] theorem arrived_toBank (bank : Byte) : (s.arrived c).toBank bank = s.toBank bank := by cases c <;> rfl
@[simp] theorem arrived_bank (i : Fin 32) : (s.arrived c).bank i = s.bank i := by cases c <;> rfl
@[simp] theorem arrived_anyOpen (r : Fin 2) : (s.arrived c).anyOpen r = s.anyOpen r := by cases c <;> rfl
end arrived

theorem atRank_of_rankInMap {rank : Byte} {r : Fin 2} (effect : Fin 2 → State → State) (h : s.rankInMap rank r) :
    atRank rank effect s = effect r s := by simp [atRank, toRank_of_rankInMap h]

theorem atRank_of_none {rank : Byte} (effect : Fin 2 → State → State) (h : s.toRank rank = none) :
    atRank rank effect s = decodeFault .outOfMap (some rank) s := by simp [atRank, h]

theorem atBank_of_none {rank bank : Byte} (effect : Fin 2 → Fin 16 → State → State) (h : s.toRank rank = none ∨ s.toBank bank = none) :
    atBank rank bank effect s = decodeFault .outOfMap (some rank) s := by
  unfold atBank
  split
  · next hr hb => simp [hr, hb] at h
  · rfl

theorem awake_of_active {rank : Byte} {r : Fin 2} (effect : Fin 2 → State → State) (h : s.channel.ranks[r] = .active) :
    awake rank effect r s = effect r s := if_pos h

theorem awake_of_sleeping {rank : Byte} {r : Fin 2} (effect : Fin 2 → State → State) (h : s.channel.ranks[r] ≠ .active) :
    awake rank effect r s = decodeFault .sleepingRank (some rank) s := if_neg h

theorem atBank_of_sleeping {rank bank : Byte} {r : Fin 2} {b : Fin 16} (effect : Fin 2 → Fin 16 → State → State) (hr : s.toRank rank = some r)
    (hb : s.toBank bank = some b) (h : s.channel.ranks[r] ≠ .active) :
    atBank rank bank effect s = decodeFault .sleepingRank (some rank) s := by
  simp only [atBank, hr, hb]
  exact awake_of_sleeping _ h

/-- R2, R12: a Write beyond the map forms no access. -/
theorem writeLine_of_none {rank bank : Byte} (column : BitVec 10) (h : s.toRank rank = none ∨ s.toBank bank = none) :
    s.writeLine rank bank column = none := by
  unfold State.writeLine
  split
  · next hr hb => simp [hr, hb] at h
  · rfl

/-- R6, R12: a Write at a sleeping rank forms no access. -/
theorem writeLine_of_sleeping {rank bank : Byte} {r : Fin 2} {b : Fin 16} (column : BitVec 10) (hr : s.toRank rank = some r)
    (hb : s.toBank bank = some b) (h : s.channel.ranks[r] ≠ .active) : s.writeLine rank bank column = none := by
  simp only [State.writeLine, hr, hb]
  split
  · next hactive _ => exact absurd hactive h
  · rfl

/-- A command past Channel Reset, in the state in which it has left toward the DRAM. -/
theorem exec_read_of_released (hreset : s.channel.resetAsserted = false) (rank bank : Byte) (column : BitVec 10) (a k : Bool) :
    exec (.read rank bank column a k) s = .next (atBank rank bank
      (burst rank a fun n r b s => readOpen (s.burstLine r b n column) column k s) (s.arrived (.read rank bank column a k))) :=
  congrArg _ (channelCommand_of_released _ _ hreset)

theorem exec_write_of_released (hreset : s.channel.resetAsserted = false) (rank bank : Byte) (column : BitVec 10) (a k : Bool) :
    exec (.write rank bank column a k) s = .next (atBank rank bank (burst rank a fun n r b s => writeOpen (s.burstLine r b n column) s)
      (holdWrite (s.writeLine rank bank column) column k { s with toDram := some (.write rank bank column a k) })) :=
  congrArg _ (channelCommand_of_released _ _ hreset)

/-- R10: a Write that forms no access is in flight as `arrived` says. -/
theorem exec_write_of_none (hreset : s.channel.resetAsserted = false) {rank bank : Byte} {column : BitVec 10} (a k : Bool)
    (h : s.writeLine rank bank column = none) :
    exec (.write rank bank column a k) s = .next (atBank rank bank (burst rank a fun n r b s => writeOpen (s.burstLine r b n column) s)
      (s.arrived (.write rank bank column a k))) := by
  rw [exec_write_of_released hreset, h]
  rfl

/-- R2, R6: beyond the map, and at a rank that the command does not find as it must, a command only faults. -/
structure OnlyFaults (c : Instr) (rank : Byte) (s : State) : Prop where
  beyond : s.rankBeyond rank ∨ (∃ bank, bankNamed c = some bank ∧ s.bankBeyond bank) →
    exec c s = .next (decodeFault .outOfMap (some rank) (s.arrived c))
  sleeping : ∀ r, s.rankInMap rank r → (∀ bank, bankNamed c = some bank → ∃ b, s.bankInMap bank b) →
    s.channel.ranks[r] ≠ .active → ownExit s.channel.ranks[r] c = false →
    exec c s = .next (decodeFault .sleepingRank (some rank) (s.arrived c))
  stray : ∀ r, s.rankInMap rank r → s.channel.ranks[r] = .active → isExit c = true →
    exec c s = .next (decodeFault .strayExit (some rank) (s.arrived c))

/-- A command at a rank and bank; a Write has its form only where it forms no access. -/
theorem onlyFaults_bank {c : Instr} {rank bank : Byte} (column : BitVec 10) (hb : bankNamed c = some bank) (hx : isExit c = false)
    (effect : Fin 2 → Fin 16 → State → State)
    (hexec : s.writeLine rank bank column = none → exec c s = .next (atBank rank bank effect (s.arrived c))) : OnlyFaults c rank s where
  beyond h := by
    have hnone : s.toRank rank = none ∨ s.toBank bank = none := by
      rcases h with h | ⟨b, hb', h⟩
      · exact .inl (toRank_of_rankBeyond h)
      · obtain rfl : bank = b := Option.some.inj (hb.symm.trans hb')
        exact .inr (toBank_of_bankBeyond h)
    rw [hexec (writeLine_of_none column hnone), atBank_of_none _ (by simpa using hnone)]
  sleeping r hr hbank hs _ := by
    obtain ⟨b, hbank⟩ := hbank bank hb
    have hr := toRank_of_rankInMap hr
    have hbank := toBank_of_bankInMap hbank
    rw [hexec (writeLine_of_sleeping column hr hbank hs),
      atBank_of_sleeping (r := r) (b := b) _ (by simpa using hr) (by simpa using hbank) (by simpa using hs)]
  stray _ _ _ h := by simp [hx] at h

/-- A command at a rank alone, by what it does at the rank. -/
theorem onlyFaults_rank {c : Instr} {rank : Byte} (hb : bankNamed c = none) (effect : Fin 2 → State → State)
    (hexec : exec c s = .next (atRank rank effect (s.arrived c)))
    (sleeping : ∀ (u : State) r, u.channel.ranks[r] ≠ .active → ownExit u.channel.ranks[r] c = false →
      effect r u = decodeFault .sleepingRank (some rank) u)
    (stray : isExit c = true → ∀ (u : State) r, u.channel.ranks[r] = .active → effect r u = decodeFault .strayExit (some rank) u) :
    OnlyFaults c rank s where
  beyond h := by
    have h : s.rankBeyond rank := h.resolve_right fun ⟨b, hb', _⟩ => by simp [hb] at hb'
    rw [hexec, atRank_of_none _ (by simpa using toRank_of_rankBeyond h)]
  sleeping r hr _ hs hx := by
    rw [hexec, atRank, arrived_toRank, toRank_of_rankInMap hr]
    exact congrArg _ (sleeping _ r (by simpa using hs) (by simpa using hx))
  stray r hr hs hx := by
    rw [hexec, atRank, arrived_toRank, toRank_of_rankInMap hr]
    exact congrArg _ (stray hx _ r (by simpa using hs))

theorem exitSelfRefresh_of_sleeping {rank : Byte} (u : State) (r : Fin 2) (hs : u.channel.ranks[r] ≠ .active)
    (hx : ownExit u.channel.ranks[r] (.selfRefreshExit rank) = false) : exitSelfRefresh rank r u = decodeFault .sleepingRank (some rank) u := by
  unfold exitSelfRefresh
  split
  · next h => simp [ownExit, h] at hx
  · next h => exact absurd h hs
  · rfl
  · rfl

theorem exitPowerDown_of_sleeping {rank : Byte} (u : State) (r : Fin 2) (hs : u.channel.ranks[r] ≠ .active)
    (hx : ownExit u.channel.ranks[r] (.powerDownExit rank) = false) : exitPowerDown rank r u = decodeFault .sleepingRank (some rank) u := by
  unfold exitPowerDown
  split
  · next h => simp [ownExit, h] at hx
  · next h => simp [ownExit, h] at hx
  · next h => exact absurd h hs
  · rfl

/-- R2, R6: what each command that names a rank has of the checks. -/
theorem onlyFaults {c : Instr} {rank : Byte} (hreset : s.channel.resetAsserted = false) (hc : rankNamed c = some rank) :
    OnlyFaults c rank s := by
  have gate := fun effect => channelCommand_of_released (s := s) c effect hreset
  cases c with
  | openRow k bank row =>
    obtain rfl := Option.some.inj hc
    exact onlyFaults_bank 0 rfl rfl _ fun _ => congrArg _ (gate _)
  | read k bank column a h =>
    obtain rfl := Option.some.inj hc
    exact onlyFaults_bank column rfl rfl _ fun _ => exec_read_of_released hreset ..
  | write k bank column a h =>
    obtain rfl := Option.some.inj hc
    exact onlyFaults_bank column rfl rfl _ fun h => exec_write_of_none hreset _ _ h
  | close k bank =>
    obtain rfl := Option.some.inj hc
    exact onlyFaults_bank 0 rfl rfl _ fun _ => congrArg _ (gate _)
  | closeAll k =>
    obtain rfl := Option.some.inj hc
    exact onlyFaults_rank rfl _ (congrArg _ (gate _)) (fun _ _ h _ => awake_of_sleeping _ h) nofun
  | refresh k =>
    obtain rfl := Option.some.inj hc
    exact onlyFaults_rank rfl _ (congrArg _ (gate _)) (fun _ _ h _ => awake_of_sleeping _ h) nofun
  | selfRefreshEnter k =>
    obtain rfl := Option.some.inj hc
    exact onlyFaults_rank rfl _ (congrArg _ (gate _)) (fun _ _ h _ => awake_of_sleeping _ h) nofun
  | selfRefreshExit k =>
    obtain rfl := Option.some.inj hc
    exact onlyFaults_rank rfl _ (congrArg _ (gate _)) exitSelfRefresh_of_sleeping fun _ u r h => by simp [exitSelfRefresh, h]
  | powerDownEnter k =>
    obtain rfl := Option.some.inj hc
    exact onlyFaults_rank rfl _ (congrArg _ (gate _)) (fun _ _ h _ => awake_of_sleeping _ h) nofun
  | powerDownExit k =>
    obtain rfl := Option.some.inj hc
    exact onlyFaults_rank rfl _ (congrArg _ (gate _)) exitPowerDown_of_sleeping fun _ u r h => by simp [exitPowerDown, h]
  | _ => exact nomatch hc

/-- Settles O5: by the checks that every command makes before its effect. -/
theorem unclassifiedCommandsOnlyFault : Obligations.UnclassifiedCommandsOnlyFault := fun _ _ _ hreset hc =>
  have h := onlyFaults hreset hc
  ⟨h.beyond, fun r hr hb => ⟨h.sleeping r hr hb, h.stray r hr⟩⟩

/-! ### The Bank Table (R4, R5, R8, R9) -/

theorem mem_banksOf {r : Fin 2} {i : Fin 32} : i ∈ banksOf r ↔ i.val / 16 = r.val := by
  simp only [banksOf, List.mem_map, List.mem_finRange, true_and]
  constructor
  · rintro ⟨b, rfl⟩
    simp only [bankIndex]
    omega
  · intro h
    exact ⟨⟨i.val % 16, Nat.mod_lt _ (by decide)⟩, Fin.ext (by simp only [bankIndex]; omega)⟩

theorem anyOpen_iff {r : Fin 2} : s.anyOpen r = true ↔ ∃ i : Fin 32, i.val / 16 = r.val ∧ (s.bank i).isOpen = true := by
  simp only [State.anyOpen, List.any_eq_true, mem_banksOf]

theorem anyOpen_eq_false {r : Fin 2} (h : ∀ i : Fin 32, i.val / 16 = r.val → (s.bank i).isOpen = false) : s.anyOpen r = false := by
  simp only [State.anyOpen, List.any_eq_false, mem_banksOf]
  exact fun i hi => by simp [h i hi]

/-- The Bank Table with some entries set to one state. -/
def banksSet (l : List (Fin 32)) (st : BankState) (v : Vector BankState 32) : Vector BankState 32 := 
  l.foldl (fun v (i : Fin 32) => v.set i st) v

theorem banksSet_get (l : List (Fin 32)) (st : BankState) (v : Vector BankState 32) (k : Fin 32) :
    (banksSet l st v)[k] = if k ∈ l then st else v[k] := by
  induction l generalizing v with
  | nil => rfl
  | cons i l ih =>
    have hi : (v.set i st)[k] = if k = i then st else v[k] := by simp only [vector_set_get, Fin.ext_iff]
    have step : banksSet (i :: l) st v = banksSet l st (v.set i st) := rfl
    rw [step, ih, hi]
    by_cases hk : k ∈ l
    · simp [hk]
    · simp [hk]

theorem setBanks_eq (r : Fin 2) (st : BankState) (s : State) :
    setBanks r st s = s.onChannel fun c => { c with banks := banksSet (banksOf r) st c.banks } := by
  unfold setBanks
  generalize banksOf r = l
  induction l generalizing s with
  | nil => rfl
  | cons i l ih => exact ih _

theorem banksOf_get (r : Fin 2) (st : BankState) (i : Fin 32) :
    (banksSet (banksOf r) st s.channel.banks)[i] = if i.val / 16 = r.val then st else s.bank i := by
  rw [banksSet_get]
  simp only [mem_banksOf, State.bank]

/-- A command at a rank in Active. -/
theorem exec_of_rankReady {c : Instr} {rank : Byte} {r : Fin 2} {effect : Fin 2 → State → State} (h : s.rankReady rank r)
    (hexec : ∀ s, exec c s = .next (channelCommand c (atRank rank (awake rank effect)) s)) (ha : s.arrived c = { s with toDram := some c }) :
    exec c s = .next (effect r (s.arrived c)) := by
  obtain ⟨hreset, hr, hactive⟩ := h
  rw [hexec, channelCommand_of_released c _ hreset, ← ha, atRank, arrived_toRank, toRank_of_rankInMap hr]
  exact congrArg _ (awake_of_active _ (by simpa using hactive))

/-- R6: a command other than an own exit leaves the Bank Table and the ranks at a sleeping rank. -/
theorem onlyFaults_leaves {c : Instr} {rank : Byte} {r : Fin 2} (hf : OnlyFaults c rank s) (hr : s.rankInMap rank r)
    (hb : ∀ bank, bankNamed c = some bank → ∃ b, s.bankInMap bank b) (hs : s.channel.ranks[r] ≠ .active)
    (hx : ownExit s.channel.ranks[r] c = false) :
    ∃ t, exec c s = .next t ∧ t.channel.banks = s.channel.banks ∧ t.channel.ranks = s.channel.ranks :=
  ⟨_, hf.sleeping r hr hb hs hx, by rw [decodeFault_banks, arrived_banks], by rw [decodeFault_ranks, arrived_ranks]⟩

/-- Settles O8: each command at its rank in Active, by what `banksOf` names. -/
theorem closeAndRefreshMoveTheBanks : Obligations.CloseAndRefreshMoveTheBanks := by
  refine ⟨fun s rank bank r b hreset hr hb => ⟨fun hactive => ⟨?close, ?closeAll⟩, fun hs c hc => ?sleeping⟩,
    fun s rank r hready => ⟨fun hshut => ?quiet, fun hopen => ?fault⟩⟩
  case close =>
    have hready : (s.arrived (.close rank bank)).bankReady rank bank r b := ⟨⟨hreset, hr, hactive⟩, hb⟩
    exact congrArg _ ((channelCommand_of_released _ _ hreset).trans (atBank_of_bankReady _ hready))
  case closeAll =>
    refine ⟨banksSet (banksOf r) .closed s.channel.banks, ?_, fun i => banksOf_get r _ i⟩
    rw [exec_of_rankReady (effect := fun r => setBanks r .closed) ⟨hreset, hr, hactive⟩ (fun _ => rfl) rfl, setBanks_eq]
    rfl
  case sleeping =>
    rcases hc with rfl | rfl
    · exact onlyFaults_leaves (onlyFaults hreset rfl) hr (fun k hk => ⟨b, by cases hk; exact hb⟩) hs rfl
    · exact onlyFaults_leaves (onlyFaults hreset rfl) hr (fun k hk => nomatch hk) hs rfl
  case quiet =>
    rw [exec_of_rankReady (effect := refreshRank rank) hready (fun _ => rfl) rfl]
    simp [refreshRank, anyOpen_eq_false hshut]
  case fault =>
    refine ⟨banksSet (banksOf r) .unknown s.channel.banks, ?_, fun i => banksOf_get r _ i⟩
    rw [exec_of_rankReady (effect := refreshRank rank) hready (fun _ => rfl) rfl]
    simp only [refreshRank, arrived_anyOpen, anyOpen_iff.mpr hopen, if_true, setBanks_eq]
    rfl

/-- Settles O9: entry from Active by whether a bank is Open, and the own exit. -/
theorem sleepingRanksComeBack : Obligations.SleepingRanksComeBack := by
  refine ⟨fun s rank r hreset hr => ⟨fun ha hopen => ?_, fun ha hshut => ?_, fun hs => ?_⟩,
    fun s rank r hreset hr => ⟨fun ha hshut => ?_, fun ha hopen => ?_, fun hs => ?_⟩⟩
  · rw [exec_of_rankReady (effect := enterPowerDown) ⟨hreset, hr, ha⟩ (fun _ => rfl) rfl]
    simp only [enterPowerDown, arrived_anyOpen, anyOpen_iff.mpr hopen, if_true]
    rfl
  · rw [exec_of_rankReady (effect := enterPowerDown) ⟨hreset, hr, ha⟩ (fun _ => rfl) rfl]
    simp only [enterPowerDown, arrived_anyOpen, anyOpen_eq_false hshut]
    rfl
  · have hexit : exitPowerDown rank r (s.arrived (.powerDownExit rank)) = setRank r .active (s.arrived (.powerDownExit rank)) := by
      rcases hs with h | h <;> simp [exitPowerDown, h]
    have hin : (s.arrived (.powerDownExit rank)).rankInMap rank r := hr
    exact congrArg _ ((channelCommand_of_released _ _ hreset).trans ((atRank_of_rankInMap _ hin).trans hexit))
  · rw [exec_of_rankReady (effect := enterSelfRefresh rank) ⟨hreset, hr, ha⟩ (fun _ => rfl) rfl]
    simp only [enterSelfRefresh, arrived_anyOpen, anyOpen_eq_false hshut]
    rfl
  · refine ⟨banksSet (banksOf r) .unknown s.channel.banks, ?_, fun i => banksOf_get r _ i⟩
    rw [exec_of_rankReady (effect := enterSelfRefresh rank) ⟨hreset, hr, ha⟩ (fun _ => rfl) rfl]
    simp only [enterSelfRefresh, arrived_anyOpen, anyOpen_iff.mpr hopen, if_true, setBanks_eq]
    rfl
  · refine ⟨banksSet (banksOf r) .closed s.channel.banks, ?_, fun i => banksOf_get r _ i⟩
    have hexit : exitSelfRefresh rank r (s.arrived (.selfRefreshExit rank)) =
        setBanks r .closed (setRank r .active (s.arrived (.selfRefreshExit rank))) := by simp [exitSelfRefresh, hs]
    have hin : (s.arrived (.selfRefreshExit rank)).rankInMap rank r := hr
    rw [setBanks_eq] at hexit
    exact congrArg _ ((channelCommand_of_released _ _ hreset).trans ((atRank_of_rankInMap _ hin).trans hexit))

/-! ### Latencies (R11) -/

theorem toLatency_of_range {hi : Nat} {v : Byte} (h : 5 ≤ v.toNat) (k : v.toNat ≤ hi) : toLatency hi v = some v.toNat := if_pos ⟨h, k⟩

theorem toLatency_of_beyond {hi : Nat} {v : Byte} (h : v.toNat < 5 ∨ hi < v.toNat) : toLatency hi v = none := if_neg (by omega)

theorem toAdditive_of_beyond {v : Byte} (h : 2 < v.toNat) : toAdditive v = none := by
  have hv : ∀ k : Byte, k.toNat ≤ 2 → v ≠ k := fun k hk e => by subst e; omega
  rw [toAdditive, if_neg (hv 0 (by decide)), if_neg (hv 1 (by decide)), if_neg (hv 2 (by decide))]

theorem toAdditive_of_mem {v : Byte} {a : Additive} (h : (v, a) ∈ [(0, Additive.off), (1, .clMinus1), (2, .clMinus2)]) :
    toAdditive v = some a := by
  simp only [List.mem_cons, Prod.mk.injEq, List.not_mem_nil, or_false] at h
  rcases h with ⟨rfl, rfl⟩ | ⟨rfl, rfl⟩ | ⟨rfl, rfl⟩ <;> rfl

theorem latenciesKnown_iff {c : Channel} : c.latenciesKnown = true ↔ c.readCas ≠ none ∧ c.additive ≠ none ∧ c.writeCas ≠ none := by
  simp only [Channel.latenciesKnown, Bool.and_eq_true, Option.isSome_iff_ne_none, and_assoc]

/-- Settles O10: by the register, and by whether the value is recognised. -/
theorem modeSetTakesLatencies : Obligations.ModeSetTakesLatencies := by
  intro s register value hreset c u
  have hexec : exec c s = .next (setMode register value u) := congrArg _ (channelCommand_of_released _ _ hreset)
  rw [hexec]
  refine ⟨?_, ?_, ?_, ?_, ?_, ?_, fun h => ?_, latenciesKnown_iff⟩
  · rintro rfl h k
    simp only [setMode, setLatency, toLatency_of_range h k, if_true]
    rfl
  · rintro rfl h
    simp only [setMode, setLatency, toLatency_of_beyond h, if_true]
    rfl
  · rintro rfl a h
    simp only [setMode, setLatency, toAdditive_of_mem h]
    rfl
  · rintro rfl h
    simp only [setMode, setLatency, toAdditive_of_beyond h]
    rfl
  · rintro rfl h k
    simp only [setMode, setLatency, toLatency_of_range h k]
    rfl
  · rintro rfl h
    simp only [setMode, setLatency, toLatency_of_beyond h]
    rfl
  · have hv : ∀ k : Byte, k.toNat ≤ 2 → register ≠ k := fun k hk e => by subst e; omega
    rw [setMode, if_neg (hv 0 (by decide)), if_neg (hv 1 (by decide)), if_neg (hv 2 (by decide))]

end Sys2Proof.Machine

/-! PROOFS. The bursts at a bank: those that form no access, a Read that is served or passes, and a Write that waits for its beats. -/

namespace Sys2Proof.Machine
variable {s : State}

/-! ### A burst at its bank (R10) -/

section burst
variable {rank : Byte} {r : Fin 2} {b : Fin 16} (a : Bool) (row : Nat → Fin 2 → Fin 16 → State → State)

theorem burst_of_open {n : Nat} (h : s.bank (bankIndex r b) = .opened n) :
    burst rank a row r b s = autoClosed a r b (row n r b s) := by simp only [burst, h, autoClosed]

theorem burst_of_shut (h : (s.bank (bankIndex r b)).isOpen = false) :
    burst rank a row r b s = autoClosed a r b (decodeFault .closedAccess (some rank) s) := by
  cases hb : s.bank (bankIndex r b) with
  | opened n => simp [hb, BankState.isOpen] at h
  | closed => simp only [burst, hb, autoClosed]
  | unknown => simp only [burst, hb, autoClosed]

end burst

section bankReady
variable {rank bank : Byte} {column : BitVec 10} {a k : Bool} {r : Fin 2} {b : Fin 16} {row : Nat}

/-- R12: the line of the access that a Write at a ready bank forms. -/
theorem writeLine_of_open (h : s.bankReady rank bank r b) (hopen : s.bank (bankIndex r b) = .opened row) :
    s.writeLine rank bank column = if s.channel.latenciesKnown then s.burstLine r b row column else none := by
  obtain ⟨⟨-, hrank, hactive⟩, hbank⟩ := h
  simp only [State.writeLine, toRank_of_rankInMap hrank, toBank_of_bankInMap hbank, hactive, hopen]

theorem writeLine_of_shut (h : s.bankReady rank bank r b) (hshut : (s.bank (bankIndex r b)).isOpen = false) :
    s.writeLine rank bank column = none := by
  obtain ⟨⟨-, hrank, hactive⟩, hbank⟩ := h
  simp only [State.writeLine, toRank_of_rankInMap hrank, toBank_of_bankInMap hbank]
  split
  · next hopen => simp [hopen, BankState.isOpen] at hshut
  · rfl

/-- R10: a Read at a ready bank is a burst in the state in which it has left toward the DRAM. -/
theorem exec_read_of_bankReady (h : s.bankReady rank bank r b) :
    exec (.read rank bank column a k) s = .next (burst rank a (fun n r b s => readOpen (s.burstLine r b n column) column k s) r b
      (s.arrived (.read rank bank column a k))) := by
  have hready : (s.arrived (.read rank bank column a k)).bankReady rank bank r b := h
  rw [exec_read_of_released h.1.1, atBank_of_bankReady _ hready]

theorem exec_write_of_bankReady (h : s.bankReady rank bank r b) :
    exec (.write rank bank column a k) s = .next (burst rank a (fun n r b s => writeOpen (s.burstLine r b n column) s) r b
      (holdWrite (s.writeLine rank bank column) column k { s with toDram := some (.write rank bank column a k) })) := by
  have hready : (holdWrite (s.writeLine rank bank column) column k
    { s with toDram := some (.write rank bank column a k) }).bankReady rank bank r b := h
  rw [exec_write_of_released h.1.1, atBank_of_bankReady _ hready]

/-- R10, R12: a Write that forms no access, at a ready bank. -/
theorem exec_write_of_noAccess (h : s.bankReady rank bank r b) (hn : s.writeLine rank bank column = none) :
    exec (.write rank bank column a k) s = .next (burst rank a (fun n r b s => writeOpen (s.burstLine r b n column) s) r b
      (s.arrived (.write rank bank column a k))) := by
  rw [exec_write_of_bankReady h, hn]
  rfl

/-- R10: a Read at an Open bank. -/
theorem exec_read_of_open (h : s.bankReady rank bank r b) (hopen : s.bank (bankIndex r b) = .opened row) :
    exec (.read rank bank column a k) s = .next (autoClosed a r b (readOpen (s.burstLine r b row column) column k
      (s.arrived (.read rank bank column a k)))) := by
  rw [exec_read_of_bankReady h, burst_of_open (n := row) _ _ (by simpa using hopen)]
  rfl

/-- R10: a Write at an Open bank that forms no access. -/
theorem exec_write_of_open (h : s.bankReady rank bank r b) (hopen : s.bank (bankIndex r b) = .opened row)
    (hn : s.writeLine rank bank column = none) :
    exec (.write rank bank column a k) s = .next (autoClosed a r b (writeOpen (s.burstLine r b row column)
      (s.arrived (.write rank bank column a k)))) := by
  rw [exec_write_of_noAccess h hn, burst_of_open (n := row) _ _ (by simpa using hopen)]
  rfl

end bankReady

section line
variable {r : Fin 2} {b : Fin 16} {row : Nat} {column : BitVec 10}

theorem burstLine_of_starting (h : s.roster.ownState = .starting) : s.burstLine r b row column = none := if_pos h

theorem burstLine_of_map {map : AddressMap} (h : s.roster.ownState ≠ .starting) (hm : s.channel.map = some map) :
    s.burstLine r b row column = some (map.lineAddress r.val b.val row column.toNat) := by
  simp only [State.burstLine, if_neg h, hm, Option.map_some]

end line

/-! ### Bursts that form no access (R10, R12) -/

theorem readOpen_of_unknown {line : Nat} (column : BitVec 10) (k : Bool) (h : s.channel.latenciesKnown = false) :
    readOpen (some line) column k s = unserved line s := by simp [readOpen, h]

theorem writeOpen_of_unknown {line : Nat} (h : s.channel.latenciesKnown = false) : writeOpen (some line) s = missed line s := by
  simp [writeOpen, h]

/-- R12: what counts as unserved by the line's region. -/
theorem unserved_of_served {line : Nat} (h : s.routeOfLine line = some .report ∨ ∃ m, s.routeOfLine line = some (.mirror m)) :
    unserved line s = s.onChannel fun c => { c with unservedReads := countUp c.unservedReads } := by
  rcases h with h | ⟨m, h⟩ <;> simp only [unserved, h]

theorem unserved_of_other {line : Nat} (hr : s.routeOfLine line ≠ some .report) (hm : ∀ m, s.routeOfLine line ≠ some (.mirror m)) :
    unserved line s = s := by
  unfold unserved
  split
  · next h => exact absurd h hr
  · next m h => exact absurd h (hm m)
  · rfl
  · rfl
  · rfl

/-- R12: what counts as missed by the line's region. -/
theorem missed_of_taken {line : Nat} (h : s.routeOfLine line = some .directive ∨ ∃ t, s.routeOfLine line = some (.tap t)) :
    missed line s = s.onChannel fun c => { c with missedWrites := countUp c.missedWrites } := by
  rcases h with h | ⟨t, h⟩ <;> simp only [missed, h]

theorem missed_of_other {line : Nat} (hd : s.routeOfLine line ≠ some .directive) (ht : ∀ t, s.routeOfLine line ≠ some (.tap t)) :
    missed line s = s := by
  unfold missed
  split
  · next h => exact absurd h hd
  · next t h => exact absurd h (ht t)
  · rfl
  · rfl
  · rfl

/-- Settles O11: a bank that is not Open, a part that is Starting, and Latencies Known clear, each by the branch that it takes. -/
theorem burstsThatFormNoAccess : Obligations.BurstsThatFormNoAccess := by
  refine ⟨?shut, ?opened⟩
  case shut =>
    intro s rank bank column a k r b hready hshut c hc
    rcases hc with rfl | rfl
    · rw [exec_read_of_bankReady hready, burst_of_shut _ _ (by simpa using hshut)]
    · rw [exec_write_of_noAccess hready (writeLine_of_shut hready hshut), burst_of_shut _ _ (by simpa using hshut)]
  case opened =>
  intro s rank bank column a k r b row hready hopen rd wr
  refine ⟨fun hstart => ?starting, ?unknown⟩
  case starting =>
    have hn : s.writeLine rank bank column = none := by rw [writeLine_of_open hready hopen, burstLine_of_starting hstart, ite_self]
    exact ⟨by rw [exec_read_of_open hready hopen, burstLine_of_starting hstart]; rfl,
      by rw [exec_write_of_open hready hopen hn, burstLine_of_starting hstart]; rfl⟩
  case unknown =>
    intro map hmap hlat hrun route
    have hn : s.writeLine rank bank column = none := by simp [writeLine_of_open hready hopen, hlat]
    have hrd : exec rd s = .next (autoClosed a r b (unserved (map.lineAddress r.val b.val row column.toNat) (s.arrived rd))) := by
      rw [exec_read_of_open hready hopen, burstLine_of_map hrun hmap, readOpen_of_unknown (s := s.arrived rd) _ _ hlat]
    have hwr : exec wr s = .next (autoClosed a r b (missed (map.lineAddress r.val b.val row column.toNat) (s.arrived wr))) := by
      rw [exec_write_of_open hready hopen hn, burstLine_of_map hrun hmap, writeOpen_of_unknown (s := s.arrived wr) hlat]
    have hroute : (s.arrived rd).routeOfLine (map.lineAddress r.val b.val row column.toNat) = route := rfl
    have hroute' : (s.arrived wr).routeOfLine (map.lineAddress r.val b.val row column.toNat) = route := rfl
    refine ⟨fun h => ⟨?_, ?_⟩, fun h => ⟨?_, ?_⟩, fun h => ⟨?_, ?_⟩⟩
    · rw [hrd, unserved_of_served (hroute ▸ h)]
      rfl
    · rw [hwr, missed_of_other] <;> rw [hroute'] <;> rcases h with h | ⟨m, h⟩ <;> simp [h]
    · rw [hrd, unserved_of_other] <;> rw [hroute] <;> rcases h with h | ⟨m, h⟩ <;> simp [h]
    · rw [hwr, missed_of_taken (hroute' ▸ h)]
      rfl
    · rw [hrd, unserved_of_other] <;> rw [hroute] <;> simp [h]
    · rw [hwr, missed_of_other] <;> rw [hroute'] <;> simp [h]

/-! ### Reads (R18, R30) -/

/-- R18: a Read that no block serves passes as the DRAM drives it. -/
theorem serveRead_of_other {line : Nat} (column : BitVec 10) (k : Bool) (hr : s.routeOfLine line ≠ some .report)
    (hm : ∀ m, s.routeOfLine line ≠ some (.mirror m)) : serveRead line column k s = { s with toController := .dram } := by
  unfold serveRead
  split
  · next h => exact absurd h hr
  · next m h => exact absurd h (hm m)
  · rfl
  · rfl
  · rfl

theorem serveRead_of_report {line : Nat} (column : BitVec 10) (k : Bool) (h : s.routeOfLine line = some .report) :
    serveRead line column k s = drive column k (reportLine (line - (s.region 1).baseLine) s) s := by simp only [serveRead, h]

theorem serveRead_of_mirror {line : Nat} (column : BitVec 10) (k : Bool) {m : MirrorNo} (h : s.routeOfLine line = some (.mirror m)) :
    serveRead line column k s =
      drive column k (mirrorRead m (s.mirrorCoord m line) s).1 (mirrorRead m (s.mirrorCoord m line) s).2 := by simp only [serveRead, h]

/-- A report line shows nothing of what the channel passes on. -/
theorem reportLine_arrived (n : Nat) (rank bank : Byte) (column : BitVec 10) (a k : Bool) (s : State) :
    reportLine n (s.arrived (.read rank bank column a k)) = reportLine n s := rfl

/-- Settles O12: the read of an access, by the region of its line. -/
theorem readsAreServedOrPass : Obligations.ReadsAreServedOrPass := by
  intro s rank bank column a k r b row map hready hopen hrun hmap hlat c line
  have hexec : exec c s = .next (autoClosed a r b (serveRead line column k (s.arrived c))) := by
    rw [exec_read_of_open hready hopen, burstLine_of_map hrun hmap]
    exact congrArg (fun u => Host.Outcome.next (autoClosed a r b u)) (if_pos hlat)
  have hroute : (s.arrived c).routeOfLine line = s.routeOfLine line := rfl
  rw [hexec]
  refine ⟨fun h => ?_, fun m h => ?_, fun hr hm => ?_⟩
  · rw [serveRead_of_report _ _ (hroute.trans h), reportLine_arrived]
    rfl
  · rw [serveRead_of_mirror _ _ (hroute.trans h)]
    rfl
  · rw [serveRead_of_other _ _ (by rwa [hroute]) (by rwa [hroute])]
    rfl

/-! ### Writes (R11, R12, R18, R30) -/

theorem autoClosed_inFlight (a : Bool) (r : Fin 2) (b : Fin 16) (s : State) : (autoClosed a r b s).channel.inFlight = s.channel.inFlight := by
  unfold autoClosed
  split <;> rfl

theorem decodeFault_inFlight (kind : DecodeFault) (rank : Option Byte) (s : State) :
    (decodeFault kind rank s).channel.inFlight = s.channel.inFlight := by rw [decodeFault_eq]

theorem missed_inFlight (line : Nat) (s : State) : (missed line s).channel.inFlight = s.channel.inFlight := by
  unfold missed
  split <;> rfl

theorem writeOpen_inFlight (line : Option Nat) (s : State) : (writeOpen line s).channel.inFlight = s.channel.inFlight := by
  unfold writeOpen
  split
  · rfl
  · split
    · rfl
    · exact missed_inFlight ..

theorem writeBurst_inFlight (rank : Byte) (a : Bool) (column : BitVec 10) (r : Fin 2) (b : Fin 16) (s : State) :
    (burst rank a (fun n r b s => writeOpen (s.burstLine r b n column) s) r b s).channel.inFlight = s.channel.inFlight := by
  cases hb : (s.bank (bankIndex r b)).isOpen with
  | false => rw [burst_of_shut _ _ hb, autoClosed_inFlight, decodeFault_inFlight]
  | true =>
    cases hn : s.bank (bankIndex r b) with
    | opened n => rw [burst_of_open (n := n) _ _ hn, autoClosed_inFlight, writeOpen_inFlight]
    | closed => simp [hn, BankState.isOpen] at hb
    | unknown => simp [hn, BankState.isOpen] at hb

/-- What a command at a rank and bank keeps in every one of its branches. -/
theorem atBank_inFlight {rank bank : Byte} {effect : Fin 2 → Fin 16 → State → State} (s : State)
    (h : ∀ r b, (effect r b s).channel.inFlight = s.channel.inFlight) : (atBank rank bank effect s).channel.inFlight = s.channel.inFlight := by
  unfold atBank
  split
  · unfold awake
    split
    · exact h _ _
    · exact decodeFault_inFlight ..
  · exact decodeFault_inFlight ..

theorem writeLatency_of_known {c : Channel} {cl wl : Nat} {al : Additive} (hc : c.readCas = some cl) (ha : c.additive = some al)
    (hw : c.writeCas = some wl) :
    c.writeLatency = some (wl + match al with | .off => 0 | .clMinus1 => cl - 1 | .clMinus2 => cl - 2) := by
  cases al <;> simp [Channel.writeLatency, Channel.additiveLatency, hc, ha, hw]

theorem serveWrite_of_none {line : Nat} (data : Line) (enables : BitVec 64)
    (h : s.routeOfLine line = none ∨ s.routeOfLine line = some .report) : serveWrite line data enables s = s := by
  rcases h with h | h <;> simp only [serveWrite, h]

theorem serveWrite_of_mirror {line : Nat} (data : Line) (enables : BitVec 64) {m : MirrorNo} (h : s.routeOfLine line = some (.mirror m)) :
    serveWrite line data enables s = mirrorWrite m s := by simp only [serveWrite, h]

theorem serveWrite_of_tap {line : Nat} (data : Line) (enables : BitVec 64) {t : TapNo} (h : s.routeOfLine line = some (.tap t)) :
    serveWrite line data enables s = conclude s (tapWrite t (s.tapCoord t line) data enables s) := by simp only [serveWrite, h]

theorem serveWrite_of_directive {line : Nat} (data : Line) (enables : BitVec 64) (h : s.routeOfLine line = some .directive) :
    serveWrite line data enables s = directiveWrite line data enables s := by simp only [serveWrite, h]

/-- Settles O13: a Write joins the flight on every path, and its last data beat hands on the access of the oldest, by its line's region. -/
theorem writesAreRoutedWhole : Obligations.WritesAreRoutedWhole := by
  refine ⟨?joins, ?access, ?beats⟩
  case joins =>
    intro s rank bank column a k hreset
    exact ⟨_, _, exec_write_of_released hreset .., atBank_inFlight _ fun r b => writeBurst_inFlight ..⟩
  case access =>
    intro s rank bank column a k r b row cl wl al map hready hopen hrun hmap hc ha hw c extra
    have hlat : s.channel.latenciesKnown = true := latenciesKnown_iff.mpr ⟨by simp [hc], by simp [ha], by simp [hw]⟩
    have hline := burstLine_of_map (r := r) (b := b) (row := row) (column := column) hrun hmap
    have hwrite : s.writeLine rank bank column = some (map.lineAddress r.val b.val row column.toNat) := by
      rw [writeLine_of_open hready hopen, hlat, hline]
      rfl
    let u := holdWrite (some (map.lineAddress r.val b.val row column.toNat)) column k { s with toDram := some c }
    have hexec : exec c s = .next (autoClosed a r b (writeOpen (s.burstLine r b row column) u)) := by
      rw [exec_write_of_bankReady hready, hwrite, burst_of_open (s := u) (n := row) _ _ hopen]
      rfl
    rw [hexec]
    have hu : writeOpen (s.burstLine r b row column) u = u := by
      rw [hline]
      exact if_pos hlat
    have hl : s.channel.writeLatency = some (wl + extra) := (writeLatency_of_known hc ha hw).trans (by cases al <;> rfl)
    rw [hu, ← hl]
    rfl
  case beats =>
  intro s beats hreset c
  have hexec : exec c s = .next (handOn beats (s.arrived c)) := congrArg _ (channelCommand_of_released _ _ hreset)
  refine ⟨fun hnone => ?passes, ?hands⟩
  case passes => rw [hexec, handOn, show (s.arrived c).channel.inFlight = [] from hnone]
  case hands =>
  intro w rest hflight u data enables
  have hpass : exec c s = .next (passWrite w beats u) := by
    rw [hexec, handOn, show (s.arrived c).channel.inFlight = w :: rest from hflight]
  refine ⟨fun hw => ?noAccess, fun line hline => ?routed⟩
  case noAccess => rw [hpass, passWrite, hw]
  case routed =>
    have hserve : exec c s = .next (serveWrite line data enables u) := by
      rw [hpass, passWrite, hline]
    have hroute : u.routeOfLine line = s.routeOfLine line := rfl
    rw [hserve]
    refine ⟨fun h => ?_, fun m h => ?_, fun t h => ?_, fun h he => ?_, fun h he => ?_⟩
    · rw [serveWrite_of_none _ _ (hroute ▸ h)]
    · rw [serveWrite_of_mirror _ _ (hroute ▸ h)]
      rfl
    · rw [serveWrite_of_tap _ _ (hroute ▸ h)]
      rfl
    · rw [serveWrite_of_directive _ _ (hroute ▸ h), directiveWrite, if_pos he]
    · rw [serveWrite_of_directive _ _ (hroute ▸ h), directiveWrite, if_neg he]
      rfl

end Sys2Proof.Machine

/-! PROOFS. Line addresses as numbers in a mixed radix, and the beats of a burst as pieces of their line. -/

namespace Sys2Proof.Machine

/-! ### Numbers in a mixed radix -/

theorem radix_lt {a b A B : Nat} (ha : a < A) (hb : b < B) : a * B + b < A * B :=
  calc a * B + b < a * B + B := Nat.add_lt_add_left hb _
    _ = (a + 1) * B := (Nat.succ_mul a B).symm
    _ ≤ A * B := Nat.mul_le_mul_right B ha

theorem radix_div {a b B : Nat} (hb : b < B) : (a * B + b) / B = a := by
  rw [Nat.mul_comm, Nat.mul_add_div (Nat.zero_lt_of_lt hb), Nat.div_eq_of_lt hb, Nat.add_zero]

theorem radix_mod {a b B : Nat} (hb : b < B) : (a * B + b) % B = b := by
  rw [Nat.mul_comm, Nat.mul_add_mod, Nat.mod_eq_of_lt hb]

theorem radix_inj {a a' b b' B : Nat} (hb : b < B) (hb' : b' < B) : a * B + b = a' * B + b' ↔ a = a' ∧ b = b' := by
  refine ⟨fun h => ⟨?_, ?_⟩, fun ⟨ha, hb⟩ => by rw [ha, hb]⟩
  · rw [← radix_div (a := a) hb, h, radix_div hb']
  · rw [← radix_mod (a := a) hb, h, radix_mod hb']

/-! ### Line addresses (R15, R20) -/

/-- R15, R20: the value of a line address in each order, and that of a row beyond the map. -/
theorem lineAddress_value (m : AddressMap) (rank bank row column : Nat) :
    let rows := 2 ^ m.rowBits
    let line := m.lineAddress rank bank row column
    (row < rows →
      (m.order = .a → line = rank * (rows * m.banks * 128) + row * (m.banks * 128) + bank * 128 + column / 8) ∧
      (m.order = .b → line = row * (m.ranks * m.banks * 128) + rank * (m.banks * 128) + bank * 128 + column / 8) ∧
      (m.order = .c → line = row * (m.banks * m.ranks * 128) + bank * (m.ranks * 128) + rank * 128 + column / 8) ∧
      (m.order = .d → line = rank * (m.banks * rows * 128) + bank * (rows * 128) + row * 128 + column / 8)) ∧
    (rows ≤ row → m.ranks * m.banks * rows * 128 ≤ line) := by
  refine ⟨fun hrow => ⟨fun h => ?_, fun h => ?_, fun h => ?_, fun h => ?_⟩, fun hrow => ?_⟩
  · simp only [AddressMap.lineAddress, h, if_pos hrow]
    ring
  · simp only [AddressMap.lineAddress, h, if_pos hrow]
    ring
  · simp only [AddressMap.lineAddress, h, if_pos hrow]
    ring
  · simp only [AddressMap.lineAddress, h, if_pos hrow]
    ring
  · simp only [AddressMap.lineAddress, if_neg hrow.not_gt, AddressMap.lines]
    exact Nat.le_add_left _ _

/-- R15: within the map a line address is a number of four digits: it lies below the lines of the channel, and tells its digits. -/
theorem lineAddress_digits {m : AddressMap} {rank rank' bank bank' row row' column column' : Nat} (hr : rank < m.ranks)
    (hr' : rank' < m.ranks) (hb : bank < m.banks) (hb' : bank' < m.banks) (hrow : row < 2 ^ m.rowBits) (hrow' : row' < 2 ^ m.rowBits)
    (hc : column < 1024) (hc' : column' < 1024) :
    m.lineAddress rank bank row column < m.lines ∧
      (m.lineAddress rank bank row column = m.lineAddress rank' bank' row' column' ↔
        rank = rank' ∧ bank = bank' ∧ row = row' ∧ column / 8 = column' / 8) := by
  have hcol : column / 8 < 128 := by omega
  have hcol' : column' / 8 < 128 := by omega
  simp only [AddressMap.lineAddress, if_pos hrow, if_pos hrow', Nat.add_zero, AddressMap.lines]
  cases m.order with
  | a =>
    refine ⟨(radix_lt (radix_lt (radix_lt hr hrow) hb) hcol).trans_eq (by ring), ?_⟩
    rw [radix_inj hcol hcol', radix_inj hb hb', radix_inj hrow hrow']
    tauto
  | b =>
    refine ⟨(radix_lt (radix_lt (radix_lt hrow hr) hb) hcol).trans_eq (by ring), ?_⟩
    rw [radix_inj hcol hcol', radix_inj hb hb', radix_inj hr hr']
    tauto
  | c =>
    refine ⟨(radix_lt (radix_lt (radix_lt hrow hb) hr) hcol).trans_eq (by ring), ?_⟩
    rw [radix_inj hcol hcol', radix_inj hr hr', radix_inj hb hb']
    tauto
  | d =>
    refine ⟨(radix_lt (radix_lt (radix_lt hr hb) hrow) hcol).trans_eq (by ring), ?_⟩
    rw [radix_inj hcol hcol', radix_inj hrow hrow', radix_inj hb hb']
    tauto

/-! ### Beats (R16, R17) -/

theorem beatColumns_full (column : BitVec 10) : beatColumns column false = (List.range 8).map fun j => (column.toNat % 8 + j) % 8 := rfl

/-- R16: the columns of a half burst are those of one half of the line. -/
theorem mem_beatColumns_half {column : BitVec 10} {k : Nat} (h : k ∈ beatColumns column true) : k / 4 = column.toNat % 8 / 4 := by
  simp only [beatColumns, if_true, List.mem_map, List.mem_range] at h
  obtain ⟨j, -, rfl⟩ := h
  omega

theorem readBeats_full (column : BitVec 10) (l : Line) {j : Nat} (hj : j < 8) :
    (readBeats column false l)[j]? = some (l.extractLsb' (64 * ((column.toNat % 8 + j) % 8)) 64) := by
  simp [readBeats, beatColumns_full, hj]

theorem readBeats_half (column : BitVec 10) (l : Line) {j : Nat} (hj : j < 4) :
    (readBeats column true l)[j]? = some (l.extractLsb' (64 * (4 * (column.toNat % 8 / 4) + (column.toNat % 4 + j) % 4)) 64) := by
  have : column.toNat % 8 % 4 = column.toNat % 4 := by omega
  simp [readBeats, beatColumns, hj, this]

/-- A record whose pieces each hold their bits of one value, and together cover it, is that value. -/
theorem assemble_cover {n : Nat} (v : BitVec n) (ps : List Piece) (hsound : ∀ p ∈ ps, ∀ i, p.bit i = true → v.getLsbD i = true)
    (hcover : ∀ i < n, v.getLsbD i = true → ∃ p ∈ ps, p.bit i = true) : assemble n ps = v := by
  refine BitVec.eq_of_getLsbD_eq fun i hi => ?_
  rw [assemble_bit, decide_eq_true hi, Bool.true_and, Bool.eq_iff_iff, List.any_eq_true]
  exact ⟨fun ⟨p, hp, hbit⟩ => hsound p hp i hbit, hcover i hi⟩

/-- The full burst that starts at a column carries every column of its line. -/
theorem mem_beatColumns_full (column : BitVec 10) {k : Nat} (hk : k < 8) : k ∈ beatColumns column false := by
  simp only [beatColumns_full, List.mem_map, List.mem_range]
  exact ⟨(k + 8 - column.toNat % 8) % 8, Nat.mod_lt _ (by decide), by omega⟩

theorem zip_readBeats (column : BitVec 10) (l : Line) :
    (beatColumns column false).zip ((readBeats column false l).map fun d => (⟨d, 0⟩ : Beat)) =
      (beatColumns column false).map fun k => (k, (⟨l.extractLsb' (64 * k) 64, 0⟩ : Beat)) := by
  rw [readBeats, List.map_map, ← List.map_prod_left_eq_zip]
  rfl

theorem writeData_readBeats (column : BitVec 10) (l : Line) :
    writeData column false ((readBeats column false l).map fun d => ⟨d, 0⟩) = l := by
  rw [writeData, zip_readBeats, List.map_map]
  refine assemble_cover l _ (fun p hp i hbit => ?_) fun i hi hbit => ?_
  · obtain ⟨k, -, rfl⟩ := List.mem_map.mp hp
    simp only [Piece.bit, Function.comp_apply, Bool.and_eq_true, decide_eq_true_eq, BitVec.testBit_toNat,
      BitVec.getLsbD_extractLsb'] at hbit
    obtain ⟨⟨hlo, -⟩, -, hbit⟩ := hbit
    rwa [Nat.add_sub_cancel' hlo] at hbit
  · refine ⟨_, List.mem_map.mpr ⟨i / 64, mem_beatColumns_full column (by omega), rfl⟩, ?_⟩
    simp only [Piece.bit, Function.comp_apply, Bool.and_eq_true, decide_eq_true_eq, BitVec.testBit_toNat, BitVec.getLsbD_extractLsb']
    exact ⟨⟨by omega, by omega⟩, by omega, by rwa [Nat.add_sub_cancel' (by omega)]⟩

theorem writeEnables_readBeats (column : BitVec 10) (l : Line) :
    writeEnables column false ((readBeats column false l).map fun d => ⟨d, 0⟩) = BitVec.allOnes 64 := by
  rw [writeEnables, zip_readBeats, List.map_map]
  refine assemble_cover _ _ (fun p hp i hbit => ?_) fun i hi _ => ?_
  · obtain ⟨k, hk, rfl⟩ := List.mem_map.mp hp
    simp only [beatColumns_full, List.mem_map, List.mem_range] at hk
    obtain ⟨j, -, rfl⟩ := hk
    simp only [Piece.bit, Function.comp_apply, Bool.and_eq_true, decide_eq_true_eq] at hbit
    rw [BitVec.getLsbD_allOnes, decide_eq_true (by omega)]
  · refine ⟨_, List.mem_map.mpr ⟨i / 8, mem_beatColumns_full column (by omega), rfl⟩, ?_⟩
    have hones : ∀ j < 8, (~~~(0 : Byte)).toNat.testBit j = true := by decide
    simp only [Piece.bit, Function.comp_apply, Bool.and_eq_true, decide_eq_true_eq]
    exact ⟨⟨by omega, by omega⟩, hones _ (by omega)⟩

/-- R17: the other half of the line gets no enable from a half burst. -/
theorem writeEnables_half (column : BitVec 10) (beats : List Beat) : writeEnables column true beats ≠ BitVec.allOnes 64 := by
  intro h
  have hbit : (writeEnables column true beats).getLsbD (8 * (4 * (1 - column.toNat % 8 / 4))) = true := by
    rw [h, BitVec.getLsbD_allOnes, decide_eq_true (by omega)]
  rw [writeEnables, assemble_bit, Bool.and_eq_true, List.any_eq_true] at hbit
  obtain ⟨-, p, hp, hbit⟩ := hbit
  obtain ⟨k, hk, rfl⟩ := List.mem_map.mp hp
  have hcolumn := mem_beatColumns_half (List.of_mem_zip hk).1
  simp only [Piece.bit, Bool.and_eq_true, decide_eq_true_eq] at hbit
  omega

/-- Settles O14: by the digits of a line address, and the columns of a burst. -/
theorem linesAndBeatsAgree : Obligations.LinesAndBeatsAgree :=
  ⟨lineAddress_value, fun _ _ _ _ _ _ _ _ _ _ hr hr' hb hb' hrow hrow' hc hc' => lineAddress_digits hr hr' hb hb' hrow hrow' hc hc',
    fun column l beats => ⟨fun _ => readBeats_full column l, fun _ => readBeats_half column l, writeData_readBeats column l,
      writeEnables_readBeats column l, writeEnables_half column beats⟩⟩

end Sys2Proof.Machine

/-! PROOFS. The searches: the region that contains a line, the block that its entry gives, the coordinates of a line, and first fit. -/

namespace Sys2Proof.Machine
variable {s : State}

/-! ### The region lookup (R29, R30) -/

theorem contains_iff {e : Region} {line : Nat} :
    e.contains line = true ↔ e.valid = true ∧ e.baseLine ≤ line ∧ line < e.baseLine + e.lines := by
  simp only [Region.contains, Bool.and_eq_true, decide_eq_true_eq, and_assoc]

theorem mem_entryNumbers (i : Fin 18) : i ∈ entryNumbers := by
  revert i
  decide

/-- R21, R29: valid regions share no line, so a line is in one of them at most. -/
theorem contains_unique (hs : regionsRight s) {i j : Fin 18} {line : Nat} (hi : (s.region i).contains line = true)
    (hj : (s.region j).contains line = true) : i = j := by
  obtain ⟨-, -, apart⟩ := hs
  obtain ⟨vi, hi⟩ := contains_iff.mp hi
  obtain ⟨vj, hj⟩ := contains_iff.mp hj
  by_contra hne
  have := apart i j hne vi vj
  simp only [Region.meets, Bool.and_eq_false_iff, decide_eq_false_iff_not] at this
  omega

theorem lookup_eq_some (hs : regionsRight s) {line : Nat} {i : Fin 18} : s.lookup line = some i ↔ (s.region i).contains line = true := by
  have found : ∀ j, s.lookup line = some j → (s.region j).contains line = true := fun j h =>
    List.find?_some (p := fun i => (s.region i).contains line) h
  refine ⟨found i, fun h => ?_⟩
  obtain ⟨j, hj⟩ := Option.isSome_iff_exists.mp 
    ((List.find?_isSome (p := fun i => (s.region i).contains line)).mpr ⟨i, mem_entryNumbers i, h⟩)
  rw [contains_unique hs h (found j hj)]
  exact hj

theorem lookup_eq_none {line : Nat} : s.lookup line = none ↔ ∀ i, ¬ (s.region i).contains line = true := by
  rw [State.lookup, List.find?_eq_none]
  exact ⟨fun h i => h i (mem_entryNumbers i), fun h i _ => h i⟩

/-- R30: the kind of an entry by its index. -/
theorem routeOfEntry_spec (i : Fin 18) :
    (i.val = 0 → routeOfEntry i = .directive) ∧ (i.val = 1 → routeOfEntry i = .report) ∧
      (∀ t : TapNo, i.val = 2 + t.val → routeOfEntry i = .tap t) ∧ (∀ m : MirrorNo, i.val = 10 + m.val → routeOfEntry i = .mirror m) := by
  unfold routeOfEntry
  refine ⟨fun h => if_pos h, fun h => by rw [if_neg (by omega), if_pos h], fun t h => ?_, fun m h => ?_⟩
  · rw [if_neg (by omega), if_neg (by omega), dif_pos (by omega)]
    exact congrArg _ (Fin.ext (by simp only; omega))
  · rw [if_neg (by omega), if_neg (by omega), dif_neg (by omega)]
    exact congrArg _ (Fin.ext (by simp only; omega))

/-! ### Coordinates (R23, R24) -/

/-- R23, R24: the coordinates of a line that stands in a half at a record and line-in-record. -/
theorem coord_of_holds {e : Region} {len count stride r x line : Nat} {h : Half} (hold : e.holds stride h r x line) :
    e.coord len count stride line = ⟨h, r * stride + x, r, x, decide (r < count ∧ x < len)⟩ := by
  obtain ⟨hx, hodd, hin, rfl⟩ := hold
  have hr : (r * stride + x) / stride = r := radix_div hx
  have hx : (r * stride + x) % stride = x := radix_mod hx
  generalize hoffset : r * stride + x = offset at hr hx hin
  have hfrom : e.base / 64 + (if h = .odd then e.size / 128 else 0) + r * stride + x - e.baseLine =
      (if h = .odd then e.size / 128 else 0) + offset := by simp only [Region.baseLine]; omega
  simp only [Region.coord, hfrom]
  cases h with
  | odd => simp [hodd rfl, hr, hx]
  | even =>
    have hlow : (e.paired && decide (e.size / 128 ≤ offset)) = false := by
      cases hp : e.paired with
      | false => rfl
      | true => simpa [hp] using hin
    simp [hlow, hr, hx]

/-! ### First fit (R138) -/

theorem firstFit_eq_some {extents : List Extent} {n start : Nat} (hn : 1 ≤ n)
    (hsort : extents.Pairwise fun e f => e.start + e.length ≤ f.start) (hin : ∀ e ∈ extents, e.start + e.length ≤ 65536) :
    firstFit extents n = some start ↔ freeAt extents n start ∧ ∀ b < start, ¬ freeAt extents n b := by
  have hfirst := firstFree_firstFit hn hsort hin
  constructor
  · intro h
    rw [h] at hfirst
    obtain ⟨-, hfree, hleast⟩ := hfirst
    exact ⟨hfree, fun b hb => hleast b (Nat.zero_le b) hb⟩
  · intro ⟨hfree, hleast⟩
    cases hfit : firstFit extents n with
    | none => exact absurd hfree ((hfit ▸ hfirst : FirstFree extents n 0 none) start (Nat.zero_le _))
    | some b =>
      obtain ⟨-, hb, hbelow⟩ := (hfit ▸ hfirst : FirstFree extents n 0 (some b))
      have : ¬ start < b := fun h => hbelow start (Nat.zero_le _) h hfree
      have : ¬ b < start := fun h => hleast b h hb
      exact congrArg some (by omega)

theorem firstFit_eq_none {extents : List Extent} {n : Nat} (hn : 1 ≤ n)
    (hsort : extents.Pairwise fun e f => e.start + e.length ≤ f.start) (hin : ∀ e ∈ extents, e.start + e.length ≤ 65536) :
    firstFit extents n = none ↔ ∀ b, ¬ freeAt extents n b := by
  have hfirst := firstFree_firstFit hn hsort hin
  constructor
  · intro h
    rw [h] at hfirst
    exact fun b => hfirst b (Nat.zero_le b)
  · intro h
    cases hfit : firstFit extents n with
    | none => rfl
    | some b => exact absurd (hfit ▸ hfirst : FirstFree extents n 0 (some b)).2.1 (h b)

/-- Settles O25: by what each search finds. -/
theorem searchesFindTheOnePlace : Obligations.SearchesFindTheOnePlace := by
  refine ⟨fun s line hs => ⟨fun i => (lookup_eq_some hs).trans contains_iff, lookup_eq_none.trans ?_⟩,
    fun extents n hn hsort hin => ⟨fun start => firstFit_eq_some hn hsort hin, firstFit_eq_none hn hsort hin⟩,
    fun s line => ⟨fun h => by rw [State.routeOfLine, h]; rfl, fun i h => ?_⟩, fun s i h r x line => ⟨?_, ?_⟩⟩
  · refine forall_congr' fun i => ?_
    rw [contains_iff]
    exact ⟨fun h hv => by by_contra hn; exact h ⟨hv, by omega⟩, fun h ⟨hv, hk⟩ => by have := h hv; omega⟩
  · have hroute : s.routeOfLine line = some (routeOfEntry i) := by rw [State.routeOfLine, h]; rfl
    obtain ⟨h0, h1, ht, hm⟩ := routeOfEntry_spec i
    rw [hroute]
    exact ⟨fun k => congrArg _ (h0 k), fun k => congrArg _ (h1 k), fun t k => congrArg _ (ht t k), fun m k => congrArg _ (hm m k)⟩
  · intro t hi k stride hold
    obtain rfl : i = tapRegion t := Fin.ext hi
    exact coord_of_holds hold
  · intro m hi k hold
    obtain rfl : i = mirrorRegion m := Fin.ext hi
    exact coord_of_holds hold

end Sys2Proof.Machine

/-! PROOFS. Layouts of pieces, and the stored forms that decode as they were written: directive records and the configuration block. -/

namespace Sys2Proof.Machine

/-! ### Layouts -/

/-- Pieces that lie in a record of `n` bits, none of them on another: what the places and the widths alone decide. -/
def layout (n : Nat) : List Piece → Bool
  | [] => true
  | p :: ps => decide (p.offset + p.width ≤ n) && ps.all p.apart && layout n ps

theorem apart_comm (p q : Piece) : p.apart q = q.apart p := Bool.or_comm ..

theorem layout_append {n : Nat} {ps qs : List Piece} (h : layout n (ps ++ qs) = true) : layout n qs = true ∧ ∀ q ∈ qs, ps.all q.apart = true := by
  induction ps with
  | nil => exact ⟨h, fun _ _ => rfl⟩
  | cons p ps ih =>
    simp only [List.cons_append, layout, Bool.and_eq_true, List.all_append] at h
    obtain ⟨⟨-, -, hp⟩, hrest⟩ := h
    obtain ⟨hl, hall⟩ := ih hrest
    refine ⟨hl, fun q hq => ?_⟩
    rw [List.all_cons, hall q hq, apart_comm, List.all_eq_true.mp hp q hq]
    rfl

section layout
variable {n : Nat} {ps : List Piece} (h : layout n ps = true)
include h

/-- Each piece of a layout is read as it was written. -/
theorem extract_layout {p : Piece} (hp : p ∈ ps) : (assemble n ps).extractLsb' p.offset p.width = BitVec.ofNat p.width p.value := by
  obtain ⟨before, after, rfl⟩ := List.append_of_mem hp
  obtain ⟨htail, hbefore⟩ := layout_append h
  simp only [layout, Bool.and_eq_true, decide_eq_true_eq] at htail
  obtain ⟨⟨hn, hafter⟩, -⟩ := htail
  exact extract_assemble before after p hn (hbefore p List.mem_cons_self) hafter

/-- A field of whole bytes that holds a word is read as the word. -/
theorem field_layout {w : Nat} (byte len : Nat) {x : BitVec w} (hw : w = 8 * len) (hp : bytesAt byte len x.toNat ∈ ps) :
    field (assemble n ps) byte w = x := by
  subst hw
  have hx : saturate (8 * len) x.toNat = x.toNat := saturate_fits x.isLt
  have := extract_layout h hp
  simp only [bytesAt, hx, BitVec.ofNat_toNat, BitVec.setWidth_eq] at this
  exact this

/-- A field that starts at a byte and holds a word is read as the word. -/
theorem fieldBits_layout {w : Nat} (byte : Nat) {x : BitVec w} (hp : bitsAt byte 0 w x.toNat ∈ ps) : field (assemble n ps) byte w = x := by
  have hx : saturate w x.toNat = x.toNat := saturate_fits x.isLt
  have := extract_layout h hp
  simp only [bitsAt, hx, BitVec.ofNat_toNat, BitVec.setWidth_eq] at this
  exact this

theorem bit_layout {byte bit : Nat} {b : Bool} (hp : bitAt byte bit b ∈ ps) : (assemble n ps).getLsbD (8 * byte + bit) = b := by
  have : ((assemble n ps).extractLsb' (8 * byte + bit) 1).getLsbD 0 = (BitVec.ofNat 1 b.toNat).getLsbD 0 :=
    congrArg (fun v : BitVec 1 => v.getLsbD 0) (extract_layout h hp)
  rw [BitVec.getLsbD_extractLsb'] at this
  simp only [Nat.lt_one_iff, decide_true, Nat.add_zero, Bool.true_and] at this
  rw [this]
  cases b <;> rfl

end layout

/-! ### Directive records (R173) -/

/-- The pieces of a directive's record. -/
def Directive.record (d : Directive) : List Piece :=
  bytesAt 0 2 (Directive.codeOf d).toNat :: bytesAt 2 2 (Directive.tagOf d).toNat :: Directive.pieces d

theorem layout_record (d : Directive) : layout 512 (Directive.record d) = true := by
  cases d <;> rfl

section record
variable (d : Directive)

theorem record_code : field (encodeRecord d) 0 16 = Directive.codeOf d := field_layout (layout_record d) 0 2 rfl List.mem_cons_self

theorem record_tag : field (encodeRecord d) 2 16 = Directive.tagOf d :=
  field_layout (layout_record d) 2 2 rfl (List.mem_cons_of_mem _ List.mem_cons_self)

variable {d}

theorem record_field {w : Nat} (byte len : Nat) {x : BitVec w} (hw : w = 8 * len) (hp : bytesAt byte len x.toNat ∈ Directive.pieces d) :
    field (encodeRecord d) byte w = x :=
  field_layout (layout_record d) byte len hw (List.mem_cons_of_mem _ (List.mem_cons_of_mem _ hp))

theorem record_bits {w : Nat} (byte : Nat) {x : BitVec w} (hp : bitsAt byte 0 w x.toNat ∈ Directive.pieces d) : field (encodeRecord d) byte w = x :=
  fieldBits_layout (layout_record d) byte (List.mem_cons_of_mem _ (List.mem_cons_of_mem _ hp))

theorem record_bit (byte bit : Nat) {b : Bool} (hp : bitAt byte bit b ∈ Directive.pieces d) : (encodeRecord d).getLsbD (8 * byte + bit) = b :=
  bit_layout (layout_record d) (List.mem_cons_of_mem _ (List.mem_cons_of_mem _ hp))

end record

section arguments
variable (tag : Word16)

theorem readBindTap_record (a : BindTapArgs) : readBindTap (encodeRecord (.bindTap tag a)) = a := by
  cases a
  simp only [readBindTap, BindTapArgs.mk.injEq]
  refine ⟨record_field 8 1 rfl ?_, record_field 9 1 rfl ?_, record_bit 10 0 ?_, record_field 11 1 rfl ?_, record_field 12 8 rfl ?_,
    record_field 20 2 rfl ?_, record_field 22 2 rfl ?_, record_field 24 1 rfl ?_, record_bit 25 0 ?_, record_field 26 1 rfl ?_,
    record_field 28 2 rfl ?_, record_field 30 2 rfl ?_, record_field 32 2 rfl ?_, record_field 34 2 rfl ?_, record_field 36 2 rfl ?_⟩
  all_goals simp only [Directive.pieces, List.mem_cons, true_or, or_true]

theorem readBindMirror_record (a : BindMirrorArgs) : readBindMirror (encodeRecord (.bindMirror tag a)) = a := by
  cases a
  simp only [readBindMirror, BindMirrorArgs.mk.injEq]
  refine ⟨record_field 8 1 rfl ?_, record_field 9 1 rfl ?_, record_field 10 1 rfl ?_, record_field 11 1 rfl ?_, record_bit 12 0 ?_,
    record_field 13 1 rfl ?_, record_field 16 8 rfl ?_, record_field 24 2 rfl ?_, record_field 26 2 rfl ?_, record_field 28 2 rfl ?_,
    record_field 32 4 rfl ?_⟩
  all_goals simp only [Directive.pieces, List.mem_cons, true_or, or_true]

theorem readPresets_record (a : PresetArgs) : readPresets (encodeRecord (.setStridePresets tag a)) = a := by
  cases a
  simp only [readPresets, PresetArgs.mk.injEq]
  refine ⟨record_bits 8 ?_, record_field 16 2 rfl ?_, record_field 18 2 rfl ?_, record_field 20 2 rfl ?_, record_field 22 2 rfl ?_⟩
  all_goals simp only [Directive.pieces, List.mem_cons, true_or, or_true]

theorem readTimeSettings_record (a : TimeSettingsArgs) : readTimeSettings (encodeRecord (.timeSettings tag a)) = a := by
  cases a
  simp only [readTimeSettings, TimeSettingsArgs.mk.injEq]
  refine ⟨record_bits 8 ?_, record_field 12 1 rfl ?_, record_field 13 1 rfl ?_, record_field 14 1 rfl ?_, record_field 16 4 rfl ?_,
    record_field 20 2 rfl ?_, record_field 24 4 rfl ?_, record_field 28 4 rfl ?_, record_field 32 4 rfl ?_, record_field 36 4 rfl ?_⟩
  all_goals simp only [Directive.pieces, List.mem_cons, true_or, or_true]

end arguments

/-- A directive whose one argument is the byte at 8. -/
theorem record_target {d : Directive} {target : Byte} {rest : List Piece} (hp : Directive.pieces d = bytesAt 8 1 target.toNat :: rest) :
    field (encodeRecord d) 8 8 = target := record_field 8 1 rfl (hp ▸ List.mem_cons_self)

/-- R173: a directive of a known code decodes from its record by its code, its tag and its arguments. -/
theorem decodeRecord_encodeRecord {d : Directive} (h : d.wellFormed = true) : decodeRecord (encodeRecord d) = d := by
  have hcode := record_code d
  have htag := record_tag d
  simp only [decodeRecord, hcode, htag]
  cases d with
  | bindTap tag a => exact congrArg (Directive.bindTap tag) (readBindTap_record tag a)
  | unbindTap tag t => exact congrArg (Directive.unbindTap tag) (record_target rfl)
  | armTap tag t time => exact congrArg₂ (Directive.armTap tag) (record_target rfl) (record_field 16 9 rfl (by simp [Directive.pieces]))
  | startTap tag t => exact congrArg (Directive.startTap tag) (record_target rfl)
  | stopTap tag t => exact congrArg (Directive.stopTap tag) (record_target rfl)
  | haltTap tag t => exact congrArg (Directive.haltTap tag) (record_target rfl)
  | setStridePresets tag a => exact congrArg (Directive.setStridePresets tag) (readPresets_record tag a)
  | bindMirror tag a => exact congrArg (Directive.bindMirror tag) (readBindMirror_record tag a)
  | unbindMirror tag m => exact congrArg (Directive.unbindMirror tag) (record_target rfl)
  | admitFrame tag f => exact congrArg (Directive.admitFrame tag) (record_target rfl)
  | barFrame tag f => exact congrArg (Directive.barFrame tag) (record_target rfl)
  | forgetFrame tag f => exact congrArg (Directive.forgetFrame tag) (record_target rfl)
  | acknowledgeRestart tag f => exact congrArg (Directive.acknowledgeRestart tag) (record_target rfl)
  | leaveRack tag force => exact congrArg (Directive.leaveRack tag) (record_bit 4 0 (by simp [Directive.pieces]))
  | rejoinRack tag => rfl
  | portControl tag port action =>
    exact congrArg₂ (Directive.portControl tag) (record_target rfl) (record_field 9 1 rfl (by simp [Directive.pieces]))
  | timeSettings tag a => exact congrArg (Directive.timeSettings tag) (readTimeSettings_record tag a)
  | masterClaim tag f noWait =>
    exact congrArg₂ (Directive.masterClaim tag) (record_field 8 1 rfl (by simp [Directive.pieces])) (record_bit 4 1 (by simp [Directive.pieces]))
  | rackArm tag g time noWait =>
    have hg : field (encodeRecord (.rackArm tag g time noWait)) 8 8 = g := record_field 8 1 rfl (by simp [Directive.pieces])
    have ht : field (encodeRecord (.rackArm tag g time noWait)) 16 72 = time := record_field 16 9 rfl (by simp [Directive.pieces])
    have hn : (encodeRecord (.rackArm tag g time noWait)).getLsbD 33 = noWait := record_bit 4 1 (by simp [Directive.pieces])
    rw [hg, ht, hn]
    rfl
  | rackHalt tag g noWait =>
    exact congrArg₂ (Directive.rackHalt tag) (record_field 8 1 rfl (by simp [Directive.pieces])) (record_bit 4 1 (by simp [Directive.pieces]))
  | acknowledgeEvents tag count => exact congrArg (Directive.acknowledgeEvents tag) (record_field 8 4 rfl (by simp [Directive.pieces]))
  | clearCounters tag => rfl
  | restartPart tag => rfl
  | unknown tag code =>
    have hknown : ∀ k ∈ knownCodes, code ≠ k := by
      simp only [Directive.wellFormed, codeUnknown, Bool.not_eq_true', List.contains_eq_mem, decide_eq_false_iff_not] at h
      exact fun k hk e => h (e ▸ hk)
    simp only [knownCodes, List.mem_cons, List.not_mem_nil, or_false, forall_eq_or_imp, forall_eq] at hknown
    simp only [Directive.codeOf, Directive.tagOf, hknown, if_false]

/-- R173: a code that decodes to no directive is none of the known codes. -/
theorem decodeRecord_wellFormed (l : Line) : (decodeRecord l).wellFormed = true := by
  simp only [decodeRecord, apply_ite Directive.wellFormed]
  simp only [Directive.wellFormed, Bool.ite_eq_true_distrib, codeUnknown, knownCodes]
  simp +contextual

/-! ### The configuration block (R184) -/

/-- The pieces of a block with its check value. -/
def checkedPieces (c : StoredConfig) : List Piece := ⟨416, 32, (blockCheck (assemble 448 (storedPieces c))).toNat⟩ :: storedPieces c

theorem layout_checkedPieces (c : StoredConfig) : layout 448 (checkedPieces c) = true := by
  rfl

theorem encodeStored_eq (c : StoredConfig) : encodeStored c = assemble 448 (checkedPieces c) := by
  let ps := storedPieces c
  let check := blockCheck (assemble 448 ps)
  have hcheck : BitVec.ofNat 448 (check.toNat % 2 ^ 32) = check.setWidth 448 := by
    rw [Nat.mod_eq_of_lt check.isLt, BitVec.ofNat_toNat]
  calc encodeStored c
      = assemble 448 ps ||| (check.setWidth 448 <<< 416) := rfl
    _ = assemble 448 ps ||| (BitVec.ofNat 448 (check.toNat % 2 ^ 32) <<< 416) := by rw [hcheck]
    _ = assemble 448 (checkedPieces c) := rfl

theorem stored_field (c : StoredConfig) {w : Nat} (byte len : Nat) {x : BitVec w} (hw : w = 8 * len)
    (hp : bytesAt byte len x.toNat ∈ storedPieces c) : field (encodeStored c) byte w = x := by
  rw [encodeStored_eq]
  exact field_layout (layout_checkedPieces c) byte len hw (List.mem_cons_of_mem _ hp)

theorem stored_bit (c : StoredConfig) (byte bit : Nat) {b : Bool} (hp : bitAt byte bit b ∈ storedPieces c) :
    (encodeStored c).getLsbD (8 * byte + bit) = b := by
  rw [encodeStored_eq]
  exact bit_layout (layout_checkedPieces c) (List.mem_cons_of_mem _ hp)

/-- The check value is read back as it was written. -/
theorem stored_check (c : StoredConfig) : field (encodeStored c) 52 32 = blockCheck (assemble 448 (storedPieces c)) := by
  rw [encodeStored_eq]
  refine (extract_layout (layout_checkedPieces c) List.mem_cons_self).trans ?_
  rw [BitVec.ofNat_toNat, BitVec.setWidth_eq]

/-- The check covers the bytes below the check value alone. -/
theorem blockCheck_encodeStored (c : StoredConfig) : blockCheck (encodeStored c) = blockCheck (assemble 448 (storedPieces c)) := by
  refine congrArg crc32 (List.map_congr_left fun i hi => ?_)
  have hi : i < 52 := List.mem_range.mp hi
  rw [encodeStored_eq]
  refine BitVec.eq_of_getLsbD_eq fun j hj => ?_
  have hlow : ¬ 416 ≤ 8 * i + j := by omega
  simp only [field, BitVec.getLsbD_extractLsb', assemble_bit, checkedPieces, List.any_cons, Piece.bit, decide_eq_false hlow,
    Bool.false_and, Bool.false_or]

theorem readStored_encodeStored (c : StoredConfig) : readStored (encodeStored c) = c := by
  cases c
  simp only [readStored, StoredConfig.mk.injEq]
  refine ⟨stored_field _ 2 1 rfl ?_, stored_field _ 3 1 rfl ?_, stored_field _ 4 1 rfl ?_, stored_field _ 5 1 rfl ?_, stored_field _ 6 8 rfl ?_,
    stored_field _ 14 4 rfl ?_, stored_field _ 18 8 rfl ?_, stored_bit _ 26 0 ?_, stored_bit _ 26 1 ?_, stored_field _ 27 1 rfl ?_,
    stored_field _ 28 1 rfl ?_, stored_field _ 29 1 rfl ?_, stored_field _ 30 4 rfl ?_, stored_field _ 34 2 rfl ?_, stored_field _ 36 4 rfl ?_,
    stored_field _ 40 4 rfl ?_, stored_field _ 44 4 rfl ?_, stored_field _ 48 4 rfl ?_⟩
  all_goals simp only [storedPieces, List.mem_cons, true_or, or_true]

theorem decodeBlock_encodeStored (c : StoredConfig) : decodeBlock (encodeStored c) = some c := by
  have hmark : field (encodeStored c) 0 16 = 0x4830#16 := stored_field c 0 2 rfl List.mem_cons_self
  rw [decodeBlock, if_pos ⟨hmark, (stored_check c).trans (blockCheck_encodeStored c).symm⟩, readStored_encodeStored]

/-- Settles O26: every piece of a layout is read as it was written, and an unknown code is none of those known. -/
theorem storedFormsDecodeAsWritten : Obligations.StoredFormsDecodeAsWritten :=
  ⟨fun _ => decodeRecord_encodeRecord, decodeBlock_encodeStored, decodeRecord_wellFormed⟩

end Sys2Proof.Machine

/-! PROOFS. Link frames: bytes that stand at an offset, the frame that they spell, and what any bytes decode to. -/

namespace Sys2Proof.Machine

/-! ### Numbers in bytes (R190) -/

@[simp] theorem littleEndian_length (n v : Nat) : (littleEndian n v).length = n := by
  induction n generalizing v with
  | zero => rfl
  | succ n ih => simp [littleEndian, ih]

theorem numberOf_littleEndian {n v : Nat} (h : v < 256 ^ n) : numberOf (littleEndian n v) = v := by
  induction n generalizing v with
  | zero =>
    have : v = 0 := by simpa using h
    rw [this]
    rfl
  | succ n ih =>
    have hdiv : v / 256 < 256 ^ n := Nat.div_lt_of_lt_mul (by rwa [Nat.pow_succ, Nat.mul_comm] at h)
    have hbyte : (BitVec.ofNat 8 v).toNat = v % 256 := by rw [BitVec.toNat_ofNat]
    rw [littleEndian, numberOf, ih hdiv, hbyte, Nat.mod_add_div]

section reads
variable {bytes rest : List Byte} {offset : Nat}

theorem numberAt_of_drop {n v : Nat} (h : bytes.drop offset = littleEndian n v ++ rest) (hv : v < 256 ^ n) : numberAt bytes offset n = v := by
  rw [numberAt, h, List.take_left' (littleEndian_length n v), numberOf_littleEndian hv]

/-- A word of whole bytes is read as it was written. -/
theorem word_of_drop {w n : Nat} {x : BitVec w} (hw : w = 8 * n) (h : bytes.drop offset = littleEndian n x.toNat ++ rest) :
    BitVec.ofNat w (numberAt bytes offset n) = x := by
  have hx : x.toNat < 256 ^ n := by
    have hpow : 256 ^ n = 2 ^ w := by rw [hw, Nat.pow_mul]
    exact hpow ▸ x.isLt
  rw [numberAt_of_drop h hx, BitVec.ofNat_toNat, BitVec.setWidth_eq]

theorem wordAt_of_drop {x : Word16} (h : bytes.drop offset = littleEndian 2 x.toNat ++ rest) : wordAt bytes offset = x :=
  word_of_drop rfl h

theorem timeAt_of_drop {x : TimeValue} (h : bytes.drop offset = littleEndian 9 x.toNat ++ rest) : timeAt bytes offset = x :=
  word_of_drop rfl h

theorem byteAt_of_drop {b : Byte} (h : bytes.drop offset = b :: rest) : byteAt bytes offset = b := by
  have : bytes[offset]? = some b := by
    rw [← List.head?_drop, h]
    rfl
  simp [byteAt, this]

/-- What stands further on than an offset. -/
theorem drop_of_drop {front : List Byte} (k : Nat) (h : bytes.drop offset = front ++ rest) (hk : front.length = k) :
    bytes.drop (offset + k) = rest := by
  rw [← List.drop_drop, h, List.drop_left' hk]

theorem readStamp_of_drop {x : Stamp} (h : bytes.drop offset = stampBytes x ++ rest) : readStamp bytes offset = x := by
  have h : bytes.drop offset = littleEndian 9 x.time.toNat ++ ([x.quality] ++ rest) := by rw [h, stampBytes, List.append_assoc]
  cases x
  exact congrArg₂ Stamp.mk (timeAt_of_drop h) (byteAt_of_drop (drop_of_drop 9 h (littleEndian_length ..)))

theorem itemAt_of_drop {x : VectorItem} (h : bytes.drop offset = itemBytes x ++ rest) : itemAt bytes offset = x := by
  have tail : ∀ k, bytes.drop (offset + k) = (itemBytes x ++ rest).drop k := fun k => by rw [← List.drop_drop, h]
  cases x
  simp only [itemAt, VectorItem.mk.injEq]
  exact ⟨byteAt_of_drop h, byteAt_of_drop (tail 1), byteAt_of_drop (tail 2), byteAt_of_drop (tail 3), wordAt_of_drop (tail 4)⟩

theorem blockAt_of_drop {x : RackBlock} (h : bytes.drop offset = blockBytes x ++ rest) : blockAt bytes offset = x := by
  have tail : ∀ k, bytes.drop (offset + k) = (blockBytes x ++ rest).drop k := fun k => by rw [← List.drop_drop, h]
  cases x
  simp only [blockAt, RackBlock.mk.injEq]
  exact ⟨byteAt_of_drop h, byteAt_of_drop (tail 1), timeAt_of_drop (tail 4)⟩

/-- Bytes in runs of one length: run `i` stands after `i` of them. -/
theorem drop_flatMap {α : Type} {g : α → List Byte} {k : Nat} (hg : ∀ a, (g a).length = k) {l : List α} {i : Nat} (hi : i < l.length) :
    (l.flatMap g).drop (k * i) = g l[i] ++ (l.drop (i + 1)).flatMap g := by
  induction l generalizing i with
  | nil => simp at hi
  | cons a l ih =>
    cases i with
    | zero => simp
    | succ i =>
      have hi : i < l.length := by simpa using hi
      rw [List.flatMap_cons, show k * (i + 1) = k + k * i by ring, ← List.drop_drop, List.drop_left' (hg a), ih hi]
      rfl

theorem vectorAt_of_drop {v : Vector VectorItem 8} (h : bytes.drop 8 = vectorBytes v ++ rest) : vectorAt bytes = v := by
  refine Vector.ext fun i hi => ?_
  have hlen : i < v.toList.length := by simpa using hi
  rw [vectorAt, Vector.getElem_ofFn]
  refine itemAt_of_drop (rest := (v.toList.drop (i + 1)).flatMap itemBytes ++ rest) ?_
  have hfront : 6 * i ≤ (vectorBytes v).length := by
    simp [vectorBytes, List.length_flatMap, itemBytes]
    omega
  rw [← List.drop_drop, h, List.drop_append_of_le_length hfront, vectorBytes, drop_flatMap (g := itemBytes) (k := 6) (fun _ => rfl) hlen, List.append_assoc]
  rfl

theorem linesAt_length (bytes : List Byte) (offset n : Nat) : (linesAt bytes offset n).length = n := by
  induction n generalizing offset with
  | zero => rfl
  | succ n ih => simp [linesAt, ih]

theorem linesAt_of_drop {lines : List Line} (h : bytes.drop offset = lines.flatMap lineBytes ++ rest) :
    linesAt bytes offset lines.length = lines := by
  induction lines generalizing offset with
  | nil => rfl
  | cons l lines ih =>
    rw [List.flatMap_cons, List.append_assoc] at h
    exact congrArg₂ List.cons (word_of_drop rfl h) (ih (drop_of_drop 64 h (littleEndian_length ..)))

end reads

/-! ### Frames (R71, R73, R191) -/

theorem vectorBytes_length (v : Vector VectorItem 8) : (vectorBytes v).length = 48 := by
  simp [vectorBytes, List.length_flatMap, itemBytes]

theorem linesBytes_length (lines : List Line) : (lines.flatMap lineBytes).length = 64 * lines.length := by
  simp [List.length_flatMap, lineBytes, Nat.mul_comm]

/-- A Sample frame's line count is read as it was written. -/
theorem toNat_lineCount {lines : List Line} (h : lines.length ≤ 4) : (BitVec.ofNat 8 lines.length).toNat = lines.length := by
  rw [BitVec.toNat_ofNat, Nat.mod_eq_of_lt (by omega)]

/-- A frame has the length of its kind, a Sample frame by its line count; its four last bytes are the CRC. -/
theorem frameLength_frameBytes {f : Frame} (h : f.body.wellFormed = true) (tail : List Byte) :
    frameLength (byteAt (frameBytes f ++ tail) 0) (byteAt (frameBytes f ++ tail) 7) = some ((frameBytes f).length + 4) := by
  obtain ⟨header, body⟩ := f
  cases body with
  | sample b =>
    simp only [Body.wellFormed, linesRight, Bool.and_eq_true, decide_eq_true_eq] at h
    have hcount : frameLength 1 (BitVec.ofNat 8 b.lines.length) = some (28 + 64 * b.lines.length) := by
      rw [frameLength, if_pos rfl, toNat_lineCount h.2, if_pos h]
    have hlength : (frameBytes ⟨header, .sample b⟩).length + 4 = 28 + 64 * b.lines.length := by
      simp only [frameBytes, bodyBytes, stampBytes, List.length_append, linesBytes_length, littleEndian_length, List.length_cons,
        List.length_nil]
      omega
    rw [hlength]
    exact hcount
  | mark b => rfl
  | timeRequest b => rfl
  | timeReply b => rfl
  | hello b =>
    have hlength : (frameBytes ⟨header, .hello b⟩).length + 4 = 60 := by simp [frameBytes, bodyBytes, vectorBytes_length]
    rw [hlength]
    rfl
  | rosterUpdate b =>
    have hlength : (frameBytes ⟨header, .rosterUpdate b⟩).length + 4 = 60 := by simp [frameBytes, bodyBytes, vectorBytes_length]
    rw [hlength]
    rfl
  | leaveAck b => rfl
  | rackRequest b => rfl
  | rackOrder b => rfl
  | rackRefusal b => rfl

/-- The fields of a frame are read from their places, whatever follows the frame. -/
theorem readBody_frameBytes {f : Frame} (h : f.body.wellFormed = true) (bytes : List Byte) : readBody (frameBytes f ++ bytes) = f.body := by
  obtain ⟨header, body⟩ := f
  cases body with
  | sample b =>
    simp only [Body.wellFormed, linesRight, Bool.and_eq_true, decide_eq_true_eq] at h
    refine congrArg Body.sample ?_
    cases b with
    | mk dests tap half pass r x stamp lines =>
    simp only [SampleBody.mk.injEq]
    refine ⟨rfl, rfl, rfl, wordAt_of_drop rfl, wordAt_of_drop rfl, wordAt_of_drop rfl, readStamp_of_drop rfl, ?_⟩
    have hcount : (byteAt (frameBytes ⟨header, .sample ⟨dests, tap, half, pass, r, x, stamp, lines⟩⟩ ++ bytes) 7).toNat = lines.length :=
      toNat_lineCount h.2
    rw [hcount]
    exact linesAt_of_drop rfl
  | mark b =>
    refine congrArg Body.mark ?_
    cases b
    simp only [MarkBody.mk.injEq]
    exact ⟨rfl, rfl, rfl, rfl, wordAt_of_drop rfl, word_of_drop rfl rfl, readStamp_of_drop rfl⟩
  | timeRequest b => exact congrArg Body.timeRequest (congrArg (TimeRequestBody.mk b.number) (timeAt_of_drop rfl))
  | timeReply b =>
    refine congrArg Body.timeReply ?_
    cases b
    simp only [TimeReplyBody.mk.injEq]
    exact ⟨rfl, rfl, rfl, timeAt_of_drop rfl, timeAt_of_drop rfl, timeAt_of_drop rfl⟩
  | hello b => exact congrArg Body.hello (congrArg HelloBody.mk (vectorAt_of_drop rfl))
  | rosterUpdate b =>
    exact congrArg Body.rosterUpdate (congrArg₂ RosterUpdateBody.mk (wordAt_of_drop rfl) (vectorAt_of_drop rfl))
  | leaveAck b => exact congrArg Body.leaveAck (congrArg (LeaveAckBody.mk b.dest b.acking) (wordAt_of_drop rfl))
  | rackRequest b =>
    exact congrArg Body.rackRequest (congrArg₂ (RackRequestBody.mk b.dest) (wordAt_of_drop rfl) (blockAt_of_drop rfl))
  | rackOrder b =>
    refine congrArg Body.rackOrder ?_
    cases b
    simp only [RackOrderBody.mk.injEq]
    exact ⟨wordAt_of_drop rfl, word_of_drop rfl rfl, rfl, wordAt_of_drop rfl, blockAt_of_drop rfl⟩
  | rackRefusal b => exact congrArg Body.rackRefusal (congrArg (RackRefusalBody.mk b.dest b.reason) (wordAt_of_drop rfl))

/-- R71, R191: a frame and its CRC decode as the frame. -/
theorem decodeFrame_encodeFrame {f : Frame} (h : f.body.wellFormed = true) : decodeFrame (encodeFrame f) = .frame f := by
  let crc := littleEndian 4 (crc32 (frameBytes f)).toNat
  have hlength : (frameBytes f ++ crc).length = (frameBytes f).length + 4 := by simp [crc]
  have hcrc : numberAt (frameBytes f ++ crc) (frameBytes f).length 4 = (crc32 (frameBytes f)).toNat :=
    numberAt_of_drop (rest := []) (by rw [List.drop_left, List.append_nil]) (crc32 (frameBytes f)).isLt
  have hcheck : ¬ ((frameBytes f ++ crc).length < 4 ∨
      numberAt (frameBytes f ++ crc) ((frameBytes f ++ crc).length - 4) 4 ≠
        (crc32 ((frameBytes f ++ crc).take ((frameBytes f ++ crc).length - 4))).toNat) := by
    rw [hlength, Nat.add_sub_cancel, hcrc, List.take_left]
    omega
  change decodeFrame (frameBytes f ++ crc) = .frame f
  rw [decodeFrame]
  simp only [if_neg hcheck, frameLength_frameBytes h crc, if_pos hlength, readBody_frameBytes h crc]
  rfl

/-! ### What any bytes decode to (R73) -/

theorem frameCommand_wellFormed (p : Port) (f : Frame) : (frameCommand p f).wellFormed = f.body.wellFormed := by
  obtain ⟨header, body⟩ := f
  cases body <;> rfl

/-- R73: a Sample frame of a right length has one to four lines. -/
theorem readBody_wellFormed {b : List Byte} {l : Nat} (h : frameLength (byteAt b 0) (byteAt b 7) = some l) :
    (readBody b).wellFormed = true := by
  by_cases hk : byteAt b 0 = 1
  · have hcount : 1 ≤ (byteAt b 7).toNat ∧ (byteAt b 7).toNat ≤ 4 := by
      by_contra hn
      rw [frameLength, if_pos hk, if_neg hn] at h
      exact nomatch h
    simp only [readBody, if_pos hk, Body.wellFormed, linesRight, linesAt_length, hcount, decide_true, Bool.and_self]
  · simp only [readBody, if_neg hk, apply_ite Body.wellFormed]
    simp only [Body.wellFormed, ite_self]

theorem decodeLink_wellFormed (p : Port) (b : List Byte) : (decodeLink p b).wellFormed = true := by
  unfold decodeLink
  split
  · rfl
  · rfl
  · next f hf =>
    rw [frameCommand_wellFormed]
    unfold decodeFrame at hf
    dsimp only at hf
    split at hf
    · exact nomatch hf
    · split at hf
      · next l hl =>
        split at hf
        · cases hf
          exact readBody_wellFormed hl
        · exact nomatch hf
      · exact nomatch hf

/-- Settles O27: each field is read where it was written, and the length check leaves only right Sample frames. -/
theorem framesDecodeAsSent : Obligations.FramesDecodeAsSent :=
  ⟨fun p f h => by rw [decodeLink, decodeFrame_encodeFrame h], decodeLink_wellFormed⟩

end Sys2Proof.Machine

/-! PROOFS. The report region: a line shows the fields that its pieces hold, and zero elsewhere. -/

namespace Sys2Proof.Machine

/-! ### Lines and their fields -/

/-- What a record takes of a piece: its place, and its value within its width. -/
def Piece.low (p : Piece) : Nat × Nat × Nat := (p.offset, p.width, p.value % 2 ^ p.width)

/-- What a line shows of a field. -/
def Shown.low (f : Shown) : Nat × Nat × Nat := (f.bit, f.width, f.value % 2 ^ f.width)

theorem any_bit_eq_false {ps : List Piece} {i : Nat} (h : ∀ p ∈ ps, i < p.offset ∨ p.offset + p.width ≤ i) :
    (ps.any fun p => p.bit i) = false := by
  simp only [List.any_eq_false, Bool.not_eq_true, Piece.bit]
  intro p hp
  rcases h p hp with h | h
  · simp [show ¬ p.offset ≤ i by omega]
  · simp [show ¬ i < p.offset + p.width by omega]

/-- A line assembled from a layout shows the fields that the pieces are. -/
theorem shows_assemble {ps : List Piece} {fields : List Shown} (h : layout 512 ps = true) (hf : fields.map Shown.low = ps.map Piece.low) :
    shows (assemble 512 ps) fields := by
  refine ⟨fun f hmem => ?_, fun i _ hout => ?_⟩
  · have : f.low ∈ ps.map Piece.low := hf ▸ List.mem_map_of_mem hmem
    obtain ⟨p, hp, hlow⟩ := List.mem_map.mp this
    simp only [Piece.low, Shown.low, Prod.mk.injEq] at hlow
    obtain ⟨hbit, hwidth, hvalue⟩ := hlow
    rw [← hbit, ← hwidth, extract_layout h hp]
    refine BitVec.eq_of_toNat_eq ?_
    rw [BitVec.toNat_ofNat, BitVec.toNat_ofNat, hvalue, hwidth]
  · rw [assemble_bit, any_bit_eq_false, Bool.and_false]
    intro p hp
    have : p.low ∈ fields.map Shown.low := hf ▸ List.mem_map_of_mem hp
    obtain ⟨f, hmem, hlow⟩ := List.mem_map.mp this
    simp only [Piece.low, Shown.low, Prod.mk.injEq] at hlow
    obtain ⟨hbit, hwidth, -⟩ := hlow
    rw [← hbit, ← hwidth]
    exact hout f hmem

/-! ### Lines of slots -/

theorem layout_iff {n : Nat} {ps : List Piece} :
    layout n ps = true ↔ (∀ p ∈ ps, p.offset + p.width ≤ n) ∧ ps.Pairwise fun p q => p.apart q = true := by
  induction ps with
  | nil => simp [layout]
  | cons p ps ih =>
    simp only [layout, Bool.and_eq_true, decide_eq_true_eq, List.all_eq_true, ih, List.mem_cons, forall_eq_or_imp, List.pairwise_cons]
    tauto

theorem mem_moveBy {k : Nat} {ps : List Piece} {q : Piece} (h : q ∈ moveBy k ps) :
    ∃ p ∈ ps, q.offset = p.offset + 8 * k ∧ q.width = p.width := by
  obtain ⟨p, hp, rfl⟩ := List.mem_map.mp h
  exact ⟨p, hp, rfl, rfl⟩

/-- Four slots of sixteen bytes, each with its own layout, are a layout of the line. -/
theorem layout_slots {slot : Fin 4 → List Piece} (h : ∀ i, layout 128 (slot i) = true) :
    layout 512 (([0, 1, 2, 3] : List (Fin 4)).flatMap fun i => moveBy (16 * i.val) (slot i)) = true := by
  have within : ∀ i, ∀ q ∈ moveBy (16 * i.val) (slot i), 128 * i.val ≤ q.offset ∧ q.offset + q.width ≤ 128 * i.val + 128 := by
    intro i q hq
    obtain ⟨p, hp, hoffset, hwidth⟩ := mem_moveBy hq
    have := (layout_iff.mp (h i)).1 p hp
    omega
  refine layout_iff.mpr ⟨fun q hq => ?_, List.pairwise_flatMap.mpr ⟨fun i _ => ?_, ?_⟩⟩
  · obtain ⟨i, -, hq⟩ := List.mem_flatMap.mp hq
    have := within i q hq
    omega
  · refine List.pairwise_map.mpr ((layout_iff.mp (h i)).2.imp fun {p q} hpq => ?_)
    simp only [Piece.apart, Bool.or_eq_true, decide_eq_true_eq] at hpq ⊢
    omega
  · have hsorted : ([0, 1, 2, 3] : List (Fin 4)).Pairwise (· < ·) := by decide
    refine hsorted.imp fun {i j} hij p hp q hq => ?_
    have hi := within i p hp
    have hj := within j q hq
    have : i.val < j.val := hij
    simp only [Piece.apart, Bool.or_eq_true, decide_eq_true_eq]
    omega

/-- Four slots show their fields, slot by slot. -/
theorem shows_slots {slot : Fin 4 → List Piece} {fields : Fin 4 → List Shown} (h : ∀ i, layout 128 (slot i) = true)
    (hf : ∀ i, (fields i).map Shown.low = (moveBy (16 * i.val) (slot i)).map Piece.low) :
    shows (assemble 512 (([0, 1, 2, 3] : List (Fin 4)).flatMap fun i => moveBy (16 * i.val) (slot i)))
      (([0, 1, 2, 3] : List (Fin 4)).flatMap fields) := by
  refine shows_assemble (layout_slots h) ?_
  rw [List.map_flatMap, List.map_flatMap]
  exact congrArg (fun g => List.flatMap g [0, 1, 2, 3]) (funext hf)

theorem layout_resultSlot (r : Option ResultRecord) : layout 128 (resultSlot r) = true := by
  cases r <;> rfl

theorem layout_eventSlot (e : Option EventRecord) : layout 128 (eventSlot e) = true := by
  cases e with
  | none => rfl
  | some e =>
    obtain ⟨number, info, stamp⟩ := e
    cases info <;> rfl

/-! ### Values as the tables write them -/

theorem beliefNat_eq (b : Option FrameNo) : beliefNat b = (b.map Fin.val).getD 0xFF := by
  cases b with
  | none => rfl
  | some f => exact Nat.mod_eq_of_lt (f.isLt.trans (by decide))

/-- R114: a signed field holds its value in two's complement. -/
theorem saturateSigned_eq (w : Nat) (z : Int) :
    saturateSigned w z = (BitVec.ofInt w (max (-(2 ^ (w - 1))) (min z (2 ^ (w - 1) - 1)))).toNat := by
  rw [BitVec.toNat_ofInt]
  rfl

theorem pendingPieces_eq (k : Nat) (l : List PendingEntry) : (pendingPieces (2 + 3 * k) l).map Piece.low =
    ((l.zipIdx k).flatMap fun e => [shownBytes (2 + 3 * e.2) 2 e.1.seq.toNat, shownBits (4 + 3 * e.2) 0 2 (rackKindCode e.1.directive),
      shownBits (4 + 3 * e.2) 2 2 (statusCode e.1.status)]).map Shown.low := by
  induction l generalizing k with
  | nil => rfl
  | cons e l ih =>
    have hplace : 2 + 3 * k + 2 = 4 + 3 * k := by omega
    rw [pendingPieces, List.map_append, show 2 + 3 * k + 3 = 2 + 3 * (k + 1) by ring, ih, hplace]
    rfl

end Sys2Proof.Machine

/-! PROOFS. The tables of the report lines 1 to 59. -/

namespace Sys2Proof.Machine
variable (s : State)

/-! ### The line of a number (R179) -/

theorem reportLine_port (p : Port) : reportLine (2 + portCode p) s = portLine p s := by
  cases p <;> rfl

theorem reportLine_counters (p : Port) : reportLine (58 + portCode p) s = counterLine p s := by
  cases p <;> rfl

theorem reportLine_roster (f : FrameNo) : reportLine (4 + f.val) s = rosterLine f s := by
  fin_cases f <;> rfl

theorem reportLine_tap (t : TapNo) : reportLine (12 + t.val) s = tapLine t s := by
  fin_cases t <;> rfl

theorem reportLine_mirror (m : MirrorNo) : reportLine (20 + 3 * m.val) s = mirrorLine m s := by
  fin_cases m <;> rfl

theorem reportLine_half (m : MirrorNo) (h : Half) : reportLine (21 + 3 * m.val + (halfCode h).toNat) s = halfLine m h s := by
  cases h <;> fin_cases m <;> rfl

theorem reportLine_result (k : Fin 4) : reportLine (45 + k.val) s = resultLine k s := by
  fin_cases k <;> rfl

theorem reportLine_event (k : Fin 8) : reportLine (49 + k.val) s = eventLine k s := by
  fin_cases k <;> rfl

/-! ### The fields of a slot (R177, R181) -/

section moved
variable (slot byte len v : Nat)

theorem moved_bytesAt : Piece.low ⟨(bytesAt byte len v).offset + 8 * slot, (bytesAt byte len v).width, (bytesAt byte len v).value⟩ =
    (shownBytes (slot + byte) len v).low := by
  have : 8 * byte + 8 * slot = 8 * (slot + byte) := by omega
  simp only [Piece.low, Shown.low, bytesAt, shownBytes, this, saturate]

theorem moved_bitsAt (bit w : Nat) :
    Piece.low ⟨(bitsAt byte bit w v).offset + 8 * slot, (bitsAt byte bit w v).width, (bitsAt byte bit w v).value⟩ =
      (shownBits (slot + byte) bit w v).low := by
  have : 8 * byte + bit + 8 * slot = 8 * (slot + byte) + bit := by omega
  simp only [Piece.low, Shown.low, bitsAt, shownBits, this, saturate]

theorem moved_signedAt (z : Int) :
    Piece.low ⟨(signedAt byte len z).offset + 8 * slot, (signedAt byte len z).width, (signedAt byte len z).value⟩ =
      (shownSigned (slot + byte) 0 (8 * len) z).low := by
  have : 8 * byte + 8 * slot = 8 * (slot + byte) + 0 := by omega
  simp only [Piece.low, Shown.low, signedAt, shownSigned, this, saturateSigned_eq]

/-- The low bits of a wider value, which fit their field. -/
theorem moved_lowBytesAt :
    Piece.low ⟨(lowBytesAt byte len v).offset + 8 * slot, (lowBytesAt byte len v).width, (lowBytesAt byte len v).value⟩ =
      (shownBytes (slot + byte) len (v % 2 ^ (8 * len))).low := by
  have hplace : 8 * byte + 8 * slot = 8 * (slot + byte) := by omega
  have hlow : v % 2 ^ (8 * len) < 2 ^ (8 * len) := Nat.mod_lt _ (Nat.two_pow_pos _)
  simp only [Piece.low, Shown.low, lowBytesAt, shownBytes, hplace, Nat.min_eq_left (Nat.le_sub_one_of_lt hlow), Nat.mod_mod]

end moved

theorem moveBy_cons (k : Nat) (p : Piece) (ps : List Piece) : moveBy k (p :: ps) = ⟨p.offset + 8 * k, p.width, p.value⟩ :: moveBy k ps := rfl

theorem moveBy_append (k : Nat) (ps qs : List Piece) : moveBy k (ps ++ qs) = moveBy k ps ++ moveBy k qs := List.map_append

theorem moveBy_nil (k : Nat) : moveBy k [] = [] := rfl

/-- R181: a result's slot shows the fields of its record. -/
theorem resultSlot_low (slot : Nat) (r : ResultRecord) : (moveBy slot (resultSlot (some r))).map Piece.low =
    [shownBytes slot 4 r.number, shownBytes (slot + 4) 2 r.tag.toNat, shownBytes (slot + 6) 2 r.code.toNat,
      shownBytes (slot + 8) 1 (resultCode r.result)].map Shown.low := by
  simp only [resultSlot, moveBy_cons, moveBy_nil, List.map_cons, List.map_nil, moved_bytesAt, Nat.add_zero]

theorem shownKind_eq (e : EventInfo) : e.shownKind = (e.code, e.subject) := by
  cases e with
  | portStateChanged p st cause => cases p <;> rfl
  | _ => rfl

/-- R177: the detail of an event, by its kind. -/
theorem detail_low (slot : Nat) (e : EventInfo) : (moveBy slot e.detail).map Piece.low = (e.shownDetail slot).map Shown.low := by
  cases e <;> simp only [EventInfo.detail, EventInfo.shownDetail, moveBy_cons, moveBy_nil, List.map_cons, List.map_nil, moved_bytesAt,
    moved_signedAt, moved_lowBytesAt, beliefNat_eq]

/-- R177, R181: an event's slot shows the fields of its record. -/
theorem eventSlot_low (slot : Nat) (e : EventRecord) : (moveBy slot (eventSlot (some e))).map Piece.low =
    ([shownBytes slot 2 (e.number % 2 ^ 16), shownBits (slot + 2) 0 4 e.info.shownKind.1, shownBits (slot + 2) 4 3 e.stamp.quality.toNat,
      shownBytes (slot + 3) 1 e.info.shownKind.2, shownBytes (slot + 4) 6 (e.stamp.time.toNat % 2 ^ 48)] ++
      e.info.shownDetail slot).map Shown.low := by
  simp only [eventSlot, moveBy_append, List.map_append, detail_low, shownKind_eq]
  simp only [moveBy_cons, moveBy_nil, List.map_cons, List.map_nil, moved_bytesAt, moved_bitsAt, moved_lowBytesAt, Nat.add_zero]

/-! ### The fields of a line -/

theorem low_bytesAt (byte len v : Nat) : (bytesAt byte len v).low = (shownBytes byte len v).low := rfl

theorem low_bitsAt (byte bit w v : Nat) : (bitsAt byte bit w v).low = (shownBits byte bit w v).low := rfl

theorem low_bitAt (byte bit : Nat) (b : Bool) : (bitAt byte bit b).low = (shownBits byte bit 1 b.toNat).low := by
  cases b <;> rfl

theorem low_signed (byte bit w : Nat) (z : Int) : Piece.low ⟨8 * byte + bit, w, saturateSigned w z⟩ = (shownSigned byte bit w z).low := by
  rw [saturateSigned_eq]
  rfl

theorem low_signedAt (byte len : Nat) (z : Int) : (signedAt byte len z).low = (shownSigned byte 0 (8 * len) z).low :=
  low_signed byte 0 (8 * len) z

/-! ### The layouts of the lines with fields that may be absent -/

theorem layout_halfLine (k : HalfRecord) : layout 512 ([bytesAt 0 1 (halfStateCode k.state), bitAt 1 0 k.startStamp.isSome,
    bitAt 1 1 k.endStamp.isSome, bitAt 1 2 k.forwarded.isSome, bytesAt 2 2 k.pass.toNat, bytesAt 4 4 k.received] ++
    stampOrNone 8 k.startStamp ++ stampOrNone 18 k.endStamp ++ [bytesAt 28 4 (k.forwarded.getD 0)]) = true := by
  obtain ⟨state, pass, present, received, start, stop, forwarded⟩ := k
  cases start <;> cases stop <;> rfl

/-- Settles O29: each line is assembled from a layout whose pieces are the fields of its table. -/
theorem reportLinesShowTheState : Obligations.ReportLinesShowTheState := by
  intro s n b z bit orFF frame port base exponent stamp c q
  have hport : port = portCode := funext fun p => by cases p <;> rfl
  have hframe : frame = beliefNat := funext fun f => (beliefNat_eq f).symm
  refine ⟨?clock, fun p => ?port, fun f => ?roster, fun t => ?tap, fun m => ⟨?mirror, fun h => ?half⟩, ?channel, fun k => ?results, fun k => ?events,
    ?orders, fun p => ?counters⟩
  case clock =>
    rw [hport]
    refine shows_assemble ?_ ?_
    · rfl
    · have hup : (c.upPort.map portCode).getD 3 = upPortCode c.upPort := by cases c.upPort <;> rfl
      have low_corr : ∀ v, Piece.low ⟨8 * 40, 18, saturateSigned 18 v⟩ = (shownSigned 40 0 18 v).low := low_signed 40 0 18
      have low_corrB : ∀ v, Piece.low ⟨8 * 40 + 18, 18, saturateSigned 18 v⟩ = (shownSigned 40 18 18 v).low := low_signed 40 18 18
      simp only [List.map_cons, List.map_nil, low_bytesAt, low_bitsAt, low_bitAt, low_signedAt, low_corr, low_corrB, hup]
      rfl
  case port =>
    rw [hport, reportLine_port, hframe]
    refine shows_assemble ?_ ?_
    · rfl
    · have hnone : beliefNat ((s.port p).neighbour.map Prod.fst) = orNone ((s.port p).neighbour.map fun n => n.1.val) := by
        rw [beliefNat_eq, Option.map_map]
        rfl
      simp only [List.map_cons, List.map_nil, low_bytesAt, low_bitsAt, low_bitAt, hnone]
      rfl
  case roster =>
    intro ownState e
    have hown : advertisedEntry s.roster.ownState = ownState := by
      simp only [ownState]
      cases s.roster.ownState <;> rfl
    have he : s.shownEntry f = e := by
      simp only [State.shownEntry, State.ownEntry, hown, e]
    have hroute : portByte e.route = orFF (e.route.map portCode) := by
      cases e.route <;> rfl
    rw [hport, hframe, reportLine_roster]
    refine shows_assemble ?_ ?_
    · rfl
    · rw [he]
      simp only [List.map_cons, List.map_nil, low_bytesAt, low_bitAt, hroute]
      rfl
  case tap =>
    rw [reportLine_tap]
    refine shows_assemble ?_ ?_
    · rfl
    · simp only [List.map_cons, List.map_nil, low_bytesAt, low_bitsAt, low_bitAt]
      rfl
  case mirror =>
    rw [reportLine_mirror]
    refine shows_assemble ?_ ?_
    · rfl
    · simp only [List.map_cons, List.map_nil, low_bytesAt, low_bitsAt, low_bitAt]
      rfl
  case half =>
    have hhalf : (match h with | .even => 0 | .odd => 1) = (halfCode h).toNat := by cases h <;> rfl
    refine (congrArg (fun k => shows (reportLine (21 + 3 * m.val + k) s) _) hhalf).mpr ?_
    rw [reportLine_half]
    refine shows_assemble (layout_halfLine _) ?_
    cases ((s.mirror m).half h).startStamp <;> cases ((s.mirror m).half h).endStamp <;>
      simp only [List.map_append, List.map_cons, List.map_nil, low_bytesAt, low_bitAt] <;> rfl
  case channel =>
    refine shows_assemble ?_ ?_
    · rfl
    · simp only [List.map_cons, List.map_nil, low_bytesAt, low_bitAt]
      rfl
  case results =>
    rw [reportLine_result]
    refine shows_slots (fun i => layout_resultSlot _) fun i => ?_
    cases s.reporter.results[4 * k.val + i.val] with
    | none => rfl
    | some r => exact (resultSlot_low _ r).symm
  case events =>
    rw [reportLine_event]
    refine shows_slots (fun i => layout_eventSlot _) fun i => ?_
    cases s.reporter.events[4 * k.val + i.val] with
    | none => rfl
    | some e => exact (eventSlot_low _ e).symm
  case orders =>
    have hlen : (s.orders.pending.take 4).length ≤ 4 := List.length_take_le ..
    have hpending := pendingPieces_eq 0 (s.orders.pending.take 4)
    rw [hframe]
    refine shows_assemble ?_ ?_
    · generalize s.orders.pending.take 4 = l at hlen
      match l, hlen with
      | [], _ => rfl
      | [_], _ => rfl
      | [_, _], _ => rfl
      | [_, _, _], _ => rfl
      | [_, _, _, _], _ => rfl
    · simp only [List.map_append, hpending, List.map_cons, List.map_nil, low_bytesAt, low_bitsAt, low_bitAt, eight]
      rfl
  case counters =>
    rw [hport, reportLine_counters]
    refine shows_assemble ?_ ?_
    · rfl
    · simp only [List.map_cons, List.map_nil, low_bytesAt]
      rfl

end Sys2Proof.Machine

/-! PROOFS. The summary line: its fields, the store's free lines and its longest free gap. -/

namespace Sys2Proof.Machine
variable {s : State}

/-! ### Free lines and gaps (R138, R180) -/

/-- The free lines from a line on are those that no extent takes. -/
theorem sum_freeGaps {extents : List Extent} {k : Nat} (hsort : extents.Pairwise fun e f => e.start + e.length ≤ f.start)
    (hfrom : ∀ e ∈ extents, k ≤ e.start) (hin : ∀ e ∈ extents, e.start + e.length ≤ 65536) :
    ((freeGaps k extents).map Prod.snd).sum + (extents.map Extent.length).sum = 65536 - k ∧ (extents.map Extent.length).sum ≤ 65536 - k := by
  induction extents generalizing k with
  | nil => exact ⟨rfl, Nat.zero_le _⟩
  | cons e es ih =>
    obtain ⟨hafter, hsort'⟩ := List.pairwise_cons.mp hsort
    have hk := hfrom e List.mem_cons_self
    have hend := hin e List.mem_cons_self
    obtain ⟨hsum, hle⟩ := ih (k := e.start + e.length) hsort' (fun f hf => hafter f hf) fun f hf => hin f (List.mem_cons_of_mem _ hf)
    simp only [freeGaps, List.map_cons, List.sum_cons]
    omega

theorem freeLines_eq (hs : extentsRight s) :
    freeLines s.mirrorStore.extents = 65536 - (s.mirrorStore.extents.map Extent.length).sum := by
  obtain ⟨hsort, hin⟩ := hs
  have := sum_freeGaps (k := 0) hsort (fun _ _ => Nat.zero_le _) fun e he => (hin e he).1
  simp only [freeLines]
  omega

theorem le_foldl_max_iff {l : List Nat} {a n : Nat} : n ≤ l.foldl max a ↔ n ≤ a ∨ ∃ x ∈ l, n ≤ x := by
  induction l generalizing a with
  | nil => simp
  | cons x l ih =>
    rw [List.foldl_cons, ih]
    simp only [le_max_iff, List.mem_cons, exists_eq_or_imp, or_assoc]

/-- R138: a length is free somewhere exactly where a gap is as long. -/
theorem exists_freeAt_iff (hs : extentsRight s) {n : Nat} (hn : 1 ≤ n) :
    (∃ start, freeAt s.mirrorStore.extents n start) ↔ n ≤ longestGap s.mirrorStore.extents := by
  obtain ⟨hsort, hin⟩ := hs
  have hnone := firstFit_eq_none hn hsort fun e he => (hin e he).1
  have hgap : n ≤ longestGap s.mirrorStore.extents ↔ ∃ g ∈ freeGaps 0 s.mirrorStore.extents, n ≤ g.2 := by
    rw [longestGap, le_foldl_max_iff]
    simp only [List.mem_map]
    constructor
    · rintro (h | ⟨_, ⟨g, hg, rfl⟩, h⟩)
      · omega
      · exact ⟨g, hg, h⟩
    · exact fun ⟨g, hg, h⟩ => .inr ⟨_, ⟨g, hg, rfl⟩, h⟩
  rw [hgap]
  have hfit : firstFit s.mirrorStore.extents n = none ↔ ¬ ∃ g ∈ freeGaps 0 s.mirrorStore.extents, n ≤ g.2 := by
    simp [firstFit]
  constructor
  · intro ⟨start, h⟩
    by_contra hno
    exact hnone.mp (hfit.mpr hno) start h
  · intro h
    by_contra hno
    exact hfit.mp (hnone.mpr fun b hb => hno ⟨b, hb⟩) h

theorem longestGap_eq (hs : extentsRight s) {gap : Nat} (h : ∃ start, freeAt s.mirrorStore.extents gap start)
    (hnext : ∀ start, ¬ freeAt s.mirrorStore.extents (gap + 1) start) : longestGap s.mirrorStore.extents = gap := by
  have hlow : gap ≤ longestGap s.mirrorStore.extents := by
    rcases Nat.eq_zero_or_pos gap with rfl | hpos
    · exact Nat.zero_le _
    · exact (exists_freeAt_iff hs hpos).mp h
  have hhigh : ¬ gap + 1 ≤ longestGap s.mirrorStore.extents := fun hle =>
    have ⟨start, hfree⟩ := (exists_freeAt_iff hs (Nat.le_add_left 1 gap)).mpr hle
    hnext start hfree
  omega

/-! ### The line (R180) -/

/-- The pieces of the summary line. -/
theorem summaryLine_layout (s : State) : ∃ ps, summaryLine s = assemble 512 ps ∧ layout 512 ps = true ∧
    bytesAt 0 1 s.own.val ∈ ps ∧ bytesAt 3 1 s.roster.waitSet.toNat ∈ ps ∧ bytesAt 4 1 (beliefNat s.roster.belief) ∈ ps ∧
    bytesAt 5 2 s.roster.incarnation.toNat ∈ ps ∧ bitAt 17 0 s.reporter.attention ∈ ps ∧ bytesAt 24 4 s.reporter.eventCount ∈ ps ∧
    bytesAt 28 4 s.reporter.acknowledged ∈ ps ∧ bytesAt 32 4 s.reporter.resultsPosted ∈ ps := by
  refine ⟨_, rfl, rfl, ?_⟩
  simp only [List.mem_cons, true_or, or_true, and_self]

/-- A count that fits its field is shown as it is. -/
theorem field_count {ps : List Piece} (h : layout 512 ps = true) {byte len v : Nat} (hp : bytesAt byte len v ∈ ps) (hv : v < 2 ^ (8 * len)) :
    field (assemble 512 ps) byte (8 * len) = BitVec.ofNat (8 * len) v := by
  refine (extract_layout h hp).trans ?_
  exact congrArg _ (saturate_fits hv)

theorem reportLine_beyond {n : Nat} (h : 60 ≤ n) (s : State) : reportLine n s = 0 := by
  have below : ∀ k < 60, ¬ n < k ∧ n ≠ k := fun k hk => by omega
  simp only [reportLine, below, if_neg, Nat.reduceLT, not_false_eq_true]

/-- Settles O28: the summary line is assembled from a layout, whose counts fit by the reporter's bounds, and whose last two fields are the
sum and the maximum of the free gaps. -/
theorem summaryLineShowsTheState : Obligations.SummaryLineShowsTheState := by
  refine ⟨fun s hs => ?counts, fun s gap hs hgap hnext => ?table⟩
  case counts =>
    intro l
    obtain ⟨hack, -, hevents, hresults⟩ := hs
    have hmax : Config.countMax < 2 ^ (8 * 4) := by decide
    have hack : s.reporter.acknowledged < 2 ^ (8 * 4) := (Nat.le_trans hack hevents).trans_lt hmax
    obtain ⟨ps, hps, h, hown, hwait, hbelief, hinc, hatt, hev, hacked, hres⟩ := summaryLine_layout s
    have hl : l = assemble 512 ps := hps
    rw [hl]
    refine ⟨field_count h hown (s.own.isLt.trans (by decide)), field_layout h 3 1 rfl hwait, field_layout h 4 1 rfl hbelief,
      field_layout h 5 2 rfl hinc, bit_layout h hatt, field_count h hev (hevents.trans_lt hmax), field_count h hacked hack,
      field_count h hres (hresults.trans_lt hmax), fun n hn => reportLine_beyond hn s⟩
  case table =>
    intro n b bit frame base exponent r d
    have hframe : frame r.belief = beliefNat r.belief := (beliefNat_eq _).symm
    rw [hframe, ← freeLines_eq hs, ← longestGap_eq hs hgap hnext]
    refine shows_assemble ?_ ?_
    · rfl
    · simp only [List.map_cons, List.map_nil, low_bytesAt, low_bitsAt, low_bitAt]
      rfl

end Sys2Proof.Machine

/-! PROOFS. A part reset, and the directives that end with their own result: how a record is taken, and Bind Tap, Start Tap, Arm Tap, the stride
presets, the mirrors, Time Settings, Acknowledge Events and Clear Counters. -/

namespace Sys2Proof.Machine
variable {s : State}

/-! ### Part reset (R20, R21, R33, R59, R61, R113, R135, R157, R171, R189) -/

/-- Settles O30: a part reset is the reset state with the straps as sampled, the signals as they stand and the queue. -/
theorem partResetClearsEveryBlock : Obligations.PartResetClearsEveryBlock := fun s f a b =>
  ⟨_, rfl, rfl, reset_region _ _ _, reset_tap _ _ _, rfl, reset_mirror _ _ _, rfl, rfl,
    fun p => by cases p <;> cases a <;> cases b <;> rfl, rfl, rfl, rfl, rfl, rfl, rfl, rfl, rfl, rfl⟩

/-! ### Taking a directive (R172, R173) -/

/-- R172: while the Directive region is valid a directive's command counts its record and dispatches it. -/
theorem exec_of_directive {c : Instr} (d : Directive) (h : recordOf c = some d) (hv : (s.region 0).valid = true) :
    exec c s = .next (dispatch d s.taken) := by
  rw [exec_of_recordOf h, throughRegion, if_pos hv]
  rfl

/-- Settles O32: by whether the Directive region is valid. -/
theorem directivesAreTaken : Obligations.DirectivesAreTaken := by
  refine fun s c d tag code enabled position => ⟨exec_of_directive d, fun h hv => ?_, fun hv =>
    ⟨exec_of_directive (.unknown tag code) rfl hv, ?_⟩⟩
  · rw [exec_of_recordOf h, throughRegion, if_neg (by simp [hv])]
  · exact congrArg Host.Outcome.next (if_pos hv)

section taken
@[simp] theorem taken_channel : s.taken.channel = s.channel := rfl
@[simp] theorem taken_regions : s.taken.regions = s.regions := rfl
@[simp] theorem taken_tapEngine : s.taken.tapEngine = s.tapEngine := rfl
@[simp] theorem taken_mirrorStore : s.taken.mirrorStore = s.mirrorStore := rfl
@[simp] theorem taken_link : s.taken.link = s.link := rfl
@[simp] theorem taken_roster : s.taken.roster = s.roster := rfl
@[simp] theorem taken_clock : s.taken.clock = s.clock := rfl
@[simp] theorem taken_orders : s.taken.orders = s.orders := rfl
@[simp] theorem taken_own : s.taken.own = s.own := rfl
@[simp] theorem taken_region (i : Fin 18) : s.taken.region i = s.region i := rfl
@[simp] theorem taken_tap (t : TapNo) : s.taken.tap t = s.tap t := rfl
@[simp] theorem taken_mirror (m : MirrorNo) : s.taken.mirror m = s.mirror m := rfl
@[simp] theorem taken_entry (f : FrameNo) : s.taken.entry f = s.entry f := rfl
@[simp] theorem taken_port (p : Port) : s.taken.port p = s.port p := rfl
@[simp] theorem taken_away : s.taken.away = s.away := rfl
@[simp] theorem taken_reserved : s.taken.reserved = s.reserved := rfl
end taken

/-! ### Numbers that name taps, mirrors, frames, presets and groups -/

theorem toEight_of_le {b : Byte} {f : Fin 8} (h : b.toNat = f.val) : toEight b = some f := by
  rw [toEight, dif_pos (by omega)]
  exact congrArg some (Fin.ext h)

theorem toEight_of_lt {b : Byte} (h : 7 < b.toNat) : toEight b = none := dif_neg (by omega)

theorem toPreset_of_le {b : Byte} {f : Fin 4} (h : b.toNat = f.val) : toPreset b = some f := by
  rw [toPreset, dif_pos (by omega)]
  exact congrArg some (Fin.ext h)

theorem toPreset_of_lt {b : Byte} (h : 3 < b.toNat) : toPreset b = none := dif_neg (by omega)

theorem toGroup_of_le {b : Byte} {f : Fin 16} (h : b.toNat = f.val) : toGroup b = some f := by
  rw [toGroup, dif_pos (by omega)]
  exact congrArg some (Fin.ext h)

theorem toGroup_of_lt {b : Byte} (h : 15 < b.toNat) : toGroup b = none := dif_neg (by omega)

theorem onTapNumber_of_le {b : Byte} {t : TapNo} (tag code : Word16) (act : TapNo → State → State) (h : b.toNat = t.val) :
    onTapNumber tag code b act s = act t s := by simp only [onTapNumber, toEight_of_le h]

theorem onTapNumber_of_lt {b : Byte} (tag code : Word16) (act : TapNo → State → State) (h : 7 < b.toNat) :
    onTapNumber tag code b act s = postResult tag code .badArgument s := by simp only [onTapNumber, toEight_of_lt h]

/-! ### The checks of a bind (R22, R25, R26) -/

theorem regionPlaced_iff {sizeExp base : Nat} (h : sizeExp ≤ 8) :
    regionPlaced base (regionSize sizeExp) s.channelLines = true ↔ s.regionAllowed sizeExp base := by
  simp only [regionPlaced, Bool.and_eq_true, beq_iff_eq, decide_eq_true_eq]
  exact ⟨fun k => ⟨h, k⟩, And.right⟩

theorem shape_iff {len count stride sizeExp : Nat} {paired : Bool} :
    (shapeInRange len count stride = true ∧ shapeFits len count stride (halfLines (regionSize sizeExp) paired) = true) ↔
      shapeAllowed len count stride sizeExp paired := by
  have hhalf : halfLines (regionSize sizeExp) paired = 4096 * 4 ^ sizeExp / (if paired then 128 else 64) := by cases paired <;> rfl
  simp only [shapeInRange, shapeFits, shapeAllowed, Bool.and_eq_true, decide_eq_true_eq, hhalf, and_assoc]

theorem overlaps_iff {e : Region} : s.overlaps e = true ↔ ¬ s.regionApart e := by
  simp only [State.overlaps, List.any_eq_true, Bool.and_eq_true, State.regionApart, not_forall, Bool.not_eq_false]
  exact ⟨fun ⟨i, _, hv, hm⟩ => ⟨i, hv, hm⟩, fun ⟨i, hv, hm⟩ => ⟨i, mem_entryNumbers i, hv, hm⟩⟩

section bindCheck
variable {sizeExp base len count stride : Nat} {paired : Bool}

/-- R26, steps 2 and 3: a region or a shape out of its range is BadArgument. -/
theorem bindCheck_of_not_fits (h : ¬ (s.regionAllowed sizeExp base ∧ shapeAllowed len count stride sizeExp paired)) :
    s.bindCheck sizeExp base paired len count stride = some .badArgument := by
  unfold State.bindCheck
  dsimp only
  split_ifs with h1 h2 h3 h4 h5
  · rfl
  · rfl
  · rfl
  · rfl
  all_goals
    simp only [Bool.not_eq_true', Bool.not_eq_false] at h2 h3 h4
    exact absurd ⟨(regionPlaced_iff (Nat.le_of_not_lt h1)).mp h2, shape_iff.mp ⟨h3, h4⟩⟩ h

variable (h : s.regionAllowed sizeExp base ∧ shapeAllowed len count stride sizeExp paired)
include h

theorem bindCheck_of_fits : s.bindCheck sizeExp base paired len count stride =
    if s.overlaps ⟨true, base, regionSize sizeExp, paired⟩ then some .overlap else none := by
  obtain ⟨hregion, hshape⟩ := h
  have hexp : sizeExp ≤ 8 := hregion.1
  obtain ⟨hrange, hfit⟩ := shape_iff.mpr hshape
  simp only [State.bindCheck, if_neg hexp.not_gt, (regionPlaced_iff hexp).mpr hregion, hrange, hfit, Bool.not_true, Bool.false_eq_true,
    if_false]

/-- R26, step 4: a region that shares a line with a valid one is Overlap. -/
theorem bindCheck_of_overlap (ho : ¬ s.regionApart ⟨true, base, regionSize sizeExp, paired⟩) :
    s.bindCheck sizeExp base paired len count stride = some .overlap := by
  rw [bindCheck_of_fits h, if_pos (overlaps_iff.mpr ho)]

theorem bindCheck_of_apart (ho : s.regionApart ⟨true, base, regionSize sizeExp, paired⟩) :
    s.bindCheck sizeExp base paired len count stride = none := by
  rw [bindCheck_of_fits h, if_neg fun k => overlaps_iff.mp k ho]

end bindCheck

/-! ### Bind Tap (R35, R36) -/

theorem bindTap_of_named {tag : Word16} {a : BindTapArgs} {t : TapNo} {preset : Fin 4} {group : Fin 16} (ht : a.tap.toNat = t.val)
    (hp : a.preset.toNat = preset.val) (hg : a.armGroup.toNat = group.val) (hd : without a.dests s.own ≠ 0) :
    bindTap tag a s = bindTapChecked tag a t (tapRecord a preset group (without a.dests s.own)) s := by
  simp only [bindTap, toEight_of_le ht, toPreset_of_le hp, toGroup_of_le hg, if_neg hd]

theorem bindTap_of_bad {tag : Word16} {a : BindTapArgs}
    (h : 7 < a.tap.toNat ∨ 3 < a.preset.toNat ∨ 15 < a.armGroup.toNat ∨ without a.dests s.own = 0) :
    bindTap tag a s = postResult tag 0x01 .badArgument s := by
  unfold bindTap
  dsimp only
  split
  · next ht hp hg =>
    refine if_pos ?_
    rcases h with h | h | h | h
    · rw [toEight_of_lt h] at ht
      exact nomatch ht
    · rw [toPreset_of_lt h] at hp
      exact nomatch hp
    · rw [toGroup_of_lt h] at hg
      exact nomatch hg
    · exact h
  · rfl

section bindTapChecked
variable (tag : Word16) {a : BindTapArgs} {t : TapNo} {record : Tap} (hfree : (s.tap t).state = .unbound)
include hfree

theorem bindTapChecked_of_refused {r : DirectiveResult} (h : s.bindCheck a.sizeExp.toNat a.base.toNat a.paired record.recordLen
    record.recordCount s.tapEngine.presets[record.preset] = some r) :
    bindTapChecked tag a t record s = postResult tag 0x01 r s := by
  simp only [bindTapChecked, hfree, ne_eq, not_true_eq_false, if_false, h]

theorem bindTapChecked_of_right (h : s.bindCheck a.sizeExp.toNat a.base.toNat a.paired record.recordLen
    record.recordCount s.tapEngine.presets[record.preset] = none) :
    bindTapChecked tag a t record s = if Config.bufferEntries < s.reserved + record.queueSize then postResult tag 0x01 .noSpace s
      else postResult tag 0x01 .done ((s.onTap t fun _ => record).setRegion (tapRegion t)
        ⟨true, a.base.toNat, regionSize a.sizeExp.toNat, a.paired⟩) := by
  simp only [bindTapChecked, hfree, ne_eq, not_true_eq_false, if_false, h]

end bindTapChecked

/-- R35: the clamps of a bind, each level at most the one above it. -/
theorem tapRecord_eq (a : BindTapArgs) (preset : Fin 4) (group : Fin 16) (dests : Byte) : let q := max 8 (min a.queueSize.toNat 256)
    tapRecord a preset group dests = { Tap.unbound with
      state := .idle, recordLen := a.recordLen.toNat, recordCount := a.recordCount.toNat, preset := preset, dests := dests
      queueSize := q, high := min a.high.toNat q, low := min a.low.toNat (min a.high.toNat q)
      stop := min a.stop.toNat (min a.low.toNat (min a.high.toNat q))
      strict := a.strict, passLimit := a.passLimit.toNat, armGroup := group } := by
  intro q
  have hlow : min (min a.low.toNat q) (min a.high.toNat q) = min a.low.toNat (min a.high.toNat q) := by omega
  have hstop : min (min a.stop.toNat q) (min a.low.toNat (min a.high.toNat q)) = min a.stop.toNat (min a.low.toNat (min a.high.toNat q)) := by
    omega
  rw [← hstop, ← hlow]
  rfl

/-- Settles O33: the checks of Bind Tap in the order of the model, each refusal at the first that fails. -/
theorem bindTapChecksInOrder : Obligations.BindTapChecksInOrder := by
  intro s tag a hv c refused dests
  have hexec : exec c s = .next (bindTap tag a s.taken) := exec_of_directive (.bindTap tag a) rfl hv
  refine ⟨fun h => hexec.trans (congrArg _ (bindTap_of_bad h)), fun t preset group ht hp hg hd => ?_⟩
  intro stride region q fits
  rw [bindTap_of_named (s := s.taken) ht hp hg hd] at hexec
  refine ⟨fun hbusy => ?_, fun hfree hfit => ?_, fun hfree hfit ho => ?_, fun hfree hfit ho hroom => ?_, fun hfree hfit ho hroom => ?_⟩
  · exact hexec.trans (congrArg _ (if_pos hbusy))
  · exact hexec.trans (congrArg _ (bindTapChecked_of_refused (s := s.taken) tag hfree (bindCheck_of_not_fits (s := s.taken) hfit)))
  · exact hexec.trans (congrArg _ (bindTapChecked_of_refused (s := s.taken) tag hfree (bindCheck_of_overlap (s := s.taken) hfit ho)))
  all_goals
    have hright : s.taken.bindCheck a.sizeExp.toNat a.base.toNat a.paired a.recordLen.toNat a.recordCount.toNat stride = none :=
      bindCheck_of_apart (s := s.taken) hfit ho
    rw [bindTapChecked_of_right (s := s.taken) tag hfree hright] at hexec
  · exact hexec.trans (congrArg _ (if_pos hroom))
  · exact ⟨_, hexec.trans (congrArg _ (if_neg hroom.not_gt)), tapRecord_eq ..⟩

/-! ### Start Tap and Arm Tap (R39, R40) -/

section fromIdle
variable (tag code : Word16) (act : State → State) {t : TapNo}

theorem fromIdle_of_unbound (h : (s.tap t).state = .unbound) : fromIdle tag code act t s = postResult tag code .notBound s := if_pos h

theorem fromIdle_of_away (h : (s.tap t).state ≠ .unbound) (ha : s.away = true) :
    fromIdle tag code act t s = postResult tag code .leaving s := by rw [fromIdle, if_neg h, if_pos ha]

theorem fromIdle_of_busy (h : (s.tap t).state ≠ .unbound) (ha : s.away = false) (hb : (s.tap t).state ≠ .idle) :
    fromIdle tag code act t s = postResult tag code .busy s := by
  rw [fromIdle, if_neg h, if_neg (by simp [ha]), if_pos hb]

theorem fromIdle_of_idle (h : (s.tap t).state = .idle) (ha : s.away = false) :
    fromIdle tag code act t s = postResult tag code .done (act s) := by
  rw [fromIdle, if_neg (by simp [h]), if_neg (by simp [ha]), if_neg (by simp [h])]

end fromIdle

theorem begun_iff {k : Tap} : k.begun = true ↔ ¬ (k.r = 0 ∧ k.x = 0) := by
  simp only [Tap.begun, Bool.not_eq_true', Bool.and_eq_false_iff, beq_eq_false_iff_ne, not_and_or]

/-- Two changes of one tap are one. -/
theorem onTap_onTap (t : TapNo) (f g : Tap → Tap) (s : State) : (s.onTap t f).onTap t g = s.onTap t fun k => g (f k) := by
  simp [State.onTap, State.onTapEngine]

theorem onTap_congr {t : TapNo} {f g : Tap → Tap} (h : f (s.tap t) = g (s.tap t)) : s.onTap t f = s.onTap t g := by
  unfold State.onTap State.onTapEngine
  exact congrArg (fun k => { s with tapEngine := { s.tapEngine with taps := s.tapEngine.taps.set t k } }) h

/-- R50: a tap that enters Running stands at the first line of a fresh pass. -/
def Tap.started (k : Tap) (paired : Bool) : Tap :=
  { k with
    state := .running, r := 0, x := 0, passLines := 0, dropSeen := false, passesDone := 0
    pass := if k.r = 0 ∧ k.x = 0 then k.pass else k.pass + 1
    half := if (k.r = 0 ∧ k.x = 0) ∨ paired = false then k.half else k.half.flip }

theorem enterRunning_eq (t : TapNo) (s : State) :
    enterRunning t s = s.onTap t fun k => k.started (s.region (tapRegion t)).paired := by
  unfold enterRunning
  by_cases h : (s.tap t).r = 0 ∧ (s.tap t).x = 0
  · have hb : (s.tap t).begun = false := by simp [Tap.begun, h]
    rw [hb]
    exact onTap_congr (by simp [Tap.started, h])
  · rw [if_pos (begun_iff.mpr h), nextPass, onTap_onTap]
    refine onTap_congr ?_
    cases hp : (s.region (tapRegion t)).paired <;> simp [Tap.started, h]

/-- Settles O35: the checks of `fromIdle` in order; from Idle, by whether the arm time has come. -/
theorem startAndArmCheckInOrder : Obligations.StartAndArmCheckInOrder := by
  intro s tag tap time hv start arm refused
  have hstart : exec start s = .next (onTapNumber tag 0x04 tap (startTapAt tag) s.taken) := exec_of_directive (.startTap tag tap) rfl hv
  have harm : exec arm s = .next (onTapNumber tag 0x03 tap (armTapAt tag time) s.taken) := exec_of_directive (.armTap tag tap time) rfl hv
  refine ⟨fun h => ?_, fun t ht => ?_⟩
  · rw [onTapNumber_of_lt _ _ _ h] at hstart harm
    exact ⟨hstart, harm⟩
  intro k running
  rw [onTapNumber_of_le _ _ _ ht] at hstart harm
  have idle (h : k.state = .idle) (ha : s.away = false) (code : Word16) (act : State → State) :
      fromIdle tag code act t s.taken = postResult tag code .done (act s.taken) := fromIdle_of_idle (s := s.taken) tag code act h ha
  refine ⟨fun h => ?_, fun h ha => ?_, fun h ha hb => ?_, fun h ha => ⟨?_, fun htime => ?_, fun htime => ?_⟩⟩
  · exact ⟨hstart.trans (congrArg _ (fromIdle_of_unbound (s := s.taken) _ _ _ h)),
      harm.trans (congrArg _ (fromIdle_of_unbound (s := s.taken) _ _ _ h))⟩
  · exact ⟨hstart.trans (congrArg _ (fromIdle_of_away (s := s.taken) _ _ _ h ha)),
      harm.trans (congrArg _ (fromIdle_of_away (s := s.taken) _ _ _ h ha))⟩
  · exact ⟨hstart.trans (congrArg _ (fromIdle_of_busy (s := s.taken) _ _ _ h ha hb)),
      harm.trans (congrArg _ (fromIdle_of_busy (s := s.taken) _ _ _ h ha hb))⟩
  · refine hstart.trans (congrArg _ ((idle h ha _ _).trans (congrArg (postResult tag 0x04 .done) ?_)))
    rw [enterRunning_eq]
    exact onTap_congr rfl
  all_goals refine harm.trans (congrArg _ ((idle h ha _ _).trans (congrArg (postResult tag 0x03 .done) ?_)))
  · have hlate : ¬ time.toNat ≤ s.clock.time / 2 ^ 24 := htime.not_ge
    rw [startIfDue, if_neg]
    · exact onTap_congr rfl
    · rw [onTap_self]
      exact fun hdue => hlate hdue.2
  · rw [startIfDue, if_pos]
    · rw [enterRunning_eq, onTap_onTap]
      exact onTap_congr rfl
    · rw [onTap_self]
      exact ⟨rfl, htime⟩

end Sys2Proof.Machine

/-! PROOFS. The directives that end with their own result and conclude nothing: the stride presets, the mirrors' binding, the gates,
Time Settings, Acknowledge Events and Clear Counters. -/

namespace Sys2Proof.Machine
variable {s : State}

theorem mem_eight (f : Fin 8) : f ∈ eight := List.mem_finRange f

/-! ### Stride presets (R34) -/

theorem newPresets_get (a : PresetArgs) (i : Fin 4) : (s.newPresets a)[i] = if a.set.getLsbD i.val then
    max 1 (#v[a.p0, a.p1, a.p2, a.p3])[i].toNat else s.tapEngine.presets[i] := by
  simp only [State.newPresets, Fin.getElem_fin, Vector.getElem_ofFn]
  fin_cases i <;> rfl

theorem misfit_iff (a : PresetArgs) (t : TapNo) : s.misfit a t = true ↔ (s.newPresets a)[(s.tap t).preset] < (s.tap t).recordLen ∨
    shapeFits (s.tap t).recordLen (s.tap t).recordCount (s.newPresets a)[(s.tap t).preset]
      (halfLines (s.region (tapRegion t)).size (s.region (tapRegion t)).paired) = false := by
  simp only [State.misfit, Bool.or_eq_true, decide_eq_true_eq, Bool.not_eq_true']

/-- A check over the taps that a Set Stride Presets touches. -/
theorem any_touched (a : PresetArgs) (check : TapNo → Bool) :
    (eight.filter fun t => (s.tap t).state != .unbound && s.presetChanges a t).any check = true ↔
      ∃ t, ((s.tap t).state ≠ .unbound ∧ (s.newPresets a)[(s.tap t).preset] ≠ s.tapEngine.presets[(s.tap t).preset]) ∧ check t = true := by
  simp only [List.any_eq_true, List.mem_filter, mem_eight, true_and, Bool.and_eq_true, State.presetChanges, bne_iff_ne]

theorem working_iff (k : TapState) : (k == .armed || k == .running || k == .draining) = true ↔ k = .armed ∨ k = .running ∨ k = .draining := by
  simp only [Bool.or_eq_true, beq_iff_eq, or_assoc]

/-- Settles O37: Busy, then BadArgument, then every named preset at once. -/
theorem presetsChangeTogether : Obligations.PresetsChangeTogether := by
  intro s tag a hv c named value touches busy misfits
  have hexec : exec c s = .next (setStridePresets tag a s.taken) := exec_of_directive (.setStridePresets tag a) rfl hv
  have hvalue (i : Fin 4) : (s.newPresets a)[i] = value i := newPresets_get a i
  have hbusy : ((eight.filter fun t => (s.tap t).state != .unbound && s.presetChanges a t).any fun t =>
      (s.tap t).state == .armed || (s.tap t).state == .running || (s.tap t).state == .draining) = true ↔ busy := by
    simp only [any_touched, working_iff, hvalue]
    exact Iff.rfl
  have hmisfits : ((eight.filter fun t => (s.tap t).state != .unbound && s.presetChanges a t).any (s.misfit a)) = true ↔ misfits := by
    simp only [any_touched, misfit_iff, hvalue]
    exact Iff.rfl
  refine ⟨fun h => hexec.trans (congrArg _ (if_pos (hbusy.mpr h))), fun h k => ?_, fun h k => ?_⟩ <;>
    refine hexec.trans (congrArg _ ((if_neg fun h' => h (hbusy.mp h')).trans ?_))
  · exact if_pos (hmisfits.mpr k)
  · refine (if_neg fun k' => k (hmisfits.mp k')).trans ?_
    have hnew : s.newPresets a = Vector.ofFn value := Vector.ext fun i hi => (hvalue ⟨i, hi⟩).trans (by simp)
    exact congrArg (fun v => postResult tag 0x07 .done (s.taken.onTapEngine fun e => { e with presets := v })) hnew

/-! ### Mirrors (R138 to R142) -/

theorem mirrorBusy_iff {m : MirrorNo} {f : FrameNo} {t : TapNo} : s.mirrorBusy m f t = true ↔
    ¬ ((s.mirror m).bound = false ∧ f ≠ s.own ∧
      ∀ n, (s.mirror n).bound = true → (s.mirror n).sourceFrame = f → (s.mirror n).sourceTap ≠ t) := by
  simp only [State.mirrorBusy, Bool.or_eq_true, beq_iff_eq, List.any_eq_true, mem_eight, true_and, Bool.and_eq_true, not_and_or,
    Bool.not_eq_false, ne_eq, not_not, not_forall, exists_prop, or_assoc, and_assoc]

theorem bindMirror_of_named {tag : Word16} {a : BindMirrorArgs} {m : MirrorNo} {f : FrameNo} {t : TapNo} (hm : a.mirror.toNat = m.val)
    (hf : a.sourceFrame.toNat = f.val) (ht : a.sourceTap.toNat = t.val) :
    bindMirror tag a s = if s.mirrorBusy m f t then postResult tag 0x10 .busy s
      else match s.bindCheck a.sizeExp.toNat a.base.toNat a.paired a.recordLen.toNat a.recordCount.toNat a.stride.toNat with
        | some refusal => postResult tag 0x10 refusal s
        | none => placeMirror tag a m f t s := by
  simp only [bindMirror, toEight_of_le hm, toEight_of_le hf, toEight_of_le ht] <;> rfl

theorem bindMirror_of_bad {tag : Word16} {a : BindMirrorArgs}
    (h : 7 < a.mirror.toNat ∨ 7 < a.sourceFrame.toNat ∨ 7 < a.sourceTap.toNat) :
    bindMirror tag a s = postResult tag 0x10 .badArgument s := by
  unfold bindMirror
  split
  · next hm hf ht =>
    rcases h with h | h | h
    · exact nomatch (toEight_of_lt h).symm.trans hm
    · exact nomatch (toEight_of_lt h).symm.trans hf
    · exact nomatch (toEight_of_lt h).symm.trans ht
  · rfl

/-- Settles O38: the checks of Bind Mirror in order, and Unbind Mirror by the record. -/
theorem mirrorsAreBoundAndUnbound : Obligations.MirrorsAreBoundAndUnbound := by
  refine ⟨?_, ?_⟩
  · intro s tag a hv c refused
    have hexec : exec c s = .next (bindMirror tag a s.taken) := exec_of_directive (.bindMirror tag a) rfl hv
    refine ⟨fun h => hexec.trans (congrArg _ (bindMirror_of_bad h)), fun m f t hm hf ht => ?_⟩
    intro region length free fits
    rw [bindMirror_of_named hm hf ht] at hexec
    have hbusy : s.taken.mirrorBusy m f t = true ↔ ¬ free := mirrorBusy_iff (s := s.taken)
    refine ⟨fun hfree => hexec.trans (congrArg _ (if_pos (hbusy.mpr hfree))), ?_⟩
    have hpass (hfree : free) := hexec.trans (congrArg _ (if_neg fun k => hbusy.mp k hfree))
    refine ⟨fun hfree hfit => ?_, fun hfree hfit ho => ?_, fun hfree hfit ho hroom => ?_, fun hfree hfit ho start hroom => ?_⟩
    · have hcheck := bindCheck_of_not_fits (s := s.taken) hfit
      simp only [hpass hfree, hcheck, refused]
    · have hcheck := bindCheck_of_overlap (s := s.taken) hfit ho
      simp only [hpass hfree, hcheck, refused]
    all_goals have hcheck := bindCheck_of_apart (s := s.taken) hfit ho
    · have hroom : firstFit s.taken.mirrorStore.extents (extentLength a.recordLen.toNat a.recordCount.toNat a.paired) = none := hroom
      simp only [hpass hfree, hcheck, refused, placeMirror, hroom]
    · have hroom : firstFit s.taken.mirrorStore.extents (extentLength a.recordLen.toNat a.recordCount.toNat a.paired) = some start := hroom
      simp only [hpass hfree, hcheck, placeMirror, hroom]
      rfl
  · intro s tag mirror hv c
    have hexec : exec c s = .next (unbindMirror tag mirror s.taken) := exec_of_directive (.unbindMirror tag mirror) rfl hv
    refine ⟨fun h => ?_, fun m hm => ⟨fun hb => ?_, fun hb => ?_⟩⟩
    · rw [hexec, unbindMirror, toEight_of_lt h]
    all_goals rw [hexec, unbindMirror, toEight_of_le hm]
    · exact congrArg _ (if_neg (by simp [hb]))
    · exact congrArg _ (if_pos hb)

/-! ### Time Settings and Acknowledge Events (R116, R117, R178) -/

theorem clampTrim_clampTrim (z : Int) : clampTrim (clampTrim z) = clampTrim z := by
  simp only [clampTrim, Config.trimBound]
  omega

theorem setSettings_of_master {a : TimeSettingsArgs} {c : RackTime} (ha : a.set.getLsbD 8 = true) (hc : c.lock = .master) :
    RackTime.setSettings a c = { c with settings := c.settings.change a, trim := (c.settings.change a).masterTrim,
                                        integral := (c.settings.change a).masterTrim } := by
  have htrim : clampTrim (c.settings.change a).masterTrim = (c.settings.change a).masterTrim := by
    rw [Settings.change, if_pos ha, clampTrim_clampTrim]
  simp only [RackTime.setSettings, if_pos (And.intro ha hc), htrim]

/-- Settles O43: the settings are clamped field by field, and the counts moved. -/
theorem settingsAndAcknowledgeTakeTheirValues : Obligations.SettingsAndAcknowledgeTakeTheirValues := by
  refine ⟨?_, ?_⟩
  · intro s tag a hv old new
    have hnew : s.clock.settings.change a = new := by
      simp only [Settings.change, clampNat, clampInt, clampTrim, Config.trimBound, Nat.zero_max, new]
      rfl
    have hexec : exec (.timeSettings tag a) s = .next (timeSettings tag a s.taken) := exec_of_directive (.timeSettings tag a) rfl hv
    refine ⟨fun h => ?_, fun ha hc => ?_⟩ <;> rw [hexec, ← hnew]
    · exact congrArg (fun k => Host.Outcome.next (postResult tag 0x38 .done { s.taken with clock := k })) (if_neg h)
    · exact congrArg (fun k => Host.Outcome.next (postResult tag 0x38 .done { s.taken with clock := k })) (setSettings_of_master ha hc)
  · intro s tag count hv n
    exact exec_of_directive (.acknowledgeEvents tag count) rfl hv

/-! ### Clear Counters (R182) -/

/-- Settles O44: the counters are mapped to 0, block by block. -/
theorem clearCountersLeavesTheRest : Obligations.ClearCountersLeavesTheRest := by
  intro s tag hv
  refine ⟨_, exec_of_directive (.clearCounters tag) rfl hv, rfl, fun k => ?_, rfl, fun m => ?_, rfl, rfl, fun p => ?_, rfl, rfl, rfl, rfl,
    rfl, rfl, rfl, rfl, rfl⟩
  · exact Vector.getElem_map ..
  · exact Vector.getElem_map ..
  · cases p <;> rfl

end Sys2Proof.Machine

/-! PROOFS. A write routed to a tap: what an offered line or mark, the cursor and a stray make of the tap, and what they leave (R45 to R53);
and a read routed to a mirror, by its half (R152, R153). -/

namespace Sys2Proof.Machine
variable {s u v : State} {t : TapNo}

/-! ### The destinations of an entry (R52) -/

theorem openRoute_eq_some (f : FrameNo) (p : Port) : (s.openRoute f == some p) = ((s.entry f).route == some p && s.joined p) := by
  unfold State.openRoute
  cases h : (s.entry f).route with
  | none => rfl
  | some q => cases p <;> cases q <;> cases hj : s.joined .a <;> cases hk : s.joined .b <;> simp [hj, hk]

theorem destsThrough_eq (dests : Byte) (p : Port) : s.destsThrough dests p = frameSet fun d => inSet dests d && decide (d ≠ s.own) &&
    (s.entry d).state == .present && (s.entry d).sendGate && (s.entry d).route == some p && s.joined p := by
  simp only [State.destsThrough, openRoute_eq_some, Bool.and_assoc]

/-- R51, R52: an entry waits where it has a destination through a port. -/
theorem makeEntry_waits_iff (load : EntryLoad) :
    (s.makeEntry t load).waits = true ↔ s.destsThrough (s.tap t).dests .a ≠ 0 ∨ s.destsThrough (s.tap t).dests .b ≠ 0 := by
  simp [State.makeEntry, QueueEntry.waits]

/-! ### What a write to a tap leaves -/

/-- Only the tap and the reporter differ, and the own frame number stands. -/
def OnlyTap (t : TapNo) (s u : State) : Prop :=
  u = { s with tapEngine := u.tapEngine, reporter := u.reporter } ∧ u.tapEngine.presets = s.tapEngine.presets ∧
    (∀ j, j ≠ t → u.tap j = s.tap j) ∧ u.own = s.own

theorem OnlyTap.refl (t : TapNo) (s : State) : OnlyTap t s s := ⟨rfl, rfl, fun _ _ => rfl, rfl⟩

theorem OnlyTap.trans (h : OnlyTap t s u) (k : OnlyTap t u v) : OnlyTap t s v := by
  obtain ⟨hu, hp, ht, ho⟩ := h
  obtain ⟨ku, kp, kt, ko⟩ := k
  refine ⟨?_, kp.trans hp, fun j hj => (kt j hj).trans (ht j hj), ko.trans ho⟩
  rw [ku, hu]

theorem onlyTap_onTap (f : Tap → Tap) (s : State) : OnlyTap t s (s.onTap t f) := ⟨rfl, rfl, fun _ hj => onTap_other s f hj, rfl⟩

theorem onlyTap_raise (info : EventInfo) (s : State) : OnlyTap t s (raise info s) := ⟨rfl, rfl, fun _ _ => rfl, rfl⟩

theorem onlyTap_offerLine (r x : Nat) (data : Line) (s : State) : OnlyTap t s (offerLine t r x data s) := by
  unfold offerLine
  dsimp only
  split_ifs
  · exact onlyTap_onTap _ s
  · exact onlyTap_onTap _ s
  · exact onlyTap_onTap _ s
  · exact (onlyTap_onTap _ s).trans (onlyTap_raise _ _)

theorem onlyTap_offerMark (kind : MarkKind) (s : State) : OnlyTap t s (offerMark t kind s) := by
  unfold offerMark
  dsimp only
  split_ifs <;> exact onlyTap_onTap _ s

theorem onlyTap_advanceCursor (s : State) : OnlyTap t s (advanceCursor t s) := by
  unfold advanceCursor
  dsimp only
  split_ifs
  · exact onlyTap_onTap _ s
  · exact onlyTap_onTap _ s
  · exact ((onlyTap_offerMark .passEnd s).trans (onlyTap_onTap _ _)).trans (onlyTap_onTap _ _)

theorem onlyTap_abandonPass (s : State) : OnlyTap t s (abandonPass t s) := by
  unfold abandonPass
  split_ifs
  · exact onlyTap_offerMark _ s
  · exact .refl t s

theorem onlyTap_stray (s : State) : OnlyTap t s (stray t s) := by
  have hcount := onlyTap_onTap (t := t) (fun k => { k with counters := { k.counters with strays := countUp k.counters.strays } }) s
  unfold stray
  dsimp only
  split_ifs
  · exact ((hcount.trans (onlyTap_abandonPass _)).trans (onlyTap_onTap _ _)).trans (onlyTap_raise _ _)
  · exact hcount

section tapWrite
variable (c : Coord) (data : Line) (enables : BitVec 64)

/-- R46: a full line at the cursor of a Running tap is captured. -/
theorem tapWrite_of_here (h : (s.tap t).state = .running) (k : enables = BitVec.allOnes 64 ∧ c.inShape = true ∧
    c.half = (s.tap t).half ∧ c.r = (s.tap t).r ∧ c.x = (s.tap t).x) : tapWrite t c data enables s = capture t data s := by
  simp only [tapWrite, h]
  exact if_pos k

/-- R47: any other write to a Running tap is a stray. -/
theorem tapWrite_of_elsewhere (h : (s.tap t).state = .running) (k : ¬ (enables = BitVec.allOnes 64 ∧ c.inShape = true ∧
    c.half = (s.tap t).half ∧ c.r = (s.tap t).r ∧ c.x = (s.tap t).x)) : tapWrite t c data enables s = stray t s := by
  simp only [tapWrite, h]
  exact if_neg k

theorem tapWrite_of_draining (h : (s.tap t).state = .draining) : tapWrite t c data enables s =
    s.onTapCounters t fun c => { c with lateWrites := countUp c.lateWrites } := by simp only [tapWrite, h]

theorem tapWrite_of_deaf (h : (s.tap t).state ≠ .running) (k : (s.tap t).state ≠ .draining) : tapWrite t c data enables s = s := by
  unfold tapWrite
  cases hs : (s.tap t).state <;> simp_all

theorem onlyTap_capture (s : State) : OnlyTap t s (capture t data s) := (onlyTap_offerLine _ _ _ s).trans (onlyTap_advanceCursor _)

theorem onlyTap_tapWrite (s : State) : OnlyTap t s (tapWrite t c data enables s) := by
  by_cases h : (s.tap t).state = .running
  · by_cases k : enables = BitVec.allOnes 64 ∧ c.inShape = true ∧ c.half = (s.tap t).half ∧ c.r = (s.tap t).r ∧ c.x = (s.tap t).x
    · rw [tapWrite_of_here c data enables h k]
      exact onlyTap_capture data s
    · rw [tapWrite_of_elsewhere c data enables h k]
      exact onlyTap_stray s
  · by_cases k : (s.tap t).state = .draining
    · rw [tapWrite_of_draining c data enables k]
      exact onlyTap_onTap _ s
    · rw [tapWrite_of_deaf c data enables h k]
      exact .refl t s

end tapWrite

/-- The entry a record makes reads the clock, the roster and the ports besides its own pass, half and destinations. -/
theorem makeEntry_congr (h : OnlyTap t s u) (hpass : (u.tap t).pass = (s.tap t).pass) (hhalf : (u.tap t).half = (s.tap t).half)
    (hdests : (u.tap t).dests = (s.tap t).dests) (load : EntryLoad) : u.makeEntry t load = s.makeEntry t load := by
  have hthrough (dests : Byte) (p : Port) : u.destsThrough dests p = s.destsThrough dests p := by
    rw [destsThrough_eq, destsThrough_eq, h.2.2.2, h.1]
    rfl
  have hstamp : u.stamp = s.stamp := by
    rw [h.1]
    rfl
  simp only [State.makeEntry, hpass, hhalf, hdests, hthrough, hstamp]

theorem raise_tap (info : EventInfo) (s : State) (t : TapNo) : (raise info s).tap t = s.tap t := rfl

/-! ### What is offered to a tap's queue (R51 to R53) -/

/-- R52, R53: a record to which a line's entry was offered. -/
def Tap.offer (k : Tap) (e : QueueEntry) : Tap :=
  if ¬ e.waits = true then { k with counters := { k.counters with unadmitted := countUp k.counters.unadmitted } }
  else if k.queue.length < k.queueSize - 2 then
    { k with queue := k.queue ++ [e], passLines := countUp k.passLines
             counters := { k.counters with forwarded := countUp k.counters.forwarded } }
  else { k with dropSeen := true, counters := { k.counters with dropped := countUp k.counters.dropped } }

/-- R52, R53: a record to which a mark's entry was offered. -/
def Tap.mark (k : Tap) (e : QueueEntry) : Tap :=
  if e.waits = true ∧ k.queue.length < k.queueSize then { k with queue := k.queue ++ [e] }
  else { k with counters := { k.counters with marksDropped := countUp k.counters.marksDropped } }

section offerLine
variable {r x : Nat} {data : Line}

theorem offerLine_of_unadmitted (h : ¬ (s.makeEntry t (.line r x data)).waits = true) : offerLine t r x data s =
    s.onTapCounters t fun c => { c with unadmitted := countUp c.unadmitted } := by
  rw [offerLine, if_pos (by simp only [h, Bool.not_false])]

theorem offerLine_of_room (h : (s.makeEntry t (.line r x data)).waits = true) (k : (s.tap t).queue.length < (s.tap t).queueSize - 2) :
    offerLine t r x data s = s.onTap t fun q =>
      { q with queue := q.queue ++ [s.makeEntry t (.line r x data)], passLines := countUp q.passLines
               counters := { q.counters with forwarded := countUp q.counters.forwarded } } := by
  rw [offerLine, if_neg (by simp [h]), if_pos k]

theorem offerLine_of_full (h : (s.makeEntry t (.line r x data)).waits = true) (k : ¬ (s.tap t).queue.length < (s.tap t).queueSize - 2) :
    offerLine t r x data s =
      let dropped := s.onTap t fun q => { q with dropSeen := true, counters := { q.counters with dropped := countUp q.counters.dropped } }
      if (s.tap t).dropSeen then dropped else raise (.linesDropped t (s.tap t).pass) dropped := by
  rw [offerLine, if_neg (by simp [h]), if_neg k]

theorem offerLine_tap (r x : Nat) (data : Line) (s : State) :
    (offerLine t r x data s).tap t = (s.tap t).offer (s.makeEntry t (.line r x data)) := by
  by_cases h : (s.makeEntry t (.line r x data)).waits = true
  · by_cases k : (s.tap t).queue.length < (s.tap t).queueSize - 2
    · rw [offerLine_of_room h k, onTap_self, Tap.offer, if_neg (not_not.mpr h), if_pos k]
    · rw [offerLine_of_full h k, Tap.offer, if_neg (not_not.mpr h), if_neg k]
      dsimp only
      split_ifs
      · exact onTap_self s t _
      · rw [raise_tap, onTap_self]
  · rw [offerLine_of_unadmitted h, Tap.offer, if_pos h]
    exact onTap_self ..

/-- R53: the first drop of a pass is reported. -/
theorem offerLine_reporter (r x : Nat) (data : Line) (s : State) : (offerLine t r x data s).reporter =
    if (s.makeEntry t (.line r x data)).waits = true ∧ (s.tap t).queueSize - 2 ≤ (s.tap t).queue.length ∧ (s.tap t).dropSeen = false
    then (raise (.linesDropped t (s.tap t).pass) s).reporter else s.reporter := by
  by_cases h : (s.makeEntry t (.line r x data)).waits = true
  · by_cases k : (s.tap t).queue.length < (s.tap t).queueSize - 2
    · rw [offerLine_of_room h k, if_neg fun full => full.2.1.not_gt k]
      rfl
    · rw [offerLine_of_full h k]
      cases hd : (s.tap t).dropSeen with
      | false => exact (if_pos ⟨h, Nat.le_of_not_lt k, rfl⟩).symm
      | true => exact (if_neg (by simp)).symm
  · rw [offerLine_of_unadmitted h, if_neg fun full => h full.1]
    rfl

end offerLine

/-- An offered line keeps what places the tap's cursor and entries. -/
theorem Tap.offer_place (k : Tap) (e : QueueEntry) : ((k.offer e).pass, (k.offer e).half, (k.offer e).dests) = (k.pass, k.half, k.dests) ∧
    ((k.offer e).r, (k.offer e).x, (k.offer e).recordLen, (k.offer e).recordCount) = (k.r, k.x, k.recordLen, k.recordCount) ∧
    ((k.offer e).state, (k.offer e).passesDone, (k.offer e).passLimit) = (k.state, k.passesDone, k.passLimit) := by
  unfold Tap.offer
  split_ifs <;> exact ⟨rfl, rfl, rfl⟩

theorem Tap.mark_place (k : Tap) (e : QueueEntry) : ((k.mark e).pass, (k.mark e).half) = (k.pass, k.half) ∧
    ((k.mark e).state, (k.mark e).passesDone, (k.mark e).passLimit) = (k.state, k.passesDone, k.passLimit) := by
  unfold Tap.mark
  split_ifs <;> exact ⟨rfl, rfl⟩

theorem offerMark_tap (kind : MarkKind) (s : State) :
    (offerMark t kind s).tap t = (s.tap t).mark (s.makeEntry t (.mark kind (s.tap t).passLines)) := by
  unfold offerMark Tap.mark
  simp only [Bool.and_eq_true, decide_eq_true_eq]
  split_ifs <;> exact onTap_self ..

theorem offerMark_reporter (kind : MarkKind) (s : State) : (offerMark t kind s).reporter = s.reporter := by
  unfold offerMark
  dsimp only
  split_ifs <;> rfl

/-! ### The cursor (R46, R48) -/

/-- R48: the record after the end of a pass, from the record to which its mark was offered. -/
def Tap.passEnded (k : Tap) (paired : Bool) : Tap :=
  { k with
    pass := k.pass + 1, half := if paired then k.half.flip else k.half, r := 0, x := 0, passLines := 0, dropSeen := false
    passesDone := countUp k.passesDone
    state := if k.passLimit ≠ 0 ∧ countUp k.passesDone = k.passLimit then .draining else k.state }

theorem advanceCursor_tap (s : State) : (advanceCursor t s).tap t =
    if (s.tap t).x + 1 < (s.tap t).recordLen then { s.tap t with x := (s.tap t).x + 1 }
    else if (s.tap t).r + 1 < (s.tap t).recordCount then { s.tap t with x := 0, r := (s.tap t).r + 1 }
    else ((s.tap t).mark (s.makeEntry t (.mark .passEnd (s.tap t).passLines))).passEnded (s.region (tapRegion t)).paired := by
  unfold advanceCursor
  dsimp only
  split_ifs
  · exact onTap_self ..
  · exact onTap_self ..
  · have hregion : (offerMark t .passEnd s).region (tapRegion t) = s.region (tapRegion t) := by
      rw [(onlyTap_offerMark .passEnd s).1]
      rfl
    rw [endPass, nextPass, onTap_self, onTap_self, offerMark_tap, hregion]
    rfl

theorem advanceCursor_reporter (s : State) : (advanceCursor t s).reporter = s.reporter := by
  unfold advanceCursor
  dsimp only
  split_ifs
  · rfl
  · rfl
  · exact offerMark_reporter .passEnd s

/-! ### A stray (R47, R49) -/

theorem abandonPass_tap (s : State) : (abandonPass t s).tap t = if (s.tap t).r = 0 ∧ (s.tap t).x = 0 then s.tap t
    else (s.tap t).mark (s.makeEntry t (.mark .passAbandoned (s.tap t).passLines)) := by
  unfold abandonPass
  by_cases h : (s.tap t).r = 0 ∧ (s.tap t).x = 0
  · rw [if_pos h, if_neg fun hb => begun_iff.mp hb h]
  · rw [if_neg h, if_pos (begun_iff.mpr h), offerMark_tap]

theorem abandonPass_reporter (s : State) : (abandonPass t s).reporter = s.reporter := by
  unfold abandonPass
  split_ifs
  · exact offerMark_reporter _ s
  · rfl

/-- The event that a halt raises reads the clock besides its own tap and pass. -/
theorem raise_reporter_congr (info : EventInfo) (h : OnlyTap t s u) (hr : u.reporter = s.reporter) :
    (raise info u).reporter = (raise info s).reporter := by
  have hstamp : u.stamp = s.stamp := by
    rw [h.1]
    rfl
  simp only [raise, State.onReporter, hr, hstamp]

theorem stray_of_lax (h : (s.tap t).strict = false) : stray t s = s.onTapCounters t fun c => { c with strays := countUp c.strays } := by
  rw [stray, if_neg (by simp [h])]

theorem stray_tap_of_strict (h : (s.tap t).strict = true) {strayed : Tap}
    (hs : strayed = { s.tap t with counters := { (s.tap t).counters with strays := countUp (s.tap t).counters.strays } }) :
    (stray t s).tap t = { (if (s.tap t).r = 0 ∧ (s.tap t).x = 0 then strayed
      else strayed.mark (s.makeEntry t (.mark .passAbandoned strayed.passLines))) with state := .halted } := by
  subst hs
  have hentry := makeEntry_congr (onlyTap_onTap (t := t) (fun k : Tap =>
      { k with counters := { k.counters with strays := countUp k.counters.strays } }) s) (by rw [onTap_self]) (by rw [onTap_self])
    (by rw [onTap_self]) (.mark .passAbandoned (s.tap t).passLines)
  rw [stray, if_pos h]
  simp only [raise_tap, onTap_self, abandonPass_tap, State.onTapCounters, hentry]

theorem stray_reporter (s : State) : (stray t s).reporter =
    if (s.tap t).strict then (raise (.tapHalted t (s.tap t).pass) s).reporter else s.reporter := by
  unfold stray
  cases (s.tap t).strict with
  | false => rfl
  | true =>
    exact raise_reporter_congr _ (((onlyTap_onTap _ s).trans (onlyTap_abandonPass _)).trans (onlyTap_onTap _ _))
      (abandonPass_reporter _)

/-! ### A captured line (R46, R48) -/

theorem capture_reporter (data : Line) (s : State) :
    (capture t data s).reporter = (offerLine t (s.tap t).r (s.tap t).x data s).reporter := advanceCursor_reporter _

theorem capture_tap {data : Line} {offered : Tap}
    (h : (s.tap t).offer (s.makeEntry t (.line (s.tap t).r (s.tap t).x data)) = offered) : (capture t data s).tap t =
    if (s.tap t).x + 1 < (s.tap t).recordLen then { offered with x := (s.tap t).x + 1 }
    else if (s.tap t).r + 1 < (s.tap t).recordCount then { offered with x := 0, r := (s.tap t).r + 1 }
    else (offered.mark (s.makeEntry t (.mark .passEnd offered.passLines))).passEnded (s.region (tapRegion t)).paired := by
  obtain ⟨hentry, hcursor, -⟩ := (s.tap t).offer_place (s.makeEntry t (.line (s.tap t).r (s.tap t).x data))
  rw [h] at hentry hcursor
  simp only [Prod.mk.injEq] at hentry hcursor
  obtain ⟨hpass, hhalf, hdests⟩ := hentry
  obtain ⟨hr, hx, hlen, hcount⟩ := hcursor
  have honly : OnlyTap t s (offerLine t (s.tap t).r (s.tap t).x data s) := onlyTap_offerLine ..
  have htap : (offerLine t (s.tap t).r (s.tap t).x data s).tap t = offered := (offerLine_tap ..).trans h
  have hmake := makeEntry_congr honly (by rw [htap, hpass]) (by rw [htap, hhalf]) (by rw [htap, hdests])
    (.mark .passEnd offered.passLines)
  have hregion : (offerLine t (s.tap t).r (s.tap t).x data s).region (tapRegion t) = s.region (tapRegion t) := by
    rw [honly.1]
    rfl
  rw [capture, advanceCursor_tap, htap, hregion, hmake]
  simp only [hr, hx, hlen, hcount]

/-- Settles O36: the record by `capture_tap` and `stray_tap`, the reporter by its one event. -/
theorem tapWritesFollowTheCursor : Obligations.TapWritesFollowTheCursor := by
  intro s t c data enables k u one here dests entry admitted last offered marked ended
  obtain ⟨honly, hpresets, htaps, -⟩ := onlyTap_tapWrite (t := t) c data enables s
  have hentry (load : EntryLoad) : s.makeEntry t load = entry load := by
    simp only [State.makeEntry, destsThrough_eq]
    rfl
  have hadmitted (load : EntryLoad) : (entry load).waits = true ↔ admitted := by
    rw [← hentry, makeEntry_waits_iff, destsThrough_eq, destsThrough_eq]
  have hoffered : k.offer (s.makeEntry t (.line k.r k.x data)) = offered := by
    rw [hentry, Tap.offer]
    simp only [hadmitted]
    rfl
  have hmarked (kind : MarkKind) (q : Tap) : q.mark (s.makeEntry t (.mark kind q.passLines)) = marked kind q := by
    rw [hentry, Tap.mark]
    simp only [hadmitted]
    rfl
  refine ⟨honly, hpresets, htaps, fun hrun hhere => ?_, fun hrun hhere => ?_, fun hdrain => tapWrite_of_draining c data enables hdrain,
    tapWrite_of_deaf c data enables⟩
  · have hu : u = capture t data s := tapWrite_of_here c data enables hrun hhere
    have htap := capture_tap hoffered
    rw [hu]
    refine ⟨fun hx => htap.trans (if_pos hx), fun hx hr => htap.trans ((if_neg hx.not_gt).trans (if_pos hr)), fun ⟨hx, hr⟩ =>
      (htap.trans ((if_neg hx.not_gt).trans (if_neg hr.not_gt))).trans ?_, ?_⟩
    · obtain ⟨hentry', -, hoffer⟩ := k.offer_place (s.makeEntry t (.line k.r k.x data))
      obtain ⟨hmark, hmark'⟩ := offered.mark_place (s.makeEntry t (.mark .passEnd offered.passLines))
      rw [hoffered] at hentry' hoffer
      rw [hmarked] at hmark hmark' ⊢
      simp only [Prod.mk.injEq] at hentry' hoffer hmark hmark'
      obtain ⟨hpass, hhalf, -⟩ := hentry'
      obtain ⟨hstate, hdone, hlimit⟩ := hoffer
      obtain ⟨hpass', hhalf'⟩ := hmark
      obtain ⟨hstate', hdone', hlimit'⟩ := hmark'
      rw [Tap.passEnded, hpass', hhalf', hstate', hdone', hlimit', hpass, hhalf, hstate, hdone, hlimit,
        show k.state = .running from hrun]
      rfl
    · rw [capture_reporter, offerLine_reporter, hentry]
      simp only [hadmitted]
      rfl
  · have hu : u = stray t s := tapWrite_of_elsewhere c data enables hrun hhere
    rw [hu]
    intro strayed
    refine ⟨fun hstrict => ⟨?_, ?_⟩, fun hstrict => ⟨?_, ?_⟩⟩
    · rw [stray_of_lax hstrict]
      exact onTap_self ..
    · rw [stray_reporter, hstrict]
      rfl
    · rw [stray_reporter, hstrict]
      rfl
    · refine (stray_tap_of_strict hstrict (strayed := strayed) rfl).trans ?_
      rw [hmarked .passAbandoned strayed]

end Sys2Proof.Machine

/-! PROOFS. A read routed to a mirror, by its half (R152, R153). -/

namespace Sys2Proof.Machine
variable {s : State} {m : MirrorNo} {c : Coord}

/-! ### Halves of a mirror -/

theorem onHalf_mirror (s : State) (m : MirrorNo) (h : Half) (f : HalfRecord → HalfRecord) :
    (s.onHalf m h f).mirror m = match h with
      | .even => { s.mirror m with evenHalf := f (s.mirror m).evenHalf }
      | .odd => { s.mirror m with oddHalf := f (s.mirror m).oddHalf } := onMirror_self ..

theorem onHalf_half (s : State) (m : MirrorNo) (h : Half) (f : HalfRecord → HalfRecord) :
    ((s.onHalf m h f).mirror m).half h = f ((s.mirror m).half h) := by
  rw [onHalf_mirror]
  cases h <;> rfl

theorem onHalf_half_other (s : State) (m : MirrorNo) {h h' : Half} (f : HalfRecord → HalfRecord) (hne : h' ≠ h) :
    ((s.onHalf m h f).mirror m).half h' = (s.mirror m).half h' := by
  rw [onHalf_mirror]
  cases h <;> cases h' <;> first | exact absurd rfl hne | rfl

theorem onHalf_fill (s : State) (m : MirrorNo) (h : Half) (f : HalfRecord → HalfRecord) :
    ((s.onHalf m h f).mirror m).fill = (s.mirror m).fill := by
  rw [onHalf_mirror]
  cases h <;> rfl

/-! ### A read (R152, R153) -/

theorem tooOld_iff {k : Mirror} {h : Half} {now : Nat} : k.tooOld h now = true ↔
    ((k.half h).state = .complete ∨ (k.half h).state = .partly) ∧ k.ageLimit ≠ 0 ∧
      ∃ e, (k.half h).endStamp = some e ∧ e.time.toNat + k.ageLimit * 256000 < now := by
  unfold Mirror.tooOld
  cases hs : (k.half h).endStamp <;> simp [hs, and_assoc]

theorem mirrorRead_of_young (h : c.inShape = true) (ho : ¬ (s.mirror m).tooOld c.half s.clock.now = true) :
    mirrorRead m c s = serveHalf m c.half c.r c.x s := by
  rw [mirrorRead, if_pos h, ageCheck, if_neg ho]

/-- R152: an Empty or Stale half gives the fill byte, counted. -/
theorem serveHalf_of_stale {h : Half} {r x : Nat} (hs : ((s.mirror m).half h).state = .empty ∨ ((s.mirror m).half h).state = .stale) :
    serveHalf m h r x s = (fillLine (s.mirror m).fill, s.onMirrorCounters m fun q => { q with staleReads := countUp q.staleReads }) := by
  rcases hs with hs | hs <;> simp only [serveHalf, hs]

theorem serveHalf_of_live {h : Half} {r x : Nat} (hs : ((s.mirror m).half h).state = .filling ∨
    ((s.mirror m).half h).state = .complete ∨ ((s.mirror m).half h).state = .partly) :
    serveHalf m h r x s = if r * (s.mirror m).recordLen + x ∈ ((s.mirror m).half h).present
      then (Memory.readLine s.mirrorStore.store ((s.mirror m).storeLine h r x), s)
      else (fillLine (s.mirror m).fill, s.onMirrorCounters m fun q => { q with absentReads := countUp q.absentReads }) := by
  rcases hs with hs | hs | hs <;> simp only [serveHalf, hs]

/-- Settles O57: by whether the line is in the shape, the half's state and its age. -/
theorem mirrorReadsServeTheirHalf : Obligations.MirrorReadsServeTheirHalf := by
  intro s m c k half place read stale live old
  have hold : k.tooOld c.half s.clock.now = true ↔ old := tooOld_iff
  refine ⟨fun h => ?_, fun h hs => ?_, fun h hl ho hp => ?_, fun h hl ho hp => ?_, fun h ho => ?_⟩
  · exact if_neg (by simp [h])
  · have young : ¬ k.tooOld c.half s.clock.now = true := by
      rw [hold]
      rintro ⟨hc | hc, -⟩ <;> rcases hs with hs | hs <;> exact absurd (hc.symm.trans hs) (by decide)
    exact (mirrorRead_of_young h young).trans (serveHalf_of_stale hs)
  · exact (mirrorRead_of_young h (fun k => ho (hold.mp k))).trans ((serveHalf_of_live hl).trans (if_pos hp))
  · exact (mirrorRead_of_young h (fun k => ho (hold.mp k))).trans ((serveHalf_of_live hl).trans (if_neg hp))
  · have hage : ageCheck m c.half s = raise (.mirrorAged m c.half half.pass) (s.onHalf m c.half HalfRecord.toStale) :=
      if_pos (hold.mpr ho)
    have hstale : ((State.mirror (raise (.mirrorAged m c.half half.pass) (s.onHalf m c.half HalfRecord.toStale)) m).half c.half).state = .stale :=
      congrArg HalfRecord.state (onHalf_half s m c.half HalfRecord.toStale)
    have hread : read = serveHalf m c.half c.r c.x (ageCheck m c.half s) := if_pos h
    have hfill : (State.mirror (raise (.mirrorAged m c.half half.pass) (s.onHalf m c.half HalfRecord.toStale)) m).fill = k.fill :=
      onHalf_fill s m c.half HalfRecord.toStale
    rw [hread, hage, serveHalf_of_stale (.inr hstale), hfill]
    rfl

end Sys2Proof.Machine

/-! PROOFS. The receive path (R70, R73 to R79): what a frame that passes the checks does before its block sees it, and what becomes of one of
own origin. -/

namespace Sys2Proof.Machine
variable {s t u : State} {p : Port} {f : Frame} {h : Header} {o : FrameNo}

/-! ### Frame numbers as bytes -/

theorem eightByte_toNat (o : Fin 8) : (eightByte o).toNat = o.val := by
  revert o
  decide

@[simp] theorem toEight_eightByte (o : Fin 8) : toEight (eightByte o) = some o := toEight_of_le (eightByte_toNat o)

/-! ### A good frame at a Joined port (R70, R73, R86) -/

section heard
@[simp] theorem heard_channel : (s.heard p).channel = s.channel := rfl
@[simp] theorem heard_regions : (s.heard p).regions = s.regions := rfl
@[simp] theorem heard_tapEngine : (s.heard p).tapEngine = s.tapEngine := rfl
@[simp] theorem heard_mirrorStore : (s.heard p).mirrorStore = s.mirrorStore := rfl
@[simp] theorem heard_roster : (s.heard p).roster = s.roster := rfl
@[simp] theorem heard_clock : (s.heard p).clock = s.clock := rfl
@[simp] theorem heard_orders : (s.heard p).orders = s.orders := rfl
@[simp] theorem heard_reporter : (s.heard p).reporter = s.reporter := rfl
@[simp] theorem heard_own : (s.heard p).own = s.own := rfl
@[simp] theorem heard_entry (f : FrameNo) : (s.heard p).entry f = s.entry f := rfl
@[simp] theorem heard_mirror (m : MirrorNo) : (s.heard p).mirror m = s.mirror m := rfl
end heard

/-- The record of the arrival port after a good frame. -/
theorem heard_port : (s.heard p).port p =
    { (s.port p).goodFrame with counters := { (s.port p).counters with received := countUp (s.port p).counters.received } } := by
  rw [State.heard, onPort_self]
  have : (countReceived p s).port p = { s.port p with counters := { (s.port p).counters with received := countUp (s.port p).counters.received } } :=
    onPort_self ..
  rw [this]
  simp only [PortRecord.goodFrame]
  split_ifs <;> rfl

theorem heard_port_other : (s.heard p).port (otherPort p) = s.port (otherPort p) :=
  (onPort_other ..).trans (onPort_other ..)

/-- A good frame moves the good run and the error score of a record alone. -/
theorem goodFrame_eq (r : PortRecord) : r.goodFrame = { r with goodRun := r.goodFrame.goodRun, errorScore := r.goodFrame.errorScore } := by
  unfold PortRecord.goodFrame
  split_ifs <;> rfl

theorem heard_link (q : Port) : ((s.heard p).port q).state = (s.port q).state ∧ ((s.heard p).port q).inTransmission = (s.port q).inTransmission ∧
    ((s.heard p).port q).relay = (s.port q).relay ∧ ((s.heard p).port q).control = (s.port q).control ∧
    ((s.heard p).port q).slotReply = (s.port q).slotReply ∧ ((s.heard p).port q).slotRequest = (s.port q).slotRequest := by
  rcases port_cases p q with rfl | rfl
  · rw [heard_port, goodFrame_eq]
    exact ⟨rfl, rfl, rfl, rfl, rfl, rfl⟩
  · rw [heard_port_other]
    exact ⟨rfl, rfl, rfl, rfl, rfl, rfl⟩

@[simp] theorem heard_joined (q : Port) : (s.heard p).joined q = s.joined q := by
  simp only [State.joined, (heard_link q).1]

theorem heard_openRoute (d : FrameNo) : (s.heard p).openRoute d = s.openRoute d := by
  simp only [State.openRoute, heard_entry, heard_joined]

/-! ### The checks (R73) -/

theorem receive_of_passes (hp : s.passes p f) (linked joined : State → State) : receive p f linked joined s = joined (s.heard p) := by
  obtain ⟨hj, hform, hhops⟩ := hp
  simp only [receive, hj]
  exact (if_neg (by simp [hform])).trans (if_neg hhops.not_gt)

theorem foreignFrame_of_own (ho : h.origin = eightByte s.own) (act : FrameNo → State → State) :
    foreignFrame p h act s = s.onPortCounters p fun c => { c with ownOrigin := countUp c.ownOrigin } := by
  simp only [foreignFrame, ho, toEight_eightByte, if_true]

theorem foreignFrame_of_other (ho : h.origin = eightByte o) (hne : o ≠ s.own) (act : FrameNo → State → State) :
    foreignFrame p h act s = act o s := by
  simp only [foreignFrame, ho, toEight_eightByte]
  exact if_neg hne

/-! ### A frame of own origin (R73, step 5) -/

/-- The part after a frame of own origin has been counted and discarded. -/
def State.discarded (s : State) (p : Port) : State := (s.heard p).onPortCounters p fun c => { c with ownOrigin := countUp c.ownOrigin }

theorem discarded_port : (s.discarded p).port p = { (s.port p).goodFrame with counters := { (s.port p).counters with
    received := countUp (s.port p).counters.received, ownOrigin := countUp (s.port p).counters.ownOrigin } } := by
  have : (s.discarded p).port p = _ := onPort_self ..
  rw [this, heard_port]

theorem discarded_port_other : (s.discarded p).port (otherPort p) = s.port (otherPort p) :=
  (onPort_other ..).trans heard_port_other

/-- The counters of a port, but for its control drops, are its standing's. -/
theorem counters_of_standing {r r' : PortRecord} (h : r'.standing = r.standing) :
    r'.counters = { r.counters with controlDrops := r'.counters.controlDrops } := by
  have h := congrArg PortStanding.counters h
  simp only [PortRecord.standing] at h
  have := congrArg (fun c : PortCounters => { c with controlDrops := r'.counters.controlDrops }) h
  exact this

/-- R73, step 5: what concludes the discard moves no count but the control drops, and relays nothing. -/
theorem ownDiscarded_of_concluded (hsettled : Settled (s.discarded p) t) (hsteady : Steady (s.discarded p) t) : OwnDiscarded p s t where
  counters := by
    have := counters_of_standing (hsettled.standing p)
    rw [discarded_port] at this
    exact this
  relays q hq := by
    have sending := hsteady.sending q
    rcases port_cases p q with rfl | rfl
    · rw [discarded_port, goodFrame_eq] at sending
      exact (sending hq).2
    · rw [discarded_port_other] at sending
      exact (sending hq).2
  relayDrops q := by
    have := congrArg PortCounters.relayDrops (counters_of_standing (hsettled.standing q))
    rcases port_cases p q with rfl | rfl
    · rw [discarded_port] at this
      exact this
    · rw [discarded_port_other] at this
      exact this
  mirrors := hsettled.mirrors
  entries := hsettled.entries
  recent := hsettled.recent
  belief := hsteady.belief
  waitSet h := (hsteady.waits h).2
  orders := hsteady.orders

/-- R73, step 5: every kind of frame but a Hello, a Time Request and a Time Reply is discarded where it is of own origin. -/
theorem ownDiscarded {c : Instr} (hc : frameArrived c = some (p, f)) (hp : s.passes p f) (ho : f.header.origin = eightByte s.own)
    (hkind : match f.body with | .hello _ => False | .timeRequest _ => False | .timeReply _ => False | _ => True) :
    ∃ t, exec c s = .next t ∧ OwnDiscarded p s t := by
  have discard {f : Frame} {linked : State → State} {act : FrameNo → State → State} (hp : s.passes p f)
      (ho : f.header.origin = eightByte s.own) : receive p f linked (foreignFrame p f.header act) s = s.discarded p :=
    (receive_of_passes hp _ _).trans (foreignFrame_of_own (s := s.heard p) ho act)
  have concluded {f : Frame} {linked : State → State} {act : FrameNo → State → State} (hp : s.passes p f)
      (ho : f.header.origin = eightByte s.own) :
      OwnDiscarded p s (conclude s (receive p f linked (foreignFrame p f.header act) s)) := by
    rw [discard hp ho]
    exact ownDiscarded_of_concluded (settled_conclude ..) (steady_concludeFrom rfl)
  have concludedFrom {f : Frame} {linked : State → State} {act : FrameNo → State → State} (hp : s.passes p f)
      (ho : f.header.origin = eightByte s.own) : let u := receive p f linked (foreignFrame p f.header act) s
      OwnDiscarded p s (concludeFrom s u u) := by
    rw [discard hp ho]
    exact ownDiscarded_of_concluded (settled_concludeFrom ..) (steady_concludeFrom rfl)
  cases c with
  | sample | mark | rosterUpdate | leaveAck =>
    cases hc
    exact ⟨_, rfl, concluded hp ho⟩
  | rackRequest | rackRefusal =>
    cases hc
    exact ⟨_, rfl, concludedFrom hp ho⟩
  | rackOrder =>
    cases hc
    refine ⟨_, rfl, ?_⟩
    rw [discard hp ho]
    exact ownDiscarded_of_concluded (settled_concludeOrder ..) (steady_concludeOrder rfl)
  | hello | timeRequest | timeReply =>
    cases hc
    exact hkind.elim
  | _ => exact absurd hc nofun

end Sys2Proof.Machine

/-! PROOFS. Sample and Mark frames at the Mirror Store (R143 to R149): which mirror accepts one, what a line and a run of lines make of a half
and of the store, and what a mark makes of its half. -/

namespace Sys2Proof.Machine
variable {s t u v : State} {m : MirrorNo} {h : Half}

/-- The lowest number that passes a test is the one found. -/
theorem find_eight_eq_some {test : Fin 8 → Bool} {m : Fin 8} (hm : test m = true) (hl : ∀ n < m, ¬ test n = true) :
    eight.find? test = some m := by
  have split : ∀ m : Fin 8, eight = eight.take m.val ++ m :: eight.drop (m.val + 1) := by decide
  have below : ∀ m n : Fin 8, n ∈ eight.take m.val → n < m := by decide
  exact List.find?_eq_some_iff_append.mpr ⟨hm, _, _, split m, fun n hn => by simpa using hl n (below m n hn)⟩

/-! ### The mirror that accepts (R144) -/

theorem acceptor_of_none {o : FrameNo} {tap : Byte} (hn : ∀ m, ¬ s.accepts o tap m) : s.acceptor o tap = none := by
  unfold State.acceptor
  split_ifs with hg
  · obtain ⟨hp, ha⟩ := Bool.and_eq_true_iff.mp hg
    refine List.find?_eq_none.mpr fun m _ hm => hn m ?_
    simp only [Bool.and_eq_true, beq_iff_eq] at hm
    obtain ⟨⟨hb, hf⟩, ht⟩ := hm
    exact ⟨beq_iff_eq.mp hp, ha, hb, hf, by rw [← ht, eightByte_toNat]⟩
  · rfl

theorem acceptor_of_least {o : FrameNo} {tap : Byte} (hm : s.accepts o tap m) (hl : ∀ m', m' < m → ¬ s.accepts o tap m') :
    s.acceptor o tap = some m := by
  obtain ⟨hp, ha, hb, hf, ht⟩ := hm
  have byte (n : MirrorNo) : (eightByte (s.mirror n).sourceTap == tap) = true ↔ (s.mirror n).sourceTap.val = tap.toNat := by
    rw [beq_iff_eq, ← BitVec.toNat_inj, eightByte_toNat]
  have test (n : MirrorNo) : ((s.mirror n).bound && (s.mirror n).sourceFrame == o && eightByte (s.mirror n).sourceTap == tap) = true ↔
      s.accepts o tap n := by
    simp only [Bool.and_eq_true, byte, beq_iff_eq, State.accepts, hp, ha, true_and, and_assoc]
  have hgate : ((s.entry o).state == .present && (s.entry o).acceptGate) = true := by simp [hp, ha]
  rw [State.acceptor, if_pos hgate]
  exact find_eight_eq_some ((test m).mpr ⟨hp, ha, hb, hf, ht⟩) fun n hn => mt (test n).mp (hl n hn)

/-! ### What a line leaves -/

/-- Only the half `h` of mirror `m`, the counters of that mirror and the store differ. -/
structure FillsHalf (m : MirrorNo) (h : Half) (s u : State) : Prop where
  mirrors : ∀ m', m' ≠ m → u.mirror m' = s.mirror m'
  half : ∀ h', h' ≠ h → (u.mirror m).half h' = (s.mirror m).half h'
  bound : (u.mirror m).asBound = (s.mirror m).asBound

theorem FillsHalf.refl (s : State) : FillsHalf m h s s := ⟨fun _ _ => rfl, fun _ _ => rfl, rfl⟩

theorem FillsHalf.trans (k : FillsHalf m h s u) (j : FillsHalf m h u v) : FillsHalf m h s v :=
  ⟨fun n hn => (j.mirrors n hn).trans (k.mirrors n hn), fun n hn => (j.half n hn).trans (k.half n hn), j.bound.trans k.bound⟩

theorem FillsHalf.of_mirrors (k : ∀ n, u.mirror n = s.mirror n) : FillsHalf m h s u :=
  ⟨fun n _ => k n, fun _ _ => by rw [k], by rw [k]⟩

theorem fillsHalf_onHalf (f : HalfRecord → HalfRecord) (s : State) : FillsHalf m h s (s.onHalf m h f) :=
  ⟨fun _ hn => onMirror_other s _ hn, fun _ hn => onHalf_half_other s m f hn, by rw [onHalf_mirror]; cases h <;> rfl⟩

theorem onMirrorCounters_mirror (f : MirrorCounters → MirrorCounters) (s : State) :
    (s.onMirrorCounters m f).mirror m = { s.mirror m with counters := f (s.mirror m).counters } := onMirror_self ..

theorem fillsHalf_counters (f : MirrorCounters → MirrorCounters) (s : State) : FillsHalf m h s (s.onMirrorCounters m f) :=
  ⟨fun _ hn => onMirror_other s _ hn, fun n _ => by rw [onMirrorCounters_mirror]; cases n <;> rfl, by rw [onMirrorCounters_mirror]; rfl⟩

/-! ### A fill opened and joined (R146, R147) -/

/-- R146: the half that an in-shape line of a pass finds: a new fill, or the one under way. -/
def HalfRecord.openedBy (k : HalfRecord) (pass : Word16) (stamp : Stamp) : HalfRecord :=
  if k.opensFill pass then HalfRecord.opened pass stamp else k

/-- R147: a place joins a half. -/
def HalfRecord.join (k : HalfRecord) (place : Nat) : HalfRecord :=
  if place ∈ k.present then k else { k with present := markPresent place k.present, received := k.received + 1 }

theorem opensFill_iff {k : HalfRecord} {pass : Word16} : k.opensFill pass = true ↔ k.state ≠ .filling ∨ k.pass ≠ pass := by
  simp [HalfRecord.opensFill]

theorem join_standing (k : HalfRecord) (place : Nat) : (k.join place).state = k.state ∧ (k.join place).pass = k.pass ∧
    (k.join place).startStamp = k.startStamp ∧ (k.join place).endStamp = k.endStamp ∧ (k.join place).forwarded = k.forwarded := by
  unfold HalfRecord.join
  split_ifs <;> exact ⟨rfl, rfl, rfl, rfl, rfl⟩

theorem openedBy_of_opens {k : HalfRecord} {pass : Word16} (stamp : Stamp) (hk : k.state ≠ .filling ∨ k.pass ≠ pass) :
    k.openedBy pass stamp = HalfRecord.opened pass stamp := if_pos (opensFill_iff.mpr hk)

theorem openedBy_of_filling {k : HalfRecord} {pass : Word16} (stamp : Stamp) (hs : k.state = .filling) (hp : k.pass = pass) :
    k.openedBy pass stamp = k := if_neg fun hk => by rcases opensFill_iff.mp hk with h | h <;> contradiction

/-- A half that a line of a pass has found is filling with that pass. -/
theorem openedBy_filling (k : HalfRecord) (pass : Word16) (stamp : Stamp) :
    (k.openedBy pass stamp).state = .filling ∧ (k.openedBy pass stamp).pass = pass := by
  by_cases hk : k.opensFill pass = true
  · rw [openedBy_of_opens stamp (opensFill_iff.mp hk)]
    exact ⟨rfl, rfl⟩
  · have hk' := mt opensFill_iff.mpr hk
    rw [not_or, not_not, not_not] at hk'
    rw [openedBy_of_filling stamp hk'.1 hk'.2]
    exact hk'

theorem mem_markPresent {n q : Nat} (l : List Nat) : q ∈ markPresent n l ↔ q = n ∨ q ∈ l := by
  induction l with
  | nil => simp [markPresent]
  | cons k ks ih =>
    unfold markPresent
    split_ifs with h1 h2
    · simp
    · subst h2
      simp
    · simp only [List.mem_cons, ih]
      tauto

theorem markPresent_of_above {n : Nat} {l : List Nat} (hl : ∀ q ∈ l, q < n) : markPresent n l = l ++ [n] := by
  induction l with
  | nil => rfl
  | cons k ks ih =>
    have hk := hl k (by simp)
    rw [markPresent, if_neg (by omega), if_neg (by omega), ih fun q hq => hl q (by simp [hq])]
    rfl

/-- R147: the places that join a half are its own and those that came. -/
theorem foldl_join (places : List Nat) (hnodup : places.Nodup) (k : HalfRecord) :
    (∀ q, q ∈ (places.foldl HalfRecord.join k).present ↔ q ∈ places ∨ q ∈ k.present) ∧
    places.foldl HalfRecord.join k = { k with
      present := (places.foldl HalfRecord.join k).present
      received := k.received + (places.filter fun q => decide (q ∉ k.present)).length } := by
  induction places generalizing k with
  | nil => exact ⟨by simp, rfl⟩
  | cons n ns ih =>
    obtain ⟨hn, hns⟩ := List.nodup_cons.mp hnodup
    obtain ⟨hmem, heq⟩ := ih hns (k.join n)
    have hjoin (q : Nat) : q ∈ (k.join n).present ↔ q = n ∨ q ∈ k.present := by
      unfold HalfRecord.join
      split_ifs with h1
      · exact ⟨.inr, fun hq => hq.elim (· ▸ h1) id⟩
      · exact mem_markPresent _
    have hfilter : (ns.filter fun q => decide (q ∉ (k.join n).present)) = ns.filter fun q => decide (q ∉ k.present) := by
      refine List.filter_congr fun q hq => ?_
      have hne : q ≠ n := fun e => hn (e ▸ hq)
      simp only [hjoin, hne, false_or]
    refine ⟨fun q => ?_, ?_⟩
    · rw [List.foldl_cons, hmem, hjoin, List.mem_cons]
      tauto
    · rw [List.foldl_cons]
      obtain ⟨hs, hp, hb, he, hf⟩ := join_standing k n
      have hcount : (k.join n).received + (ns.filter fun q => decide (q ∉ k.present)).length =
          k.received + ((n :: ns).filter fun q => decide (q ∉ k.present)).length := by
        unfold HalfRecord.join
        by_cases h1 : n ∈ k.present
        · simp [h1]
        · simp [h1]
          omega
      refine heq.trans ?_
      rw [hfilter, hcount, hs, hp, hb, he, hf]

/-- Places in rising order that join a half behind all that it holds. -/
theorem foldl_join_of_rising (places : List Nat) (hsorted : places.Pairwise (· < ·)) (k : HalfRecord)
    (habove : ∀ q ∈ k.present, ∀ n ∈ places, q < n) :
    places.foldl HalfRecord.join k = { k with present := k.present ++ places, received := k.received + places.length } := by
  induction places generalizing k with
  | nil => simp
  | cons n ns ih =>
    obtain ⟨hn, hns⟩ := List.pairwise_cons.mp hsorted
    have hbelow : ∀ q ∈ k.present, q < n := fun q hq => habove q hq n (by simp)
    have hjoin : k.join n = { k with present := k.present ++ [n], received := k.received + 1 } := by
      rw [HalfRecord.join, if_neg fun hm => Nat.lt_irrefl n (hbelow n hm), markPresent_of_above hbelow]
    rw [List.foldl_cons, hjoin, ih hns]
    · simp only [List.append_assoc, List.singleton_append, List.length_cons, Nat.add_assoc, Nat.add_comm 1]
    · intro q hq j hj
      rcases List.mem_append.mp hq with hq | hq
      · exact habove q hq j (by simp [hj])
      · obtain rfl := List.mem_singleton.mp hq
        exact hn j hj

/-! ### One line (R145 to R147) -/

theorem asBound_shape {k k' : Mirror} (hk : k'.asBound = k.asBound) :
    k'.recordLen = k.recordLen ∧ k'.recordCount = k.recordCount ∧ k'.storeLine = k.storeLine := by
  simp only [Mirror.asBound, Prod.mk.injEq] at hk
  obtain ⟨-, -, -, -, hlen, hcount, -, -, -, hstart, -⟩ := hk
  exact ⟨hlen, hcount, by funext h r x; simp only [Mirror.storeLine, Mirror.shapeLines, hlen, hcount, hstart]⟩

section openFill
variable (m) (h) (pass : Word16) (stamp : Stamp) (s)

theorem fillsHalf_openFill : FillsHalf m h s (openFill m h pass stamp s) := by
  unfold openFill
  dsimp only
  split_ifs
  · exact (fillsHalf_counters _ s).trans (fillsHalf_onHalf _ _)
  · exact fillsHalf_onHalf _ s
  · exact .refl s

theorem openFill_store : (openFill m h pass stamp s).mirrorStore.store = s.mirrorStore.store := by
  unfold openFill
  dsimp only
  split_ifs <;> rfl

theorem openFill_opened : ((openFill m h pass stamp s).mirror m).half h = ((s.mirror m).half h).openedBy pass stamp := by
  unfold openFill HalfRecord.openedBy
  dsimp only
  split_ifs
  · exact onHalf_half ..
  · exact onHalf_half ..
  · rfl

theorem onHalf_counters (f : HalfRecord → HalfRecord) : ((s.onHalf m h f).mirror m).counters = (s.mirror m).counters := by
  rw [onHalf_mirror]
  cases h <;> rfl

/-- R146: a fill under way that another pass ends is counted as abandoned. -/
theorem openFill_counters : ((openFill m h pass stamp s).mirror m).counters =
    if ((s.mirror m).half h).state = .filling ∧ ((s.mirror m).half h).pass ≠ pass
    then { (s.mirror m).counters with abandoned := countUp (s.mirror m).counters.abandoned } else (s.mirror m).counters := by
  unfold openFill
  simp only [opensFill_iff]
  split_ifs with h1 h2 h3 h4 h5
  · rw [onHalf_counters, onMirrorCounters_mirror]
  · exact absurd ⟨h2, h1.resolve_left (not_not.mpr h2)⟩ h3
  · exact absurd h4.1 h2
  · exact onHalf_counters ..
  · exact absurd (.inr h5.2) h1
  · rfl

end openFill

/-- The store's bytes replaced. -/
def State.withStore (mem : Memory) (s : State) : State := { s with mirrorStore := { s.mirrorStore with store := mem } }

theorem withStore_mirror (mem : Memory) (s : State) (n : MirrorNo) : (s.withStore mem).mirror n = s.mirror n := rfl

theorem withStore_store (mem : Memory) (s : State) : (s.withStore mem).mirrorStore.store = mem := rfl

section storeLine
variable (m) (h) (r x : Nat) (data : Line) (s)

/-- R147: the line goes to the store, and its place joins the half. -/
theorem storeLine_eq : storeLine m h r x data s =
    (s.withStore (Memory.writeLine s.mirrorStore.store ((s.mirror m).storeLine h r x) data)).onHalf m h fun k =>
      k.join (r * (s.mirror m).recordLen + x) := by
  unfold storeLine HalfRecord.join State.withStore State.onMirrorStore
  dsimp only

theorem fillsHalf_storeLine : FillsHalf m h s (storeLine m h r x data s) := by
  rw [storeLine_eq]
  generalize Memory.writeLine _ _ _ = mem
  exact (FillsHalf.of_mirrors (withStore_mirror mem s)).trans (fillsHalf_onHalf _ _)

theorem storeLine_store : (storeLine m h r x data s).mirrorStore.store =
    Memory.writeLine s.mirrorStore.store ((s.mirror m).storeLine h r x) data := by
  rw [storeLine_eq, onHalf_store, withStore_store]

theorem storeLine_half : ((storeLine m h r x data s).mirror m).half h = ((s.mirror m).half h).join (r * (s.mirror m).recordLen + x) := by
  rw [storeLine_eq, onHalf_half, withStore_mirror]

theorem storeLine_counters : ((storeLine m h r x data s).mirror m).counters = (s.mirror m).counters := by
  rw [storeLine_eq, onHalf_counters, withStore_mirror]

end storeLine

section takeLine
variable {pass : Word16} {stamp : Stamp} {r x : Nat} {data : Line}

/-- R145: a line stands in the shape of a mirror. -/
def Mirror.inShape (k : Mirror) (r x : Nat) : Bool := decide (r < k.recordCount) && decide (x < k.recordLen)

theorem takeLine_of_in (hin : (s.mirror m).inShape r x = true) :
    takeLine m h pass stamp r x data s = storeLine m h r x data (openFill m h pass stamp s) :=
  if_pos (by simpa [Mirror.inShape] using hin)

theorem takeLine_of_out (hout : (s.mirror m).inShape r x = false) :
    takeLine m h pass stamp r x data s = s.onMirrorCounters m fun c => { c with outOfShape := countUp c.outOfShape } :=
  if_neg (by simpa [Mirror.inShape] using hout)

theorem fillsHalf_takeLine (s : State) : FillsHalf m h s (takeLine m h pass stamp r x data s) := by
  cases hin : (s.mirror m).inShape r x with
  | true =>
    rw [takeLine_of_in hin]
    exact (fillsHalf_openFill ..).trans (fillsHalf_storeLine ..)
  | false =>
    rw [takeLine_of_out hin]
    exact fillsHalf_counters _ s

/-- R146, R147: the half after an in-shape line. -/
theorem takeLine_half_of_in (hin : (s.mirror m).inShape r x = true) : ((takeLine m h pass stamp r x data s).mirror m).half h =
    (((s.mirror m).half h).openedBy pass stamp).join (r * (s.mirror m).recordLen + x) := by
  rw [takeLine_of_in hin, storeLine_half, openFill_opened, (asBound_shape (fillsHalf_openFill s m h pass stamp).bound).1]

theorem takeLine_half_of_out (hout : (s.mirror m).inShape r x = false) :
    ((takeLine m h pass stamp r x data s).mirror m).half h = (s.mirror m).half h := by
  rw [takeLine_of_out hout, onMirrorCounters_mirror]
  cases h <;> rfl

theorem takeLine_store_of_in (hin : (s.mirror m).inShape r x = true) : (takeLine m h pass stamp r x data s).mirrorStore.store =
    Memory.writeLine s.mirrorStore.store ((s.mirror m).storeLine h r x) data := by
  rw [takeLine_of_in hin, storeLine_store, openFill_store, (asBound_shape (fillsHalf_openFill s m h pass stamp).bound).2.2]

theorem takeLine_store_of_out (hout : (s.mirror m).inShape r x = false) :
    (takeLine m h pass stamp r x data s).mirrorStore.store = s.mirrorStore.store := by
  rw [takeLine_of_out hout]
  rfl

end takeLine

/-! ### The lines of a Sample frame (R145 to R147) -/

section takeLines
variable (pass : Word16) (stamp : Stamp) (r : Nat)

/-- R145: the places of `n` lines from line-in-record `x` on that stand in the shape. -/
def Mirror.placesFrom (k : Mirror) (r x n : Nat) : List Nat :=
  ((List.range n).filter fun j => k.inShape r (x + j)).map fun j => r * k.recordLen + x + j

/-- R145: how many of `n` lines from line-in-record `x` on stand out of the shape. -/
def Mirror.outsideFrom (k : Mirror) (r x n : Nat) : Nat := ((List.range n).filter fun j => !k.inShape r (x + j)).length

theorem placesFrom_succ (k : Mirror) (r x n : Nat) : k.placesFrom r x (n + 1) =
    (if k.inShape r x then [r * k.recordLen + x] else []) ++ k.placesFrom r (x + 1) n := by
  have hshift : (fun j => k.inShape r (x + j)) ∘ Nat.succ = fun j => k.inShape r (x + 1 + j) := by
    funext j
    simp only [Function.comp, Nat.succ_eq_add_one, Nat.add_assoc, Nat.add_comm 1]
  have hplace : (fun j => r * k.recordLen + x + j) ∘ Nat.succ = fun j => r * k.recordLen + (x + 1) + j := by
    funext j
    simp only [Function.comp, Nat.succ_eq_add_one]
    omega
  rw [Mirror.placesFrom, List.range_succ_eq_map, List.filter_cons, Nat.add_zero, List.filter_map, hshift]
  split_ifs with hin
  · rw [List.map_cons, List.map_map, hplace]
    rfl
  · rw [List.map_map, hplace]
    rfl

theorem outsideFrom_succ (k : Mirror) (r x n : Nat) : k.outsideFrom r x (n + 1) =
    (if k.inShape r x then 0 else 1) + k.outsideFrom r (x + 1) n := by
  have hshift : (fun j => !k.inShape r (x + j)) ∘ Nat.succ = fun j => !k.inShape r (x + 1 + j) := by
    funext j
    simp only [Function.comp, Nat.succ_eq_add_one, Nat.add_assoc, Nat.add_comm 1]
  rw [Mirror.outsideFrom, List.range_succ_eq_map, List.filter_cons, Nat.add_zero, List.filter_map, hshift]
  cases k.inShape r x <;> simp [Mirror.outsideFrom, Nat.add_comm]

theorem placesFrom_rising (k : Mirror) (r x n : Nat) : (k.placesFrom r x n).Pairwise (· < ·) :=
  List.pairwise_map.mpr ((List.pairwise_lt_range.sublist List.filter_sublist).imp fun hlt => by omega)

theorem inShape_congr {k k' : Mirror} (hk : k'.asBound = k.asBound) : k'.inShape = k.inShape := by
  obtain ⟨hlen, hcount, -⟩ := asBound_shape hk
  funext r x
  simp only [Mirror.inShape, hlen, hcount]

theorem placesFrom_congr {k k' : Mirror} (hk : k'.asBound = k.asBound) : k'.placesFrom = k.placesFrom := by
  funext r x n
  simp only [Mirror.placesFrom, inShape_congr hk, (asBound_shape hk).1]

theorem outsideFrom_congr {k k' : Mirror} (hk : k'.asBound = k.asBound) : k'.outsideFrom = k.outsideFrom := by
  funext r x n
  simp only [Mirror.outsideFrom, inShape_congr hk]

theorem fillsHalf_takeLines (x : Nat) (ls : List Line) (s : State) : FillsHalf m h s (takeLines m h pass stamp r x ls s) := by
  induction ls generalizing x s with
  | nil => exact .refl s
  | cons l ls ih => exact (fillsHalf_takeLine s).trans (ih _ _)

/-- R145: each line out of the shape is counted once. -/
theorem takeLines_outOfShape (x : Nat) (ls : List Line) (s : State) :
    ((takeLines m h pass stamp r x ls s).mirror m).counters.outOfShape = if (s.mirror m).outsideFrom r x ls.length = 0
      then (s.mirror m).counters.outOfShape else min ((s.mirror m).counters.outOfShape + (s.mirror m).outsideFrom r x ls.length) (2 ^ 32 - 1) := by
  induction ls generalizing x s with
  | nil => rfl
  | cons l ls ih =>
    have hbound : ((takeLine m h pass stamp r x l s).mirror m).asBound = _ := (fillsHalf_takeLine s).bound
    rw [takeLines, ih, outsideFrom_congr hbound, List.length_cons, outsideFrom_succ]
    cases hin : (s.mirror m).inShape r x with
    | true =>
      have hcount : ((takeLine m h pass stamp r x l s).mirror m).counters.outOfShape = (s.mirror m).counters.outOfShape := by
        rw [takeLine_of_in hin, storeLine_counters, openFill_counters]
        split_ifs <;> rfl
      rw [hcount, if_pos rfl, Nat.zero_add]
    | false =>
      have hcount : ((takeLine m h pass stamp r x l s).mirror m).counters.outOfShape = min ((s.mirror m).counters.outOfShape + 1) (2 ^ 32 - 1) := by
        rw [takeLine_of_out hin, onMirrorCounters_mirror]
        rfl
      simp only [hcount, Bool.false_eq_true, if_false]
      split_ifs <;> omega

/-- R146, R147: the half after the lines of a frame. -/
theorem takeLines_half (x : Nat) (ls : List Line) (s : State) : ((takeLines m h pass stamp r x ls s).mirror m).half h =
    if (s.mirror m).placesFrom r x ls.length = [] then (s.mirror m).half h
    else ((s.mirror m).placesFrom r x ls.length).foldl HalfRecord.join (((s.mirror m).half h).openedBy pass stamp) := by
  induction ls generalizing x s with
  | nil => rfl
  | cons l ls ih =>
    have hbound : ((takeLine m h pass stamp r x l s).mirror m).asBound = _ := (fillsHalf_takeLine s).bound
    rw [takeLines, ih, placesFrom_congr hbound, List.length_cons, placesFrom_succ]
    cases hin : (s.mirror m).inShape r x with
    | true =>
      obtain ⟨hfilling, hpass⟩ := openedBy_filling ((s.mirror m).half h) pass stamp
      obtain ⟨hs, hp, -⟩ := join_standing (((s.mirror m).half h).openedBy pass stamp) (r * (s.mirror m).recordLen + x)
      simp only [takeLine_half_of_in hin, openedBy_of_filling stamp (hs.trans hfilling) (hp.trans hpass), if_true, List.singleton_append,
        reduceCtorEq, if_false, List.foldl_cons]
      split_ifs with hnil
      · rw [hnil]
        rfl
      · rfl
    | false => simp only [takeLine_half_of_out hin, Bool.false_eq_true, if_false, List.nil_append]

/-- R146: a fill under way that the lines end is counted as abandoned. -/
theorem takeLines_abandoned (x : Nat) (ls : List Line) (s : State) :
    ((takeLines m h pass stamp r x ls s).mirror m).counters.abandoned = if (s.mirror m).placesFrom r x ls.length ≠ [] ∧
      ((s.mirror m).half h).state = .filling ∧ ((s.mirror m).half h).pass ≠ pass
      then countUp (s.mirror m).counters.abandoned else (s.mirror m).counters.abandoned := by
  induction ls generalizing x s with
  | nil => rfl
  | cons l ls ih =>
    have hbound : ((takeLine m h pass stamp r x l s).mirror m).asBound = _ := (fillsHalf_takeLine s).bound
    rw [takeLines, ih, placesFrom_congr hbound, List.length_cons, placesFrom_succ]
    cases hin : (s.mirror m).inShape r x with
    | true =>
      obtain ⟨-, hpass⟩ := openedBy_filling ((s.mirror m).half h) pass stamp
      obtain ⟨-, hp, -⟩ := join_standing (((s.mirror m).half h).openedBy pass stamp) (r * (s.mirror m).recordLen + x)
      rw [takeLine_half_of_in hin, if_neg fun hk => hk.2.2 (hp.trans hpass), takeLine_of_in hin, storeLine_counters, openFill_counters]
      simp only [if_true, List.singleton_append, ne_eq, reduceCtorEq, not_false_eq_true, true_and]
      split_ifs <;> rfl
    | false =>
      rw [takeLine_half_of_out hin, takeLine_of_out hin, onMirrorCounters_mirror]
      simp only [Bool.false_eq_true, if_false, List.nil_append]

/-- R147: a byte of no line in the shape reads as before. -/
theorem takeLines_read_other (x : Nat) (ls : List Line) (s : State) {a : Nat} (ha : ∀ j < ls.length, (s.mirror m).inShape r (x + j) = true →
      a < 64 * (s.mirror m).storeLine h r (x + j) ∨ 64 * (s.mirror m).storeLine h r (x + j) + 64 ≤ a) :
    Memory.read (takeLines m h pass stamp r x ls s).mirrorStore.store a = Memory.read s.mirrorStore.store a := by
  induction ls generalizing x s with
  | nil => rfl
  | cons l ls ih =>
    have hbound : ((takeLine m h pass stamp r x l s).mirror m).asBound = _ := (fillsHalf_takeLine s).bound
    rw [takeLines, ih]
    · cases hin : (s.mirror m).inShape r x with
      | true =>
        rw [takeLine_store_of_in hin]
        exact Memory.read_writeLine_other l (ha 0 (by simp) hin)
      | false => rw [takeLine_store_of_out hin]
    · intro j hj
      rw [inShape_congr hbound, (asBound_shape hbound).2.2, Nat.add_assoc, Nat.add_comm 1 j]
      exact ha (j + 1) (by simpa using hj)

theorem takeLine_wf {x : Nat} {l : Line} (hs : Memory.wf s.mirrorStore.store) :
    Memory.wf (takeLine m h pass stamp r x l s).mirrorStore.store := by
  cases hin : (s.mirror m).inShape r x with
  | true =>
    rw [takeLine_store_of_in hin]
    exact Memory.writeLine_wf _ l hs
  | false =>
    rw [takeLine_store_of_out hin]
    exact hs

theorem storeLine_add (k : Mirror) (h : Half) (r x j : Nat) : k.storeLine h r (x + j) = k.storeLine h r x + j := by
  simp only [Mirror.storeLine]
  omega

/-- R147: a line in the shape stands at its store line. -/
theorem takeLines_read_self (x : Nat) (ls : List Line) (s : State) (hs : Memory.wf s.mirrorStore.store) {j i : Nat} (hj : j < ls.length)
    (hin : (s.mirror m).inShape r (x + j) = true) (hi : i < 64) :
    Memory.read (takeLines m h pass stamp r x ls s).mirrorStore.store (64 * (s.mirror m).storeLine h r (x + j) + i) =
      lineByte (ls[j]?.getD 0) i := by
  induction ls generalizing x s j with
  | nil => exact absurd hj (Nat.not_lt_zero j)
  | cons l ls ih =>
    have hbound : ((takeLine m h pass stamp r x l s).mirror m).asBound = _ := (fillsHalf_takeLine s).bound
    have hline := (asBound_shape hbound).2.2
    cases j with
    | zero =>
      rw [Nat.add_zero] at hin ⊢
      rw [takeLines, takeLines_read_other, takeLine_store_of_in hin]
      · exact Memory.read_writeLine_self l hi hs
      · intro k _ _
        rw [hline, storeLine_add, storeLine_add]
        omega
    | succ j =>
      have hx : x + (j + 1) = x + 1 + j := by omega
      rw [hx] at hin ⊢
      have hrest := ih (x + 1) (takeLine m h pass stamp r x l s) (takeLine_wf pass stamp r hs) (by simpa using hj)
        (by rw [inShape_congr hbound]; exact hin)
      rw [hline] at hrest
      exact hrest

end takeLines

end Sys2Proof.Machine

/-! PROOFS. Sample and Mark frames from another origin (R79): what the Mirror Store takes, what is passed on, and what is counted. -/

namespace Sys2Proof.Machine
variable {s t u v : State} {m : MirrorNo} {p : Port} {h : Header} {o : FrameNo}

/-! ### The Mirror Store's part -/

/-- Only the Mirror Store differs. -/
def OnlyMirrors (s u : State) : Prop := u = { s with mirrorStore := u.mirrorStore }

theorem OnlyMirrors.refl (s : State) : OnlyMirrors s s := rfl

theorem OnlyMirrors.trans (h : OnlyMirrors s u) (k : OnlyMirrors u v) : OnlyMirrors s v := by
  unfold OnlyMirrors at *
  rw [k, h]

theorem onlyMirrors_onMirror (f : Mirror → Mirror) (s : State) : OnlyMirrors s (s.onMirror m f) := rfl

theorem onlyMirrors_takeLine (g : Half) (pass : Word16) (stamp : Stamp) (r x : Nat) (data : Line) (s : State) :
    OnlyMirrors s (takeLine m g pass stamp r x data s) := by
  have opened : OnlyMirrors s (openFill m g pass stamp s) := by
    unfold openFill
    dsimp only
    split_ifs <;> rfl
  cases hin : (s.mirror m).inShape r x with
  | true =>
    rw [takeLine_of_in hin, storeLine_eq]
    generalize Memory.writeLine _ _ _ = mem
    exact opened.trans ((show OnlyMirrors _ (State.withStore mem _) from rfl).trans (onlyMirrors_onMirror _ _))
  | false =>
    rw [takeLine_of_out hin]
    exact onlyMirrors_onMirror _ s

theorem onlyMirrors_takeLines (g : Half) (pass : Word16) (stamp : Stamp) (r x : Nat) (ls : List Line) (s : State) :
    OnlyMirrors s (takeLines m g pass stamp r x ls s) := by
  induction ls generalizing x s with
  | nil => exact .refl s
  | cons l ls ih => exact (onlyMirrors_takeLine ..).trans (ih _ _)

theorem onlyMirrors_takeMark (g : Half) (kind : MarkKind) (pass : Word16) (stamp : Stamp) (n : Nat) (s : State) :
    OnlyMirrors s (takeMark m g kind pass stamp n s) := by
  unfold takeMark
  dsimp only
  split_ifs
  · rfl
  all_goals cases kind <;> rfl

/-! ### A frame delivered to the part (R79, step 1) -/

/-- What the delivery of a Sample or Mark frame at port `p` leaves: the roster, the clock and the ports, but for a count of the frame as
unaccepted. -/
structure Delivers (p : Port) (s u : State) : Prop where
  roster : u.roster = s.roster
  own : u.own = s.own
  orders : u.orders = s.orders
  arrival : u.port p = { s.port p with counters := { (s.port p).counters with unaccepted := (u.port p).counters.unaccepted } }
  other : u.port (otherPort p) = s.port (otherPort p)

theorem Delivers.of_onlyMirrors (k : OnlyMirrors s u) : Delivers p s u := by
  unfold OnlyMirrors at k
  rw [k]
  exact ⟨rfl, rfl, rfl, rfl, rfl⟩

theorem delivers_deliverHere {dests : Byte} {deliver : State → Option State} (hd : ∀ u, deliver s = some u → OnlyMirrors s u) :
    Delivers p s (deliverHere p dests deliver s) := by
  unfold deliverHere
  split_ifs
  · cases hu : deliver s with
    | none =>
      refine ⟨rfl, rfl, rfl, ?_, onPort_other ..⟩
      simp only [State.onPortCounters, onPort_self]
    | some u => exact .of_onlyMirrors (hd u hu)
  · exact .of_onlyMirrors (.refl s)

/-- R79: the Mirror Store's part of a Sample frame. -/
def sampleDelivered (p : Port) (b : SampleBody) (o : FrameNo) (s : State) : State :=
  deliverHere p b.dests (fun s => (toHalf b.half).bind fun half => deliverSample o half b s) s

/-- R79: the Mirror Store's part of a Mark frame. -/
def markDelivered (p : Port) (b : MarkBody) (o : FrameNo) (s : State) : State :=
  deliverHere p b.dests (fun s => (toHalf b.half).bind fun half => (toMarkKind b.kind).bind fun kind => deliverMark o half kind b s) s

theorem delivers_sampleDelivered (b : SampleBody) (o : FrameNo) (s : State) : Delivers p s (sampleDelivered p b o s) := by
  refine delivers_deliverHere fun u hu => ?_
  obtain ⟨half, -, hu⟩ := Option.bind_eq_some_iff.mp hu
  obtain ⟨m, -, rfl⟩ := Option.map_eq_some_iff.mp hu
  exact onlyMirrors_takeLines ..

theorem delivers_markDelivered (b : MarkBody) (o : FrameNo) (s : State) : Delivers p s (markDelivered p b o s) := by
  refine delivers_deliverHere fun u hu => ?_
  obtain ⟨half, -, hu⟩ := Option.bind_eq_some_iff.mp hu
  obtain ⟨kind, -, hu⟩ := Option.bind_eq_some_iff.mp hu
  obtain ⟨m, -, rfl⟩ := Option.map_eq_some_iff.mp hu
  exact onlyMirrors_takeMark ..

/-- The other port of the other port is the port. -/
theorem otherPort_otherPort (p : Port) : otherPort (otherPort p) = p := by cases p <;> rfl

theorem onPort_congr {f g : PortRecord → PortRecord} (hfg : f (s.port p) = g (s.port p)) : s.onPort p f = s.onPort p g := by
  unfold State.onPort State.onLink
  exact congrArg (fun r => { s with link := { s.link with ports := s.link.ports.set p r } }) hfg

/-! ### The destinations passed on (R79, steps 2 to 4) -/

section passOn
variable (p) (dests hops : Byte) (copy : Byte → Frame) (s)

/-- R79, step 2: the relay set of the destinations other than the own frame. -/
def State.onward (s : State) (p : Port) (dests : Byte) : Byte := s.relaySet p (without dests s.own)

/-- Only the Link Controller differs. -/
def OnlyLink (s u : State) : Prop := u = { s with link := u.link }

theorem OnlyLink.refl (s : State) : OnlyLink s s := rfl

theorem OnlyLink.trans {s u v : State} (h : OnlyLink s u) (k : OnlyLink u v) : OnlyLink s v := by
  unfold OnlyLink at *
  rw [k, h]

theorem OnlyLink.ite {c : Prop} [Decidable c] {s u v : State} (h : OnlyLink s u) (k : OnlyLink s v) : OnlyLink s (if c then u else v) := by
  split <;> assumption

theorem onlyLink_onPort (q : Port) (f : PortRecord → PortRecord) (s : State) : OnlyLink s (s.onPort q f) := rfl

theorem onlyLink_offerRelay (q : Port) (f : Frame) (s : State) : OnlyLink s (offerRelay q f s) := .ite rfl rfl

theorem onlyLink_relayMulticast (set : Byte) : OnlyLink s (relayMulticast p set hops copy s) :=
  .ite rfl (.ite (onlyLink_offerRelay ..) rfl)

theorem onlyLink_passOn : OnlyLink s (passOn p dests hops copy s) := by
  have counted (c : Prop) [Decidable c] (u : State) (f : PortCounters → PortCounters) :
      OnlyLink u (if c then u.onPortCounters p f else u) := .ite rfl rfl
  exact ((onlyLink_relayMulticast ..).trans (counted ..)).trans (counted ..)

/-- R80: a frame offered to a port's relay queue: appended, or counted where 64 stand there. -/
def PortRecord.offered (r : PortRecord) (f : Frame) : PortRecord :=
  if r.relay.length < Config.relayPlaces then { r with relay := r.relay ++ [f] }
  else { r with counters := { r.counters with relayDrops := countUp r.counters.relayDrops } }

theorem offered_spec (r : PortRecord) (f : Frame) : (r.offered f).inTransmission = r.inTransmission ∧
    (r.offered f).relay = (if r.relay.length < 64 then r.relay ++ [f] else r.relay) ∧
    (r.offered f).counters.relayDrops = (if 64 ≤ r.relay.length then countUp r.counters.relayDrops else r.counters.relayDrops) := by
  unfold PortRecord.offered
  by_cases h : r.relay.length < Config.relayPlaces
  · rw [if_pos h]
    exact ⟨rfl, (if_pos h).symm, (if_neg (Nat.not_le.mpr h)).symm⟩
  · rw [if_neg h]
    exact ⟨rfl, (if_neg h).symm, (if_pos (Nat.not_lt.mp h)).symm⟩

theorem offerRelay_eq (q : Port) (f : Frame) (s : State) : offerRelay q f s = s.onPort q fun r => r.offered f := by
  unfold offerRelay PortRecord.offered
  split_ifs with hroom
  · exact onPort_congr (by rw [if_pos hroom])
  · exact onPort_congr (by rw [if_neg hroom])

theorem relayMulticast_of_some {set : Byte} (hset : set ≠ 0) (hhops : hops.toNat < 7) :
    relayMulticast p set hops copy s = s.onPort (otherPort p) fun r => r.offered (hopOn (copy set)) := by
  rw [relayMulticast, if_neg hset, if_pos hhops, offerRelay_eq]

theorem relayMulticast_port_self (set : Byte) : (relayMulticast p set hops copy s).port p =
    { s.port p with counters := { (s.port p).counters with
        hopLimited := if set ≠ 0 ∧ 7 ≤ hops.toNat then countUp (s.port p).counters.hopLimited else (s.port p).counters.hopLimited } } := by
  by_cases hset : set = 0
  · rw [relayMulticast, if_pos hset, if_neg (by simp [hset])]
  · by_cases hhops : hops.toNat < 7
    · rw [relayMulticast_of_some s p hops copy hset hhops, if_neg (by omega)]
      have := onPort_other s (otherPort p) fun r => r.offered (hopOn (copy set))
      rwa [otherPort_otherPort] at this
    · rw [relayMulticast, if_neg hset, if_neg hhops, if_pos ⟨hset, by omega⟩]
      exact onPort_self ..

theorem relayMulticast_port_other (set : Byte) : (relayMulticast p set hops copy s).port (otherPort p) =
    if set ≠ 0 ∧ hops.toNat < 7 then (s.port (otherPort p)).offered (hopOn (copy set)) else s.port (otherPort p) := by
  by_cases hset : set = 0
  · rw [relayMulticast, if_pos hset, if_neg (by simp [hset])]
  · by_cases hhops : hops.toNat < 7
    · rw [relayMulticast_of_some s p hops copy hset hhops, if_pos ⟨hset, hhops⟩, onPort_self]
    · rw [relayMulticast, if_neg hset, if_neg hhops, if_neg (by omega)]
      exact onPort_other ..

theorem countIf_port (c : Prop) [Decidable c] (u : State) (f : PortCounters → PortCounters) :
    (if c then u.onPortCounters p f else u).port p = { u.port p with counters := if c then f (u.port p).counters else (u.port p).counters } ∧
      (if c then u.onPortCounters p f else u).port (otherPort p) = u.port (otherPort p) := by
  split_ifs
  · exact ⟨onPort_self .., onPort_other ..⟩
  · exact ⟨rfl, rfl⟩

/-- R79: the arrival port of a frame counts what of its destinations could not go on. -/
theorem passOn_port_self : (passOn p dests hops copy s).port p = { s.port p with counters := { (s.port p).counters with
    hopLimited := if s.onward p dests ≠ 0 ∧ 7 ≤ hops.toNat then countUp (s.port p).counters.hopLimited else (s.port p).counters.hopLimited
    turnedBack := if s.turnsBack p (without dests s.own) then countUp (s.port p).counters.turnedBack else (s.port p).counters.turnedBack
    unroutable := if s.losesRoute p (without dests s.own) then countUp (s.port p).counters.unroutable else (s.port p).counters.unroutable } } := by
  unfold passOn countUnroutable State.onward
  dsimp only
  rw [(countIf_port ..).1, (countIf_port ..).1, relayMulticast_port_self]
  split_ifs <;> rfl

theorem passOn_port_other : (passOn p dests hops copy s).port (otherPort p) =
    if s.onward p dests ≠ 0 ∧ hops.toNat < 7 then (s.port (otherPort p)).offered (hopOn (copy (s.onward p dests)))
    else s.port (otherPort p) := by
  unfold passOn countUnroutable
  dsimp only
  rw [(countIf_port ..).2, (countIf_port ..).2, relayMulticast_port_other]
  rfl

end passOn

/-! ### The statements -/

theorem exec_sample {b : SampleBody} (hp : s.passes p ⟨h, .sample b⟩) (ho : h.origin = eightByte o) (hne : o ≠ s.own) :
    exec (.sample p h b) s = .next (conclude s (passOn p b.dests h.hops (fun set => ⟨h, .sample { b with dests := set }⟩)
      (sampleDelivered p b o (s.heard p)))) := by
  have taken := (receive_of_passes hp (countNotJoined p) (foreignFrame p h (takeSample p h b))).trans
    (foreignFrame_of_other (s := s.heard p) ho hne _)
  exact congrArg (fun u => Host.Outcome.next (conclude s u)) taken

theorem exec_mark {b : MarkBody} (hp : s.passes p ⟨h, .mark b⟩) (ho : h.origin = eightByte o) (hne : o ≠ s.own) :
    exec (.mark p h b) s = .next (conclude s (passOn p b.dests h.hops (fun set => ⟨h, .mark { b with dests := set }⟩)
      (markDelivered p b o (s.heard p)))) := by
  have taken := (receive_of_passes hp (countNotJoined p) (foreignFrame p h (takeMarkFrame p h b))).trans
    (foreignFrame_of_other (s := s.heard p) ho hne _)
  exact congrArg (fun u => Host.Outcome.next (conclude s u)) taken

section concluded
variable {dests hops : Byte} {copy : Byte → Frame}

/-- What is passed on, and what concludes the event, leaves the Mirror Store. -/
theorem concluded_mirrorStore : (conclude s (passOn p dests hops copy u)).mirrorStore = u.mirrorStore := by
  rw [(settled_conclude ..).mirrors, onlyLink_passOn]

theorem concluded_unaccepted :
    ((conclude s (passOn p dests hops copy u)).port p).counters.unaccepted = (u.port p).counters.unaccepted := by
  rw [counters_of_standing ((settled_conclude ..).standing p), passOn_port_self]

end concluded

/-- A frame that no mirror accepts is counted as unaccepted, and leaves the Mirror Store. -/
theorem deliverHere_of_none {dests : Byte} {deliver : State → Option State} (hd : inSet dests s.own = true)
    (hn : deliver (s.heard p) = none) : (deliverHere p dests deliver (s.heard p)).mirrorStore = s.mirrorStore ∧
      ((deliverHere p dests deliver (s.heard p)).port p).counters.unaccepted = min ((s.port p).counters.unaccepted + 1) (2 ^ 32 - 1) := by
  rw [deliverHere, heard_own, if_pos hd, hn]
  refine ⟨rfl, ?_⟩
  simp only [State.onPortCounters, onPort_self, heard_port]
  rfl

theorem deliverHere_of_some {dests : Byte} {deliver : State → Option State} (hd : inSet dests s.own = true)
    (hn : deliver (s.heard p) = some u) : deliverHere p dests deliver (s.heard p) = u := by
  rw [deliverHere, heard_own, if_pos hd, hn]

/-- Settles O49: the lowest mirror that accepts takes the lines, and what follows leaves the Mirror Store. -/
theorem samplesFillTheirMirror : Obligations.SamplesFillTheirMirror := by
  intro s p h b o hf hp ho hne hown hhalf hwf c
  have hexec := exec_sample hp ho hne
  have htaken (a : Option MirrorNo) (ha : (s.heard p).acceptor o b.tap = a) :
      ((toHalf b.half).bind fun half => deliverSample o half b (s.heard p)) = a.map fun m =>
        takeLines m ((s.mirror m).takesHalf hf) b.pass b.stamp b.r.toNat b.x.toNat b.lines (s.heard p) := by
    rw [hhalf, Option.bind_some, deliverSample, ha]
    rfl
  refine ⟨fun hn => ?_, fun m hm hl => ?_⟩
  · obtain ⟨hstore, hcount⟩ := deliverHere_of_none (p := p) (deliver := fun s => (toHalf b.half).bind fun half => deliverSample o half b s) hown (htaken none (acceptor_of_none (s := s.heard p) hn))
    exact ⟨_, hexec, concluded_mirrorStore.trans hstore, concluded_unaccepted.trans hcount⟩
  · intro k half old inShape home places outside
    have hdelivered : sampleDelivered p b o (s.heard p) = takeLines m half b.pass b.stamp b.r.toNat b.x.toNat b.lines (s.heard p) :=
      deliverHere_of_some (deliver := fun s => (toHalf b.half).bind fun half => deliverSample o half b s) hown (htaken (some m) (acceptor_of_least (s := s.heard p) hm hl))
    rw [hdelivered] at hexec
    have hstore := concluded_mirrorStore (s := s) (p := p) (dests := b.dests) (hops := h.hops)
      (copy := fun set => ⟨h, .sample { b with dests := set }⟩)
      (u := takeLines m half b.pass b.stamp b.r.toNat b.x.toNat b.lines (s.heard p))
    refine ⟨_, hexec, ?_⟩
    generalize conclude s _ = t at hstore
    have hmirror (n : MirrorNo) : t.mirror n = (takeLines m half b.pass b.stamp b.r.toNat b.x.toNat b.lines (s.heard p)).mirror n :=
      congrArg (fun e : MirrorStore => e.mirrors[n]) hstore
    have hfills := fillsHalf_takeLines (m := m) (h := half) b.pass b.stamp b.r.toNat b.x.toNat b.lines (s.heard p)
    have hhalf := takeLines_half (m := m) (h := half) b.pass b.stamp b.r.toNat b.x.toNat b.lines (s.heard p)
    have habandoned := takeLines_abandoned (m := m) (h := half) b.pass b.stamp b.r.toNat b.x.toNat b.lines (s.heard p)
    refine ⟨fun j hj hin i hi => ?_, fun a ha => ?_, fun m' hm' => ?_, fun h' hh' => ?_, ?_, fun hnil => ?_, fun hsome hopen => ?_,
      fun hsome hfill hpass => ?_⟩
    · rw [hstore]
      exact takeLines_read_self (s := s.heard p) b.pass b.stamp b.r.toNat b.x.toNat b.lines hwf hj hin hi
    · rw [hstore]
      exact takeLines_read_other b.pass b.stamp b.r.toNat b.x.toNat b.lines (s.heard p) ha
    · exact (hmirror m').trans (hfills.mirrors m' hm')
    · rw [hmirror]
      exact hfills.half h' hh'
    · rw [hmirror]
      exact takeLines_outOfShape b.pass b.stamp b.r.toNat b.x.toNat b.lines (s.heard p)
    all_goals rw [hmirror]
    · exact ⟨hhalf.trans (if_pos hnil), habandoned.trans (if_neg fun hk => hk.1 hnil)⟩
    · refine ⟨(hhalf.trans (if_neg hsome)).trans ?_, habandoned.trans ?_⟩
      · have hopened : old.openedBy b.pass b.stamp = HalfRecord.opened b.pass b.stamp := openedBy_of_opens _ hopen
        have hjoined := foldl_join_of_rising places (placesFrom_rising k b.r.toNat b.x.toNat b.lines.length)
          (HalfRecord.opened b.pass b.stamp) (fun _ hq => nomatch hq)
        rw [← hopened] at hjoined
        refine hjoined.trans ?_
        rw [hopened, HalfRecord.opened, List.nil_append, Nat.zero_add]
      · by_cases hfill : old.state = .filling
        · exact (if_pos ⟨hsome, hfill, hopen.resolve_left (not_not.mpr hfill)⟩).trans (if_pos hfill).symm
        · exact (if_neg fun hk => hfill hk.2.1).trans (if_neg hfill).symm
    · have hopened : old.openedBy b.pass b.stamp = old := openedBy_of_filling _ hfill hpass
      obtain ⟨hmem, hjoined⟩ := foldl_join places ((placesFrom_rising k b.r.toNat b.x.toNat b.lines.length).imp fun hlt => hlt.ne) old
      have hfinal : _ = places.foldl HalfRecord.join old := (hhalf.trans (if_neg hsome)).trans (congrArg (places.foldl HalfRecord.join) hopened)
      rw [hfinal]
      exact ⟨hmem, hjoined, habandoned.trans (if_neg fun hk => hk.2.2 hpass)⟩

/-! ### A mark (R148, R149) -/

theorem onMirrorCounters_half (f : MirrorCounters → MirrorCounters) (s : State) (g : Half) :
    ((s.onMirrorCounters m f).mirror m).half g = (s.mirror m).half g := by
  rw [onMirrorCounters_mirror]
  cases g <;> rfl

section takeMark
variable {g : Half} {kind : MarkKind} {pass : Word16} {stamp : Stamp} {n : Nat}

theorem takeMark_of_ignored (hk : ((s.mirror m).half g).state ≠ .filling ∨ ((s.mirror m).half g).pass ≠ pass) :
    takeMark m g kind pass stamp n s = s.onMirrorCounters m fun c => { c with ignoredMarks := countUp c.ignoredMarks } :=
  if_pos (opensFill_iff.mpr hk)

theorem takeMark_store : (takeMark m g kind pass stamp n s).mirrorStore.store = s.mirrorStore.store := by
  unfold takeMark
  dsimp only
  split_ifs
  · rfl
  all_goals cases kind <;> rfl

/-- R148, R149: a mark closes the half that its pass is filling. -/
theorem takeMark_of_filling (hs : ((s.mirror m).half g).state = .filling) (hp : ((s.mirror m).half g).pass = pass) :
    ((takeMark m g kind pass stamp n s).mirror m).half g = { (s.mirror m).half g with
      state := (match kind with
        | .passAbandoned => .stale
        | .passEnd => if ((s.mirror m).half g).received = (s.mirror m).shapeLines then .complete else .partly)
      endStamp := some stamp, forwarded := some n } ∧
    ((takeMark m g kind pass stamp n s).mirror m).counters.abandoned =
      if kind = .passAbandoned then countUp (s.mirror m).counters.abandoned else (s.mirror m).counters.abandoned := by
  have hopens : ¬ ((s.mirror m).half g).opensFill pass = true := fun hk => by rcases opensFill_iff.mp hk with h | h <;> contradiction
  rw [takeMark, if_neg hopens]
  cases kind with
  | passEnd => exact ⟨onHalf_half .., (congrArg MirrorCounters.abandoned (onHalf_counters ..)).trans (if_neg nofun).symm⟩
  | passAbandoned =>
    refine ⟨(onMirrorCounters_half ..).trans (onHalf_half ..), ?_⟩
    rw [if_pos rfl, onMirrorCounters_mirror]
    exact congrArg (fun c : MirrorCounters => countUp c.abandoned) (onHalf_counters ..)

end takeMark

/-- Settles O50: the lowest mirror that accepts takes the mark. -/
theorem marksCloseTheirHalf : Obligations.MarksCloseTheirHalf := by
  intro s p h b o hf kind hp ho hne hown hhalf hkind c
  have hexec := exec_mark hp ho hne
  have htaken (a : Option MirrorNo) (ha : (s.heard p).acceptor o b.tap = a) :
      ((toHalf b.half).bind fun half => (toMarkKind b.kind).bind fun kind => deliverMark o half kind b (s.heard p)) = a.map fun m =>
        takeMark m ((s.mirror m).takesHalf hf) kind b.pass b.stamp b.forwarded.toNat (s.heard p) := by
    rw [hhalf, Option.bind_some, hkind, Option.bind_some, deliverMark, ha]
    rfl
  refine ⟨fun hn => ?_, fun m hm hl => ?_⟩
  · obtain ⟨hstore, hcount⟩ := deliverHere_of_none (p := p)
      (deliver := fun s => (toHalf b.half).bind fun half => (toMarkKind b.kind).bind fun kind => deliverMark o half kind b s) hown
      (htaken none (acceptor_of_none (s := s.heard p) hn))
    exact ⟨_, hexec, concluded_mirrorStore.trans hstore, concluded_unaccepted.trans hcount⟩
  · intro k half old
    have hdelivered : markDelivered p b o (s.heard p) = takeMark m half kind b.pass b.stamp b.forwarded.toNat (s.heard p) :=
      deliverHere_of_some (deliver := fun s => (toHalf b.half).bind fun half => (toMarkKind b.kind).bind fun kind =>
        deliverMark o half kind b s) hown (htaken (some m) (acceptor_of_least (s := s.heard p) hm hl))
    rw [hdelivered] at hexec
    refine ⟨fun hopen => ⟨_, hexec, concluded_mirrorStore.trans ?_⟩, fun hs hpass => ⟨_, hexec, ?_⟩⟩
    · rw [takeMark_of_ignored (s := s.heard p) hopen]
      rfl
    · have hstore := concluded_mirrorStore (s := s) (p := p) (dests := b.dests) (hops := h.hops)
        (copy := fun set => ⟨h, .mark { b with dests := set }⟩)
        (u := takeMark m half kind b.pass b.stamp b.forwarded.toNat (s.heard p))
      generalize conclude s _ = t at hstore
      have hmirror : t.mirror m = (takeMark m half kind b.pass b.stamp b.forwarded.toNat (s.heard p)).mirror m :=
        congrArg (fun e : MirrorStore => e.mirrors[m]) hstore
      obtain ⟨hclosed, habandoned⟩ := takeMark_of_filling (s := s.heard p) (m := m) (g := half) (kind := kind) (stamp := b.stamp)
        (n := b.forwarded.toNat) hs hpass
      rw [hmirror, hstore]
      exact ⟨hclosed, takeMark_store, habandoned⟩

/-! ### The frame sent on (R79, steps 2 to 4) -/

theorem inSet_without (set : Byte) (f d : FrameNo) : inSet (without set f) d = (inSet set d && decide (d ≠ f)) := by
  have hbit (n m : Nat) (hm : m < 8) : (1#8 <<< n).getLsbD m = decide (m = n) := by
    simp only [BitVec.getLsbD_shiftLeft, BitVec.getLsbD_one, hm, decide_true, Bool.true_and]
    by_cases hmn : m < n
    · simp [hmn, Nat.ne_of_lt hmn]
    · simp only [hmn, decide_false, Bool.not_false, Bool.true_and, Nat.sub_eq_zero_iff_le]
      by_cases h : m = n <;> simp [h]
      omega
  simp only [inSet, without, oneFrame, BitVec.getLsbD_and, BitVec.getLsbD_not, hbit _ _ d.isLt, d.isLt, decide_true, Bool.true_and,
    Fin.ext_iff, ne_eq, decide_not]

theorem onward_eq (dests : Byte) : s.onward p dests = frameSet fun d => inSet dests d && decide (d ≠ s.own) &&
    ((s.entry d).route == some (otherPort p) && s.joined (otherPort p)) := by
  simp only [State.onward, State.relaySet, inSet_without, openRoute_eq_some]

theorem turnsBack_iff (dests : Byte) : s.turnsBack p (without dests s.own) = true ↔
    ∃ d, (inSet dests d && decide (d ≠ s.own)) = true ∧ (s.entry d).route = some p := by
  simp only [State.turnsBack, List.any_eq_true, mem_eight, true_and, inSet_without, Bool.and_eq_true, beq_iff_eq]

theorem losesRoute_iff (dests : Byte) : s.losesRoute p (without dests s.own) = true ↔
    ∃ d, (inSet dests d && decide (d ≠ s.own)) = true ∧ (s.entry d).route ≠ some p ∧
      ((s.entry d).route == some (otherPort p) && s.joined (otherPort p)) = false := by
  simp only [State.losesRoute, List.any_eq_true, mem_eight, true_and, inSet_without, bne, openRoute_eq_some, Bool.and_eq_true,
    Bool.not_eq_true', beq_eq_false_iff_ne, and_assoc]

/-- What a frame finds of the roster and the ports behind the Mirror Store's delivery is what its arrival found. -/
theorem delivers_heard (k : Delivers p (s.heard p) u) (dests : Byte) : u.onward p dests = s.onward p dests ∧
    u.turnsBack p (without dests u.own) = s.turnsBack p (without dests s.own) ∧
    u.losesRoute p (without dests u.own) = s.losesRoute p (without dests s.own) := by
  have hown : u.own = s.own := k.own
  have hentry (d : FrameNo) : u.entry d = s.entry d := by simp only [State.entry, k.roster, heard_roster]
  have hjoined : u.joined (otherPort p) = s.joined (otherPort p) := by simp only [State.joined, k.other, heard_port_other]
  have hopen (d : FrameNo) : (u.openRoute d == some (otherPort p)) = (s.openRoute d == some (otherPort p)) := by
    rw [openRoute_eq_some, openRoute_eq_some, hentry, hjoined]
  simp only [State.onward, State.relaySet, State.turnsBack, State.losesRoute, bne, hown, hentry, hopen, and_self]

/-- Where nothing is delivered the Mirror Store stands. -/
theorem deliverHere_of_away {dests : Byte} {deliver : State → Option State} (hd : inSet dests s.own = false) :
    deliverHere p dests deliver (s.heard p) = s.heard p := by
  rw [deliverHere, heard_own, if_neg (by simp [hd])]

/-- Settles O51: what is passed on goes by the roster and the ports that the frame found; concluding the event moves none of it. -/
theorem multicastsAreSplitByRoute : Obligations.MulticastsAreSplitByRoute := by
  refine ⟨fun s p f c hc hkind hp ho => ownDiscarded hc hp ho ?_, fun s p h o dests body c hc hp ho hne => ?_⟩
  · rcases hkind with ⟨b, hb⟩ | ⟨b, hb⟩ <;> simp only [hb]
  intro other r named goesOn onward one
  obtain ⟨u, hexec, hu, hstands⟩ : ∃ u, exec c s = .next (conclude s (passOn p dests h.hops (fun set => ⟨h, body set⟩) u)) ∧
      Delivers p (s.heard p) u ∧ (inSet dests s.own = false → u = s.heard p) := by
    rcases hc with ⟨b, rfl, rfl, hbody⟩ | ⟨b, rfl, rfl, hbody⟩
    · rw [hbody] at hp
      refine ⟨_, ?_, delivers_sampleDelivered b o _, deliverHere_of_away⟩
      simp only [hbody]
      exact exec_sample hp ho hne
    · rw [hbody] at hp
      refine ⟨_, ?_, delivers_markDelivered b o _, deliverHere_of_away⟩
      simp only [hbody]
      exact exec_mark hp ho hne
  obtain ⟨honward, hturned, hlost⟩ := delivers_heard hu dests
  have hset : s.onward p dests = onward := onward_eq dests
  have hother : u.port other = r := hu.other.trans heard_port_other
  have harrival := hu.arrival
  rw [heard_port] at harrival
  have hpassed := passOn_port_other (s := u) (p := p) (dests := dests) (hops := h.hops) (copy := fun set => ⟨h, body set⟩)
  rw [honward, hset, hother] at hpassed
  have hcounted := passOn_port_self (s := u) (p := p) (dests := dests) (hops := h.hops) (copy := fun set => ⟨h, body set⟩)
  rw [honward, hset, hturned, hlost, harrival] at hcounted
  have hlink := onlyLink_passOn (s := u) (p := p) (dests := dests) (hops := h.hops) (copy := fun set => ⟨h, body set⟩)
  have hsettled := settled_conclude s (passOn p dests h.hops (fun set => ⟨h, body set⟩) u)
  have hsteady : Steady (passOn p dests h.hops (fun set => ⟨h, body set⟩) u) (conclude s (passOn p dests h.hops (fun set => ⟨h, body set⟩) u)) := by
    refine steady_concludeFrom ?_
    rw [hlink]
    exact (congrArg Roster.belief hu.roster).symm
  obtain ⟨hmoves, hrelay, hdrops⟩ := offered_spec r (hopOn ⟨h, body onward⟩)
  refine ⟨_, hexec, fun haway => ?_, fun hsending => ?_, ?_, ?_, ?_, ?_⟩
  · rw [concluded_mirrorStore, hstands haway]
    rfl
  · have hsent := (hsteady.sending other (by rw [hpassed]; split_ifs <;> simp only [hmoves, hsending])).2
    rw [hsent, hpassed]
    split_ifs with h1 h2 h3
    · exact hrelay.trans (if_pos h2.2.2)
    · exact hrelay.trans (if_neg fun h3 => h2 ⟨h1.1, h1.2, h3⟩)
    · exact absurd ⟨h3.1, h3.2.1⟩ h1
    · rfl
  · rw [counters_of_standing (hsettled.standing other), hpassed]
    split_ifs with h1 h2 h3
    · exact hdrops.trans (if_pos h2.2.2)
    · exact hdrops.trans (if_neg fun h3 => h2 ⟨h1.1, h1.2, h3⟩)
    · exact absurd ⟨h3.1, h3.2.1⟩ h1
    · rfl
  all_goals rw [counters_of_standing (hsettled.standing p), hcounted]
  · have hseven : 7 ≤ h.hops.toNat ↔ h.hops.toNat = 7 := ⟨fun k => Nat.le_antisymm hp.2.2 k, fun k => k.ge⟩
    simp only [hseven]
    rfl
  · simp only [turnsBack_iff]
    rfl
  · simp only [losesRoute_iff]
    rfl

end Sys2Proof.Machine

/-! PROOFS. The Rack Time Unit (R40, R74, R114, R122 to R128): arm times that come due, and what a Time Request and a Time Reply that pass the
checks make of the clock. -/

namespace Sys2Proof.Machine
variable {s u : State} {p : Port} {h : Header}

/-! ### Changes of every tap (R40) -/

/-- One change after another, each of its own tap, changes the Tap Engine alone. -/
theorem foldl_onTap_only (g : TapNo → Tap → Tap) (l : List TapNo) (s : State) :
    l.foldl (fun u t => u.onTap t (g t)) s = { s with tapEngine := (l.foldl (fun u t => u.onTap t (g t)) s).tapEngine } := by
  induction l generalizing s with
  | nil => rfl
  | cons t l ih => exact ih _

theorem foldl_onTap_tap (g : TapNo → Tap → Tap) {l : List TapNo} (hl : l.Nodup) (s : State) (k : TapNo) :
    (l.foldl (fun u t => u.onTap t (g t)) s).tap k = if k ∈ l then g k (s.tap k) else s.tap k := by
  induction l generalizing s with
  | nil => rfl
  | cons t l ih =>
    obtain ⟨ht, hl⟩ := List.nodup_cons.mp hl
    rw [List.foldl_cons, ih hl]
    by_cases hk : k = t
    · subst hk
      rw [if_neg ht, if_pos List.mem_cons_self, onTap_self]
    · rw [onTap_other _ _ hk]
      exact if_congr (by rw [List.mem_cons, or_iff_right hk]) rfl rfl

theorem eight_nodup : (eight : List (Fin 8)).Nodup := List.nodup_finRange 8

/-- R40: what the arm time reached makes of a tap. -/
def Tap.due (k : Tap) (now : Nat) (paired : Bool) : Tap := if k.state = .armed ∧ k.armTime.toNat ≤ now then k.started paired else k

theorem startIfDue_eq (t : TapNo) (s : State) :
    startIfDue t s = s.onTap t fun k => k.due s.clock.now (s.region (tapRegion t)).paired := by
  unfold startIfDue
  split
  · next hd =>
    rw [enterRunning_eq]
    exact onTap_congr (if_pos hd).symm
  · next hd =>
    have : s = s.onTap t id := by
      unfold State.onTap State.onTapEngine
      simp only [id_eq, Fin.getElem_fin, Vector.set_getElem_self]
    exact this.trans (onTap_congr (if_neg hd).symm)

theorem startDue_eq (s : State) :
    startDue s = eight.foldl (fun u t => u.onTap t fun k => k.due s.clock.now (s.region (tapRegion t)).paired) s := by
  unfold startDue
  suffices h : ∀ (l : List TapNo) (u : State), u.clock = s.clock → u.regions = s.regions → l.foldl (fun acc t => startIfDue t acc) u =
      l.foldl (fun u t => u.onTap t fun k => k.due s.clock.now (s.region (tapRegion t)).paired) u from h _ s rfl rfl
  intro l
  induction l with
  | nil => exact fun _ _ _ => rfl
  | cons t l ih =>
    intro u hc hr
    have hfirst : startIfDue t u = u.onTap t fun k => k.due s.clock.now (s.region (tapRegion t)).paired := by
      rw [startIfDue_eq, hc, State.region, hr]
      rfl
    rw [List.foldl_cons, List.foldl_cons, hfirst]
    exact ih _ hc hr

/-- Starting what is due changes the Tap Engine alone. -/
theorem startDue_only (s : State) : startDue s = { s with tapEngine := (startDue s).tapEngine } := by
  rw [startDue_eq]
  exact foldl_onTap_only _ _ _

theorem startDue_tap (s : State) (k : TapNo) : (startDue s).tap k = (s.tap k).due s.clock.now (s.region (tapRegion k)).paired := by
  rw [startDue_eq, foldl_onTap_tap _ eight_nodup]
  exact if_pos (mem_eight k)

/-! ### A lock state that changes -/

@[simp] theorem changeLock_clock (f : RackTime → RackTime) (s : State) : (changeLock f s).clock = f s.clock := by
  unfold changeLock
  dsimp only
  split <;> rfl

/-! ### An accepted exchange (R123 to R128) -/

theorem matches_iff {c : RackTime} {b : TimeReplyBody} : c.matches p b = true ↔ c.outstanding = some ⟨b.number, p⟩ := by
  unfold RackTime.matches
  rcases c.outstanding with _ | ⟨n, q⟩
  · simp
  · simp [and_comm]

theorem goodForLock_iff {b : TimeReplyBody} : s.goodForLock b = true ↔
    (b.quality = 2 ∨ b.quality = 4) ∧ ∃ f : FrameNo, b.belief = eightByte f ∧ s.roster.belief = some f := by
  have hq : (b.quality == lockCode .master || b.quality == lockCode .locked) = true ↔ b.quality = 2 ∨ b.quality = 4 := by
    simp [lockCode, or_comm]
  unfold State.goodForLock
  rw [Bool.and_eq_true, hq]
  refine and_congr_right fun _ => ?_
  split
  · next f hf =>
    have heq : b.belief = eightByte f := by
      unfold toEight at hf
      split at hf
      · cases hf
        exact BitVec.eq_of_toNat_eq (eightByte_toNat ⟨_, _⟩).symm
      · exact nomatch hf
    rw [beq_iff_eq]
    refine ⟨fun h => ⟨f, heq, h⟩, ?_⟩
    rintro ⟨g, hg, hb⟩
    rw [hg, toEight_eightByte] at hf
    exact hf ▸ hb
  · next hf =>
    refine iff_of_false nofun ?_
    rintro ⟨g, hg, -⟩
    rw [hg, toEight_eightByte] at hf
    exact nomatch hf

@[simp] theorem startDue_clock (s : State) : (startDue s).clock = s.clock := by
  rw [startDue_only]

/-- The clock as an accepted exchange finds it: counted, with the leader's quality. -/
def RackTime.accepted (c : RackTime) (quality : Byte) (good : Bool) : RackTime :=
  { c with missed := 0, lastQuality := some (quality, good), counters := { c.counters with accepted := countUp c.counters.accepted } }

theorem acceptExchange_clock (offset : Int) (quality : Byte) (good : Bool) (s : State) : (acceptExchange offset quality good s).clock =
    if (s.clock.accepted quality good).steps offset then (s.clock.accepted quality good).step offset
    else (s.clock.accepted quality good).steer offset good := by
  let s' := s.onClock fun c => c.accepted quality good
  change (if s'.clock.steps offset then startDue (raise (.timeStep s.own offset) (changeLock (RackTime.step offset) s'))
    else changeLock (RackTime.steer offset good) s').clock = if s'.clock.steps offset then s'.clock.step offset else s'.clock.steer offset good
  split
  · rw [startDue_clock, raise_clock, changeLock_clock]
  · rw [changeLock_clock]

theorem steps_iff {c : RackTime} {offset : Int} :
    c.steps offset = true ↔ c.lock = .freeRun ∨ c.settings.step * 256 ≤ offset.natAbs := by
  unfold RackTime.steps
  rw [Bool.or_eq_true, beq_iff_eq, decide_eq_true_iff]

section steer
variable (offset : Int) (good : Bool) (c : RackTime)

/-- What the lock rules leave of a clock. -/
def RackTime.course (c : RackTime) :=
  (c.time, c.trim, c.integral, c.outstanding, c.lastOffset, c.lastDelay, c.lastQuality, c.missed, c.counters)

theorem approach_course : (c.approach offset good).course = c.course := by
  unfold RackTime.approach
  dsimp only
  split_ifs <;> rfl

theorem keepLock_course : (c.keepLock offset good).course = c.course := by
  unfold RackTime.keepLock
  dsimp only
  split_ifs <;> rfl

/-- Steering moves a clock as the servo does, whatever the lock rules make of it. -/
theorem steer_course : (c.steer offset good).course = (c.servo offset).course := by
  unfold RackTime.steer
  split
  · exact approach_course ..
  · exact approach_course ..
  · exact keepLock_course ..
  · rfl
  · rfl

/-- R127: in Acquiring and in Holdover, by the count of exchanges within the lock limit. -/
theorem steer_of_acquiring (hc : c.lock = .acquiring) :
    let within := if offset.natAbs ≤ c.settings.lock * 256 then min (c.within + 1) 255 else 0
    (c.steer offset good).within = within ∧ (c.steer offset good).lock = if 8 ≤ within ∧ good = true then .locked else .acquiring := by
  intro within
  have hs : c.steer offset good = (c.servo offset).approach offset good := by simp only [RackTime.steer, hc]
  have hl : (c.servo offset).lock = .acquiring := hc
  have hn : ¬ (c.servo offset).lock = .holdover := by rw [hl]; exact nofun
  have ha : (c.servo offset).approach offset good = if 8 ≤ within ∧ good = true
      then { c.servo offset with within := within, lock := .locked, outside := 0 } else { c.servo offset with within := within } := by
    unfold RackTime.approach
    simp only [if_neg hn]
    rfl
  rw [hs, ha]
  by_cases h : 8 ≤ within ∧ good = true
  · rw [if_pos h, if_pos h]
    exact ⟨rfl, rfl⟩
  · rw [if_neg h, if_neg h]
    exact ⟨rfl, hl⟩

theorem steer_of_holdover (hc : c.lock = .holdover) :
    (c.steer offset good).lock = .acquiring ∧ (c.steer offset good).holdoverAge = 0 := by
  have hs : c.steer offset good = (c.servo offset).approach offset good := by simp only [RackTime.steer, hc]
  have hl : (c.servo offset).lock = .holdover := hc
  have hfew : ¬ 8 ≤ (if offset.natAbs ≤ c.settings.lock * 256 then countTo 255 0 else 0) := by
    unfold countTo
    split <;> omega
  rw [hs, RackTime.approach]
  simp only [if_pos hl]
  rw [if_neg fun h => hfew h.1]
  exact ⟨rfl, rfl⟩

/-- R128: in Locked, by whether the reply is good for lock and the offset within the lock limit. -/
theorem steer_of_locked (hc : c.lock = .locked) : c.steer offset good = (c.servo offset).keepLock offset good := by
  simp only [RackTime.steer, hc]

theorem keepLock_of_bad : c.keepLock offset false = c.toAcquiring := rfl

theorem keepLock_of_near (hn : offset.natAbs ≤ c.settings.lock * 256) : c.keepLock offset true = { c with outside := 0 } := if_neg hn.not_gt

theorem keepLock_of_far (hn : ¬ offset.natAbs ≤ c.settings.lock * 256) : c.keepLock offset true =
    if 4 ≤ min (c.outside + 1) 255 then c.toAcquiring else { c with outside := min (c.outside + 1) 255 } := if_pos (not_le.mp hn)

end steer

/-! ### The frames (R74, R122, R123) -/

/-- Settles O52: the checks of a reply in order, and an accepted one by whether it steps and by the lock state. -/
theorem timeFramesFollowTheLeader : Obligations.TimeFramesFollowTheLeader := by
  intro s p h q b now t4 offset delay good far near clamp shifted integral trim bad
  have hrequest (hp : s.passes p ⟨h, .timeRequest q⟩) :
      exec (.timeRequest p h q) s = .next (conclude s (neighbourFrame p h (answerRequest p q) (s.heard p))) :=
    congrArg (fun v => Host.Outcome.next (conclude s v)) (receive_of_passes hp _ _)
  have hreply (hp : s.passes p ⟨h, .timeReply b⟩) :
      exec (.timeReply p h b) s = .next (neighbourFrame p h (takeReply p b) (s.heard p)) :=
    congrArg Host.Outcome.next (receive_of_passes hp _ _)
  have htaken (hh : h.hops = 0) (hp : s.passes p ⟨h, .timeReply b⟩) : exec (.timeReply p h b) s = .next (takeReply p b (s.heard p)) :=
    (hreply hp).trans (congrArg _ (if_pos hh))
  refine ⟨fun hh => ⟨fun hp => ?_, fun hp => ?_⟩, fun hh hp => ?_, fun hh hp => ⟨fun hm => ?_, fun hm hd => ?_, fun hm hd hx => ?_⟩⟩
  · exact (hrequest hp).trans (congrArg (fun v => Host.Outcome.next (conclude s v)) (if_neg hh))
  · exact (hreply hp).trans (congrArg _ (if_neg hh))
  · exact (hrequest hp).trans (congrArg (fun v => Host.Outcome.next (conclude s v)) (if_pos hh))
  · exact (htaken hh hp).trans (congrArg _ (if_neg (mt matches_iff.mp hm)))
  · exact (htaken hh hp).trans (congrArg _ ((if_pos (matches_iff.mpr hm)).trans (if_pos hd)))
  · have hout : ¬ (delay < 0 ∨ Config.delayMax < delay) := not_or.mpr ⟨hd.not_gt, hx.not_gt⟩
    have hgood : (s.heard p).goodForLock b = decide good := by
      rw [Bool.eq_iff_iff, decide_eq_true_iff]
      exact goodForLock_iff
    have htake : takeReply p b (s.heard p) = acceptExchange offset b.quality (decide good)
        ((s.heard p).onClock fun c => { c with outstanding := none, lastOffset := offset, lastDelay := delay }) := by
      rw [← hgood]
      exact (if_pos (matches_iff.mpr hm)).trans (if_neg hout)
    have hclock := acceptExchange_clock offset b.quality (decide good)
      ((s.heard p).onClock fun c => { c with outstanding := none, lastOffset := offset, lastDelay := delay })
    rw [← htake] at hclock
    refine ⟨_, htaken hh hp, ?_⟩
    generalize takeReply p b (s.heard p) = t at hclock ⊢
    let found : RackTime := ({ s.clock with outstanding := none, lastOffset := offset, lastDelay := delay }).accepted b.quality (decide good)
    replace hclock : t.clock = if found.steps offset then found.step offset else found.steer offset (decide good) := hclock
    have hsteps : found.steps offset = true ↔ s.clock.lock = .freeRun ∨ far := steps_iff
    by_cases hstep : s.clock.lock = .freeRun ∨ far
    · rw [if_pos (hsteps.mpr hstep)] at hclock
      rw [hclock]
      have hnot : s.clock.lock ≠ .freeRun → ¬ far → False := fun hl hf => hstep.elim hl hf
      refine ⟨rfl, rfl, rfl, rfl, rfl, rfl, fun _ => ⟨rfl, rfl, rfl, rfl, rfl, rfl, rfl⟩, fun hl hf => (hnot hl hf).elim, ?_, ?_, ?_, ?_, ?_, ?_⟩
      all_goals intro hl hf; exact (hnot (by rw [hl]; exact nofun) hf).elim
    · rw [if_neg (mt hsteps.mp hstep)] at hclock
      have hcourse : t.clock.course = (found.servo offset).course := by
        rw [hclock]
        exact steer_course ..
      simp only [RackTime.course, Prod.mk.injEq] at hcourse
      obtain ⟨htime, htrim, hintegral, hout, hoff, hdelay, hquality, hmissed, hcounters⟩ := hcourse
      refine ⟨hout, hoff, hdelay, hmissed, hquality, congrArg TimeCounters.accepted hcounters, fun hl => (hstep hl).elim,
        fun _ _ => ⟨htime, hintegral, htrim⟩, fun hl _ => ?_, fun hl _ => ?_, fun hl _ hg hn => ?_, fun hl _ hg hn hfew => ?_,
        fun hl _ hg hn hmany => ?_, fun hl _ hg => ?_⟩
      · have := steer_of_acquiring offset (decide good) found hl
        rw [← hclock] at this
        simp only [decide_eq_true_iff] at this
        exact this
      · rw [hclock]
        exact steer_of_holdover offset (decide good) found hl
      all_goals rw [hclock, steer_of_locked offset (decide good) found hl]
      · rw [decide_eq_true hg, keepLock_of_near]
        · exact ⟨hl, rfl⟩
        · exact hn
      · rw [decide_eq_true hg, keepLock_of_far, if_neg]
        · exact ⟨hl, rfl⟩
        · exact hfew.not_ge
        · exact hn
      · rw [decide_eq_true hg, keepLock_of_far, if_pos]
        · exact ⟨rfl, rfl, rfl⟩
        · exact hmany
        · exact hn
      · rw [decide_eq_false hg, keepLock_of_bad]
        exact ⟨rfl, rfl, rfl⟩

end Sys2Proof.Machine

/-! PROOFS. What the part queues (R64, R71, R81, R93): each operation that gives a port's control queue a frame, by the queue it leaves. -/

namespace Sys2Proof.Machine
variable {s t u : State} {p q : Port}

/-! ### A port's control queue (R64, R81) -/

/-- A port's record with a control queue and a count of control drops in the place of its own. -/
def PortRecord.queueing (r : PortRecord) (k : List Frame × Nat) : PortRecord :=
  { r with control := k.1, counters := { r.counters with controlDrops := k.2 } }

/-- A port's control queue and its control drops. -/
def PortRecord.queue (r : PortRecord) : List Frame × Nat := (r.control, r.counters.controlDrops)

theorem queueing_self (p : Port) (s : State) : (s.port p).queueing (s.control p) = s.port p := rfl

theorem queueing_queueing (r : PortRecord) (k j : List Frame × Nat) : (r.queueing k).queueing j = r.queueing j := rfl

theorem replaceUpdate_eq (f : Frame) (l : List Frame) (h : l.any isRosterUpdate = true) :
    replaceUpdate f l = (l.takeWhile fun g => !isRosterUpdate g) ++ f :: l.drop ((l.takeWhile fun g => !isRosterUpdate g).length + 1) := by
  induction l with
  | nil => exact nomatch h
  | cons g l ih =>
    unfold replaceUpdate
    by_cases hg : isRosterUpdate g = true
    · simp [hg]
    · simp only [List.any_cons, hg, Bool.false_or] at h
      simp [hg, ih h]

/-- A queue holds a Roster Update exactly where the frames ahead of the first do not fill it. -/
theorem any_isRosterUpdate (l : List Frame) : l.any isRosterUpdate = true ↔ (l.takeWhile fun g => !isRosterUpdate g).length < l.length := by
  induction l with
  | nil => simp
  | cons g l ih =>
    by_cases hg : isRosterUpdate g = true
    · simp [hg]
    · simp only [Bool.not_eq_true] at hg
      simp only [List.any_cons, hg, Bool.false_or, List.takeWhile_cons, Bool.not_false, if_true, List.length_cons, ih]
      omega

section queued
variable {k : List Frame × Nat} {f : Frame}

theorem queued_of_update (hf : isRosterUpdate f = true) (hk : k.1.any isRosterUpdate = true) : queued k f = (replaceUpdate f k.1, k.2) := by
  rw [replaceUpdate_eq f _ hk]
  exact if_pos ⟨hf, (any_isRosterUpdate _).mp hk⟩

theorem queued_of_room (hf : ¬ (isRosterUpdate f = true ∧ k.1.any isRosterUpdate = true)) (hk : k.1.length < 16) :
    queued k f = (k.1 ++ [f], k.2) :=
  (if_neg fun j => hf ⟨j.1, (any_isRosterUpdate _).mpr j.2⟩).trans (if_pos hk)

theorem queued_of_full (hf : ¬ (isRosterUpdate f = true ∧ k.1.any isRosterUpdate = true)) (hk : ¬ k.1.length < 16) :
    queued k f = (k.1, countUp k.2) :=
  (if_neg fun j => hf ⟨j.1, (any_isRosterUpdate _).mpr j.2⟩).trans (if_neg hk)

end queued

theorem queueControl_eq (p : Port) (f : Frame) (s : State) :
    queueControl p f s = s.onPort p fun r => r.queueing (queued (s.control p) f) := by
  unfold queueControl
  dsimp only
  by_cases hf : isRosterUpdate f = true ∧ (s.port p).control.any isRosterUpdate = true
  · rw [if_pos (by simp [hf]), queued_of_update hf.1 hf.2]
    exact onPort_congr rfl
  · rw [if_neg (by simpa using hf)]
    split
    · next hl =>
      rw [queued_of_room hf hl]
      exact onPort_congr rfl
    · next hl =>
      rw [queued_of_full hf hl]
      exact onPort_congr rfl

theorem placeHello_eq (p : Port) (s : State) :
    placeHello p s = s.onPort p fun r => r.queueing (placedFirst (s.helloFrame p) (s.control p)) := by
  have hplaced (hl : ((s.port p).control.filter fun f => !isHello f).length < 16) : placedFirst (s.helloFrame p) (s.control p) =
      (s.helloFrame p :: (s.port p).control.filter fun f => !isHello f, (s.control p).2) := if_pos hl
  have hfull (hl : ¬ ((s.port p).control.filter fun f => !isHello f).length < 16) : placedFirst (s.helloFrame p) (s.control p) =
      (s.helloFrame p :: ((s.port p).control.filter fun f => !isHello f).take 15, countUp (s.control p).2) := if_neg hl
  unfold placeHello
  dsimp only
  split
  · next hl =>
    rw [hplaced hl]
    exact onPort_congr rfl
  · next hl =>
    rw [hfull hl]
    exact onPort_congr rfl

/-! ### Broadcasts and unicasts (R71) -/

theorem joined_queueing (k : List Frame × Nat) (q : Port) : (s.onPort p fun r => r.queueing k).joined q = s.joined q := by
  rcases port_cases p q with rfl | rfl
  · rw [State.joined, onPort_self]; rfl
  · rw [State.joined, onPort_other]; rfl

/-- A change of the Link Controller alone. -/
def OnlyLinks (s u : State) : Prop := u = { s with link := u.link }

theorem anyJoined_iff : s.anyJoined = true ↔ ∃ p, s.joined p = true := by
  unfold State.anyJoined
  rw [Bool.or_eq_true]
  refine ⟨fun h => h.elim (fun h => ⟨_, h⟩) fun h => ⟨_, h⟩, ?_⟩
  rintro ⟨p, h⟩
  cases p
  · exact .inl h
  · exact .inr h

section broadcast
variable (make : Word16 → Port → Body) (s : State)

theorem broadcast_only : OnlyLinks s (broadcast make s) := by
  unfold broadcast OnlyLinks
  simp only [queueControl_eq]
  split_ifs <;> rfl

theorem broadcast_port (p : Port) : (broadcast make s).port p = if s.joined p = true
    then (s.port p).queueing (queued (s.control p) (s.ownFrame (make s.link.broadcastSeq p))) else s.port p := by
  let copy (p : Port) (u : State) : State := if s.joined p then queueControl p (s.ownFrame (make s.link.broadcastSeq p)) u else u
  have hself (p : Port) (u : State) : (copy p u).port p = if s.joined p = true
      then (u.port p).queueing (queued (u.control p) (s.ownFrame (make s.link.broadcastSeq p))) else u.port p := by
    unfold copy
    split
    · rw [queueControl_eq, onPort_self]
    · rfl
  have hother (p : Port) (u : State) : (copy p u).port (otherPort p) = u.port (otherPort p) := by
    unfold copy
    split
    · rw [queueControl_eq, onPort_other]
    · rfl
  by_cases hany : s.anyJoined = true
  · have hb : broadcast make s = (copy .b (copy .a s)).onLink fun l => { l with broadcastSeq := s.link.broadcastSeq + 1 } := if_pos hany
    rw [hb]
    cases p with
    | a => exact (hother .b _).trans (hself .a s)
    | b =>
      have hcontrol : (copy .a s).control .b = s.control .b := congrArg PortRecord.queue (hother .a s)
      have := hself .b (copy .a s)
      rw [hcontrol, show (copy .a s).port .b = s.port .b from hother .a s] at this
      exact this
  · have hp : ¬ s.joined p = true := fun h => hany (anyJoined_iff.mpr ⟨p, h⟩)
    rw [if_neg hp]
    exact congrArg (fun u => State.port u p) (if_neg hany)

theorem broadcast_seq : (broadcast make s).link.broadcastSeq = s.link.broadcastSeq + if s.anyJoined = true then 1 else 0 := by
  unfold broadcast
  simp only [queueControl_eq]
  split_ifs <;> simp

theorem broadcast_unsent : (broadcast make s).link.unsentOwn = s.link.unsentOwn := by
  unfold broadcast
  simp only [queueControl_eq]
  split_ifs <;> rfl

theorem broadcast_control (p : Port) : (broadcast make s).control p = if s.joined p = true
    then queued (s.control p) (s.ownFrame (make s.link.broadcastSeq p)) else s.control p := by
  have := congrArg PortRecord.queue (broadcast_port make s p)
  split at this
  · next h =>
    rw [if_pos h]
    exact this
  · next h =>
    rw [if_neg h]
    exact this

end broadcast

theorem sendUnicast_of_open {d : FrameNo} {p : Port} (h : s.openRoute d = some p) (b : Body) :
    sendUnicast d b s = s.onPort p fun r => r.queueing (queued (s.control p) (s.ownFrame b)) := by
  unfold sendUnicast
  rw [h]
  exact queueControl_eq ..

theorem sendUnicast_of_closed {d : FrameNo} (h : s.openRoute d = none) (b : Body) :
    sendUnicast d b s = s.onLink fun l => { l with unsentOwn := countUp l.unsentOwn } := by
  unfold sendUnicast
  rw [h]

theorem sendUnicast_only (d : FrameNo) (b : Body) (s : State) : OnlyLinks s (sendUnicast d b s) := by
  cases h : s.openRoute d with
  | none => rw [sendUnicast_of_closed h]; rfl
  | some p => rw [sendUnicast_of_open h]; rfl

/-! ### Several frames, one after the other -/

/-- Nothing but control queues, control drops and the Link Controller's two numbers move. -/
structure Queueing (s u : State) : Prop where
  only : OnlyLinks s u
  port : ∀ p, u.port p = (s.port p).queueing (u.control p)

namespace Queueing

theorem refl (s : State) : Queueing s s := ⟨rfl, fun _ => rfl⟩

theorem trans (h : Queueing s t) (k : Queueing t u) : Queueing s u where
  only := by
    have hs := h.only
    have ht := k.only
    unfold OnlyLinks at hs ht ⊢
    rw [ht, hs]
  port p := by rw [k.port p, h.port p, queueing_queueing]

theorem entry (h : Queueing s u) (f : FrameNo) : u.entry f = s.entry f := by rw [h.only]; rfl

theorem own (h : Queueing s u) : u.own = s.own := by rw [h.only]; rfl

theorem joined (h : Queueing s u) (p : Port) : u.joined p = s.joined p := by rw [State.joined, h.port p]; rfl

theorem openRoute (h : Queueing s u) (d : FrameNo) : u.openRoute d = s.openRoute d := by
  simp only [State.openRoute, h.entry, h.joined]

end Queueing

theorem queueing_onPort (p : Port) (k : List Frame × Nat) (s : State) : Queueing s (s.onPort p fun r => r.queueing k) := by
  refine ⟨rfl, fun q => ?_⟩
  rcases port_cases p q with rfl | rfl
  · rw [State.control, onPort_self]; rfl
  · rw [State.control, onPort_other]; rfl

theorem queueing_broadcast (make : Word16 → Port → Body) (s : State) : Queueing s (broadcast make s) := by
  refine ⟨broadcast_only make s, fun p => ?_⟩
  rw [broadcast_control, broadcast_port]
  split <;> rfl

theorem queueing_sendUnicast (d : FrameNo) (b : Body) (s : State) : Queueing s (sendUnicast d b s) := by
  cases h : s.openRoute d with
  | none =>
    rw [sendUnicast_of_closed h]
    exact ⟨rfl, fun _ => rfl⟩
  | some p =>
    rw [sendUnicast_of_open h]
    exact queueing_onPort ..

/-- R71: unicasts made one after the other. -/
def sendAll (us : List (FrameNo × Body)) (s : State) : State := us.foldl (fun u d => sendUnicast d.1 d.2 u) s

theorem queueing_sendAll (us : List (FrameNo × Body)) (s : State) : Queueing s (sendAll us s) := by
  induction us generalizing s with
  | nil => exact .refl s
  | cons d us ih => exact (queueing_sendUnicast d.1 d.2 s).trans (ih _)

theorem openRoute_eq_some_iff {d : FrameNo} : s.openRoute d = some p ↔ (s.entry d).route = some p ∧ s.joined p = true := by
  have := openRoute_eq_some (s := s) d p
  simpa using Bool.eq_iff_iff.mp this

theorem sendUnicast_control (d : FrameNo) (b : Body) (hp : s.joined p = true) : (sendUnicast d b s).control p =
    if (s.entry d).route = some p then queued (s.control p) (s.ownFrame b) else s.control p := by
  by_cases h : s.openRoute d = some p
  · rw [if_pos (openRoute_eq_some_iff.mp h).1, sendUnicast_of_open h, State.control, onPort_self]
    rfl
  · rw [if_neg fun k => h (openRoute_eq_some_iff.mpr ⟨k, hp⟩)]
    cases k : s.openRoute d with
    | none => rw [sendUnicast_of_closed k]; rfl
    | some q =>
      rw [sendUnicast_of_open k]
      rcases port_cases q p with rfl | rfl
      · exact absurd k h
      · rw [State.control, onPort_other]; rfl

theorem ownFrame_congr (h : u.own = s.own) (b : Body) : u.ownFrame b = s.ownFrame b := by rw [State.ownFrame, h]; rfl

theorem sendAll_control (us : List (FrameNo × Body)) (s : State) (hp : s.joined p = true) : (sendAll us s).control p =
    (us.filterMap fun d => if (s.entry d.1).route = some p then some (s.ownFrame d.2) else none).foldl queued (s.control p) := by
  induction us generalizing s with
  | nil => rfl
  | cons d us ih =>
    have hq := queueing_sendUnicast d.1 d.2 s
    have := ih (sendUnicast d.1 d.2 s) ((hq.joined p).trans hp)
    simp only [hq.entry, ownFrame_congr hq.own] at this
    rw [sendAll, List.foldl_cons]
    refine this.trans ?_
    rw [sendUnicast_control d.1 d.2 hp, List.filterMap_cons]
    split_ifs <;> rfl

theorem sendAll_unsent (us : List (FrameNo × Body)) (s : State) : (sendAll us s).link.unsentOwn =
    let lost := (us.filter fun d => (s.openRoute d.1).isNone).length
    if lost = 0 then s.link.unsentOwn else min (s.link.unsentOwn + lost) (2 ^ 32 - 1) := by
  induction us generalizing s with
  | nil => rfl
  | cons d us ih =>
    have hq := queueing_sendUnicast d.1 d.2 s
    have := ih (sendUnicast d.1 d.2 s)
    simp only [hq.openRoute] at this
    refine this.trans ?_
    dsimp only
    cases h : s.openRoute d.1 with
    | none =>
      have hsent : (sendUnicast d.1 d.2 s).link.unsentOwn = min (s.link.unsentOwn + 1) (2 ^ 32 - 1) := by
        rw [sendUnicast_of_closed h]
        rfl
      rw [hsent, List.filter_cons_of_pos (by rw [h]; rfl), List.length_cons, if_neg (Nat.succ_ne_zero _)]
      split <;> omega
    | some p =>
      rw [sendUnicast_of_open h, List.filter_cons_of_neg (by rw [h]; exact nofun)]
      rfl

theorem sendAll_seq (us : List (FrameNo × Body)) (s : State) : (sendAll us s).link.broadcastSeq = s.link.broadcastSeq := by
  induction us generalizing s with
  | nil => rfl
  | cons d us ih =>
    refine (ih (sendUnicast d.1 d.2 s)).trans ?_
    cases h : s.openRoute d.1 with
    | none => rw [sendUnicast_of_closed h]; rfl
    | some p => rw [sendUnicast_of_open h]; rfl

end Sys2Proof.Machine

/-! PROOFS. What concludes an event, one operation after the other (R43, R93, R105, R107, R112): what each of them moves, and what it
leaves. -/

namespace Sys2Proof.Machine
variable {s t u : State} {p q : Port}

/-! ### The own frame number -/

/-- An operation that changes the reporter but for the straps. -/
def OnlyReporter (s u : State) : Prop := u = { s with reporter := u.reporter } ∧ u.reporter.straps = s.reporter.straps

theorem OnlyReporter.refl (s : State) : OnlyReporter s s := ⟨rfl, rfl⟩

theorem OnlyReporter.trans (h : OnlyReporter s t) (k : OnlyReporter t u) : OnlyReporter s u := by
  obtain ⟨ht, hs⟩ := h
  obtain ⟨hu, ks⟩ := k
  exact ⟨by rw [hu, ht], ks.trans hs⟩

theorem OnlyReporter.foldl {α : Type} {f : State → α → State} (h : ∀ s a, OnlyReporter s (f s a)) (l : List α) (s : State) :
    OnlyReporter s (l.foldl f s) := by
  induction l generalizing s with
  | nil => exact refl s
  | cons a l ih => exact (h s a).trans (ih _)

theorem OnlyReporter.ite {c : Prop} [Decidable c] (h : OnlyReporter s t) (k : OnlyReporter s u) : OnlyReporter s (if c then t else u) := by
  split <;> assumption

theorem onlyReporter_post (tag code : Word16) (r : DirectiveResult) (s : State) : OnlyReporter s (postResult tag code r s) := ⟨rfl, rfl⟩

theorem onlyReporter_raise (info : EventInfo) (s : State) : OnlyReporter s (raise info s) := ⟨rfl, rfl⟩

/-! ### Taps that drain (R43) -/

/-- R43: a Draining tap whose queue is empty is Idle at once. -/
def Tap.settled (k : Tap) : Tap := if k.state = .draining ∧ k.queue = [] then { k with state := .idle, waiting := [] } else k

/-- An operation that changes taps' records and the reporter but for the straps. -/
structure OnlyTaps (s u : State) : Prop where
  parts : u = { s with tapEngine := u.tapEngine, reporter := u.reporter }
  presets : u.tapEngine.presets = s.tapEngine.presets
  straps : u.reporter.straps = s.reporter.straps

namespace OnlyTaps

theorem refl (s : State) : OnlyTaps s s := ⟨rfl, rfl, rfl⟩

theorem trans (h : OnlyTaps s t) (k : OnlyTaps t u) : OnlyTaps s u where
  parts := by rw [k.parts, h.parts]
  presets := k.presets.trans h.presets
  straps := k.straps.trans h.straps

theorem of_reporter (h : OnlyReporter s u) : OnlyTaps s u := ⟨by rw [h.1], by rw [h.1], h.2⟩

theorem own (h : OnlyTaps s u) : u.own = s.own := congrArg Straps.frame h.straps

theorem roster (h : OnlyTaps s u) : u.roster = s.roster := by rw [h.parts]

theorem orders (h : OnlyTaps s u) : u.orders = s.orders := by rw [h.parts]

theorem clock (h : OnlyTaps s u) : u.clock = s.clock := by rw [h.parts]

theorem link (h : OnlyTaps s u) : u.link = s.link := by rw [h.parts]

end OnlyTaps

theorem onlyReporter_tap (h : OnlyReporter s u) (k : TapNo) : u.tap k = s.tap k := by rw [h.1]; rfl

theorem settleTap_only (j : TapNo) (s : State) : OnlyTaps s (settleTap j s) := by
  unfold settleTap
  split
  · have hidle : OnlyTaps s (s.onTap j fun k => { k with state := .idle, waiting := [] }) := ⟨rfl, rfl, rfl⟩
    exact hidle.trans (.of_reporter (.foldl (fun u tag => onlyReporter_post tag _ _ u) _ _))
  · exact .refl s

theorem settleTap_tap (j k : TapNo) (s : State) : (settleTap j s).tap k = if k = j then (s.tap k).settled else s.tap k := by
  unfold settleTap
  split
  · next h =>
    rw [onlyReporter_tap (.foldl (fun u tag => onlyReporter_post tag _ _ u) _ _)]
    split
    · next hk =>
      subst hk
      rw [onTap_self, Tap.settled, if_pos h]
    · next hk => rw [onTap_other _ _ hk]
  · next h =>
    split
    · next hk =>
      subst hk
      rw [Tap.settled, if_neg h]
    · rfl

theorem settleTaps_only (s : State) : OnlyTaps s (settleTaps s) := by
  unfold settleTaps
  generalize eight = l
  induction l generalizing s with
  | nil => exact .refl s
  | cons j l ih => exact (settleTap_only j s).trans (ih _)

theorem settleTaps_tap (s : State) (k : TapNo) : (settleTaps s).tap k = (s.tap k).settled := by
  suffices h : ∀ (l : List TapNo) (s : State), l.Nodup →
      (l.foldl (fun u j => settleTap j u) s).tap k = if k ∈ l then (s.tap k).settled else s.tap k from
    (h _ s eight_nodup).trans (if_pos (mem_eight k))
  intro l
  induction l with
  | nil => exact fun _ _ => rfl
  | cons j l ih =>
    intro s hl
    obtain ⟨hj, hl⟩ := List.nodup_cons.mp hl
    rw [List.foldl_cons, ih _ hl, settleTap_tap]
    by_cases hk : k = j
    · subst hk
      rw [if_neg hj, if_pos rfl, if_pos List.mem_cons_self]
    · rw [if_neg hk]
      exact if_congr (by rw [List.mem_cons, or_iff_right hk]) rfl rfl

/-- Where no tap has drained, settling moves nothing. -/
theorem settleTaps_of_none (h : ∀ k, ¬ ((s.tap k).state = .draining ∧ (s.tap k).queue = [])) : settleTaps s = s := by
  have hstep : ∀ (l : List TapNo), l.foldl (fun u j => settleTap j u) s = s := by
    intro l
    induction l with
    | nil => rfl
    | cons j l ih =>
      rw [List.foldl_cons, show settleTap j s = s from if_neg (h j)]
      exact ih
  exact hstep _

theorem settled_ne_drained (k : Tap) : ¬ (k.settled.state = .draining ∧ k.settled.queue = []) := by
  unfold Tap.settled
  split
  · exact fun h => nomatch h.1
  · next h => exact h

theorem settleTaps_settleTaps (s : State) : settleTaps (settleTaps s) = settleTaps s :=
  settleTaps_of_none fun k => by
    rw [settleTaps_tap]
    exact settled_ne_drained _

/-! ### A leave that moves on (R105, R107) -/

/-- R105, R107: nothing is to be done for a leave. -/
def State.steadyLeave (s : State) : Prop :=
  ¬ (s.roster.phase = .draining ∧ eight.all (fun k => (s.tap k).drained) = true) ∧ ¬ (s.roster.phase = .announced ∧ s.roster.waitSet = 0)

theorem announceLeave_of_steady (h : s.steadyLeave) : announceLeave s = s := if_neg h.1

theorem completeLeave_of_steady (h : s.steadyLeave) : completeLeave s = s := if_neg h.2

theorem advance_of_steady (h : (settleTaps s).steadyLeave) : advance s = settleTaps s := by
  rw [advance, announceLeave_of_steady h, completeLeave_of_steady h]

/-- Where a leave has moved on, nothing more is to be done for it. -/
theorem steadyLeave_moved (s : State) : (completeLeave (announceLeave s)).steadyLeave := by
  have htaps : eight.all (fun k => ((completeLeave (announceLeave s)).tap k).drained) = eight.all (fun k => (s.tap k).drained) := by
    unfold completeLeave announceLeave
    split_ifs <;> rfl
  refine ⟨?_, ?_⟩
  · rw [htaps]
    rintro ⟨hp, hd⟩
    have hannounced : (announceLeave s).roster.phase = .draining → s.roster.phase = .draining := by
      unfold announceLeave
      split
      · exact fun h => nomatch h
      · exact id
    have hcompleted : (completeLeave (announceLeave s)).roster.phase = .draining → (announceLeave s).roster.phase = .draining := by
      unfold completeLeave
      split
      · exact fun h => nomatch h
      · exact id
    have hphase := hcompleted hp
    rw [announceLeave, if_pos ⟨hannounced hphase, hd⟩] at hphase
    exact nomatch hphase
  · unfold completeLeave
    split
    · exact fun h => nomatch h.1
    · next h => exact h

/-- A part outside a leave, or in an announced one that waits, has nothing to do for it. -/
def State.waiting (s : State) : Prop := s.roster.phase ≠ .draining ∧ (s.roster.phase = .announced → s.roster.waitSet ≠ 0)

theorem State.waiting.steadyLeave (h : s.waiting) : s.steadyLeave := ⟨fun k => h.1 k.1, fun k => h.2 k.1 k.2⟩

theorem State.waiting.congr (h : s.waiting) (hr : u.roster = s.roster) : u.waiting := by
  unfold State.waiting
  rw [hr]
  exact h

theorem State.waiting.of_none (h : s.roster.phase = .none) : s.waiting := by
  unfold State.waiting
  rw [h]
  exact ⟨nofun, nofun⟩

theorem advance_of_waiting (h : s.waiting) : advance s = settleTaps s :=
  advance_of_steady (h.congr (settleTaps_only s).roster).steadyLeave

/-- What a leave that moves on changes: the own state, the phase and the wait set. -/
def LeaveMoved (s u : State) : Prop := u = { s with
  roster := { s.roster with ownState := u.roster.ownState, phase := u.roster.phase, waitSet := u.roster.waitSet } }

theorem leaveMoved_announceLeave (s : State) : LeaveMoved s (announceLeave s) := by
  unfold announceLeave LeaveMoved
  split <;> rfl

theorem leaveMoved_completeLeave (s : State) : LeaveMoved s (completeLeave s) := by
  unfold completeLeave LeaveMoved
  split <;> rfl

theorem LeaveMoved.trans (h : LeaveMoved s t) (k : LeaveMoved t u) : LeaveMoved s u := by
  unfold LeaveMoved at h k ⊢
  rw [k, h]

section LeaveMoved
variable (h : LeaveMoved s u)
include h

theorem LeaveMoved.link : u.link = s.link := by unfold LeaveMoved at h; rw [h]

theorem LeaveMoved.orders : u.orders = s.orders := by unfold LeaveMoved at h; rw [h]

theorem LeaveMoved.clock : u.clock = s.clock := by unfold LeaveMoved at h; rw [h]

theorem LeaveMoved.reporter : u.reporter = s.reporter := by unfold LeaveMoved at h; rw [h]

theorem LeaveMoved.tapEngine : u.tapEngine = s.tapEngine := by unfold LeaveMoved at h; rw [h]

theorem LeaveMoved.roster : u.roster = { s.roster with
    ownState := u.roster.ownState, phase := u.roster.phase, waitSet := u.roster.waitSet } := congrArg State.roster h

end LeaveMoved

theorem leaveMoved_advance (s : State) : LeaveMoved (settleTaps s) (advance s) :=
  (leaveMoved_announceLeave _).trans (leaveMoved_completeLeave _)

theorem advance_link (s : State) : (advance s).link = s.link := (leaveMoved_advance s).link.trans (settleTaps_only s).link

theorem advance_orders (s : State) : (advance s).orders = s.orders := (leaveMoved_advance s).orders.trans (settleTaps_only s).orders

theorem advance_clock (s : State) : (advance s).clock = s.clock := (leaveMoved_advance s).clock.trans (settleTaps_only s).clock

theorem advance_own (s : State) : (advance s).own = s.own :=
  (congrArg (fun d => d.straps.frame) (leaveMoved_advance s).reporter).trans (settleTaps_only s).own

theorem advance_tap (s : State) (k : TapNo) : (advance s).tap k = (s.tap k).settled := by
  rw [State.tap, (leaveMoved_advance s).tapEngine]
  exact settleTaps_tap s k

/-- What follows at once moves of the roster the own state, the phase and the wait set. -/
theorem advance_roster (s : State) : (advance s).roster = { s.roster with
    ownState := (advance s).roster.ownState, phase := (advance s).roster.phase, waitSet := (advance s).roster.waitSet } := by
  have h := (leaveMoved_advance s).roster
  rw [(settleTaps_only s).roster] at h
  exact h

/-! ### Notices (R93, R112) -/

/-- What the notices of a roster change move: the clock, the reporter, and the tag of a leave that has completed. -/
structure Notified (s u : State) : Prop where
  parts : u = { s with clock := u.clock, reporter := u.reporter, roster := { s.roster with leaveTag := u.roster.leaveTag } }
  straps : u.reporter.straps = s.reporter.straps

namespace Notified

theorem refl (s : State) : Notified s s := ⟨rfl, rfl⟩

theorem trans (h : Notified s t) (k : Notified t u) : Notified s u where
  parts := by rw [k.parts, h.parts]
  straps := k.straps.trans h.straps

theorem of_reporter (h : OnlyReporter s u) : Notified s u := ⟨by rw [h.1], h.2⟩

theorem ite {c : Prop} [Decidable c] (h : Notified s t) (k : Notified s u) : Notified s (if c then t else u) := by
  split <;> assumption

theorem own (h : Notified s u) : u.own = s.own := congrArg Straps.frame h.straps

theorem link (h : Notified s u) : u.link = s.link := by rw [h.parts]

theorem orders (h : Notified s u) : u.orders = s.orders := by rw [h.parts]

theorem tapEngine (h : Notified s u) : u.tapEngine = s.tapEngine := by rw [h.parts]

end Notified

theorem notified_changeLock (f : RackTime → RackTime) (s : State) : Notified s (changeLock f s) := by
  unfold changeLock
  exact .ite ⟨rfl, rfl⟩ ⟨rfl, rfl⟩

theorem notified_followMaster (former left : Option FrameNo) (s : State) : Notified s (followMaster former left s) := by
  unfold followMaster
  exact .ite (.ite (.refl s) (notified_changeLock ..)) (.ite (notified_changeLock ..) (.ite (notified_changeLock ..) (.refl s)))

theorem onlyReporter_notifyFrame (before s : State) (f : FrameNo) : OnlyReporter s (notifyFrame before s f) := by
  have k : OnlyReporter s (if (before.entry f).state ≠ .absent ∧ (s.entry f).state ≠ .absent ∧
      (before.entry f).incarnation ≠ (s.entry f).incarnation then raise (.restartSeen f ((s.entry f).incarnation.getD 0)) s else s) :=
    .ite (onlyReporter_raise ..) (.refl s)
  unfold notifyFrame
  exact .ite k (k.trans (onlyReporter_raise ..))

theorem notified_notifyDeparture (before s : State) : Notified s (notifyDeparture before s) := by
  have k : Notified s ((raise (.leaveComplete s.own s.roster.incarnation) s).onRoster fun r => { r with leaveTag := none }) := ⟨rfl, rfl⟩
  unfold notifyDeparture
  refine .ite ?_ (.refl s)
  split
  · exact k.trans (.of_reporter (onlyReporter_post ..))
  · exact k

theorem notified_notify (left : Option FrameNo) (before s : State) : Notified s (notify left before s) := by
  have own : ∀ u, OnlyReporter u (notifyOwn before u) := fun u => by unfold notifyOwn; exact .ite (.refl u) (onlyReporter_raise ..)
  have belief : ∀ u, OnlyReporter u (notifyBelief before u) := fun u => by unfold notifyBelief; exact .ite (.refl u) (onlyReporter_raise ..)
  unfold notify
  exact (((Notified.of_reporter (.foldl (fun u f => onlyReporter_notifyFrame before u f) _ _)).trans (.of_reporter ((own _).trans (belief _)))).trans
    (notified_followMaster ..)).trans (notified_notifyDeparture ..)

/-- Without a completed leave the tag stands. -/
theorem notify_roster (left : Option FrameNo) {before s : State}
    (h : before.roster.ownState = .departed ∨ s.roster.ownState ≠ .departed) : (notify left before s).roster = s.roster := by
  have own : ∀ u, OnlyReporter u (notifyOwn before u) := fun u => by unfold notifyOwn; exact .ite (.refl u) (onlyReporter_raise ..)
  have belief : ∀ u, OnlyReporter u (notifyBelief before u) := fun u => by unfold notifyBelief; exact .ite (.refl u) (onlyReporter_raise ..)
  have hlock (f : RackTime → RackTime) (u : State) : (changeLock f u).roster = u.roster := by unfold changeLock; dsimp only; split_ifs <;> rfl
  have hfollow (former left : Option FrameNo) (u : State) : (followMaster former left u).roster = u.roster := by
    unfold followMaster
    dsimp only
    split_ifs <;> first | rfl | exact hlock ..
  unfold notify
  have hnotes : (followMaster before.roster.belief left (notifyBelief before (notifyOwn before (s.others.foldl (notifyFrame before) s)))).roster =
      s.roster := by
    rw [hfollow, ((OnlyReporter.foldl (fun u f => onlyReporter_notifyFrame before u f) _ _).trans ((own _).trans (belief _))).1]
  rw [notifyDeparture, if_neg (by rw [hnotes]; exact fun k => h.elim k.1 fun h => h k.2), hnotes]

end Sys2Proof.Machine

/-! PROOFS. What concludes an event in which the belief has not changed or no rack directive is pending (R93, R112): one round does the
work, and the two behind it settle the taps that the grants have drained. -/

namespace Sys2Proof.Machine
variable {s t u n before noted : State} {p q : Port}

/-! ### Pending entries that stand (R169) -/

/-- No pending entry is dealt with: the belief is the one before, or nothing is pending. -/
def State.calm (s noted : State) : Prop := noted.roster.belief = s.roster.belief ∨ s.orders.pending = []

theorem resubmit_of_calm (h : s.calm noted) : resubmit noted s = s := by
  unfold resubmit
  split
  · rfl
  · next hb => rw [h.resolve_left hb]; rfl

theorem Notified.belief (h : Notified s u) : u.roster.belief = s.roster.belief := by rw [h.parts]

theorem announce_of_calm (h : s.calm noted) : announce noted s = notify s.roster.belief noted s := by
  have hn := notified_notify s.roster.belief noted s
  rw [announce, resubmit_of_calm h, resubmit_of_calm]
  unfold State.calm
  rw [hn.belief, hn.orders]
  exact h

/-! ### What the roster shows (R92, R93) -/

/-- Nothing of what the roster shows to other frames differs. -/
structure ShowsAs (s u : State) : Prop where
  own : u.own = s.own
  entries : u.roster.entries = s.roster.entries
  belief : u.roster.belief = s.roster.belief
  incarnation : u.roster.incarnation = s.roster.incarnation
  masterCapable : u.roster.masterCapable = s.roster.masterCapable
  ownState : u.roster.ownState = s.roster.ownState
  phase : u.roster.phase = s.roster.phase

namespace ShowsAs

theorem refl (s : State) : ShowsAs s s := ⟨rfl, rfl, rfl, rfl, rfl, rfl, rfl⟩

theorem of_roster (ho : u.own = s.own) (hr : u.roster = s.roster) : ShowsAs s u := by
  refine ⟨ho, ?_, ?_, ?_, ?_, ?_, ?_⟩ <;> rw [hr]

theorem trans (h : ShowsAs s t) (k : ShowsAs t u) : ShowsAs s u :=
  ⟨k.own.trans h.own, k.entries.trans h.entries, k.belief.trans h.belief, k.incarnation.trans h.incarnation,
    k.masterCapable.trans h.masterCapable, k.ownState.trans h.ownState, k.phase.trans h.phase⟩

section
variable (h : ShowsAs s u)
include h

theorem entry (f : FrameNo) : u.entry f = s.entry f := by rw [State.entry, h.entries]; rfl

theorem advertised : u.advertised = s.advertised := by rw [State.advertised, h.ownState, h.phase]; rfl

theorem vector (p : Port) : u.vector p = s.vector p := by
  unfold State.vector State.vectorItem
  simp only [h.own, h.masterCapable, h.advertised, h.belief, h.incarnation, h.entry]

theorem view : u.view = s.view := by
  unfold State.view State.others
  simp only [h.own, h.advertised, h.belief, h.entry]

theorem updateFrame (seq : Word16) (p : Port) : u.updateFrame seq p = s.updateFrame seq p := by
  rw [State.updateFrame, ownFrame_congr h.own, h.vector]
  rfl

end

end ShowsAs

/-! ### Grants that find nothing (R83) -/

theorem grant_of_nothing (h : (s.port p).inTransmission = none → s.nothingFor p) : grant p s = s := by
  by_cases hidle : (s.port p).inTransmission = none
  case neg => exact grant_of_busy p s (Option.isSome_iff_ne_none.mpr hidle)
  obtain ⟨hj, hl⟩ := h hidle
  by_cases kj : (s.port p).state = .joined
  · obtain ⟨hq, hr, hc, hrelay, hlevel⟩ := hj kj
    refine grant_of_none hidle kj hr hq hc fun i => ?_
    by_cases hi : i.val = 0
    · obtain rfl : i = 0 := Fin.ext hi
      rw [rotatingLevel_relay, hrelay]
      rfl
    · rw [rotatingLevel_tap hi]
      exact hlevel _
  · by_cases kl : (s.port p).state = .linked
    · exact grant_of_no_hello hidle kl (hl kl)
    · exact grant_of_down p s ⟨kj, kl⟩

theorem settled_level {k : Tap} (h : k.level p = 0) : k.settled.level p = 0 := by
  unfold Tap.settled
  split
  · next hk => exact level_eq_zero (by simp [hk.2])
  · exact h

theorem nothingFor_of_settled (hl : u.link = s.link) (ht : ∀ k, u.tap k = (s.tap k).settled) (h : s.nothingFor p) : u.nothingFor p := by
  unfold State.nothingFor
  rw [State.port, hl]
  refine ⟨fun hj => ?_, h.2⟩
  obtain ⟨h1, h2, h3, h4, h5⟩ := h.1 hj
  exact ⟨h1, h2, h3, h4, fun k => by rw [ht]; exact settled_level (h5 k)⟩

/-! ### One round -/

/-- What a round has made of the part when the arbiters come to grant. -/
def State.readied (before noted s : State) : State := syncResend (syncRefresh (updateIfChanged before (announce noted (advance s))))

theorem round_eq (before noted s : State) : round before noted s = grant .b (grant .a (State.readied before noted s)) := rfl

theorem syncRefresh_of_right (h : s.roster.refreshTimer.isSome = s.refreshRuns) : syncRefresh s = s := by
  unfold syncRefresh
  by_cases hr : s.refreshRuns = true
  · rw [if_pos hr, if_pos (h.trans hr)]
  · rw [if_neg hr]
    have hn : s.roster.refreshTimer = none := by
      rw [← Option.not_isSome_iff_eq_none, h]
      exact hr
    unfold State.onRoster
    rw [← hn]

theorem syncResend_of_right (h : s.orders.resendTimer.isSome = s.resendRuns) : syncResend s = s := by
  unfold syncResend
  by_cases hr : s.resendRuns = true
  · rw [if_pos hr, if_pos (h.trans hr)]
  · rw [if_neg hr]
    have hn : s.orders.resendTimer = none := by
      rw [← Option.not_isSome_iff_eq_none, h]
      exact hr
    unfold State.onOrders
    rw [← hn]

theorem timersRight_congr (ho : u.own = s.own) (hr : u.roster = s.roster) (hd : u.orders = s.orders) (hl : u.link = s.link)
    (h : timersRight s) : timersRight u := by
  unfold timersRight State.refreshRuns State.resendRuns State.anyJoined State.joined State.port at h ⊢
  rw [ho, hr, hd, hl]
  exact h

/-- A part in which nothing more follows from an event: the timers are right, no idle port has anything to send, and no leave is to move on. -/
structure State.settles (s : State) : Prop where
  timers : timersRight s
  idle : idlePortsEmpty s
  leave : (settleTaps s).steadyLeave

/-- What a round moves that finds the part settled: it settles the taps, and the clock follows. -/
structure RoundStill (s t : State) : Prop where
  own : t.own = s.own
  link : t.link = s.link
  roster : t.roster = s.roster
  orders : t.orders = s.orders
  taps : t.tapEngine = (settleTaps s).tapEngine

theorem round_of_settles (h : s.settles) : RoundStill s (round s s s) ∧ round s s s = notify s.roster.belief s (settleTaps s) := by
  have hadv : advance s = settleTaps s := advance_of_steady h.leave
  have honly := settleTaps_only s
  have hbelief : (settleTaps s).roster.belief = s.roster.belief := by rw [honly.roster]
  have hann : announce s (advance s) = notify s.roster.belief s (settleTaps s) := by
    rw [hadv, announce_of_calm (.inl hbelief.symm), hbelief]
  have hn := notified_notify s.roster.belief s (settleTaps s)
  have hroster : (notify s.roster.belief s (settleTaps s)).roster = s.roster := by
    rw [notify_roster, honly.roster]
    rw [honly.roster]
    exact em _
  generalize hv : notify s.roster.belief s (settleTaps s) = v at hann hn hroster
  have hlink : v.link = s.link := hn.link.trans honly.link
  have horders : v.orders = s.orders := hn.orders.trans honly.orders
  have hown : v.own = s.own := hn.own.trans honly.own
  have htaps (k : TapNo) : v.tap k = (s.tap k).settled := by
    rw [State.tap, hn.tapEngine]
    exact settleTaps_tap s k
  have hview : v.view = s.view := (ShowsAs.of_roster hown hroster).view
  have htimers := timersRight_congr hown hroster horders hlink h.timers
  have hready : State.readied s s s = v := by
    rw [State.readied, hann, updateIfChanged, if_pos hview, syncRefresh_of_right htimers.1, syncResend_of_right htimers.2]
  have hnothing (p : Port) : grant p v = v := grant_of_nothing fun hidle => by
    rw [State.port, hlink] at hidle
    exact nothingFor_of_settled hlink htaps (h.idle p hidle)
  have hround : round s s s = v := by rw [round_eq, hready, hnothing, hnothing]
  rw [hround]
  exact ⟨⟨hown, hlink, hroster, horders, hn.tapEngine⟩, rfl⟩

theorem RoundStill.settles (h : s.settles) (k : RoundStill s t) (ht : timersRight t) (hi : idlePortsEmpty t) : t.settles := by
  refine ⟨ht, hi, ?_⟩
  have htaps (j : TapNo) : (settleTaps t).tap j = (settleTaps s).tap j := by
    have : t.tap j = (settleTaps s).tap j := by rw [State.tap, k.taps]; rfl
    rw [settleTaps_tap, this, ← settleTaps_tap, settleTaps_settleTaps]
  obtain ⟨h1, h2⟩ := h.leave
  rw [(settleTaps_only s).roster] at h1 h2
  refine ⟨?_, ?_⟩
  · rw [(settleTaps_only t).roster, k.roster]
    simpa only [htaps] using h1
  · rw [(settleTaps_only t).roster, k.roster]
    exact h2

theorem settles_round (h : (settleTaps (round before noted s)).steadyLeave) : (round before noted s).settles :=
  ⟨timersRight_round .., idlePortsEmpty_grants _, h⟩

/-- Where the first round leaves nothing to do for a leave, the other two settle the taps alone. -/
theorem concludeFrom_of_steady (h : (settleTaps (round before noted s)).steadyLeave) :
    RoundStill (round before noted s) (concludeFrom before noted s) := by
  have h1 := settles_round h
  obtain ⟨k1, -⟩ := round_of_settles h1
  have h2 : (round (round before noted s) (round before noted s) (round before noted s)).settles :=
    k1.settles h1 (timersRight_round ..) (idlePortsEmpty_grants _)
  obtain ⟨k2, -⟩ := round_of_settles h2
  refine ⟨k2.own.trans k1.own, k2.link.trans k1.link, k2.roster.trans k1.roster, k2.orders.trans k1.orders, k2.taps.trans ?_⟩
  generalize round (round before noted s) (round before noted s) (round before noted s) = v at k1
  have : settleTaps v = v := settleTaps_of_none fun j => by
    have : v.tap j = ((round before noted s).tap j).settled := by
      rw [← settleTaps_tap, State.tap, k1.taps]
      rfl
    rw [this]
    exact settled_ne_drained _
  rw [this, k1.taps]

end Sys2Proof.Machine

/-! PROOFS. What an event tells the other frames (R71, R81, R83, R93): the frames that stand in the control queues when the arbiters come to
grant, and what an idle port makes of them. -/

namespace Sys2Proof.Machine
variable {s t u e y before noted : State} {p q : Port}

/-! ### A grant and the control queue (R81, R83) -/

/-- Control queues and counters stand. -/
def KeepsControl (s u : State) : Prop := ∀ q, (u.port q).control = (s.port q).control ∧ (u.port q).counters = (s.port q).counters

theorem keepsControl_onPort (f : PortRecord → PortRecord) (h : (f (s.port p)).control = (s.port p).control ∧
    (f (s.port p)).counters = (s.port p).counters) : KeepsControl s (s.onPort p f) := fun q => by
  rcases port_cases p q with rfl | rfl
  · rw [onPort_self]; exact h
  · rw [onPort_other]; exact ⟨rfl, rfl⟩

theorem KeepsControl.trans (h : KeepsControl s t) (k : KeepsControl t u) : KeepsControl s u := fun q =>
  ⟨(k q).1.trans (h q).1, (k q).2.trans (h q).2⟩

theorem keepsControl_grantRelay (p : Port) (s : State) : KeepsControl s (grantRelay p s) := by
  unfold grantRelay
  split
  · exact (keepsControl_onPort _ ⟨rfl, rfl⟩).trans (keepsControl_onPort _ ⟨rfl, rfl⟩)
  · exact fun _ => ⟨rfl, rfl⟩

theorem keepsControl_grantTap (p : Port) (t : TapNo) (s : State) : KeepsControl s (grantTap p t s) := by
  rw [grantTap_eq]
  split
  · exact keepsControl_onPort (s := s.onTap t fun k => { k with queue := (takeRun p none 4 k.queue).2 }) _ ⟨rfl, rfl⟩
  · exact fun _ => ⟨rfl, rfl⟩

theorem keepsControl_grantRotating (p : Port) (s : State) : KeepsControl s (grantRotating p s) := by
  unfold grantRotating
  split
  · next i _ =>
    have k : KeepsControl s (s.onPort p fun r => { r with lastGranted := i }) := keepsControl_onPort _ ⟨rfl, rfl⟩
    dsimp only
    split
    · exact k.trans (keepsControl_grantRelay p _)
    · exact k.trans (keepsControl_grantTap p _ _)
  · exact fun _ => ⟨rfl, rfl⟩

/-- A port that may have something to send: it is Joined, or Linked with a Hello at the head of its control queue. -/
def State.maySend (s : State) (p : Port) : Prop :=
  (s.port p).state = .joined ∨ ((s.port p).state = .linked ∧ ∃ f rest, (s.port p).control = f :: rest ∧ isHello f = true)

theorem grant_drops (h : s.maySend p) : ((grant p s).port p).counters.controlDrops = (s.port p).counters.controlDrops := by
  by_cases hidle : (s.port p).inTransmission = none
  case neg => rw [grant_of_busy p s (Option.isSome_iff_ne_none.mpr hidle)]
  rcases h with hj | ⟨hl, f, rest, hc, hf⟩
  · cases hr : (s.port p).slotReply with
    | some b => rw [grant_of_reply hidle hj hr, onPort_self]
    | none =>
    cases hq : (s.port p).slotRequest with
    | some b => rw [grant_of_request hidle hj hr hq, onPort_self]
    | none =>
    cases hc : (s.port p).control with
    | cons f rest => rw [grant_of_control hidle hj hr hq hc, onPort_self]
    | nil =>
      rw [grant_eq_rotating hidle hj hr hq hc, ((keepsControl_grantRotating p s) p).2]
  · rw [grant_of_hello hidle hl hc hf, onPort_self]

theorem portSends_grant (h : s.maySend p) : PortSends (s.control p) p s (grant p s) where
  drops := grant_drops h
  busy hb := by rw [grant_of_busy p s hb]; exact ⟨rfl, rfl⟩
  idle hidle hr hq := by
    rcases h with hj | ⟨hl, g, rest', hc', hg⟩
    · refine ⟨fun f rest hc => ?_, fun hc => ?_⟩
      · rw [grant_of_control hidle hj hr hq hc, onPort_self]
        exact ⟨rfl, rfl⟩
      · rw [grant_eq_rotating hidle hj hr hq hc, ((keepsControl_grantRotating p s) p).1]
        exact hc
    · refine ⟨fun f rest hc => ?_, fun hc => ?_⟩
      · obtain ⟨rfl, rfl⟩ := List.cons.inj (hc'.symm.trans hc)
        rw [grant_of_hello hidle hl hc' hg, onPort_self]
        exact ⟨rfl, rfl⟩
      · exact nomatch hc'.symm.trans hc

/-- What a port sends is told by its record before and after. -/
theorem PortSends.congr {k : List Frame × Nat} {s' t' : State} (h : PortSends k p s t) (hs : (s'.port p).inTransmission = (s.port p).inTransmission ∧
    ((s'.port p).slotReply = none → (s.port p).slotReply = none) ∧ ((s'.port p).slotRequest = none → (s.port p).slotRequest = none))
    (ht : t'.port p = t.port p) : PortSends k p s' t' where
  drops := by rw [ht]; exact h.drops
  busy hb := by
    rw [hs.1] at hb ⊢
    rw [ht]
    exact h.busy hb
  idle hidle hr hq := by
    rw [ht]
    exact h.idle (hs.1.symm.trans hidle) (hs.2.1 hr) (hs.2.2 hq)

/-- The two grants of a round, as each port sees them. -/
theorem portSends_grants (h : y.maySend p) : PortSends (y.control p) p y (grant .b (grant .a y)) := by
  cases p with
  | a => exact (portSends_grant h).congr ⟨rfl, id, id⟩ (granted .b (grant .a y)).other
  | b =>
    have hother : (grant .a y).port .b = y.port .b := (granted .a y).other
    have hm : (grant .a y).maySend .b := by
      unfold State.maySend
      rw [hother]
      exact h
    have hsends := portSends_grant hm
    have hcontrol : (grant .a y).control .b = y.control .b := congrArg PortRecord.queue hother
    rw [hcontrol] at hsends
    refine hsends.congr ?_ rfl
    rw [hother]
    exact ⟨rfl, id, id⟩

/-! ### What stands in the queues when the arbiters come to grant (R93) -/

theorem Notified.shows (h : Notified s u) : ShowsAs s u := by
  refine ⟨h.own, ?_, ?_, ?_, ?_, ?_, ?_⟩ <;> rw [h.parts]

theorem Notified.waitSet (h : Notified s u) : u.roster.waitSet = s.roster.waitSet := by rw [h.parts]

/-- What a round has made of a part `a` that has moved on when the arbiters come to grant, where nothing pending is dealt with. -/
structure Readied (before a y : State) : Prop where
  shows : ShowsAs a y
  waitSet : y.roster.waitSet = a.roster.waitSet
  orders : y.orders = { a.orders with resendTimer := y.orders.resendTimer }
  taps : y.tapEngine = a.tapEngine
  same : a.view = before.view → y.link = a.link
  queues : a.view ≠ before.view → ∀ p, y.port p = if a.joined p = true
    then (a.port p).queueing (queued (a.control p) (a.updateFrame a.link.broadcastSeq p)) else a.port p
  seq : a.view ≠ before.view → y.link.broadcastSeq = a.link.broadcastSeq + if a.anyJoined = true then 1 else 0
  unsent : y.link.unsentOwn = a.link.unsentOwn
  refresh : a.view ≠ before.view → y.roster.refreshTimer = if a.refreshRuns = true then some a.refreshPeriod else none

theorem syncRefresh_parts (s : State) : syncRefresh s = { s with roster := { s.roster with
    refreshTimer := (syncRefresh s).roster.refreshTimer } } := by
  unfold syncRefresh
  split_ifs <;> rfl

theorem syncResend_parts (s : State) : syncResend s = { s with orders := { s.orders with
    resendTimer := (syncResend s).orders.resendTimer } } := by
  unfold syncResend
  split_ifs <;> rfl

/-- What setting the timers moves: the timers. -/
structure Synced (s u : State) : Prop where
  parts : u = { s with roster := { s.roster with refreshTimer := u.roster.refreshTimer }
                       orders := { s.orders with resendTimer := u.orders.resendTimer } }
  refresh : s.roster.refreshTimer.isSome = s.refreshRuns → u.roster.refreshTimer = s.roster.refreshTimer

theorem synced (s : State) : Synced s (syncResend (syncRefresh s)) := by
  refine ⟨?_, fun h => ?_⟩
  · have h1 := syncRefresh_parts s
    have h2 := syncResend_parts (syncRefresh s)
    generalize syncResend (syncRefresh s) = v at h2
    generalize syncRefresh s = w at h1 h2
    rw [h2, h1]
  · rw [syncResend_roster, syncRefresh_of_right h]

section Synced
variable (h : Synced s u)
include h

theorem Synced.own : u.own = s.own := by rw [h.parts]; rfl

theorem Synced.link : u.link = s.link := by rw [h.parts]

theorem Synced.shows : ShowsAs s u := by
  refine ⟨h.own, ?_, ?_, ?_, ?_, ?_, ?_⟩ <;> rw [h.parts]

end Synced

theorem refreshRuns_congr (hs : ShowsAs s u) (hl : ∀ p, u.joined p = s.joined p) : u.refreshRuns = s.refreshRuns := by
  unfold State.refreshRuns State.anyJoined
  rw [hs.ownState, hl, hl]

theorem refreshPeriod_congr (hs : ShowsAs s u) (hw : u.roster.waitSet = s.roster.waitSet) : u.refreshPeriod = s.refreshPeriod := by
  unfold State.refreshPeriod
  rw [hs.phase, hw]

theorem readied (hc : (advance e).calm noted) : Readied before (advance e) (State.readied before noted e) := by
  have hann := announce_of_calm hc
  have hn := notified_notify (advance e).roster.belief noted (advance e)
  rw [← hann] at hn
  unfold State.readied
  generalize announce noted (advance e) = n at hn
  generalize advance e = a at hn
  have hport (p : Port) : n.port p = a.port p := by rw [State.port, hn.link]; rfl
  have hjoined (p : Port) : n.joined p = a.joined p := by rw [State.joined, hport]; rfl
  by_cases hv : a.view = before.view
  · have hupdate : updateIfChanged before n = n := if_pos (hn.shows.view.trans hv)
    rw [hupdate]
    have hy := synced n
    generalize syncResend (syncRefresh n) = y at hy
    refine ⟨hn.shows.trans hy.shows, ?_, ?_, ?_, fun _ => hy.link.trans hn.link, fun k => absurd hv k, fun k => absurd hv k, ?_,
      fun k => absurd hv k⟩
    · rw [hy.parts, ← hn.waitSet]
    · rw [hy.parts, ← hn.orders]
    · rw [hy.parts, ← hn.tapEngine]
    · rw [hy.link, hn.link]
  · have hupdate : updateIfChanged before n = makeRosterUpdate n := if_neg fun k => hv (hn.shows.view.symm.trans k)
    have hq := queueing_broadcast (fun seq p => .rosterUpdate ⟨seq, n.vector p⟩) n
    have hbport := broadcast_port (fun seq p => .rosterUpdate ⟨seq, n.vector p⟩) n
    have hbseq := broadcast_seq (fun seq p => .rosterUpdate ⟨seq, n.vector p⟩) n
    have hbun := broadcast_unsent (fun seq p => .rosterUpdate ⟨seq, n.vector p⟩) n
    rw [hupdate, makeRosterUpdate]
    generalize broadcast (fun seq p => .rosterUpdate ⟨seq, n.vector p⟩) n = w at hq hbport hbseq hbun
    have hwroster : w.roster = n.roster := by rw [hq.only]
    have hm : ShowsAs n (w.onRoster fun r => { r with refreshTimer := if n.refreshRuns then some n.refreshPeriod else none }) := by
      refine ⟨hq.own, ?_, ?_, ?_, ?_, ?_, ?_⟩ <;> rw [onRoster_roster, hwroster]
    have hy := synced (w.onRoster fun r => { r with refreshTimer := if n.refreshRuns then some n.refreshPeriod else none })
    have hright : (w.onRoster fun r => { r with refreshTimer := if n.refreshRuns then some n.refreshPeriod else none }).refreshRuns =
        n.refreshRuns := refreshRuns_congr hm hq.joined
    generalize syncResend (syncRefresh (w.onRoster fun r => { r with refreshTimer := if n.refreshRuns then some n.refreshPeriod else none })) = y
      at hy
    refine ⟨(hn.shows.trans hm).trans hy.shows, ?_, ?_, ?_, fun k => absurd k hv, fun _ p => ?_, fun _ => ?_, ?_, fun _ => ?_⟩
    · rw [hy.parts]
      change w.roster.waitSet = _
      rw [hwroster, hn.waitSet]
    · have horders : w.orders = a.orders := by rw [hq.only, ← hn.orders]
      have := congrArg State.orders hy.parts
      rw [onRoster_orders, horders] at this
      exact this
    · rw [hy.parts]
      change w.tapEngine = _
      rw [hq.only, ← hn.tapEngine]
    · have hframe : n.ownFrame (.rosterUpdate ⟨n.link.broadcastSeq, n.vector p⟩) = a.updateFrame a.link.broadcastSeq p := by
        rw [hn.link]
        exact hn.shows.updateFrame _ p
      have := hbport p
      rw [hframe, hport, hjoined, State.control, hport] at this
      rw [State.port, hy.link]
      exact this
    · rw [hy.link]
      refine hbseq.trans ?_
      rw [hn.link, State.anyJoined, hjoined, hjoined]
      rfl
    · rw [hy.link]
      exact hbun.trans (by rw [hn.link])
    · rw [hy.refresh]
      · change (if n.refreshRuns then some n.refreshPeriod else none) = _
        rw [refreshRuns_congr hn.shows hjoined, refreshPeriod_congr hn.shows hn.waitSet]
      · rw [hright]
        change (if n.refreshRuns then some n.refreshPeriod else none).isSome = _
        split
        · next h => exact h.symm
        · next h => exact (Bool.not_eq_true _ ▸ h : n.refreshRuns = false).symm

end Sys2Proof.Machine

/-! PROOFS. What an event tells the other frames, as the statements speak of it (R71, R81, R93): from the part that the event leaves to what
concludes it. -/

namespace Sys2Proof.Machine
variable {s t u e y before noted : State} {p q : Port}

/-! ### A roster change (R93) -/

/-- What of an entry is advertised. -/
def RosterEntry.view (e : RosterEntry) : EntryView := ⟨e.state, e.hops, e.route, e.incarnation, e.masterCapable, e.belief⟩

theorem mem_others {f : FrameNo} : f ∈ s.others ↔ f ≠ s.own := by simp [State.others, mem_eight]

theorem view_eq_iff (ho : t.own = s.own) : t.view = s.view ↔ t.advertised = s.advertised ∧ t.roster.belief = s.roster.belief ∧
    ∀ f, f ≠ s.own → (t.entry f).view = (s.entry f).view := by
  have hothers : t.others = s.others := by rw [State.others, ho]; rfl
  have hview (u : State) : u.view = ⟨u.advertised, u.roster.belief, u.others.map fun f => (u.entry f).view⟩ := rfl
  rw [hview, hview, RosterView.mk.injEq, hothers, List.map_inj_left]
  simp only [mem_others]

theorem rosterChanged_iff (ho : t.own = s.own) : rosterChanged s t ↔ t.view ≠ s.view := by
  rw [Ne, view_eq_iff ho, rosterChanged]
  simp only [RosterEntry.view, EntryView.mk.injEq, Classical.not_and_iff_not_or_not, not_forall, exists_prop, ne_eq]

/-! ### An event's frames (R71) -/

theorem eventFrames_congr {bs : List (Word16 → Body)} {us : List (FrameNo × Body)} (ho : u.own = t.own)
    (he : ∀ f, u.entry f = t.entry f) : eventFrames bs us s u p = eventFrames bs us s t p := by
  unfold eventFrames
  simp only [ownFrame_congr ho, he]

/-- What of the part an event leaves is needed to say what it tells: the frames queued, and the slots and transmissions that stand. -/
structure Told.Event (start : Port → List Frame × Nat) (bs : List (Word16 → Body)) (us : List (FrameNo × Body)) (s e : State) : Prop where
  own : e.own = s.own
  control : ∀ p, e.joined p = true → e.control p = (eventFrames bs us s e p).foldl queued (start p)
  sending : ∀ p, e.joined p = true → (e.port p).inTransmission = (s.port p).inTransmission ∧
    ((s.port p).slotReply = none → (e.port p).slotReply = none) ∧ ((s.port p).slotRequest = none → (e.port p).slotRequest = none)
  seq : e.link.broadcastSeq = s.link.broadcastSeq + BitVec.ofNat 16 (if e.anyJoined = true then bs.length else 0)
  unsent : e.link.unsentOwn =
    let lost := (us.filter fun d => (e.openRoute d.1).isNone).length
    if lost = 0 then s.link.unsentOwn else min (s.link.unsentOwn + lost) (2 ^ 32 - 1)

theorem advance_port (e : State) (p : Port) : (advance e).port p = e.port p := by rw [State.port, advance_link]; rfl

theorem advance_entries (e : State) : (advance e).roster.entries = e.roster.entries := by rw [advance_roster]

theorem advance_belief (e : State) : (advance e).roster.belief = e.roster.belief := by rw [advance_roster]

theorem calm_advance (h : e.calm noted) : (advance e).calm noted := by
  unfold State.calm
  rw [advance_belief, advance_orders]
  exact h

/-- What the two grants leave of the part that came to be granted. -/
theorem grants_leave (y : State) : let g := grant .b (grant .a y)
    ShowsAs y g ∧ g.roster = y.roster ∧ g.orders = y.orders ∧ g.link.broadcastSeq = y.link.broadcastSeq ∧
      g.link.unsentOwn = y.link.unsentOwn ∧ ∀ p, g.joined p = y.joined p := by
  have ha := granted .a y
  have hb := granted .b (grant .a y)
  have hroster := hb.roster.trans ha.roster
  have hown : (grant .b (grant .a y)).own = y.own := congrArg (fun d => d.straps.frame) (hb.reporter.trans ha.reporter)
  exact ⟨.of_roster hown hroster, hroster, hb.orders.trans ha.orders, hb.broadcasts.1.trans ha.broadcasts.1,
    hb.broadcasts.2.trans ha.broadcasts.2, fun p => (hb.joined p).trans (ha.joined p)⟩

/-- What a concluded event shows, and how its ports stand, where the first round leaves nothing to do for a leave. -/
structure ConcludesAs (before e t : State) : Prop where
  shows : ShowsAs (advance e) t
  waitSet : t.roster.waitSet = (advance e).roster.waitSet
  joined : ∀ p, t.joined p = e.joined p
  orders : t.orders = { e.orders with resendTimer := t.orders.resendTimer }
  sends : ∀ p, e.joined p = true → PortSends (if (advance e).view = before.view then e.control p
    else queued (e.control p) ((advance e).updateFrame e.link.broadcastSeq p)) p e t
  seq : t.link.broadcastSeq = e.link.broadcastSeq + if (advance e).view ≠ before.view ∧ e.anyJoined = true then 1 else 0
  unsent : t.link.unsentOwn = e.link.unsentOwn
  refresh : (advance e).view ≠ before.view → t.roster.refreshTimer = if t.refreshRuns = true then some t.refreshPeriod else none

theorem concludesAs (hc : e.calm noted) (hl : (settleTaps (round before noted e)).steadyLeave) :
    ConcludesAs before e (concludeFrom before noted e) := by
  have hstill := concludeFrom_of_steady hl
  have hready := readied (before := before) (calm_advance hc)
  have hround := round_eq before noted e
  generalize round before noted e = g at hstill hround
  generalize State.readied before noted e = y at hready hround
  generalize concludeFrom before noted e = t at hstill
  have hsend (p : Port) (h : y.maySend p) := portSends_grants (y := y) h
  have hgrants := grants_leave y
  rw [← hround] at hsend hgrants
  obtain ⟨hgshow, hgroster, hgorders, hgseq, hgunsent, hgjoined⟩ := hgrants
  have hshow : ShowsAs (advance e) t := (hready.shows.trans hgshow).trans (.of_roster hstill.own hstill.roster)
  have hport (p : Port) : t.port p = g.port p := by rw [State.port, hstill.link]; rfl
  have hyport (p : Port) : (y.port p).state = (e.port p).state ∧ (y.port p).inTransmission = (e.port p).inTransmission ∧
      (y.port p).slotReply = (e.port p).slotReply ∧ (y.port p).slotRequest = (e.port p).slotRequest := by
    by_cases hv : (advance e).view = before.view
    · rw [State.port, hready.same hv, advance_link]
      exact ⟨rfl, rfl, rfl, rfl⟩
    · rw [hready.queues hv p, advance_port]
      split <;> exact ⟨rfl, rfl, rfl, rfl⟩
  have hyjoined (p : Port) : y.joined p = e.joined p := by rw [State.joined, (hyport p).1]; rfl
  have hany : (advance e).anyJoined = e.anyJoined := by simp only [State.anyJoined, State.joined, advance_port]
  have hwait : t.roster.waitSet = (advance e).roster.waitSet := by rw [hstill.roster, hgroster, hready.waitSet]
  have hjoined (p : Port) : t.joined p = e.joined p := by
    rw [State.joined, hport]
    exact (hgjoined p).trans (hyjoined p)
  refine ⟨hshow, hwait, hjoined, ?_, fun p hp => ?_, ?_, ?_, fun hv => ?_⟩
  · rw [hstill.orders, hgorders, hready.orders, advance_orders]
  · have hcontrol : y.control p = if (advance e).view = before.view then e.control p
        else queued (e.control p) ((advance e).updateFrame e.link.broadcastSeq p) := by
      by_cases hv : (advance e).view = before.view
      · rw [if_pos hv, State.control, State.port, hready.same hv, advance_link]
        rfl
      · have hj : (advance e).joined p = true := by rw [State.joined, advance_port]; exact hp
        rw [if_neg hv, State.control, hready.queues hv p, if_pos hj, State.control, advance_port, advance_link]
        rfl
    have hm : y.maySend p := .inl (by
      rw [(hyport p).1]
      simpa [State.joined] using hp)
    rw [← hcontrol]
    refine (hsend p hm).congr ?_ (hport p)
    obtain ⟨-, h1, h2, h3⟩ := hyport p
    rw [h1, h2, h3]
    exact ⟨rfl, id, id⟩
  · rw [hstill.link, hgseq]
    by_cases hv : (advance e).view = before.view
    · rw [hready.same hv, advance_link, if_neg fun k => k.1 hv]
      simp
    · rw [hready.seq hv, advance_link, hany]
      exact congrArg _ (if_congr (and_iff_right hv).symm rfl rfl)
  · rw [hstill.link, hgunsent, hready.unsent, advance_link]
  · rw [hstill.roster, hgroster, hready.refresh hv]
    have hr : t.refreshRuns = (advance e).refreshRuns :=
      refreshRuns_congr hshow fun p => (hjoined p).trans (by rw [State.joined, State.joined, advance_port])
    rw [hr, refreshPeriod_congr hshow hwait]

theorem Told.of_event {start : Port → List Frame × Nat} {bs : List (Word16 → Body)} {us : List (FrameNo × Body)}
    (he : Told.Event start bs us s e) (hv : before.view = s.view) (ht : ConcludesAs before e t) : Told start bs us s t := by
  have hentry (f : FrameNo) : t.entry f = e.entry f := by
    rw [ht.shows.entry, State.entry, advance_entries]
    rfl
  have hown : t.own = e.own := ht.shows.own.trans (advance_own e)
  have hchanged : rosterChanged s t ↔ (advance e).view ≠ before.view := by
    rw [rosterChanged_iff (hown.trans he.own), ht.shows.view, hv]
  have hframes (p : Port) : eventFrames bs us s t p = eventFrames bs us s e p := eventFrames_congr hown hentry
  have hany : (∃ p, t.joined p = true) ↔ e.anyJoined = true := by
    rw [anyJoined_iff]
    simp only [ht.joined]
  have hroute (d : FrameNo) : t.openRoute d = e.openRoute d := by simp only [State.openRoute, hentry, ht.joined]
  have hseq (h : e.anyJoined = true) : e.link.broadcastSeq = s.link.broadcastSeq + BitVec.ofNat 16 bs.length := by
    rw [he.seq, if_pos h]
  refine ⟨fun hc p hp => ?_, fun hc p hp => ?_, fun hc hj => ?_, fun hc hj => ?_, fun hj => ?_, ?_, fun hc hj hs => ?_⟩
  · rw [ht.joined] at hp
    have hsend := ht.sends p hp
    rw [if_neg (hchanged.mp hc), he.control p hp, hseq (anyJoined_iff.mpr ⟨p, hp⟩), ← ht.shows.updateFrame, ← hframes] at hsend
    exact hsend.congr ⟨(he.sending p hp).1.symm, (he.sending p hp).2⟩ rfl
  · rw [ht.joined] at hp
    have hsend := ht.sends p hp
    rw [if_pos (not_not.mp (mt hchanged.mpr hc)), he.control p hp, ← hframes] at hsend
    exact hsend.congr ⟨(he.sending p hp).1.symm, (he.sending p hp).2⟩ rfl
  · rw [ht.seq, if_pos ⟨hchanged.mp hc, hany.mp hj⟩, hseq (hany.mp hj), BitVec.add_assoc]
    exact congrArg _ (BitVec.ofNat_add_ofNat ..)
  · rw [ht.seq, if_neg fun k => hc (hchanged.mpr k.1), hseq (hany.mp hj)]
    exact BitVec.add_zero _
  · have hn : ¬ e.anyJoined = true := fun k => by
      obtain ⟨p, hp⟩ := hany.mpr k
      rw [hj p] at hp
      exact nomatch hp
    rw [ht.seq, if_neg fun k => hn k.2, he.seq, if_neg hn]
    exact (BitVec.add_zero _).trans (BitVec.add_zero _)
  · rw [ht.unsent, he.unsent]
    simp only [hroute]
  · have hr : t.refreshRuns = true := by
      unfold State.refreshRuns
      rw [Bool.and_eq_true, bne_iff_ne]
      exact ⟨hs, anyJoined_iff.mpr hj⟩
    rw [ht.refresh (hchanged.mp hc), if_pos hr]
    rfl

end Sys2Proof.Machine

/-! PROOFS. What concluding an event leaves besides, where nothing pending is dealt with (R43, R93), and what it leaves in every case: a tap
that is not bound, the applied records of the other frames, and what a tap queue waits for. -/

namespace Sys2Proof.Machine
variable {s t u e before noted : State} {p q : Port}

/-! ### Events that deal with nothing pending (R169) -/

theorem steady_round_of_calm (h : e.calm noted) : Steady e (round before noted e) := by
  have hann : Steady (advance e) (announce noted (advance e)) := by
    rw [announce_of_calm (calm_advance h)]
    exact steady_notify ..
  unfold round
  exact ((((((steady_advance e).trans hann).trans (steady_updateIfChanged ..)).trans (steady_syncRefresh _)).trans (steady_syncResend _)).trans
    (steady_grant ..)).trans (steady_grant ..)

theorem steady_concludeFrom_of_calm (h : e.calm noted) : Steady e (concludeFrom before noted e) :=
  ((steady_round_of_calm h).trans (steady_round rfl)).trans (steady_round rfl)

/-- A round shows what the part showed once a leave had moved on. -/
theorem round_shows (h : e.calm noted) : ShowsAs (advance e) (round before noted e) ∧
    (round before noted e).roster.waitSet = (advance e).roster.waitSet := by
  have hready := readied (before := before) (calm_advance h)
  obtain ⟨hshow, hroster, -⟩ := grants_leave (State.readied before noted e)
  exact ⟨hready.shows.trans hshow, (congrArg Roster.waitSet hroster).trans hready.waitSet⟩

/-- A part outside a leave, or in an announced one that waits, has nothing to do for it behind the first round. -/
theorem steadyLeave_round (h : e.calm noted) (hw : (advance e).waiting) : (settleTaps (round before noted e)).steadyLeave := by
  obtain ⟨hshow, hwait⟩ := round_shows (before := before) h
  refine State.waiting.steadyLeave ?_
  unfold State.waiting
  rw [(settleTaps_only _).roster, hshow.phase, hwait]
  exact hw

theorem waiting_advance (hw : e.waiting) : (advance e).waiting := by
  rw [advance_of_waiting hw]
  exact hw.congr (settleTaps_only e).roster

theorem concludesAs_of_waiting (h : e.calm noted) (hw : e.waiting) : ConcludesAs before e (concludeFrom before noted e) :=
  concludesAs h (steadyLeave_round h (waiting_advance hw))

/-! ### Taps (R43, R57) -/

/-- What concluding an event makes of a tap: the arbiters take entries, and a drained tap is Idle. -/
structure TapRests (k k' : Tap) : Prop where
  parts : k' = { k with state := k'.state, waiting := k'.waiting, queue := k'.queue }
  state : k'.state = k.state ∨ (k.state = .draining ∧ k'.state = .idle)
  waiting : k'.waiting = k.waiting ∨ (k.state = .draining ∧ k'.waiting = [])
  empty : k.queue = [] → k'.queue = []
  entries : ∀ p, (∀ e ∈ k.queue, e.pending.get p = false) → ∀ e ∈ k'.queue, e.pending.get p = false

namespace TapRests
variable {k k' k'' : Tap}

theorem refl (k : Tap) : TapRests k k := ⟨rfl, .inl rfl, .inl rfl, id, fun _ => id⟩

theorem trans (h : TapRests k k') (j : TapRests k' k'') : TapRests k k'' where
  parts := by rw [j.parts, h.parts]
  state := by
    rcases j.state with js | ⟨js, js'⟩
    · rw [js]; exact h.state
    · rcases h.state with hs | ⟨hs, hs'⟩
      · exact .inr ⟨hs ▸ js, js'⟩
      · rw [hs'] at js; exact nomatch js
  waiting := by
    rcases j.waiting with jw | ⟨js, jw⟩
    · rw [jw]; exact h.waiting
    · rcases h.state with hs | ⟨hs, hs'⟩
      · exact .inr ⟨hs ▸ js, jw⟩
      · rw [hs'] at js; exact nomatch js
  empty e := j.empty (h.empty e)
  entries p e := j.entries p (h.entries p e)

theorem unbound (h : TapRests k k') (hk : k = Tap.unbound) : k' = Tap.unbound := by
  subst hk
  have hstate : k'.state = .unbound := h.state.resolve_right fun j => nomatch j.1
  have hwaiting : k'.waiting = [] := h.waiting.elim id fun j => j.2
  have := h.parts
  rw [hstate, hwaiting, h.empty rfl] at this
  exact this

end TapRests

theorem tapRests_settled (k : Tap) : TapRests k k.settled := by
  unfold Tap.settled
  split
  · next h => exact ⟨rfl, .inr ⟨h.1, rfl⟩, .inr ⟨h.1, rfl⟩, id, fun _ => id⟩
  · exact .refl k

/-- R57: the entries that a frame leaves in a queue wait where they waited. -/
theorem takeRun_left_pending (r : Port) (prev : Option QueueEntry) (room : Nat) (l : List QueueEntry) (q : Port)
    (h : ∀ e ∈ l, e.pending.get q = false) : ∀ e ∈ (takeRun r prev room l).2, e.pending.get q = false := fun e he => by
  rcases (takeRun_left r prev room l).2 e he with hm | ⟨d, hd, rfl, -⟩
  · exact h e hm
  · have hpending := h d hd
    cases r <;> cases q <;> first | exact hpending | rfl

/-- What is left of a grant's queues is what its tap's queue held. -/
theorem grantTap_rests (r : Port) (j : TapNo) (s : State) (k : TapNo) : TapRests (s.tap k) ((grantTap r j s).tap k) := by
  rw [grantTap_eq]
  split
  · rw [onPort_tap]
    by_cases hk : k = j
    · subst hk
      rw [onTap_self]
      refine ⟨rfl, .inl rfl, .inl rfl, fun h => ?_, fun q => takeRun_left_pending r none 4 _ q⟩
      dsimp only
      rw [h]
      rfl
    · rw [onTap_other _ _ hk]
      exact .refl _
  · exact .refl _

theorem grant_rests (r : Port) (s : State) (k : TapNo) : TapRests (s.tap k) ((grant r s).tap k) := by
  have link (u : State) (h : u.tapEngine = s.tapEngine) : TapRests (s.tap k) (u.tap k) := by
    rw [show u.tap k = s.tap k by rw [State.tap, h]; rfl]
    exact .refl _
  have hcontrol : (grantControl r s).tapEngine = s.tapEngine := by unfold grantControl; split <;> rfl
  unfold grant
  dsimp only
  split
  · exact .refl _
  · split
    · split
      · exact link _ (by unfold grantSlot; dsimp only; split <;> first | rfl | (split <;> rfl))
      · split
        · exact link _ hcontrol
        · unfold grantRotating
          split
          · dsimp only
            split
            · exact link _ (by unfold grantRelay; split <;> rfl)
            · exact grantTap_rests r _ (s.onPort r fun x => { x with lastGranted := _ }) k
          · exact .refl _
    · split
      · exact link _ hcontrol
      · exact .refl _
    all_goals exact .refl _

theorem round_rests (h : e.calm noted) (k : TapNo) : TapRests (e.tap k) ((round before noted e).tap k) := by
  have hready := readied (before := before) (calm_advance h)
  have hadv : TapRests (e.tap k) ((State.readied before noted e).tap k) := by
    have htap : (State.readied before noted e).tap k = (advance e).tap k := by rw [State.tap, hready.taps]; rfl
    rw [htap, advance_tap]
    exact tapRests_settled _
  exact (hadv.trans (grant_rests .a _ k)).trans (grant_rests .b _ k)

theorem concludeFrom_rests (h : e.calm noted) (k : TapNo) : TapRests (e.tap k) ((concludeFrom before noted e).tap k) :=
  ((round_rests h k).trans (round_rests (.inl rfl) k)).trans (round_rests (.inl rfl) k)

/-- No port can be granted a frame: each is sending, or down. -/
def State.inert (s : State) : Prop := ∀ p, (s.port p).inTransmission.isSome = true ∨ ((s.port p).state ≠ .joined ∧ (s.port p).state ≠ .linked)

theorem grant_of_inert (h : s.inert) (p : Port) : grant p s = s := (h p).elim (grant_of_busy p s) (grant_of_down p s)

/-- A round leaves the state and the transmission of every port until the arbiters grant. -/
theorem readied_sending (h : e.calm noted) (p : Port) : ((State.readied before noted e).port p).state = (e.port p).state ∧
    ((State.readied before noted e).port p).inTransmission = (e.port p).inTransmission := by
  have hready := readied (before := before) (calm_advance h)
  by_cases hv : (advance e).view = before.view
  · rw [State.port, hready.same hv, advance_link]
    exact ⟨rfl, rfl⟩
  · rw [hready.queues hv p, advance_port]
    split <;> exact ⟨rfl, rfl⟩

theorem round_of_inert (h : e.calm noted) (hi : e.inert) : round before noted e = State.readied before noted e ∧ (round before noted e).inert ∧
    ∀ k, (round before noted e).tap k = (e.tap k).settled := by
  have hinert : (State.readied before noted e).inert := fun p => by
    obtain ⟨hstate, hsend⟩ := readied_sending (before := before) h p
    rw [hstate, hsend]
    exact hi p
  have hround : round before noted e = State.readied before noted e := by
    rw [round_eq, grant_of_inert hinert, grant_of_inert hinert]
  refine ⟨hround, hround ▸ hinert, fun k => ?_⟩
  rw [hround, ← advance_tap, State.tap, (readied (before := before) (calm_advance h)).taps]
  rfl

theorem settled_settled (k : Tap) : k.settled.settled = k.settled := if_neg (settled_ne_drained k)

/-- Where no port can be granted a frame, concluding an event settles the taps. -/
theorem concludeFrom_tap_of_inert (h : e.calm noted) (hi : e.inert) (k : TapNo) :
    (concludeFrom before noted e).tap k = (e.tap k).settled := by
  obtain ⟨-, hi1, ht1⟩ := round_of_inert (before := before) h hi
  unfold concludeFrom
  dsimp only
  generalize round before noted e = s1 at hi1 ht1
  obtain ⟨-, hi2, ht2⟩ := round_of_inert (before := s1) (noted := s1) (.inl rfl) hi1
  generalize round s1 s1 s1 = s2 at hi2 ht2
  obtain ⟨-, -, ht3⟩ := round_of_inert (before := s2) (noted := s2) (.inl rfl) hi2
  rw [ht3, ht2, ht1, settled_settled, settled_settled]

/-- Where no port can be granted a frame, a leave has moved on as far as it can in the first round. -/
theorem steadyLeave_of_inert (h : e.calm noted) (hi : e.inert) : (settleTaps (round before noted e)).steadyLeave := by
  obtain ⟨-, -, htaps⟩ := round_of_inert (before := before) h hi
  obtain ⟨hshow, hwait⟩ := round_shows (before := before) h
  have hsteady := steadyLeave_moved (settleTaps e)
  have htap (k : TapNo) : (settleTaps (round before noted e)).tap k = (advance e).tap k := by
    rw [settleTaps_tap, htaps, settled_settled, advance_tap]
  change (advance e).steadyLeave at hsteady
  unfold State.steadyLeave at hsteady ⊢
  rw [(settleTaps_only _).roster, hshow.phase, hwait]
  simpa only [htap] using hsteady

/-! ### What concluding an event leaves in every case -/

/-- The record of a port that is down stands, and of a port that sends the frame and the relay queue. -/
structure PortsRest (s t : State) : Prop where
  down : ∀ p, ¬ (s.port p).up → t.port p = s.port p
  sending : ∀ p, (s.port p).inTransmission.isSome = true →
    (t.port p).inTransmission = (s.port p).inTransmission ∧ (t.port p).relay = (s.port p).relay
  slots : ∀ p, (s.port p).inTransmission.isSome = true →
    (t.port p).slotReply = (s.port p).slotReply ∧ (t.port p).slotRequest = (s.port p).slotRequest

theorem PortsRest.trans (h : PortsRest s t) (k : PortsRest t u) : PortsRest s u where
  down p hp := (k.down p (by rw [h.down p hp]; exact hp)).trans (h.down p hp)
  sending p hp := by
    obtain ⟨ht, hr⟩ := h.sending p hp
    obtain ⟨ku, kr⟩ := k.sending p (ht ▸ hp)
    exact ⟨ku.trans ht, kr.trans hr⟩
  slots p hp := by
    obtain ⟨hr, hq⟩ := h.slots p hp
    obtain ⟨kr, kq⟩ := k.slots p ((h.sending p hp).1 ▸ hp)
    exact ⟨kr.trans hr, kq.trans hq⟩

theorem PortsRest.of_link (hl : u.link = s.link) : PortsRest s u where
  down p _ := by rw [State.port, hl]; rfl
  sending p _ := by rw [State.port, hl]; exact ⟨rfl, rfl⟩
  slots p _ := by rw [State.port, hl]; exact ⟨rfl, rfl⟩

/-- The own frame number, a tap that is not bound, the applied records of the other frames, what a tap queue does not wait for through a
port that is not Joined, and what of the ports rests. -/
structure Rests (s t : State) : Prop where
  own : t.own = s.own
  joined : ∀ p, t.joined p = s.joined p
  unbound : ∀ k, s.tap k = Tap.unbound → t.tap k = Tap.unbound
  applied : ∀ f : FrameNo, f ≠ s.own → t.orders.applied[f] = s.orders.applied[f]
  stripped : ∀ p, s.joined p = false → (∀ k, ∀ e ∈ (s.tap k).queue, e.pending.get p = false) →
    ∀ k, ∀ e ∈ (t.tap k).queue, e.pending.get p = false
  ports : PortsRest s t

theorem settled_state (h : Settled s u) (p : Port) : (u.port p).state = (s.port p).state := congrArg PortStanding.state (h.standing p)

theorem settled_joined (h : Settled s u) (p : Port) : u.joined p = s.joined p := by rw [State.joined, settled_state h]; rfl

namespace Rests

theorem refl (s : State) : Rests s s := ⟨rfl, fun _ => rfl, fun _ => id, fun _ _ => rfl, fun _ _ => id, .of_link rfl⟩

theorem trans (h : Rests s t) (k : Rests t u) : Rests s u where
  own := k.own.trans h.own
  joined p := (k.joined p).trans (h.joined p)
  unbound j e := k.unbound j (h.unbound j e)
  applied f hf := (k.applied f (h.own ▸ hf)).trans (h.applied f hf)
  stripped p hp e := k.stripped p ((h.joined p).trans hp) (h.stripped p hp e)
  ports := h.ports.trans k.ports

theorem foldl {α : Type} {f : State → α → State} (h : ∀ s a, Rests s (f s a)) (l : List α) (s : State) : Rests s (l.foldl f s) := by
  induction l generalizing s with
  | nil => exact refl s
  | cons a l ih => exact (h s a).trans (ih _)

theorem ite {c : Prop} [Decidable c] (h : Rests s t) (k : Rests s u) : Rests s (if c then t else u) := by
  split <;> assumption

/-- An operation that leaves the own number, the standing of the ports, the tap records and the applied records. -/
theorem of_settled (h : Settled s u) (ht : u.tapEngine = s.tapEngine) (ho : u.orders.applied = s.orders.applied)
    (hl : u.link = s.link := by rfl) : Rests s u where
  own := congrArg Straps.frame h.straps
  joined := settled_joined h
  unbound k e := by rw [State.tap, ht]; exact e
  applied f _ := by rw [ho]
  stripped p _ e k := by rw [State.tap, ht]; exact e k
  ports := .of_link hl

/-- An operation on one tap. -/
theorem of_tap (j : TapNo) (h : Settled s u) (hl : u.link = s.link) (ho : u.orders.applied = s.orders.applied)
    (hk : ∀ k, k ≠ j → u.tap k = s.tap k)
    (hb : s.tap j = Tap.unbound → u.tap j = Tap.unbound)
    (hq : ∀ p, s.joined p = false → (∀ e ∈ (s.tap j).queue, e.pending.get p = false) → ∀ e ∈ (u.tap j).queue, e.pending.get p = false) :
    Rests s u where
  own := congrArg Straps.frame h.straps
  joined := settled_joined h
  unbound k e := by
    by_cases hj : k = j
    · subst hj; exact hb e
    · rw [hk k hj]; exact e
  applied f _ := by rw [ho]
  stripped p hp e k := by
    by_cases hj : k = j
    · subst hj; exact hq p hp (e k)
    · rw [hk k hj]; exact e k
  ports := .of_link hl

theorem of_tapRests (h : Settled s u) (hd : PortsRest s u)
    (ho : u.orders.applied = s.orders.applied) (hk : ∀ k, TapRests (s.tap k) (u.tap k)) : Rests s u where
  own := congrArg Straps.frame h.straps
  joined := settled_joined h
  unbound k e := (hk k).unbound e
  applied f _ := by rw [ho]
  stripped p _ e k := (hk k).entries p (e k)
  ports := hd

end Rests

theorem rests_post (tag code : Word16) (r : DirectiveResult) (s : State) : Rests s (postResult tag code r s) := .of_settled (settled_post ..) rfl rfl

theorem rests_raise (info : EventInfo) (s : State) : Rests s (raise info s) := .of_settled (settled_raise ..) rfl rfl

theorem not_joined_of_down (h : ¬ (s.port p).up) : ¬ s.joined p = true := fun k => h (.inl (by simpa [State.joined] using k))

/-- Frames go into the control queues of Joined ports alone. -/
theorem rests_queueing (hs : Settled s u) (h : Queueing s u) (hd : ∀ p, ¬ s.joined p = true → u.port p = s.port p) : Rests s u where
  own := congrArg Straps.frame hs.straps
  joined := settled_joined hs
  unbound k e := by rw [State.tap, h.only]; exact e
  applied f _ := by rw [h.only]
  stripped p _ e k := by rw [State.tap, h.only]; exact e k
  ports := ⟨fun p hp => hd p (not_joined_of_down hp), fun p _ => by rw [h.port p]; exact ⟨rfl, rfl⟩, fun p _ => by rw [h.port p]; exact ⟨rfl, rfl⟩⟩

theorem rests_notified (hs : Settled s u) (h : Notified s u) : Rests s u := .of_settled hs h.tapEngine (by rw [h.orders]) h.link

theorem rests_broadcast (make : Word16 → Port → Body) (s : State) : Rests s (broadcast make s) :=
  rests_queueing (settled_broadcast ..) (queueing_broadcast ..) fun p hp => by rw [broadcast_port, if_neg hp]

theorem rests_sendUnicast (d : FrameNo) (b : Body) (s : State) : Rests s (sendUnicast d b s) := by
  refine rests_queueing (settled_sendUnicast ..) (queueing_sendUnicast ..) fun p hp => ?_
  cases h : s.openRoute d with
  | none => rw [sendUnicast_of_closed h]; rfl
  | some q =>
    rw [sendUnicast_of_open h]
    rcases port_cases q p with rfl | rfl
    · exact absurd (openRoute_eq_some_iff.mp h).2 hp
    · rw [onPort_other]

theorem rests_notify (left : Option FrameNo) (before s : State) : Rests s (notify left before s) :=
  rests_notified (settled_notify ..) (notified_notify ..)

theorem rests_settleTap (j : TapNo) (s : State) : Rests s (settleTap j s) := by
  refine .of_tapRests (settled_settleTap ..) (.of_link (settleTap_only j s).link) (by rw [(settleTap_only j s).orders]) fun k => ?_
  rw [settleTap_tap]
  split
  · exact tapRests_settled _
  · exact .refl _

theorem rests_advance (s : State) : Rests s (advance s) := by
  refine .of_tapRests (settled_advance s) (.of_link (advance_link s)) (by rw [advance_orders]) fun k => ?_
  rw [advance_tap]
  exact tapRests_settled _

theorem grant_down (q r : Port) (hr : ¬ (s.port r).up) : (grant q s).port r = s.port r := by
  rcases port_cases q r with rfl | rfl
  · rw [grant_of_down _ s (not_or.mp hr)]
  · exact (granted q s).other

theorem grant_sending (q r : Port) (hr : (s.port r).inTransmission.isSome = true) : (grant q s).port r = s.port r := by
  rcases port_cases q r with rfl | rfl
  · rw [grant_of_busy _ s hr]
  · exact (granted q s).other

theorem rests_grant (p : Port) (s : State) : Rests s (grant p s) :=
  .of_tapRests (settled_grant p s) ⟨fun _ => grant_down p _, (steady_grant p s).sending, fun q hq => by
    rw [grant_sending p q hq]; exact ⟨rfl, rfl⟩⟩ (by rw [(granted p s).orders]) (grant_rests p s)

theorem rests_startDue (s : State) : Rests s (startDue s) := by
  refine ⟨congrArg Straps.frame (settled_startDue s).straps, settled_joined (settled_startDue s), fun k e => ?_,
    fun f _ => ?_, fun p _ e k => ?_, .of_link (by rw [startDue_only])⟩
  · rw [startDue_tap, e]
    exact if_neg fun h => nomatch h.1
  · have horders : (startDue s).orders = s.orders := by rw [startDue_only]
    rw [horders]
  · rw [startDue_tap, Tap.due]
    split <;> exact e k

theorem rests_orders (f : RackOrders → RackOrders) (s : State) (h : (f s.orders).applied = s.orders.applied) : Rests s (s.onOrders f) :=
  .of_settled (settled_orders ..) rfl h

theorem rests_orderCounters (f : OrderCounters → OrderCounters) (s : State) : Rests s (s.onOrderCounters f) :=
  .of_settled (settled_orders ..) rfl rfl

theorem rests_armTapOf (g : Fin 16) (time : TimeValue) (s : State) (j : TapNo) : Rests s (armTapOf g time s j) := by
  unfold armTapOf
  split
  · split
    · next hi =>
      refine .of_tap j (settled_tap ..) rfl rfl (fun k hk => onTap_other s _ hk) (fun e => ?_) fun p _ e => ?_
      · rw [e] at hi
        exact nomatch hi.1
      · rw [onTap_self]
        exact e
    · exact rests_orderCounters ..
  · exact .refl s

theorem rests_applyArm (g : Fin 16) (time : TimeValue) (rackSeq : Nat) (s : State) : Rests s (applyArm g time rackSeq s) := by
  have k := Rests.foldl (fun u j => rests_armTapOf g time u j) eight s
  unfold applyArm
  exact .ite (((k.trans (rests_startDue _)).trans (rests_orderCounters ..)).trans (rests_raise ..)) k

/-- R54: a new entry waits through Joined ports alone. -/
theorem makeEntry_pending (j : TapNo) (load : EntryLoad) (hp : s.joined p = false) : (s.makeEntry j load).pending.get p = false := by
  have hdests : s.destsThrough (s.tap j).dests p = 0 := by
    rw [destsThrough_eq, hp]
    simp only [Bool.and_false]
    rfl
  have hpending : (s.makeEntry j load).pending.get p = (s.destsThrough (s.tap j).dests p != 0) := by cases p <;> rfl
  rw [hpending, hdests]
  rfl

theorem rests_abandonPass (j : TapNo) (s : State) (hb : s.tap j ≠ Tap.unbound) : Rests s (abandonPass j s) := by
  have honly := onlyTap_abandonPass (t := j) s
  refine .of_tap j (settled_abandonPass ..) (by rw [honly.1]) (by rw [honly.1]) honly.2.2.1 (fun e => absurd e hb) fun p hp e => ?_
  rw [abandonPass_tap]
  split
  · exact e
  · unfold Tap.mark
    split
    · intro d hd
      rcases List.mem_append.mp hd with hd | hd
      · exact e d hd
      · rw [List.mem_singleton.mp hd]
        exact makeEntry_pending j _ hp
    · exact e

theorem rests_tapState (j : TapNo) (f : Tap → Tap) (s : State) (hb : s.tap j ≠ Tap.unbound) (hq : (f (s.tap j)).queue = (s.tap j).queue ∨
    (f (s.tap j)).queue = []) : Rests s (s.onTap j f) := by
  refine .of_tap j (settled_tap ..) rfl rfl (fun k hk => onTap_other s _ hk) (fun e => absurd e hb) fun p _ e => ?_
  rw [onTap_self]
  rcases hq with hq | hq
  · rw [hq]; exact e
  · rw [hq]; exact fun d hd => absurd hd List.not_mem_nil

theorem ne_unbound {k : Tap} (h : k.state ≠ .unbound) : k ≠ Tap.unbound := fun e => h (congrArg Tap.state e)

theorem rests_haltTap (j : TapNo) (s : State) : Rests s (haltTap j s) := by
  have drained (h : (s.tap j).state ≠ .unbound) :
      Rests s ((abandonPass j (s.onTap j fun k => { k with queue := [] })).onTap j fun k => { k with state := .draining }) := by
    have hempty : (s.onTap j fun k => { k with queue := [] }).tap j ≠ Tap.unbound := ne_unbound (by rw [onTap_self]; exact h)
    refine ((rests_tapState j _ s (ne_unbound h) (.inr rfl)).trans (rests_abandonPass j _ hempty)).trans
      (rests_tapState j _ _ (ne_unbound ?_) (.inl rfl))
    have hplace : ∀ k : Tap, ∀ e, (k.mark e).state = k.state := fun k e => by
      unfold Tap.mark
      split_ifs <;> rfl
    rw [abandonPass_tap, onTap_self]
    split
    · exact h
    · rw [hplace]
      exact h
  have bound {st : TapState} (h : (s.tap j).state = st) (hst : st ≠ .unbound) : s.tap j ≠ Tap.unbound := ne_unbound (h ▸ hst)
  unfold haltTap
  split
  · next h => exact rests_tapState j _ s (bound h nofun) (.inl rfl)
  · next h => exact drained (by rw [h]; exact nofun)
  · next h => exact drained (by rw [h]; exact nofun)
  · next h => exact rests_tapState j _ s (bound h nofun) (.inr rfl)
  · exact .refl s
  · exact .refl s

theorem rests_haltTapOf (g : Fin 16) (s : State) (j : TapNo) : Rests s (haltTapOf g s j) := by
  unfold haltTapOf
  exact .ite ((rests_haltTap j s).trans (rests_settleTap ..)) (.refl s)

theorem rests_claimBelief (f : FrameNo) (s : State) : Rests s (claimBelief f s) := by
  refine .of_settled (settled_claimBelief ..) ?_ ?_ ?_ <;> (unfold claimBelief elect; split_ifs <;> rfl)

theorem rests_applyDirective (rest : State → State) (d : RackDirective) (rackSeq : Nat) (s : State) : Rests s (applyDirective rest d rackSeq s) := by
  cases d with
  | masterClaim f => exact .ite (.refl s) ((rests_claimBelief ..).trans (rests_notify ..))
  | rackArm g time => exact rests_applyArm ..
  | rackHalt g => exact .foldl (fun s j => rests_haltTapOf g s j) _ _

theorem rests_refuseEntry (e : PendingEntry) (f : FrameNo) (r : RefusalReason) (s : State) : Rests s (refuseEntry e f r s) :=
  (rests_post ..).trans (rests_raise ..)

theorem rests_completePending (seq : Word16) (s : State) : Rests s (completePending seq s) := by
  unfold completePending
  split
  · exact .refl s
  · exact ((rests_orders _ s rfl).trans (.foldl (fun _ _ => rests_refuseEntry ..) _ _)).trans (rests_post ..)

theorem rests_finishOrder (o : FrameNo) (seq : Word16) (d : RackDirective) (rackSeq : Nat) (s : State) : Rests s (finishOrder o seq d rackSeq s) := by
  unfold finishOrder
  exact .ite ((rests_raise ..).trans (rests_completePending ..)) (rests_raise ..)

/-- An order of the own frame is recorded under its own number. -/
theorem rests_recordOrder (rackSeq : Nat) (master : FrameNo) (seq : Word16) (s : State) : Rests s (recordOrder rackSeq master s.own seq s) := by
  refine ⟨rfl, fun _ => rfl, fun _ => id, fun f hf => ?_, fun _ _ => id, .of_link rfl⟩
  have : s.own.val ≠ f.val := fun e => hf (Fin.ext e.symm)
  simp [recordOrder, this]

theorem rests_orderOwn (e : PendingEntry) (s : State) : Rests s (orderOwn e s) := by
  have issued : Rests s (issueOrder s.own e.seq e.directive s) := by
    unfold issueOrder
    exact (rests_orders _ s rfl).trans (rests_broadcast ..)
  unfold orderOwn order applyOrder
  refine .ite ((issued.trans ?_).trans (rests_orderCounters ..)) ((rests_orders _ s rfl).trans (rests_refuseEntry ..))
  split
  · have := rests_recordOrder s.orders.nextRackSeq s.own e.seq (issueOrder s.own e.seq e.directive s)
    rw [issued.own] at this
    exact (this.trans (rests_applyDirective ..)).trans (rests_finishOrder ..)
  · exact rests_orderCounters ..

theorem rests_dealEntry (s : State) (e : PendingEntry) : Rests s (dealEntry s e) := by
  unfold dealEntry
  split
  · exact rests_orders _ s rfl
  · exact .ite (rests_orderOwn e s) ((rests_orders _ s rfl).trans (rests_sendUnicast ..))

theorem rests_resubmit (before s : State) : Rests s (resubmit before s) := by
  unfold resubmit
  exact .ite (.refl s) (.foldl rests_dealEntry _ _)

theorem rests_updateIfChanged (before s : State) : Rests s (updateIfChanged before s) := by
  unfold updateIfChanged makeRosterUpdate
  exact .ite (.refl s) ((rests_broadcast ..).trans (.of_settled (by constructor <;> first | rfl | exact fun _ => rfl) rfl rfl))

theorem rests_round (before noted s : State) : Rests s (round before noted s) := by
  have hsync (u : State) : Rests u (syncResend (syncRefresh u)) :=
    .of_settled ((settled_syncRefresh u).trans (settled_syncResend _)) (by rw [(synced u).parts]) (by rw [(synced u).parts])
      (by rw [(synced u).parts])
  unfold round announce
  exact ((((((rests_advance s).trans (rests_notify ..)).trans (rests_resubmit ..)).trans (rests_updateIfChanged ..)).trans (hsync _)).trans
    (rests_grant ..)).trans (rests_grant ..)

theorem rests_concludeFrom (before noted s : State) : Rests s (concludeFrom before noted s) :=
  ((rests_round ..).trans (rests_round ..)).trans (rests_round ..)

theorem rests_concludeOrder (before s : State) : Rests s (concludeOrder before s) := (rests_resubmit before s).trans (rests_concludeFrom ..)

end Sys2Proof.Machine

/-! PROOFS. The directives on a tap's end and on a roster entry (R38, R41, R42, R100, R102, R103). -/

namespace Sys2Proof.Machine
variable {s t u : State} {tag : Word16}

/-! ### Taps (R38, R41, R42) -/

theorem stopTap_eq {tap : Byte} (hv : (s.region 0).valid = true) :
    exec (.stopTap tag tap) s = .next (onTapNumber tag codeStopTap tap (stopTapAt tag) s.taken) := exec_of_directive (.stopTap tag tap) rfl hv

theorem haltTap_eq {tap : Byte} (hv : (s.region 0).valid = true) :
    exec (.haltTap tag tap) s = .next (onTapNumber tag 0x06 tap (haltTapAt tag) s.taken) := exec_of_directive (.haltTap tag tap) rfl hv

theorem haltTapAt_of_bound {k : TapNo} (h : (s.tap k).state ≠ .unbound) :
    haltTapAt tag k s = conclude s (postResult tag 0x06 .done (haltTap k s)) := if_neg h

/-- Settles O34: by the tap's state; what concludes the unbinding leaves an Unbound tap as it is. -/
theorem stopHaltAndUnbindEndATap : Obligations.StopHaltAndUnbindEndATap := by
  refine ⟨fun s tag tap hv => ?_, fun s tag tap hv => ?_⟩
  · intro c refused
    have hexec : exec c s = .next (onTapNumber tag 0x02 tap (unbindTapAt tag) s.taken) := exec_of_directive (.unbindTap tag tap) rfl hv
    refine ⟨fun h => hexec.trans (congrArg _ (onTapNumber_of_lt _ _ _ h)), fun t ht => ?_⟩
    replace hexec : exec c s = .next (unbindTapAt tag t s.taken) := hexec.trans (congrArg _ (onTapNumber_of_le _ _ _ ht))
    have hat (st : TapState) (h : (s.tap t).state = st) : (s.taken.tap t).state = st := h
    refine ⟨fun h => hexec.trans (congrArg _ ?_), fun h => hexec.trans (congrArg _ ?_), fun h => ?_⟩
    · simp only [unbindTapAt, hat _ h]
    · rcases h with h | h | h <;> simp only [unbindTapAt, hat _ h]
    · have hcleared : unbindTapAt tag t s.taken = conclude s.taken (postResult tag 0x02 .done (clearTap t s.taken)) := by
        rcases h with h | h <;> simp only [unbindTapAt, hat _ h]
      rw [hcleared] at hexec
      have hs := settled_conclude s.taken (postResult tag 0x02 .done (clearTap t s.taken))
      have hr := rests_concludeFrom s.taken s.taken (postResult tag 0x02 .done (clearTap t s.taken))
      refine ⟨_, hexec, hr.unbound t ?_, ?_, fun i hi => ?_, hs.channel, hs.mirrors, congrArg Roster.entries rfl |>.trans hs.entries, hs.time⟩
      · exact onTap_self s.taken t fun _ => Tap.unbound
      · rw [State.region, hs.regions]
        exact setRegion_self ..
      · rw [State.region, hs.regions]
        exact setRegion_other _ _ hi
  · intro stop halt u
    have hstop : exec stop s = .next (onTapNumber tag codeStopTap tap (stopTapAt tag) u) := stopTap_eq hv
    have hhalt : exec halt s = .next (onTapNumber tag 0x06 tap (haltTapAt tag) u) := haltTap_eq hv
    refine ⟨fun h => ⟨hstop.trans (congrArg _ (onTapNumber_of_lt _ _ _ h)), hhalt.trans (congrArg _ (onTapNumber_of_lt _ _ _ h))⟩,
      fun t ht => ?_⟩
    replace hstop : exec stop s = .next (stopTapAt tag t u) := hstop.trans (congrArg _ (onTapNumber_of_le _ _ _ ht))
    replace hhalt : exec halt s = .next (haltTapAt tag t u) := hhalt.trans (congrArg _ (onTapNumber_of_le _ _ _ ht))
    intro st waits
    have hat {k : TapState} (h : st = k) : (u.tap t).state = k := h
    have bound {k : TapState} (h : st = k) (hk : k ≠ .unbound) : exec halt s = .next (conclude u (postResult tag 0x06 .done (haltTap t u))) :=
      hhalt.trans (congrArg _ (haltTapAt_of_bound (hat h ▸ hk)))
    refine ⟨fun h => ⟨hstop.trans (congrArg _ ?_), hhalt.trans (congrArg _ (if_pos h))⟩, fun h => ⟨hstop.trans (congrArg _ ?_), ?_⟩,
      fun h => ⟨hstop.trans (congrArg _ ?_), ?_⟩, fun h => hstop.trans (congrArg _ ?_), fun h hw => hstop.trans (congrArg _ ?_),
      fun h hw => hstop.trans (congrArg _ ?_), fun h => ?_, fun h => ⟨hstop.trans (congrArg _ ?_), ?_⟩⟩
    · simp only [stopTapAt, hat h]; rfl
    · simp only [stopTapAt, hat h]; rfl
    · rw [bound h nofun]
      simp only [haltTap, hat h]
    · simp only [stopTapAt, hat h]; rfl
    · rw [bound h nofun]
      simp only [haltTap, hat h]
    · simp only [stopTapAt, hat h]; rfl
    · simp only [stopTapAt, hat h]
      exact if_neg hw.not_ge
    · simp only [stopTapAt, hat h]
      exact if_pos hw
    · rcases h with h | h
      · rw [bound h nofun]
        simp only [haltTap, hat h]
      · rw [bound h nofun]
        simp only [haltTap, hat h]
    · simp only [stopTapAt, hat h]; rfl
    · rw [bound h nofun]
      simp only [haltTap, hat h]

/-! ### Roster entries (R100, R102, R103) -/

theorem onEntry_onEntry (n : FrameNo) (f g : RosterEntry → RosterEntry) (s : State) :
    (s.onEntry n f).onEntry n g = s.onEntry n fun e => g (f e) := by
  simp [State.onEntry, State.onRoster]

theorem onEntry_congr {n : FrameNo} {f g : RosterEntry → RosterEntry} (h : f (s.entry n) = g (s.entry n)) : s.onEntry n f = s.onEntry n g := by
  unfold State.onEntry State.onRoster
  exact congrArg (fun e => { s with roster := { s.roster with entries := s.roster.entries.set n e } }) h

/-- R102: closing both gates, by whether the accept gate is open. -/
theorem closeGates_eq (f : FrameNo) (s : State) : closeGates f s =
    (if (s.entry f).acceptGate then sourceLeft f s else s).onEntry f fun e => { e with sendGate := false, acceptGate := false } := by
  unfold closeGates closeAccept
  split
  · have hsource : sourceLeft f (s.onEntry f fun e => { e with acceptGate := false }) =
        (sourceLeft f s).onEntry f fun e => { e with acceptGate := false } := rfl
    rw [hsource, onEntry_onEntry]
  · next h =>
    rw [Bool.not_eq_true] at h
    refine onEntry_congr ?_
    rw [← h]

theorem electIfNeeded_only (before s : State) : electIfNeeded before s = s.onRoster fun r =>
    { r with belief := (electIfNeeded before s).roster.belief } := by
  unfold electIfNeeded elect
  split
  · split <;> rfl
  · split
    · split <;> rfl
    · split <;> rfl

/-- R103: a Lost entry forgotten. -/
theorem enterEntry_absent_of_lost {f : FrameNo} (h : (s.entry f).state = .lost) :
    enterEntry f .absent s = leaveWaitSet f (s.onEntry f fun _ => RosterEntry.absent) := by
  unfold enterEntry
  dsimp only
  rw [if_neg (by rw [h]; exact nofun), onEntry_onEntry]

/-- R103: what Forget Frame makes of a Lost entry, before its event is concluded. -/
def State.forgotten (s : State) (f : FrameNo) : State := clearRecord f (leaveWaitSet f (s.onEntry f fun _ => RosterEntry.absent))

theorem forgotten_applied (f : FrameNo) (s : State) : (s.forgotten f).orders.applied[f] = none := by
  simp [State.forgotten, clearRecord, leaveWaitSet]

theorem forgetAt_of_lost {f : FrameNo} (h : (s.entry f).state = .lost) :
    forgetAt tag f s = conclude s (postResult tag 0x22 .done (electIfNeeded s (s.forgotten f))) := by
  rw [forgetAt, if_pos h, enterEntry_absent_of_lost h]
  rfl

theorem onOther_of_bad {code : Word16} {frame : Byte} (act : FrameNo → State → State) (h : 7 < frame.toNat ∨ frame.toNat = s.own.val) :
    onOther tag code frame act s = postResult tag code .badArgument s := by
  unfold onOther
  rcases h with h | h
  · rw [toEight_of_lt h]
  · rw [toEight_of_le h]
    exact if_pos rfl

theorem onOther_of_other {code : Word16} {frame : Byte} {f : FrameNo} (act : FrameNo → State → State) (h : frame.toNat = f.val)
    (hne : f ≠ s.own) : onOther tag code frame act s = act f s := by
  unfold onOther
  rw [toEight_of_le h]
  exact if_neg hne

theorem exec_forgetFrame {frame : Byte} {f : FrameNo} (hv : (s.region 0).valid = true) (hf : frame.toNat = f.val) (hne : f ≠ s.own)
    (h : (s.entry f).state = .lost) : exec (.forgetFrame tag frame) s =
      .next (conclude s.taken (postResult tag 0x22 .done (electIfNeeded s.taken (s.taken.forgotten f)))) := by
  have hexec : exec (.forgetFrame tag frame) s = .next (onOther tag 0x22 frame (forgetAt tag) s.taken) :=
    exec_of_directive (.forgetFrame tag frame) rfl hv
  rwa [onOther_of_other (s := s.taken) _ hf hne, forgetAt_of_lost (s := s.taken) h] at hexec

/-- R103: what Forget Frame leaves, its event concluded. -/
theorem concluded_forgotten (tag : Word16) (before s : State) {f : FrameNo} (hne : f ≠ s.own) :
    let t := conclude before (postResult tag 0x22 .done (electIfNeeded s (s.forgotten f)))
    t.entry f = RosterEntry.absent ∧ (∀ g, g ≠ f → t.entry g = s.entry g) ∧ t.orders.applied[f] = none ∧ t.channel = s.channel ∧
      t.regions = s.regions ∧ t.mirrorStore = s.mirrorStore ∧ t.clock.time = s.clock.time := by
  obtain ⟨b, hb⟩ : ∃ b, electIfNeeded s (s.forgotten f) = (s.forgotten f).onRoster fun r => { r with belief := b } :=
    ⟨_, electIfNeeded_only ..⟩
  have hs := (settled_post (electIfNeeded s (s.forgotten f)) tag 0x22 .done).trans (settled_conclude before _)
  have hr := (rests_post tag 0x22 .done (electIfNeeded s (s.forgotten f))).trans (rests_concludeFrom before before _)
  change Rests _ (conclude before _) at hr
  intro t
  change Settled _ t at hs
  change Rests _ t at hr
  generalize t = t at hs hr
  rw [hb] at hs hr
  refine ⟨?_, fun g hg => ?_, (hr.applied f hne).trans (forgotten_applied f s), hs.channel, hs.regions, hs.mirrors, hs.time⟩
  · rw [State.entry, hs.entries]
    exact onEntry_self s f fun _ => RosterEntry.absent
  · rw [State.entry, hs.entries]
    exact onEntry_other s (fun _ => RosterEntry.absent) hg

/-- Settles O39: by the frame number and the state of its entry. -/
theorem frameDirectivesChangeTheirEntry : Obligations.FrameDirectivesChangeTheirEntry := by
  refine ⟨fun s tag frame hv => ?_, fun s tag frame hv => ?_⟩
  · intro admitting bar ack
    have hadmit : exec admitting s = .next (onOther tag 0x20 frame (onMember tag 0x20 openGates) s.taken) :=
      exec_of_directive (.admitFrame tag frame) rfl hv
    have hbar : exec bar s = .next (onOther tag 0x21 frame (onMember tag 0x21 closeGates) s.taken) :=
      exec_of_directive (.barFrame tag frame) rfl hv
    have hack : exec ack s = .next (acknowledgeRestart tag frame s.taken) := exec_of_directive (.acknowledgeRestart tag frame) rfl hv
    refine ⟨fun h => ⟨hadmit.trans (congrArg _ (onOther_of_bad _ h)), hbar.trans (congrArg _ (onOther_of_bad _ h))⟩,
      fun h => hack.trans (congrArg _ ?_), fun f hf => ⟨hack.trans (congrArg _ ?_), fun hne ha => ?_, fun hne ha => ?_⟩⟩
    · simp only [acknowledgeRestart, toEight_of_lt h]
    · simp only [acknowledgeRestart, toEight_of_le hf]
    · exact ⟨hadmit.trans (congrArg _ ((onOther_of_other (s := s.taken) _ hf hne).trans (if_pos ha))),
        hbar.trans (congrArg _ ((onOther_of_other (s := s.taken) _ hf hne).trans (if_pos ha)))⟩
    · refine ⟨hadmit.trans (congrArg _ ((onOther_of_other (s := s.taken) _ hf hne).trans (if_neg ha))),
        hbar.trans (congrArg _ ((onOther_of_other (s := s.taken) _ hf hne).trans ((if_neg ha).trans ?_)))⟩
      rw [closeGates_eq]
      rfl
  · intro c
    have hexec : exec c s = .next (onOther tag 0x22 frame (forgetAt tag) s.taken) := exec_of_directive (.forgetFrame tag frame) rfl hv
    refine ⟨fun h => hexec.trans (congrArg _ (onOther_of_bad _ h)), fun f hf hne => ⟨fun h => ?_, fun h => ?_⟩⟩
    · exact hexec.trans (congrArg _ ((onOther_of_other (s := s.taken) _ hf hne).trans (if_neg h)))
    · obtain ⟨hentry, hothers, happlied, hleft⟩ := concluded_forgotten tag s.taken s.taken hne
      exact ⟨_, exec_forgetFrame hv hf hne h, hentry, hothers, happlied, hleft⟩

end Sys2Proof.Machine

/-! PROOFS. Candidates, successors and elections (R104, R110), and a belief that is kept or elected afresh. -/

namespace Sys2Proof.Machine
variable {s t u e before noted : State} {f g : FrameNo}

theorem candidate_iff : s.candidate f = true ↔ s.isCandidate f := by
  unfold State.candidate State.counted State.capable State.isCandidate
  split <;> simp

/-- A frame found is the lowest that passes. -/
theorem find_eight_least {test : Fin 8 → Bool} {m : Fin 8} (h : eight.find? test = some m) :
    test m = true ∧ ∀ n, test n = true → m ≤ n := by
  have hm := List.find?_some h
  refine ⟨hm, fun n hn => ?_⟩
  by_contra hlt
  have hmin : ∃ k : Fin 8, test k = true ∧ ∀ j < k, ¬ test j = true := by
    have hex : ∃ k : Fin 8, test k = true := ⟨n, hn⟩
    obtain ⟨k, hk, hleast⟩ := WellFounded.has_min (wellFounded_lt (α := Fin 8)) {k | test k = true} hex
    exact ⟨k, hk, fun j hj h => hleast j h hj⟩
  obtain ⟨k, hk, hleast⟩ := hmin
  have := find_eight_eq_some hk hleast
  rw [h] at this
  obtain rfl := Option.some.inj this
  exact hleast n (not_le.mp hlt) hn

/-- R110: what an election finds. -/
theorem elects_found (s : State) : s.elects (eight.find? s.candidate) := by
  cases h : eight.find? s.candidate with
  | none => exact fun f hf => List.find?_eq_none.mp h f (mem_eight f) (candidate_iff.mpr hf)
  | some f =>
    obtain ⟨hf, hleast⟩ := find_eight_least h
    exact ⟨candidate_iff.mp hf, fun g hg => hleast g (candidate_iff.mpr hg)⟩

/-- R104: the lowest candidate other than the own frame. -/
theorem successor_iff : s.successor = some f ↔ f ≠ s.own ∧ s.isCandidate f ∧ ∀ g, g ≠ s.own → s.isCandidate g → f ≤ g := by
  have hfind : s.successor = eight.find? fun g => decide (g ≠ s.own) && s.candidate g := by
    rw [State.successor, State.others, List.find?_filter]
    simp only [decide_eq_true_eq, Bool.decide_and, Bool.decide_eq_true]
  rw [hfind]
  refine ⟨fun h => ?_, fun ⟨hne, hf, hleast⟩ => find_eight_eq_some (by simp [hne, candidate_iff, hf]) fun n hn hc => ?_⟩
  · obtain ⟨hf, hleast⟩ := find_eight_least h
    simp only [Bool.and_eq_true, decide_eq_true_eq, candidate_iff] at hf hleast
    exact ⟨hf.1, hf.2, fun g hg hc => hleast g ⟨hg, hc⟩⟩
  · simp only [Bool.and_eq_true, decide_eq_true_eq, candidate_iff] at hc
    exact absurd (hleast n hc.1 hc.2) hn.not_ge

/-- R110: what makes candidates: the entries, the own frame's part in the roster, and whether the part is Active. -/
structure SameField (s t : State) : Prop where
  own : t.own = s.own
  entries : t.roster.entries = s.roster.entries
  masterCapable : t.roster.masterCapable = s.roster.masterCapable
  active : t.roster.ownState = .active ↔ s.roster.ownState = .active

theorem SameField.isCandidate (h : SameField s t) (f : FrameNo) : t.isCandidate f ↔ s.isCandidate f := by
  unfold State.isCandidate State.entry
  rw [h.own, h.entries, h.masterCapable, h.active]

theorem SameField.elects (h : SameField s t) {b : Option FrameNo} (hb : s.elects b) : t.elects b := by
  cases b with
  | none => exact fun f hf => hb f ((h.isCandidate f).mp hf)
  | some f => exact ⟨(h.isCandidate f).mpr hb.1, fun g hg => hb.2 g ((h.isCandidate g).mp hg)⟩

theorem SameField.of_roster (ho : t.own = s.own) (hr : t.roster = s.roster) : SameField s t := by
  refine ⟨ho, ?_, ?_, ?_⟩ <;> rw [hr]

theorem SameField.trans (h : SameField s t) (k : SameField t u) : SameField s u :=
  ⟨k.own.trans h.own, k.entries.trans h.entries, k.masterCapable.trans h.masterCapable, k.active.trans h.active⟩

theorem ShowsAs.sameField (h : ShowsAs s t) : SameField s t := ⟨h.own, h.entries, h.masterCapable, by rw [h.ownState]⟩

/-! ### A leave that moves on, and the own state -/

/-- R104: the leave phase goes with Leaving. -/
def State.leaveFits (s : State) : Prop := s.roster.ownState = .leaving ↔ s.roster.phase ≠ .none

theorem leaveFits_of_right (h : leaveRight s) : s.leaveFits := h.2.1

theorem announceLeave_fits (h : s.leaveFits) : (announceLeave s).leaveFits := by
  unfold announceLeave
  split
  · next hp =>
    have hl : s.roster.ownState = .leaving := h.mpr (by rw [hp.1]; exact nofun)
    exact ⟨fun _ => nofun, fun _ => hl⟩
  · exact h

theorem announceLeave_ownState (s : State) : (announceLeave s).roster.ownState = s.roster.ownState := by
  unfold announceLeave
  split <;> rfl

theorem completeLeave_active (h : s.leaveFits) : (completeLeave s).leaveFits ∧
    ((completeLeave s).roster.ownState = .active ↔ s.roster.ownState = .active) := by
  unfold completeLeave
  split
  · next hp =>
    have hl : s.roster.ownState = .leaving := h.mpr (by rw [hp.1]; exact nofun)
    refine ⟨⟨nofun, fun k => absurd rfl k⟩, ?_⟩
    rw [hl]
    exact ⟨nofun, nofun⟩
  · exact ⟨h, Iff.rfl⟩

theorem advance_active (h : s.leaveFits) : (advance s).leaveFits ∧ ((advance s).roster.ownState = .active ↔ s.roster.ownState = .active) := by
  have hr : (settleTaps s).roster = s.roster := (settleTaps_only s).roster
  have hv : (settleTaps s).leaveFits := by
    unfold State.leaveFits
    rw [hr]
    exact h
  obtain ⟨hfits, hactive⟩ := completeLeave_active (announceLeave_fits hv)
  rw [announceLeave_ownState, hr] at hactive
  rw [advance]
  exact ⟨hfits, hactive⟩

theorem sameField_advance (h : s.leaveFits) : SameField s (advance s) := by
  refine ⟨advance_own s, advance_entries s, ?_, (advance_active h).2⟩
  rw [advance_roster]

theorem sameField_round (hc : e.calm noted) (h : e.leaveFits) : SameField e (round before noted e) ∧ (round before noted e).leaveFits := by
  obtain ⟨hshow, -⟩ := round_shows (before := before) hc
  refine ⟨(sameField_advance h).trans hshow.sameField, ?_⟩
  unfold State.leaveFits
  rw [hshow.ownState, hshow.phase]
  exact (advance_active h).1

/-- Concluding an event that deals with nothing pending leaves what makes candidates. -/
theorem sameField_concludeFrom (hc : e.calm noted) (h : e.leaveFits) : SameField e (concludeFrom before noted e) := by
  obtain ⟨h1, f1⟩ := sameField_round (before := before) hc h
  unfold concludeFrom
  dsimp only
  generalize round before noted e = s1 at h1 f1
  obtain ⟨h2, f2⟩ := sameField_round (before := s1) (noted := s1) (.inl rfl) f1
  generalize round s1 s1 s1 = s2 at h2 f2
  obtain ⟨h3, -⟩ := sameField_round (before := s2) (noted := s2) (.inl rfl) f2
  exact (h1.trans h2).trans h3

theorem belief_concludeFrom (hc : e.calm noted) : (concludeFrom before noted e).roster.belief = e.roster.belief :=
  (steady_concludeFrom_of_calm hc).belief

/-! ### A belief kept or elected (R110) -/

theorem elect_belief (s : State) : (elect s).roster.belief = eight.find? s.candidate := rfl

theorem electIfNeeded_of_none_same (h : s.roster.belief = none) (hv : s.view = before.view) : electIfNeeded before s = s := by
  simp only [electIfNeeded, h]
  exact if_pos hv

theorem electIfNeeded_of_none_changed (h : s.roster.belief = none) (hv : s.view ≠ before.view) : electIfNeeded before s = elect s := by
  simp only [electIfNeeded, h]
  exact if_neg hv

/-- R110: the believed frame gives no cause for an election in an operation from `before`. -/
def stands (before s : State) (f : FrameNo) : Prop :=
  if f = s.own then s.roster.ownState = .active else ¬ ((before.entry f).state = .present ∧ (s.entry f).state ≠ .present)

theorem electIfNeeded_of_stands (h : s.roster.belief = some f) (hf : stands before s f) : electIfNeeded before s = s := by
  unfold stands at hf
  simp only [electIfNeeded, h]
  split
  · next ho =>
    rw [if_pos ho] at hf
    exact if_pos hf
  · next ho =>
    rw [if_neg ho] at hf
    exact if_neg hf

theorem electIfNeeded_of_falls (h : s.roster.belief = some f) (hf : ¬ stands before s f) : electIfNeeded before s = elect s := by
  unfold stands at hf
  simp only [electIfNeeded, h]
  split
  · next ho =>
    rw [if_pos ho] at hf
    exact if_neg hf
  · next ho =>
    rw [if_neg ho] at hf
    exact if_pos (not_not.mp hf)

end Sys2Proof.Machine

/-! PROOFS. The Roster Unit's operations on its entries (R90, R91, R94 to R97, R99, R101, R107): what each makes of an entry, and the rest that
it leaves. -/

namespace Sys2Proof.Machine
variable {s t u : State} {f g : FrameNo} {p : Port}

/-- An operation that changes roster entries, with what of the wait set, the mirrors and the applied records goes with them. -/
def EntriesOnly (s u : State) : Prop := u = { s with
  mirrorStore := u.mirrorStore
  roster := { s.roster with entries := u.roster.entries, waitSet := u.roster.waitSet }
  orders := { s.orders with applied := u.orders.applied } }

namespace EntriesOnly

theorem refl (s : State) : EntriesOnly s s := rfl

theorem trans (h : EntriesOnly s t) (k : EntriesOnly t u) : EntriesOnly s u := by
  unfold EntriesOnly at h k ⊢
  rw [k, h]

theorem ite {c : Prop} [Decidable c] (h : EntriesOnly s t) (k : EntriesOnly s u) : EntriesOnly s (if c then t else u) := by
  split <;> assumption

theorem foldl {α : Type} {f : State → α → State} (h : ∀ s a, EntriesOnly s (f s a)) (l : List α) (s : State) : EntriesOnly s (l.foldl f s) := by
  induction l generalizing s with
  | nil => exact refl s
  | cons a l ih => exact (h s a).trans (ih _)

section
variable (h : EntriesOnly s u)
include h

theorem own : u.own = s.own := by unfold EntriesOnly at h; rw [h]; rfl

theorem link : u.link = s.link := by unfold EntriesOnly at h; rw [h]

theorem tapEngine : u.tapEngine = s.tapEngine := by unfold EntriesOnly at h; rw [h]

theorem reporter : u.reporter = s.reporter := by unfold EntriesOnly at h; rw [h]

theorem clock : u.clock = s.clock := by unfold EntriesOnly at h; rw [h]

theorem orders : u.orders = { s.orders with applied := u.orders.applied } := congrArg State.orders h

theorem roster : u.roster = { s.roster with entries := u.roster.entries, waitSet := u.roster.waitSet } := congrArg State.roster h

theorem autoAdmit : u.roster.autoAdmit = s.roster.autoAdmit := by rw [h.roster]

theorem others : u.others = s.others := by rw [State.others, h.own]; rfl

theorem port (p : Port) : u.port p = s.port p := by rw [State.port, h.link]; rfl

end

end EntriesOnly

/-! ### One entry after another -/

/-- Steps that each change their own entry, by what it is and by whether entries are admitted, change every entry of the list. -/
theorem foldl_entry {step : State → FrameNo → State} {F : FrameNo → RosterEntry → RosterEntry} (P : State → Prop)
    (h : ∀ u f, P u → P (step u f) ∧ ∀ g, (step u f).entry g = if g = f then F f (u.entry f) else u.entry g) {l : List FrameNo} (hl : l.Nodup)
    (s : State) (hs : P s) (g : FrameNo) : (l.foldl step s).entry g = if g ∈ l then F g (s.entry g) else s.entry g := by
  induction l generalizing s with
  | nil => rfl
  | cons f l ih =>
    obtain ⟨hf, hl⟩ := List.nodup_cons.mp hl
    obtain ⟨hp, he⟩ := h s f hs
    rw [List.foldl_cons, ih hl _ hp, he]
    by_cases hg : g = f
    · subst hg
      rw [if_neg hf, if_pos rfl, if_pos List.mem_cons_self]
    · rw [if_neg hg]
      exact if_congr (by rw [List.mem_cons, or_iff_right hg]) rfl rfl

theorem others_nodup (s : State) : s.others.Nodup := eight_nodup.filter _

/-! ### Entering a state (R101, R107) -/

/-- R90, R101, R107: what an entry becomes that enters a state. -/
def RosterEntry.entered (st : EntryState) (auto : Bool) (e : RosterEntry) : RosterEntry :=
  if e.state = st then e
  else match st with
    | .present => { e with state := .present, sendGate := auto, acceptGate := auto }
    | .leaving => { e with state := .leaving, sendGate := false }
    | .departed => { e with state := .departed, sendGate := false }
    | .lost => { e with state := .lost }
    | .absent => RosterEntry.absent

theorem entered_state (st : EntryState) (auto : Bool) (e : RosterEntry) : (e.entered st auto).state = st := by
  unfold RosterEntry.entered
  split
  · next h => exact h
  · cases st <;> rfl

/-- What of an entry other than its state and its gates stands where it enters a state other than Absent. -/
theorem entered_rest {st : EntryState} (hst : st ≠ .absent) (auto : Bool) (e : RosterEntry) : e.entered st auto =
    { e with state := (e.entered st auto).state, sendGate := (e.entered st auto).sendGate, acceptGate := (e.entered st auto).acceptGate } := by
  unfold RosterEntry.entered
  split
  · rfl
  · cases st <;> first | rfl | exact absurd rfl hst

theorem onEntry_entry (f : FrameNo) (F : RosterEntry → RosterEntry) (s : State) (g : FrameNo) :
    (s.onEntry f F).entry g = if g = f then F (s.entry f) else s.entry g := by
  by_cases hg : g = f
  · subst hg
    rw [if_pos rfl, onEntry_self]
  · rw [if_neg hg, onEntry_other _ _ hg]

theorem entriesOnly_onEntry (f : FrameNo) (F : RosterEntry → RosterEntry) (s : State) : EntriesOnly s (s.onEntry f F) := rfl

theorem entriesOnly_sourceLeft (f : FrameNo) (s : State) : EntriesOnly s (sourceLeft f s) := rfl

theorem entriesOnly_closeAccept (f : FrameNo) (s : State) : EntriesOnly s (closeAccept f s) := by
  unfold closeAccept
  exact .ite rfl (.refl s)

theorem entriesOnly_resetGates (f : FrameNo) (s : State) : EntriesOnly s (resetGates f s) := by
  unfold resetGates
  exact (entriesOnly_closeAccept f s).trans rfl

theorem entriesOnly_leaveWaitSet (f : FrameNo) (s : State) : EntriesOnly s (leaveWaitSet f s) := rfl

theorem entriesOnly_sourceStanding (f : FrameNo) (old : EntryState) (s : State) : EntriesOnly s (sourceStanding f old s) := by
  unfold sourceStanding
  exact .ite rfl (.refl s)

theorem entriesOnly_enterEntry (f : FrameNo) (st : EntryState) (s : State) : EntriesOnly s (enterEntry f st s) := by
  unfold enterEntry
  dsimp only
  split
  · exact .refl s
  · cases st with
    | present => exact (entriesOnly_onEntry f _ s).trans (entriesOnly_resetGates f _)
    | leaving => exact (entriesOnly_onEntry f _ s).trans ((entriesOnly_onEntry f _ _).trans (entriesOnly_sourceStanding f _ _))
    | departed => exact (entriesOnly_onEntry f _ s).trans ((entriesOnly_onEntry f _ _).trans (entriesOnly_sourceStanding f _ _))
    | lost => exact (entriesOnly_onEntry f _ s).trans ((entriesOnly_sourceStanding f _ _).trans (entriesOnly_leaveWaitSet f _))
    | absent => exact (entriesOnly_onEntry f _ s).trans ((entriesOnly_onEntry f _ _).trans (entriesOnly_leaveWaitSet f _))

theorem sourceLeft_entry (f : FrameNo) (s : State) (g : FrameNo) : (sourceLeft f s).entry g = s.entry g := rfl

theorem sourceStanding_entry (f : FrameNo) (old : EntryState) (s : State) (g : FrameNo) : (sourceStanding f old s).entry g = s.entry g := by
  unfold sourceStanding
  split <;> rfl

theorem closeAccept_entry (f : FrameNo) (s : State) (g : FrameNo) : (closeAccept f s).entry g =
    if g = f then { s.entry f with acceptGate := false } else s.entry g := by
  unfold closeAccept
  split
  · rw [sourceLeft_entry, onEntry_entry]
  · next h =>
    rw [Bool.not_eq_true] at h
    split
    · next hg => rw [hg, ← h]
    · rfl

theorem resetGates_entry (f : FrameNo) (s : State) (g : FrameNo) : (resetGates f s).entry g =
    if g = f then { s.entry f with sendGate := s.roster.autoAdmit, acceptGate := s.roster.autoAdmit } else s.entry g := by
  unfold resetGates
  rw [onEntry_entry, closeAccept_entry, closeAccept_entry]
  split <;> simp

theorem enterEntry_entry (f : FrameNo) (st : EntryState) (s : State) (g : FrameNo) : (enterEntry f st s).entry g =
    if g = f then (s.entry f).entered st s.roster.autoAdmit else s.entry g := by
  unfold enterEntry RosterEntry.entered
  dsimp only
  split
  · next h =>
    split
    · next hg => rw [hg]
    · rfl
  · cases st with
    | present =>
      change (resetGates f (s.onEntry f fun e => { e with state := .present })).entry g = _
      have auto : (s.onEntry f fun e => { e with state := .present }).roster.autoAdmit = s.roster.autoAdmit := rfl
      rw [resetGates_entry, onEntry_entry, onEntry_entry, auto]
      split <;> simp
    | leaving =>
      dsimp only
      rw [sourceStanding_entry, onEntry_onEntry, onEntry_entry]
    | departed =>
      dsimp only
      rw [sourceStanding_entry, onEntry_onEntry, onEntry_entry]
    | lost =>
      change (sourceStanding f _ (s.onEntry f fun e => { e with state := .lost })).entry g = _
      rw [sourceStanding_entry, onEntry_entry]
    | absent =>
      change ((s.onEntry f fun e => { e with state := .absent }).onEntry f fun _ => RosterEntry.absent).entry g = _
      rw [onEntry_onEntry, onEntry_entry]

/-! ### A port lost (R97) -/

/-- R97: a member without a route port is Lost. -/
def RosterEntry.ifLost (auto : Bool) (e : RosterEntry) : RosterEntry :=
  if (e.state = .present ∨ e.state = .leaving ∨ e.state = .departed) ∧ e.route = none then e.entered .lost auto else e

theorem ifLost_eq (auto : Bool) (e : RosterEntry) : e.ifLost auto = { e with
    state := if (e.state = .present ∨ e.state = .leaving ∨ e.state = .departed) ∧ e.route = none then .lost else e.state } := by
  unfold RosterEntry.ifLost
  split
  · next h =>
    rw [RosterEntry.entered, if_neg]
    rcases h.1 with h | h | h <;> (rw [h]; exact nofun)
  · rfl

/-- What `loseUnreachable` does for one frame. -/
def loseIfUnreachable (s : State) (f : FrameNo) : State := match (s.entry f).state with
  | .present => if (s.entry f).route.isNone then enterEntry f .lost s else s
  | .leaving => if (s.entry f).route.isNone then enterEntry f .lost s else s
  | .departed => if (s.entry f).route.isNone then enterEntry f .lost s else s
  | .absent => s
  | .lost => s

theorem loseUnreachable_eq (s : State) : loseUnreachable s = s.others.foldl loseIfUnreachable s := rfl

theorem loseIfUnreachable_eq (s : State) (f : FrameNo) : loseIfUnreachable s f =
    if ((s.entry f).state = .present ∨ (s.entry f).state = .leaving ∨ (s.entry f).state = .departed) ∧ (s.entry f).route = none
    then enterEntry f .lost s else s := by
  unfold loseIfUnreachable
  split <;> next h => simp [h]

theorem entriesOnly_loseUnreachable (s : State) : EntriesOnly s (loseUnreachable s) := by
  rw [loseUnreachable_eq]
  refine .foldl (fun u f => ?_) _ s
  rw [loseIfUnreachable_eq]
  exact .ite (entriesOnly_enterEntry f _ u) (.refl u)

theorem loseUnreachable_entry (s : State) (g : FrameNo) : (loseUnreachable s).entry g =
    if g ≠ s.own then (s.entry g).ifLost s.roster.autoAdmit else s.entry g := by
  rw [loseUnreachable_eq]
  refine (foldl_entry (F := fun _ => RosterEntry.ifLost s.roster.autoAdmit) (fun u => u.roster.autoAdmit = s.roster.autoAdmit)
    (fun u f hu => ?_) (others_nodup s) s rfl g).trans (if_congr mem_others rfl rfl)
  rw [loseIfUnreachable_eq]
  refine ⟨?_, fun g => ?_⟩
  · split
    · exact (entriesOnly_enterEntry f _ u).autoAdmit.trans hu
    · exact hu
  · unfold RosterEntry.ifLost
    split
    · rw [enterEntry_entry, hu]
    · split
      · next hg => rw [hg]
      · rfl

theorem forgetHops_entry (p : Port) (s : State) (g : FrameNo) : (forgetHops p s).entry g =
    { s.entry g with hops := (s.entry g).hops.set p none, route := routeOf ((s.entry g).hops.set p none) } := by
  simp [forgetHops, State.entry]

end Sys2Proof.Machine

/-! PROOFS. A port that leaves Joined (R54, R66, R91, R97, R110): what the roster, the tap queues and the belief become of it, and what
concludes the event. -/

namespace Sys2Proof.Machine
variable {s t u w e before : State} {f g : FrameNo} {p : Port}

/-- What a port's entry into another state leaves: all but its own record, and the events. -/
structure Entered (p : Port) (s w : State) : Prop where
  parts : w = { s with link := w.link, reporter := w.reporter }
  own : w.own = s.own
  down : (w.port p).state ≠ .joined ∧ (w.port p).state ≠ .linked
  other : w.port (otherPort p) = s.port (otherPort p)
  seq : w.link.broadcastSeq = s.link.broadcastSeq
  unsent : w.link.unsentOwn = s.link.unsentOwn

/-- R97: what an entry becomes where a port leaves Joined. -/
def RosterEntry.withoutPort (p : Port) (other : Bool) (e : RosterEntry) : RosterEntry :=
  let reached := (e.hops.get (otherPort p)).isSome
  let member := e.state = .present ∨ e.state = .leaving ∨ e.state = .departed
  { e with hops := e.hops.set p none, route := if reached then some (otherPort p) else none
           state := if other = true ∧ reached = false ∧ member then .lost else e.state }

/-- R54: what a tap becomes where a port leaves Joined. -/
def Tap.withoutPort (p : Port) (k : Tap) : Tap := { k with queue := (k.queue.map (QueueEntry.strip p)).filter QueueEntry.waits }

theorem routeOf_set_none (p : Port) (h : PerPort (Option Nat)) :
    routeOf (h.set p none) = if (h.get (otherPort p)).isSome then some (otherPort p) else none := by
  obtain ⟨a, b⟩ := h
  cases p <;> cases a <;> cases b <;> rfl

theorem ifLost_forgot (auto : Bool) (p : Port) (e : RosterEntry) :
    RosterEntry.ifLost auto { e with hops := e.hops.set p none, route := routeOf (e.hops.set p none) } = e.withoutPort p true := by
  rw [ifLost_eq, RosterEntry.withoutPort, routeOf_set_none]
  cases (e.hops.get (otherPort p)).isSome <;> simp

theorem withoutPort_own (p : Port) (e : RosterEntry) :
    ({ e with hops := e.hops.set p none, route := routeOf (e.hops.set p none) } : RosterEntry) = e.withoutPort p false := by
  rw [RosterEntry.withoutPort, routeOf_set_none]
  simp

/-- What a port's leaving Joined makes of the part, before the event is concluded. -/
structure LostAt (p : Port) (s e : State) : Prop where
  own : e.own = s.own
  down : (e.port p).state ≠ .joined ∧ (e.port p).state ≠ .linked
  other : e.port (otherPort p) = s.port (otherPort p)
  seq : e.link.broadcastSeq = s.link.broadcastSeq
  unsent : e.link.unsentOwn = s.link.unsentOwn
  entries : ∀ f, e.entry f = (s.entry f).withoutPort p (decide (f ≠ s.own))
  taps : ∀ k, e.tap k = (s.tap k).withoutPort p
  pending : e.orders.pending = s.orders.pending
  ownState : e.roster.ownState = s.roster.ownState
  phase : e.roster.phase = s.roster.phase
  kept : (∀ f, s.roster.belief = some f → staysMaster s e f) → (s.roster.belief = none → ∀ f, f ≠ s.own → e.entry f = s.entry f) →
    e.roster.belief = s.roster.belief
  elected : (∃ f, s.roster.belief = some f ∧ ¬ staysMaster s e f) ∨ (s.roster.belief = none ∧ ∃ f, f ≠ s.own ∧ e.entry f ≠ s.entry f) →
    e.elects e.roster.belief

/-- The entries of a part whose port has left Joined, ahead of the election. -/
theorem unreached_entry (hw : Entered p s w) (f : FrameNo) :
    (loseUnreachable (forgetHops p (stripPort p w))).entry f = (s.entry f).withoutPort p (decide (f ≠ s.own)) := by
  have hentry : w.entry f = s.entry f := by rw [State.entry, hw.parts]; rfl
  have hown : (forgetHops p (stripPort p w)).own = s.own := hw.own
  have hstrip : (stripPort p w).entry f = s.entry f := hentry
  rw [loseUnreachable_entry, forgetHops_entry, hown, hstrip]
  by_cases hf : f = s.own
  · rw [if_neg (not_not.mpr hf), withoutPort_own]
    simp [hf]
  · rw [if_pos hf, ifLost_forgot]
    simp [hf]

/-- An entry that loses a port is advertised otherwise where it becomes another. -/
theorem view_withoutPort {r : RosterEntry} {other : Bool} : (r.withoutPort p other).view = r.view ↔ r.withoutPort p other = r := by
  refine ⟨fun h => ?_, fun h => congrArg _ h⟩
  simp only [RosterEntry.view, RosterEntry.withoutPort, EntryView.mk.injEq] at h
  obtain ⟨hstate, hhops, hroute, -⟩ := h
  unfold RosterEntry.withoutPort
  dsimp only
  rw [hstate, hhops, hroute]

/-! ### The election of an operation that leaves the belief to it (R110) -/

section election
variable {v x : State} (ho : x.own = v.own) (hb : x.roster.belief = v.roster.belief) (hs : x.roster.ownState = v.roster.ownState)
  (hp : x.roster.phase = v.roster.phase)
include ho hb hs hp

theorem view_eq_entries : x.view = v.view ↔ ∀ f, f ≠ v.own → (x.entry f).view = (v.entry f).view := by
  have hadv : x.advertised = v.advertised := by
    rw [State.advertised, hs, hp]
    rfl
  rw [view_eq_iff ho]
  simp only [hadv, hb, true_and]

theorem electIfNeeded_kept (h1 : ∀ f, v.roster.belief = some f → stands v x f)
    (h2 : v.roster.belief = none → ∀ f, f ≠ v.own → (x.entry f).view = (v.entry f).view) : electIfNeeded v x = x := by
  cases h : v.roster.belief with
  | none => exact electIfNeeded_of_none_same (hb.trans h) ((view_eq_entries ho hb hs hp).mpr (h2 h))
  | some f => exact electIfNeeded_of_stands (hb.trans h) (h1 f h)

theorem electIfNeeded_elects (h : (∃ f, v.roster.belief = some f ∧ ¬ stands v x f) ∨
    (v.roster.belief = none ∧ ∃ f, f ≠ v.own ∧ (x.entry f).view ≠ (v.entry f).view)) : electIfNeeded v x = elect x := by
  rcases h with ⟨f, hf, hfalls⟩ | ⟨hn, f, hne, hf⟩
  · exact electIfNeeded_of_falls (hb.trans hf) hfalls
  · exact electIfNeeded_of_none_changed (hb.trans hn) fun k => hf ((view_eq_entries ho hb hs hp).mp k f hne)

end election

theorem stands_iff (ho : u.own = s.own) (hs : u.roster.ownState = s.roster.ownState) (he : ∀ g, before.entry g = s.entry g) :
    stands before u f ↔ staysMaster s u f := by
  unfold stands staysMaster
  rw [ho, hs, he]
  split
  · rfl
  · exact not_and_not_right

theorem elect_elects (s : State) : (elect s).elects (elect s).roster.belief := by
  rw [elect_belief]
  exact SameField.elects ⟨rfl, rfl, rfl, Iff.rfl⟩ (elects_found s)

theorem lostAt_losePort (hw : Entered p s w) : LostAt p s (losePort p (stripPort p w)) := by
  have hx := unreached_entry hw
  have honly := entriesOnly_loseUnreachable (forgetHops p (stripPort p w))
  have hentry (f : FrameNo) : (stripPort p w).entry f = s.entry f := by
    change w.entry f = _
    rw [State.entry, hw.parts]; rfl
  have htap (k : TapNo) : (stripPort p w).tap k = (s.tap k).withoutPort p := by
    have : w.tap k = s.tap k := by rw [State.tap, hw.parts]; rfl
    rw [← this]
    simp [State.tap, stripPort, Tap.withoutPort]
  have hroster : (stripPort p w).roster = s.roster := by
    change w.roster = s.roster
    rw [hw.parts]
  have hpending : w.orders.pending = s.orders.pending := by rw [hw.parts]
  unfold losePort
  generalize loseUnreachable (forgetHops p (stripPort p w)) = x at hx honly
  have ho : x.own = (stripPort p w).own := honly.own
  have hb : x.roster.belief = (stripPort p w).roster.belief := by rw [honly.roster]; rfl
  have hs : x.roster.ownState = (stripPort p w).roster.ownState := by rw [honly.roster]; rfl
  have hp : x.roster.phase = (stripPort p w).roster.phase := by rw [honly.roster]; rfl
  have hkept := electIfNeeded_kept ho hb hs hp
  have helects := electIfNeeded_elects ho hb hs hp
  have hstands (f : FrameNo) : stands (stripPort p w) x f ↔ staysMaster s x f :=
    stands_iff (ho.trans hw.own) (hs.trans (congrArg Roster.ownState hroster)) hentry
  have hown : (stripPort p w).own = s.own := hw.own
  rw [hroster] at hb hs hp hkept helects
  simp only [hstands, hentry, hx, ne_eq, view_withoutPort, hown] at hkept helects
  have hrest := electIfNeeded_only (stripPort p w) x
  generalize electIfNeeded (stripPort p w) x = y at hrest hkept helects
  have hyx (f : FrameNo) : y.entry f = x.entry f := by rw [hrest]; rfl
  have hstays (f : FrameNo) : staysMaster s y f ↔ staysMaster s x f := by rw [staysMaster, hyx]; rfl
  refine ⟨?_, ?_, ?_, ?_, ?_, fun f => (hyx f).trans (hx f), fun k => ?_, ?_, ?_, ?_, fun h1 h2 => ?_, fun h => ?_⟩
  · rw [hrest]; exact ho.trans hw.own
  · rw [State.port, hrest, onRoster_link, honly.link]; exact hw.down
  · rw [State.port, hrest, onRoster_link, honly.link]; exact hw.other
  · rw [hrest, onRoster_link, honly.link]; exact hw.seq
  · rw [hrest, onRoster_link, honly.link]; exact hw.unsent
  · rw [← htap, State.tap, hrest, onRoster_tapEngine, honly.tapEngine]; rfl
  · rw [hrest, onRoster_orders, honly.orders]; exact hpending
  · rw [hrest]; exact hs
  · rw [hrest]; exact hp
  · simp only [hyx, hstays, hx, ne_eq] at h1 h2
    rw [hkept h1 h2, hb]
  · simp only [hyx, hstays, hx, ne_eq] at h
    rw [helects h]
    exact elect_elects x

/-! ### What concludes it -/

theorem LostAt.reporter (h : LostAt p s u) (k : OnlyReporter u e) : LostAt p s e := by
  obtain ⟨k, hown⟩ := k
  have hown : e.own = u.own := congrArg Straps.frame hown
  generalize e.reporter = d at k
  subst k
  exact ⟨hown.trans h.own, h.down, h.other, h.seq, h.unsent, h.entries, h.taps, h.pending, h.ownState, h.phase, h.kept,
    fun hc => SameField.elects ⟨hown, rfl, rfl, Iff.rfl⟩ (h.elected hc)⟩

theorem strip_waits (p : Port) (k : QueueEntry) : (k.strip p).pending.get p = false ∧ (k.strip p).waits = k.pending.get (otherPort p) := by
  cases p
  · exact ⟨rfl, Bool.false_or _⟩
  · exact ⟨rfl, Bool.or_false _⟩

theorem Tap.withoutPort_pending (p : Port) (k : Tap) : ∀ d ∈ (k.withoutPort p).queue, d.pending.get p = false := fun d hd => by
  obtain ⟨d', -, rfl⟩ := List.mem_map.mp (List.mem_filter.mp hd).1
  exact (strip_waits p d').1

theorem Tap.withoutPort_queue (p : Port) (k : Tap) : (k.withoutPort p).queue =
    (k.queue.map (QueueEntry.strip p)).filter fun d => d.pending.get (otherPort p) := by
  refine List.filter_congr fun d hd => ?_
  obtain ⟨d', -, rfl⟩ := List.mem_map.mp hd
  rw [(strip_waits p d').2]
  cases p <;> rfl

theorem settled_queue (k : Tap) : k.settled.queue = k.queue := by
  unfold Tap.settled
  split <;> rfl

/-- A tap that has settled in the first round keeps what the arbiters leave of it. -/
theorem concludeFrom_rests_settled {noted : State} (h : e.calm noted) (k : TapNo) :
    TapRests (e.tap k).settled ((concludeFrom before noted e).tap k) := by
  have hready := readied (before := before) (calm_advance h)
  have htap : (State.readied before noted e).tap k = (e.tap k).settled := by
    rw [← advance_tap, State.tap, hready.taps]
    rfl
  have hround : TapRests (e.tap k).settled ((round before noted e).tap k) := by
    rw [← htap]
    exact (grant_rests .a _ k).trans (grant_rests .b _ k)
  exact (hround.trans (round_rests (.inl rfl) k)).trans (round_rests (.inl rfl) k)

/-- What of a port that leaves Joined, and of the other one, is told. -/
theorem LostAt.told (h : LostAt p s e) : Told.Event s.control [] [] s e := by
  have hother {q : Port} (hq : e.joined q = true) : e.port q = s.port q := by
    rcases port_cases p q with rfl | rfl
    · exact absurd (by simpa [State.joined] using hq) h.down.1
    · exact h.other
  refine ⟨h.own, fun q hq => congrArg PortRecord.queue (hother hq), fun q hq => ?_, ?_, h.unsent⟩
  · rw [hother hq]
    exact ⟨rfl, id, id⟩
  · rw [h.seq, List.length_nil, ite_self]
    exact (BitVec.add_zero _).symm

/-- What of an event's conclusion goes into what a lost port makes, where nothing is pending. -/
structure LossConcluded (before e t : State) : Prop where
  belief : t.roster.belief = e.roster.belief
  inert : e.inert → ∀ k, t.tap k = (e.tap k).settled
  rests : ∀ k, TapRests (e.tap k).settled (t.tap k)
  field : e.leaveFits → SameField e t
  told : e.waiting → ConcludesAs before e t

theorem lossConcluded (h : e.calm before) : LossConcluded before e (concludeFrom before before e) where
  belief := belief_concludeFrom (before := before) h
  inert hi k := concludeFrom_tap_of_inert (before := before) h hi k
  rests k := concludeFrom_rests_settled (before := before) h k
  field hf := sameField_concludeFrom (before := before) h hf
  told hw := concludesAs_of_waiting (before := before) h hw

theorem Tap.withoutPort_empty {k : Tap} (hq : ∀ e ∈ k.queue, e.pending.get (otherPort p) = false) : (k.withoutPort p).queue = [] := by
  rw [Tap.withoutPort_queue, List.filter_eq_nil_iff]
  intro d hd
  obtain ⟨d', hd', rfl⟩ := List.mem_map.mp hd
  have := hq d' hd'
  cases p <;> simp_all [QueueEntry.strip, PerPort.get, PerPort.set, otherPort]

/-- R54, R91, R93, R97, R110: a port that leaves Joined, its event concluded. -/
theorem LostAt.portLost_of (h : LostAt p s e) (hv : before.view = s.view) (hs : Settled e t) (hr : Rests e t)
    (hc : s.orders.pending = [] → LossConcluded before e t) : PortLost p s t := by
  have hentry (f : FrameNo) : t.entry f = e.entry f := by rw [State.entry, hs.entries]; rfl
  have hstays (f : FrameNo) : staysMaster s t f ↔ staysMaster s e f := by rw [staysMaster, hentry]; rfl
  refine ⟨fun f => ?_, hr.stripped p ?_ fun k => ?_, fun hp hbusy k => ?_, fun hp k hk hq => ?_, fun hp h1 h2 => ?_, fun hp hl hc' => ?_,
    fun hp hphase => ?_⟩
  · rw [hentry, h.entries]
    simp only [RosterEntry.withoutPort, decide_eq_true_eq, Option.isSome_eq_false_iff]
  · simpa [State.joined] using h.down.1
  · rw [h.taps]
    exact Tap.withoutPort_pending p _
  · have hinert : e.inert := fun q => by
      rcases port_cases p q with rfl | rfl
      · exact .inr h.down
      · exact .inl (by rw [h.other]; exact hbusy)
    rw [(hc hp).inert hinert, settled_queue, h.taps, Tap.withoutPort_queue]
    rfl
  · have hempty : (e.tap k).queue = [] := by
      rw [h.taps]
      exact Tap.withoutPort_empty hq
    have hstate : (e.tap k).state = .draining := by rw [h.taps]; exact hk
    have hsettled : (e.tap k).settled = { e.tap k with state := .idle, waiting := [] } := if_pos ⟨hstate, hempty⟩
    have hrests := (hc hp).rests k
    rw [hsettled] at hrests
    exact ⟨hrests.state.resolve_right (fun j => nomatch j.1), hrests.empty hempty⟩
  · simp only [hentry, hstays] at h1 h2
    exact (hc hp).belief.trans (h.kept h1 h2)
  · simp only [hentry, hstays] at hc'
    have hfits : e.leaveFits := by
      unfold State.leaveFits
      rw [h.ownState, h.phase]
      exact hl.2.1
    rw [(hc hp).belief]
    exact ((hc hp).field hfits).elects (h.elected hc')
  · exact .of_event h.told hv ((hc hp).told (.of_none (h.phase.trans hphase)))

theorem LostAt.portLost (h : LostAt p s e) (hv : before.view = s.view) : PortLost p s (conclude before e) :=
  h.portLost_of hv (settled_conclude before e) (rests_concludeFrom before before e) fun hp => lossConcluded (.inr (h.pending.trans hp))

end Sys2Proof.Machine

/-! PROOFS. The ports' changes of state (R62 to R69), and the events of the receivers and of the port timers. -/

namespace Sys2Proof.Machine
variable {s t u w e before noted : State} {p q : Port}

/-- A change of one port's record, and of the events. -/
structure OnlyPort (p : Port) (s w : State) : Prop where
  parts : w = { s with link := w.link, reporter := w.reporter }
  own : w.own = s.own
  other : w.port (otherPort p) = s.port (otherPort p)
  seq : w.link.broadcastSeq = s.link.broadcastSeq
  unsent : w.link.unsentOwn = s.link.unsentOwn

namespace OnlyPort

theorem refl (s : State) : OnlyPort p s s := ⟨rfl, rfl, rfl, rfl, rfl⟩

theorem trans (h : OnlyPort p s t) (k : OnlyPort p t u) : OnlyPort p s u :=
  ⟨by rw [k.parts, h.parts], k.own.trans h.own, k.other.trans h.other, k.seq.trans h.seq, k.unsent.trans h.unsent⟩

theorem onPort (p : Port) (f : PortRecord → PortRecord) (s : State) : OnlyPort p s (s.onPort p f) := ⟨rfl, rfl, onPort_other .., rfl, rfl⟩

theorem setPortState (p : Port) (st : PortState) (cause : FaultCause) (s : State) : OnlyPort p s (setPortState p st cause s) := by
  unfold Machine.setPortState
  dsimp only
  split
  · exact .onPort ..
  · exact (OnlyPort.onPort p _ s).trans ⟨rfl, rfl, rfl, rfl, rfl⟩

theorem reporter (h : OnlyPort p s t) (k : OnlyReporter t u) : OnlyPort p s u := by
  obtain ⟨k, hown⟩ := k
  have hown : u.own = t.own := congrArg Straps.frame hown
  generalize u.reporter = d at k
  subst k
  exact ⟨by rw [h.parts], hown.trans h.own, h.other, h.seq, h.unsent⟩

theorem entered (h : OnlyPort p s w) (hd : (w.port p).state ≠ .joined ∧ (w.port p).state ≠ .linked) : Entered p s w :=
  ⟨h.parts, h.own, hd, h.other, h.seq, h.unsent⟩

theorem entries (h : OnlyPort p s w) : w.roster = s.roster := by rw [h.parts]

theorem calm (h : OnlyPort p s w) : w.calm s := .inl (by rw [h.entries])

end OnlyPort

/-! ### Entering a state (R62, R63, R67, R68) -/

/-- R66, R67: what a port that goes down gives up. -/
def PortRecord.cut (r : PortRecord) : PortRecord := { r with
  counters := if r.inTransmission.isSome then { r.counters with lostInFlight := countUp r.counters.lostInFlight } else r.counters
  inTransmission := none
  slotRequest := none
  slotReply := none }

def PortRecord.flushed (r : PortRecord) : PortRecord := { r with
  counters := { r.counters with flushes := countBy (r.relay.length + r.control.length) r.counters.flushes }
  relay := []
  control := []
  slotRequest := none
  slotReply := none }

theorem onlyPort_enterTraining (p : Port) (s : State) : OnlyPort p s (enterTraining p s) :=
  ((OnlyPort.onPort ..).trans (.onPort ..)).trans (.setPortState ..)

theorem onlyPort_enterDark (p : Port) (s : State) : OnlyPort p s (enterDark p s) :=
  (((OnlyPort.onPort ..).trans (.onPort ..)).trans (.onPort ..)).trans (.setPortState ..)

theorem onlyPort_enterDisabled (p : Port) (s : State) : OnlyPort p s (enterDisabled p s) :=
  (((OnlyPort.onPort ..).trans (.onPort ..)).trans (.onPort ..)).trans (.setPortState ..)

theorem onlyPort_enterFault (p : Port) (cause : FaultCause) (s : State) : OnlyPort p s (enterFault p cause s) :=
  (((OnlyPort.onPort ..).trans (.onPort ..)).trans (.onPort ..)).trans (.setPortState ..)

theorem enterTraining_port (p : Port) (s : State) : (enterTraining p s).port p =
    { (s.port p).cut with state := .training, cause := .none, attempt := 1, trainingTimer := some 2500000, helloTimer := none } := by
  unfold enterTraining cutOff
  rw [setPortState_port, onPort_self, onPort_self]
  rfl

theorem enterDark_port (p : Port) (s : State) : (enterDark p s).port p =
    { (s.port p).cut.flushed with
      state := .dark, cause := .none, attempt := 1, trainingTimer := none, helloTimer := none, neighbour := none } := by
  unfold enterDark flushPort cutOff
  rw [setPortState_port, onPort_self, onPort_self, onPort_self]
  rfl

theorem enterDisabled_port (p : Port) (s : State) : (enterDisabled p s).port p =
    { (s.port p).cut.flushed with state := .disabled, cause := .none, trainingTimer := none, helloTimer := none } := by
  unfold enterDisabled flushPort cutOff
  rw [setPortState_port, onPort_self, onPort_self, onPort_self]
  rfl

theorem enterFault_port (p : Port) (cause : FaultCause) (s : State) : (enterFault p cause s).port p =
    { (s.port p).cut.flushed with state := .fault, cause := cause, trainingTimer := none, helloTimer := none } := by
  unfold enterFault flushPort cutOff
  rw [setPortState_port, onPort_self, onPort_self, onPort_self]
  rfl

/-! ### Leaving Joined (R66) -/

theorem losePort_link (p : Port) (s : State) : (losePort p s).link = s.link := by
  unfold losePort
  rw [electIfNeeded_only, onRoster_link, (entriesOnly_loseUnreachable _).link]
  rfl

theorem leavePort_link (p : Port) (enter : State → State) (s : State) : (leavePort p enter s).link = (enter s).link := by
  unfold leavePort
  split
  · rw [losePort_link]; rfl
  · rfl

theorem leavePort_port (p q : Port) (enter : State → State) (s : State) : (leavePort p enter s).port q = (enter s).port q := by
  rw [State.port, leavePort_link]; rfl

/-- R54, R66, R97: a port leaves Joined, the event concluded. -/
theorem leavePort_lost {enter : State → State} (h : Entered p s (enter w)) (hj : (w.port p).state = .joined) :
    LostAt p s (leavePort p enter w) := by
  unfold leavePort
  rw [if_pos hj]
  exact lostAt_losePort h

/-! ### What concluding leaves of a port -/

theorem portView_of_settled (h : Settled e t) (p : Port) : t.portView p = e.portView p :=
  congrArg (fun d : PortStanding => (d.state, d.cause, d.attempt, d.neighbour, d.trainingTimer, d.helloTimer)) (h.standing p)

theorem conclude_portView (before e : State) (p : Port) : (conclude before e).portView p = e.portView p :=
  portView_of_settled (settled_conclude before e) p

theorem conclude_port_of_down (hd : ¬ (e.port p).up) (before : State) : (conclude before e).port p = e.port p :=
  (rests_concludeFrom before before e).ports.down p hd

/-! ### A Linked port (R64, R83) -/

/-- R83: what an arbiter makes of the port where it is Linked. -/
def PortRecord.linkedGrant (r : PortRecord) : PortRecord := match r.inTransmission, r.control with
  | none, f :: rest => if isHello f then { r with control := rest, inTransmission := some f } else r
  | _, _ => r

theorem linkedGrant_linkedGrant (r : PortRecord) : r.linkedGrant.linkedGrant = r.linkedGrant := by
  unfold PortRecord.linkedGrant
  cases hi : r.inTransmission with
  | some f => simp [hi]
  | none =>
    cases hc : r.control with
    | nil => simp [hi, hc]
    | cons f rest =>
      by_cases hf : isHello f = true
      · simp [hf]
      · simp [hf, hi, hc]

theorem linkedGrant_state (r : PortRecord) : r.linkedGrant.state = r.state := by
  unfold PortRecord.linkedGrant
  split
  · split <;> rfl
  · rfl

theorem grant_port_of_linked (hl : (s.port p).state = .linked) : (grant p s).port p = (s.port p).linkedGrant := by
  unfold PortRecord.linkedGrant
  cases hi : (s.port p).inTransmission with
  | some f => rw [grant_of_busy p s (by rw [hi]; rfl)]
  | none =>
    cases hc : (s.port p).control with
    | nil => rw [grant_of_no_hello hi hl (by simp [hc])]
    | cons f rest =>
      dsimp only
      split
      · next hf => rw [grant_of_hello hi hl hc hf, onPort_self]
      · next hf => rw [grant_of_no_hello hi hl (by simpa [hc] using hf)]

theorem grants_port_of_linked (hl : (s.port p).state = .linked) : (grant .b (grant .a s)).port p = (s.port p).linkedGrant := by
  cases p with
  | a =>
    rw [← grant_port_of_linked hl]
    exact (granted .b (grant .a s)).other
  | b =>
    have hother : (grant .a s).port .b = s.port .b := (granted .a s).other
    rw [← hother]
    exact grant_port_of_linked (by rw [hother]; exact hl)

theorem round_port_of_linked (h : e.calm noted) (hl : (e.port p).state = .linked) :
    (round before noted e).port p = (e.port p).linkedGrant := by
  have hready := readied (before := before) (calm_advance h)
  have hport : (State.readied before noted e).port p = e.port p := by
    by_cases hv : (advance e).view = before.view
    · rw [State.port, hready.same hv, advance_link]
      rfl
    · have hj : ¬ (advance e).joined p = true := by
        rw [State.joined, advance_port, hl]
        exact nofun
      rw [hready.queues hv p, if_neg hj, advance_port]
  rw [round_eq, grants_port_of_linked (by rw [hport]; exact hl), hport]

theorem concludeFrom_port_of_linked (h : e.calm noted) (hl : (e.port p).state = .linked) :
    (concludeFrom before noted e).port p = (e.port p).linkedGrant := by
  have h1 := round_port_of_linked (before := before) h hl
  unfold concludeFrom
  dsimp only
  generalize round before noted e = s1 at h1
  have hl1 : (s1.port p).state = .linked := by rw [h1, linkedGrant_state]; exact hl
  have h2 := round_port_of_linked (before := s1) (noted := s1) (.inl rfl) hl1
  generalize round s1 s1 s1 = s2 at h2
  have hl2 : (s2.port p).state = .linked := by rw [h2, linkedGrant_state]; exact hl1
  rw [round_port_of_linked (.inl rfl) hl2, h2, h1, linkedGrant_linkedGrant, linkedGrant_linkedGrant]

theorem placedFirst_fst (f : Frame) (k : List Frame × Nat) : ∃ rest, (placedFirst f k).1 = f :: rest := by
  unfold placedFirst
  dsimp only
  split <;> exact ⟨_, rfl⟩

/-- R64: a Linked port with a fresh Hello at the head of its control queue, the event concluded. -/
theorem portSends_of_linked (h : e.calm noted) (hl : (e.port p).state = .linked) {k : List Frame × Nat}
    (hk : (e.port p).queue = placedFirst (u.helloFrame q) k) (hi : (e.port p).inTransmission = (s.port p).inTransmission) :
    PortSends (placedFirst (u.helloFrame q) k) p s (concludeFrom before noted e) := by
  obtain ⟨rest, hrest⟩ := placedFirst_fst (u.helloFrame q) k
  have hport := concludeFrom_port_of_linked (before := before) h hl
  generalize concludeFrom before noted e = t at hport
  have hcontrol : (e.port p).control = u.helloFrame q :: rest := (congrArg Prod.fst hk).trans hrest
  have hdrops : (e.port p).counters.controlDrops = (placedFirst (u.helloFrame q) k).2 := congrArg Prod.snd hk
  cases hs : (e.port p).inTransmission with
  | some f =>
    have hgrant : (e.port p).linkedGrant = e.port p := by simp [PortRecord.linkedGrant, hs]
    rw [hgrant] at hport
    refine ⟨by rw [hport]; exact hdrops, fun _ => by rw [hport, hcontrol, hrest, hi]; exact ⟨rfl, rfl⟩, fun hn => ?_⟩
    rw [← hi, hs] at hn
    exact nomatch hn
  | none =>
    have hgrant : (e.port p).linkedGrant = { e.port p with control := rest, inTransmission := some (u.helloFrame q) } := by
      simp only [PortRecord.linkedGrant, hs, hcontrol]
      exact if_pos rfl
    rw [hgrant] at hport
    refine ⟨by rw [hport]; exact hdrops, fun hb => ?_, fun _ _ _ => ⟨fun f l hfl => ?_, fun hn => ?_⟩⟩
    · rw [← hi, hs] at hb
      exact nomatch hb
    · rw [hrest] at hfl
      obtain ⟨rfl, rfl⟩ := List.cons.inj hfl
      rw [hport]
      exact ⟨rfl, rfl⟩
    · rw [hrest] at hn
      exact nomatch hn

/-! ### The events (R62 to R64) -/

theorem setSignal_port (p : Port) (b : Bool) (s : State) : (setSignal p b s).port p = { s.port p with signal := b } := onPort_self ..

theorem loseSignal_of_up {st : PortState} (h : (s.port p).state = st) (hd : st ≠ .disabled) (hk : st ≠ .dark) :
    loseSignal p s = leavePort p (enterDark p) s := by
  unfold loseSignal
  cases st <;> first | exact absurd rfl hd | exact absurd rfl hk | (simp only [h]; done) | (simp only [h]; exact (if_neg (by rw [h]; exact nofun)).symm)

theorem loseSignal_of_down (h : (s.port p).state = .disabled ∨ (s.port p).state = .dark) : loseSignal p s = s := by
  unfold loseSignal
  rcases h with h | h <;> simp only [h]

theorem enterLinked_port (p : Port) (s : State) : (enterLinked p s).port p =
    { (s.port p).queueing (placedFirst (s.helloFrame p) (s.control p)) with
      state := .linked, cause := .none, trainingTimer := none, helloTimer := some 250000 } := by
  unfold enterLinked
  rw [placeHello_eq, onPort_self, setPortState_port, onPort_self]
  have hhello (u : State) (hu : OnlyPort p s u) : u.helloFrame p = s.helloFrame p := by
    have hshow : ShowsAs s u := .of_roster hu.own hu.entries
    unfold State.helloFrame State.ownHeader
    rw [hshow.vector, hshow.own]
  have honly := (OnlyPort.onPort p (fun r => { r with trainingTimer := none, helloTimer := some Config.helloTicks }) s).trans
    (.setPortState p .linked .none _)
  have hcontrol (u : State) (hu : (u.port p).queue = (s.port p).queue) : u.control p = s.control p := hu
  rw [hhello _ honly, hcontrol _ (by rw [setPortState_port, onPort_self]; rfl)]
  rfl

theorem onlyPort_enterLinked (p : Port) (s : State) : OnlyPort p s (enterLinked p s) := by
  unfold enterLinked
  rw [placeHello_eq]
  exact ((OnlyPort.onPort ..).trans (.setPortState ..)).trans (.onPort ..)

/-- R62: loss of signal at a port that is not Disabled or Dark. -/
theorem lossOfSignal_concluded (hd : (s.port p).state ≠ .disabled) (hk : (s.port p).state ≠ .dark) :
    let t := conclude s (loseSignal p (setSignal p false s))
    t.portView p = (.dark, .none, 1, none, none, none) ∧ (t.port p).signal = false ∧ (t.port p).relay = [] ∧
      (t.port p).control = [] ∧ (t.port p).inTransmission = none ∧ ((s.port p).state = .joined → PortLost p s t) := by
  have hsignal := setSignal_port p false s
  have honly : OnlyPort p s (enterDark p (setSignal p false s)) := (OnlyPort.onPort ..).trans (onlyPort_enterDark ..)
  rw [loseSignal_of_up (by rw [hsignal]) hd hk]
  have hport : (leavePort p (enterDark p) (setSignal p false s)).port p = _ := (leavePort_port ..).trans (enterDark_port ..)
  rw [hsignal] at hport
  have hlost (hj : (s.port p).state = .joined) : LostAt p s (leavePort p (enterDark p) (setSignal p false s)) :=
    leavePort_lost (honly.entered (by rw [enterDark_port]; exact ⟨nofun, nofun⟩)) (by rw [hsignal]; exact hj)
  generalize leavePort p (enterDark p) (setSignal p false s) = e at hport hlost
  have hdown := conclude_port_of_down (p := p) (e := e) (by rw [hport]; rintro (h | h) <;> exact nomatch h) s
  intro t
  refine ⟨?_, ?_, ?_, ?_, ?_, fun hj => (hlost hj).portLost rfl⟩
  · rw [conclude_portView, State.portView, hport]
  all_goals rw [hdown, hport]; rfl

/-- R62: a Joined port whose neighbour trains. -/
theorem neighbourTraining_concluded (h : (s.port p).state = .joined) :
    let t := conclude s (leavePort p (enterTraining p) s)
    t.portView p = (.training, .none, 1, (s.port p).neighbour, some 2500000, none) ∧ PortLost p s t := by
  have hlost := leavePort_lost ((onlyPort_enterTraining p s).entered (by rw [enterTraining_port]; exact ⟨nofun, nofun⟩)) h
  intro t
  refine ⟨?_, hlost.portLost rfl⟩
  rw [conclude_portView, State.portView, leavePort_port, enterTraining_port]
  rfl

/-- R63: a port aligned. -/
theorem aligned_concluded (p : Port) (s : State) :
    let t := conclude s (enterLinked p s)
    t.portView p = (.linked, .none, (s.port p).attempt, (s.port p).neighbour, none, some 250000) ∧
      PortSends (placedFirst (s.helloFrame p) (s.control p)) p s t := by
  have hport := enterLinked_port p s
  refine ⟨?_, portSends_of_linked (onlyPort_enterLinked p s).calm ?_ ?_ ?_⟩
  · rw [conclude_portView, State.portView, hport]
    rfl
  · rw [hport]
  · rw [hport]; rfl
  · rw [hport]; rfl

theorem trainFail_port (p : Port) (s : State) :
    ((enterFault p .trainFail s).onPortCounters p fun c => { c with trainingFailures := countUp c.trainingFailures }).portView p =
        (.fault, .trainFail, (s.port p).attempt, (s.port p).neighbour, none, none) ∧
      (((enterFault p .trainFail s).onPortCounters p fun c => { c with trainingFailures := countUp c.trainingFailures }).port p).counters.trainingFailures =
        min ((s.port p).counters.trainingFailures + 1) (2 ^ 32 - 1) := by
  rw [State.portView, State.onPortCounters, onPort_self, enterFault_port]
  refine ⟨rfl, ?_⟩
  unfold PortRecord.flushed PortRecord.cut
  dsimp only
  split <;> rfl

/-- Settles O47: by the port's state; a port that leaves Joined by what `LostAt` says. -/
theorem portEventsMoveTheirPort : Obligations.PortEventsMoveTheirPort := by
  intro s p r rest
  refine ⟨fun h hs => ?_, fun h => ?_, fun hd hk => ⟨_, rfl, lossOfSignal_concluded hd hk⟩, fun h => ⟨_, rfl, ?_⟩, fun h => ?_, fun h => ?_,
    fun h => ?_, fun h => ?_, fun h ha => ?_, fun h ha => ?_, fun h => congrArg _ (if_neg h), fun h hl => ?_, fun h hl => ?_, fun h => ?_,
    fun h => ?_⟩
  · refine ⟨enterTraining p (setSignal p true s), congrArg _ (if_pos ⟨by rw [setSignal_port]; exact h, hs⟩), ?_, ?_⟩
    · rw [State.portView, enterTraining_port, setSignal_port]
      rfl
    · rw [enterTraining_port, setSignal_port]
      rfl
  · refine congrArg _ (if_neg fun k => ?_)
    rw [setSignal_port] at k
    exact h.elim (fun h => h k.1) k.2
  · rw [loseSignal_of_down (by rw [setSignal_port]; exact h)]
    have hs := settled_conclude s (setSignal p false s)
    refine ⟨(portView_of_settled hs p).trans ?_, (congrArg PortStanding.signal (hs.standing p)).trans ?_⟩
    · rw [State.portView, setSignal_port]; rfl
    · exact congrArg PortRecord.signal (setSignal_port p false s)
  · exact ⟨_, congrArg (fun u : State => Host.Outcome.next (conclude s u)) (if_pos h), neighbourTraining_concluded h⟩
  · exact ⟨_, congrArg (fun u : State => Host.Outcome.next (conclude s u)) (if_neg h), conclude_portView s s p⟩
  · exact ⟨_, congrArg (fun u : State => Host.Outcome.next (conclude s u)) (if_pos h), aligned_concluded p s⟩
  · exact ⟨_, congrArg (fun u : State => Host.Outcome.next (conclude s u)) (if_neg h), conclude_portView s s p⟩
  · exact congrArg _ ((if_pos h).trans (if_pos ha))
  · exact ⟨_, congrArg Host.Outcome.next ((if_pos h).trans (if_neg ha.not_gt)), trainFail_port p s⟩
  · exact congrArg (fun u : State => Host.Outcome.next (conclude s u)) ((if_pos h).trans (if_pos hl))
  · exact congrArg (fun u : State => Host.Outcome.next (conclude s u)) ((if_pos h).trans (if_neg hl.not_gt))
  · have hexec : helloExpires p s = s.onPort p fun r => r.queueing (placedFirst (s.helloFrame p) (s.control p)) :=
      (if_pos h).trans (placeHello_eq p s)
    refine ⟨_, congrArg (fun u : State => Host.Outcome.next (conclude s u)) hexec, portSends_of_linked (OnlyPort.onPort ..).calm ?_ ?_ ?_⟩
    all_goals rw [onPort_self]; first | exact h | rfl
  · exact congrArg (fun u : State => Host.Outcome.next (conclude s u)) (if_neg h)

end Sys2Proof.Machine

/-! PROOFS. Frames turned away (R64, R70, R73, R74): what is counted and scored, and the port that the score takes to Training. -/

namespace Sys2Proof.Machine
variable {s t u w e before noted : State} {p q : Port} {c : Instr} {f : Frame}

/-- R64, R73: a not-joined discard, counted. -/
theorem notJoined_eq (p : Port) (s : State) : countNotJoined p (countReceived p s) = s.onPortCounters p fun k =>
    { k with received := min (k.received + 1) (2 ^ 32 - 1), notJoined := min (k.notJoined + 1) (2 ^ 32 - 1) } := by
  cases p <;> rfl

/-! ### Arrivals that are not taken (R73) -/

theorem settled_concludeFrame (c : Instr) (s u : State) : Settled u (concludeFrame c s u) := by
  cases c with
  | timeReply => exact .refl u
  | rackRequest | rackOrder | rackRefusal => exact settled_concludeFrom ..
  | _ => exact settled_conclude ..

/-- A frame that the port's state turns away. -/
theorem exec_of_turned (hc : frameArrived c = some (p, f)) (hb : u.roster.belief = s.roster.belief)
    (hu : ∀ linked joined, (isHello f = false → linked = countNotJoined p) → receive p f linked joined s = u) :
    exec c s = .next (concludeFrame c s u) := by
  cases c with
  | sample | mark | timeRequest | rosterUpdate | leaveAck =>
    cases hc
    exact congrArg (fun v : State => Host.Outcome.next (conclude s v)) (hu _ _ fun _ => rfl)
  | timeReply =>
    cases hc
    exact congrArg Host.Outcome.next (hu _ _ fun _ => rfl)
  | hello =>
    cases hc
    exact congrArg (fun v : State => Host.Outcome.next (conclude s v)) (hu _ _ nofun)
  | rackRequest | rackRefusal =>
    cases hc
    exact congrArg (fun v : State => Host.Outcome.next (concludeFrom s v v)) (hu _ _ fun _ => rfl)
  | rackOrder =>
    cases hc
    refine (congrArg (fun v : State => Host.Outcome.next (concludeOrder s v)) (hu _ _ fun _ => rfl)).trans ?_
    rw [concludeOrder_of_belief hb.symm]
    rfl
  | _ => exact nomatch hc

section receive
variable (linked joined : State → State)

theorem receive_of_down (h : (s.port p).state = .disabled ∨ (s.port p).state = .dark ∨ (s.port p).state = .training) :
    receive p f linked joined s = s := by
  unfold receive
  rcases h with h | h | h <;> simp only [h]

theorem receive_of_fault (h : (s.port p).state = .fault) : receive p f linked joined s = countNotJoined p (countReceived p s) := by
  unfold receive
  simp only [h]

theorem receive_of_linked (h : (s.port p).state = .linked) : receive p f linked joined s = linked (countReceived p s) := by
  unfold receive
  simp only [h]

theorem receive_of_illFormed (h : (s.port p).state = .joined) (hf : illFormed f = true) :
    receive p f linked joined s = countMalformed p (s.heard p) := by
  unfold receive
  simp only [h]
  exact if_pos hf

theorem receive_of_hopLimited (h : (s.port p).state = .joined) (hf : illFormed f = false) (hh : 7 < f.header.hops.toNat) :
    receive p f linked joined s = countHopLimited p (s.heard p) := by
  unfold receive
  simp only [h]
  exact (if_neg (by rw [hf]; exact nofun)).trans (if_pos hh)

end receive

/-- What a change of a port's counters, its event concluded, leaves and shows. -/
theorem counted_concluded {k : PortCounters → PortCounters} (h : Settled (s.onPortCounters p k) t) : t.portView p = s.portView p ∧
    (t.port p).errorScore = (s.port p).errorScore ∧
    (t.port p).counters = { k (s.port p).counters with controlDrops := (t.port p).counters.controlDrops } ∧
    t.roster.entries = s.roster.entries ∧ t.mirrorStore = s.mirrorStore := by
  have hstanding := h.standing p
  have hcounters := counters_of_standing hstanding
  refine ⟨(portView_of_settled h p).trans ?_, (congrArg PortStanding.errorScore hstanding).trans ?_, ?_, h.entries, h.mirrors⟩
  · rw [State.portView, State.onPortCounters, onPort_self]
    rfl
  · rw [State.onPortCounters, onPort_self]
    rfl
  · rw [State.onPortCounters, onPort_self] at hcounters
    exact hcounters

/-! ### Scoring (R70) -/

theorem scoreBad_eq (p : Port) (s : State) : countCrc p ((countReceived p s).onPort p PortRecord.badFrame) = s.onPort p fun k => { k with
    errorScore := min (k.errorScore + 4) 16, goodRun := 0
    counters := { k.counters with
      received := min (k.counters.received + 1) (2 ^ 32 - 1), crcErrors := min (k.counters.crcErrors + 1) (2 ^ 32 - 1) } } := by
  cases p <;> rfl

theorem badCrc_of_joined (h : (s.port p).state = .joined) : badCrc p s =
    if 16 ≤ (s.port p).errorScore + 4 then leavePort p (enterTraining p) (countCrc p ((countReceived p s).onPort p PortRecord.badFrame))
    else countCrc p ((countReceived p s).onPort p PortRecord.badFrame) := by
  have hscore : ((countCrc p ((countReceived p s).onPort p PortRecord.badFrame)).port p).errorScore = min ((s.port p).errorScore + 4) 16 := by
    rw [scoreBad_eq, onPort_self]
  unfold badCrc
  simp only [h]
  unfold scoreBad
  dsimp only
  rw [hscore]
  exact if_congr (by omega) rfl rfl

theorem badCrc_of_down (h : (s.port p).state = .disabled ∨ (s.port p).state = .dark ∨ (s.port p).state = .training) : badCrc p s = s := by
  unfold badCrc
  rcases h with h | h | h <;> simp only [h]

theorem badCrc_of_linked (h : (s.port p).state = .linked) : badCrc p s = s.onPortCounters p fun k =>
    { k with received := min (k.received + 1) (2 ^ 32 - 1), crcErrors := min (k.crcErrors + 1) (2 ^ 32 - 1) } := by
  unfold badCrc
  simp only [h]
  cases p <;> rfl

theorem badCrc_of_fault (h : (s.port p).state = .fault) : badCrc p s = countNotJoined p (countReceived p s) := by
  unfold badCrc
  simp only [h]

/-- R70: a port whose score stays below 16. -/
theorem scored_concluded (h : (s.port p).state = .joined) (hs : (s.port p).errorScore + 4 < 16) :
    badCrc p s = s.onPort p (fun k => { k with
      errorScore := k.errorScore + 4, goodRun := 0
      counters := { k.counters with
        received := min (k.counters.received + 1) (2 ^ 32 - 1), crcErrors := min (k.counters.crcErrors + 1) (2 ^ 32 - 1) } }) := by
  rw [badCrc_of_joined h, if_neg (not_le.mpr hs), scoreBad_eq]
  refine onPort_congr ?_
  rw [min_eq_left (by omega)]

theorem scored_standing (h : Settled (s.onPort p (fun k => { k with
      errorScore := k.errorScore + 4, goodRun := 0
      counters := { k.counters with
        received := min (k.counters.received + 1) (2 ^ 32 - 1), crcErrors := min (k.counters.crcErrors + 1) (2 ^ 32 - 1) } })) t) :
    (t.port p).state = (s.port p).state ∧ (t.port p).errorScore = (s.port p).errorScore + 4 ∧ (t.port p).goodRun = 0 ∧
      (t.port p).counters.crcErrors = min ((s.port p).counters.crcErrors + 1) (2 ^ 32 - 1) ∧
      (t.port p).counters.received = min ((s.port p).counters.received + 1) (2 ^ 32 - 1) := by
  have hs := h.standing p
  rw [onPort_self] at hs
  have hc := counters_of_standing hs
  exact ⟨congrArg PortStanding.state hs, congrArg PortStanding.errorScore hs, congrArg PortStanding.goodRun hs,
    congrArg PortCounters.crcErrors hc, congrArg PortCounters.received hc⟩

/-- R70: a port that the score takes to Training. -/
theorem scoredOut_concluded (h : (s.port p).state = .joined) (hs : 16 ≤ (s.port p).errorScore + 4) :
    let t := conclude s (badCrc p s)
    t.portView p = (.training, .none, 1, (s.port p).neighbour, some 2500000, none) ∧ (t.port p).errorScore = 16 ∧ (t.port p).goodRun = 0 ∧
      (t.port p).counters.crcErrors = min ((s.port p).counters.crcErrors + 1) (2 ^ 32 - 1) ∧ PortLost p s t := by
  have hbad := badCrc_of_joined h
  rw [if_pos hs, scoreBad_eq] at hbad
  rw [hbad]
  set w := s.onPort p (fun k => { k with
    errorScore := min (k.errorScore + 4) 16, goodRun := 0
    counters := { k.counters with
      received := min (k.counters.received + 1) (2 ^ 32 - 1), crcErrors := min (k.counters.crcErrors + 1) (2 ^ 32 - 1) } }) with hw
  have hwport : w.port p = _ := onPort_self ..
  have hport : (leavePort p (enterTraining p) w).port p = _ := (leavePort_port ..).trans (enterTraining_port ..)
  have honly : OnlyPort p s (enterTraining p w) := (OnlyPort.onPort ..).trans (onlyPort_enterTraining ..)
  have hlost : LostAt p s (leavePort p (enterTraining p) w) :=
    leavePort_lost (honly.entered (by rw [enterTraining_port]; exact ⟨nofun, nofun⟩)) (by rw [hwport]; exact h)
  rw [hwport] at hport
  clear_value w
  generalize leavePort p (enterTraining p) w = e at hport hlost
  have hdown := conclude_port_of_down (p := p) (e := e) (by rw [hport]; rintro (h | h) <;> exact nomatch h) s
  refine ⟨?_, ?_, ?_, ?_, hlost.portLost rfl⟩
  · rw [conclude_portView, State.portView, hport]
    rfl
  · rw [hdown, hport]
    exact min_eq_right hs
  · rw [hdown, hport]
    rfl
  · rw [hdown, hport]
    unfold PortRecord.cut
    dsimp only
    split <;> rfl

/-! ### The statement -/

theorem heard_eq (s : State) (p : Port) : s.heard p = s.onPort p fun k => { k with
    counters := { k.counters with received := min (k.counters.received + 1) (2 ^ 32 - 1) }
    goodRun := if k.goodRun < 255 then k.goodRun + 1 else 0
    errorScore := if k.goodRun < 255 then k.errorScore else k.errorScore - 1 } := by
  have hgood (r : PortRecord) : r.goodFrame = { r with
      goodRun := if r.goodRun < 255 then r.goodRun + 1 else 0
      errorScore := if r.goodRun < 255 then r.errorScore else r.errorScore - 1 } := by
    unfold PortRecord.goodFrame
    by_cases h : r.goodRun < 255
    · rw [if_neg (by omega), if_pos h, if_pos h]
    · rw [if_pos (by omega), if_neg h, if_neg h]
  have hfold : s.heard p = s.onPort p fun k => ({ k with
      counters := { k.counters with received := countUp k.counters.received } } : PortRecord).goodFrame := by cases p <;> rfl
  rw [hfold]
  exact onPort_congr (hgood _)

/-- R86: a discard, counted. -/
def State.uncounted (s : State) (p : Port) : State := s.onPortCounters p fun k =>
  { k with received := min (k.received + 1) (2 ^ 32 - 1), notJoined := min (k.notJoined + 1) (2 ^ 32 - 1) }

theorem uncounted_concluded (h : Settled (s.uncounted p) t) : t.portView p = s.portView p ∧
    (t.port p).errorScore = (s.port p).errorScore ∧ (t.port p).counters.received = min ((s.port p).counters.received + 1) (2 ^ 32 - 1) ∧
    (t.port p).counters.notJoined = min ((s.port p).counters.notJoined + 1) (2 ^ 32 - 1) ∧ t.roster.entries = s.roster.entries ∧
    t.mirrorStore = s.mirrorStore := by
  obtain ⟨hview, hscore, hcounters, hentries, hmirrors⟩ := counted_concluded h
  exact ⟨hview, hscore, congrArg PortCounters.received hcounters, congrArg PortCounters.notJoined hcounters, hentries, hmirrors⟩

theorem malformed_concluded (h : Settled (countMalformed p (s.heard p)) t) : t.portView p = s.portView p ∧
    (t.port p).counters.malformed = min ((s.port p).counters.malformed + 1) (2 ^ 32 - 1) ∧ t.roster.entries = s.roster.entries ∧
    t.mirrorStore = s.mirrorStore := by
  obtain ⟨hview, -, hcounters, hentries, hmirrors⟩ := counted_concluded h
  refine ⟨hview.trans ?_, (congrArg PortCounters.malformed hcounters).trans ?_, hentries, hmirrors⟩
  · rw [State.portView, heard_port, goodFrame_eq]
    rfl
  · rw [heard_port]
    rfl

theorem hopLimited_concluded (h : Settled (countHopLimited p (s.heard p)) t) : t.portView p = s.portView p ∧
    (t.port p).counters.hopLimited = min ((s.port p).counters.hopLimited + 1) (2 ^ 32 - 1) ∧ t.roster.entries = s.roster.entries ∧
    t.mirrorStore = s.mirrorStore := by
  obtain ⟨hview, -, hcounters, hentries, hmirrors⟩ := counted_concluded h
  refine ⟨hview.trans ?_, (congrArg PortCounters.hopLimited hcounters).trans ?_, hentries, hmirrors⟩
  · rw [State.portView, heard_port, goodFrame_eq]
    rfl
  · rw [heard_port]
    rfl

theorem linkedCrc_concluded (h : Settled (s.onPortCounters p fun k =>
      { k with received := min (k.received + 1) (2 ^ 32 - 1), crcErrors := min (k.crcErrors + 1) (2 ^ 32 - 1) }) t) :
    t.portView p = s.portView p ∧ (t.port p).errorScore = (s.port p).errorScore ∧
      (t.port p).counters.crcErrors = min ((s.port p).counters.crcErrors + 1) (2 ^ 32 - 1) := by
  obtain ⟨hview, hscore, hcounters, -⟩ := counted_concluded h
  exact ⟨hview, hscore, congrArg PortCounters.crcErrors hcounters⟩

theorem uncrc_concluded (h : Settled s t) : t.portView p = s.portView p ∧ (t.port p).counters.crcErrors = (s.port p).counters.crcErrors :=
  ⟨portView_of_settled h p, by rw [counters_of_standing (h.standing p)]⟩

/-- R64, R73: a frame that the state of its port turns away. -/
theorem exec_unjoined (hc : frameArrived c = some (p, f)) (h : (s.port p).state = .linked ∧ isHello f = false ∨ (s.port p).state = .fault) :
    exec c s = .next (concludeFrame c s (s.uncounted p)) := by
  refine exec_of_turned hc rfl fun linked joined hl => Eq.trans ?_ (notJoined_eq p s)
  rcases h with ⟨h, hf⟩ | h
  · rw [receive_of_linked _ _ h, hl hf]
  · exact receive_of_fault _ _ h

theorem exec_illFormed (hc : frameArrived c = some (p, f)) (h : (s.port p).state = .joined) (hf : illFormed f = true) :
    exec c s = .next (concludeFrame c s (countMalformed p (s.heard p))) :=
  exec_of_turned hc rfl fun linked joined _ => receive_of_illFormed linked joined h hf

theorem exec_hopLimited (hc : frameArrived c = some (p, f)) (h : (s.port p).state = .joined) (hf : illFormed f = false)
    (hh : 7 < f.header.hops.toNat) : exec c s = .next (concludeFrame c s (countHopLimited p (s.heard p))) :=
  exec_of_turned hc rfl fun linked joined _ => receive_of_hopLimited linked joined h hf hh

theorem malformed_of_joined (fault : FrameFault) (h : (s.port p).state = .joined) : malformed p fault s = match fault with
    | .form => countMalformed p (s.heard p)
    | .hopLimit => countHopLimited p (s.heard p) := by
  unfold malformed
  simp only [h]
  cases fault <;> rfl

theorem malformed_of_unjoined (fault : FrameFault) (h : (s.port p).state = .linked ∨ (s.port p).state = .fault) :
    malformed p fault s = s.uncounted p := by
  refine Eq.trans ?_ (notJoined_eq p s)
  unfold malformed
  rcases h with h | h <;> simp only [h]

theorem malformed_of_down (fault : FrameFault) (h : (s.port p).state = .disabled ∨ (s.port p).state = .dark ∨ (s.port p).state = .training) :
    malformed p fault s = s := by
  unfold malformed
  rcases h with h | h | h <;> simp only [h]

/-- Settles O48: by the port's state, and for a bad CRC at a Joined port by the score it comes to. -/
theorem turnedAwayFramesAreCounted : Obligations.TurnedAwayFramesAreCounted := by
  intro s p fault r one discarded
  have bad {u : State} (h : badCrc p s = u) : exec (.badCrcFrame p) s = .next (conclude s u) :=
    congrArg (fun v : State => Host.Outcome.next (conclude s v)) h
  have badFault (h : r.state = .fault) : badCrc p s = s.uncounted p := (badCrc_of_fault h).trans (notJoined_eq p s)
  refine ⟨heard_eq s p, fun h hs => bad (scored_concluded h hs), fun h hs => ⟨_, bad (scored_concluded h hs), ?_⟩,
    fun h hs => ⟨_, rfl, scoredOut_concluded h hs⟩, fun h => bad (badCrc_of_linked h),
    fun h => ⟨_, bad (badCrc_of_linked h), linkedCrc_concluded (settled_conclude s _)⟩, fun h => bad (badFault h),
    fun h => ⟨_, bad (badFault h), ?_⟩, fun h => ⟨congrArg _ (malformed_of_down fault h), bad (badCrc_of_down h), _, bad (badCrc_of_down h), ?_⟩,
    fun h => ⟨congrArg _ (malformed_of_joined .form h), congrArg _ (malformed_of_joined .hopLimit h)⟩,
    fun h => congrArg _ (malformed_of_unjoined fault h), fun c f hc =>
      ⟨fun h => exec_of_turned hc rfl fun _ _ _ => receive_of_down _ _ h, exec_unjoined hc, fun h => ⟨_, exec_unjoined hc h, ?_⟩,
        exec_illFormed hc, fun h hf => ⟨_, exec_illFormed hc h hf, malformed_concluded (settled_concludeFrame c s _)⟩, exec_hopLimited hc,
        fun h hf hh => ⟨_, exec_hopLimited hc h hf hh, hopLimited_concluded (settled_concludeFrame c s _)⟩⟩⟩
  · obtain ⟨hstate, hscored⟩ := scored_standing (settled_conclude s _)
    exact ⟨hstate.trans h, hscored⟩
  · obtain ⟨hview, -, -, hcount, -⟩ := uncounted_concluded (settled_conclude s (s.uncounted p))
    exact ⟨hview, hcount⟩
  · exact uncrc_concluded (settled_conclude s s)
  · exact uncounted_concluded (settled_concludeFrame c s _)

end Sys2Proof.Machine

/-! PROOFS. Port Control (R68). -/

namespace Sys2Proof.Machine
variable {s t u w e before : State} {p : Port} {tag : Word16} {port : Byte}

theorem toPort_of_lt (h : 1 < port.toNat) : toPort port = none := by
  unfold toPort
  rw [if_neg, if_neg] <;> (rintro rfl; exact absurd h (by decide))

theorem toPort_of_eq (h : port.toNat = portCode p) : toPort port = some p := by
  cases p with
  | a =>
    have : port = 0 := BitVec.eq_of_toNat_eq h
    rw [this]
    rfl
  | b =>
    have : port = 1 := BitVec.eq_of_toNat_eq h
    rw [this]
    rfl

theorem onPortNumber_of_lt (act : Port → State → State) (s : State) (h : 1 < port.toNat) :
    onPortNumber tag port act s = postResult tag 0x30 .badArgument s := by
  unfold onPortNumber
  rw [toPort_of_lt h]

theorem onPortNumber_of_eq (act : Port → State → State) (s : State) (h : port.toNat = portCode p) : onPortNumber tag port act s = act p s := by
  unfold onPortNumber
  rw [toPort_of_eq h]

/-- What a directive at a port leaves, its Done posted and its event concluded. -/
def State.ported (tag : Word16) (s e : State) : State := conclude s.taken (postResult tag 0x30 .done e)

theorem ported_settled (tag : Word16) (s e : State) : Settled e (s.ported tag e) := (settled_post ..).trans (settled_conclude ..)

theorem ported_view (tag : Word16) (s e : State) (p : Port) : (s.ported tag e).portView p = e.portView p :=
  portView_of_settled (ported_settled tag s e) p

theorem ported_down (tag : Word16) (s : State) (hd : ¬ (e.port p).up) : (s.ported tag e).port p = e.port p :=
  conclude_port_of_down (e := postResult tag 0x30 .done e) hd s.taken

theorem ported_lost (tag : Word16) (h : LostAt p s e) : PortLost p s (s.ported tag e) :=
  (h.reporter (onlyReporter_post tag 0x30 .done e)).portLost rfl

section exec
variable (hv : (s.region 0).valid = true)
include hv

theorem exec_portEnable : exec (.portEnable tag port) s =
    .next (onPortNumber tag port (fun p s => conclude s (postResult tag 0x30 .done (enablePort p s))) s.taken) :=
  exec_of_directive (.portControl tag port 1) rfl hv

theorem exec_portDisable : exec (.portDisable tag port) s =
    .next (onPortNumber tag port (fun p s => conclude s (postResult tag 0x30 .done (disablePort p s))) s.taken) :=
  exec_of_directive (.portControl tag port 2) rfl hv

theorem exec_portRetrain : exec (.portRetrain tag port) s = .next (onPortNumber tag port (fun p s =>
    if (s.port p).state = .disabled then postResult tag 0x30 .busy s
    else conclude s (postResult tag 0x30 .done (retrainPort p s))) s.taken) :=
  exec_of_directive (.portControl tag port 3) rfl hv

end exec

/-! ### Enable, Disable and Retrain at a port -/

theorem onlyPort_taken (p : Port) (s : State) : OnlyPort p s s.taken := (OnlyPort.refl s).reporter ⟨rfl, rfl⟩

theorem flushPort_port (p : Port) (s : State) : (flushPort p s).port p = (s.port p).flushed := onPort_self ..

/-- R68: a Disabled port enabled without a signal. -/
theorem darkened_port (p : Port) (s : State) : (setPortState p .dark .none (flushPort p s)).port p =
    { (s.port p).flushed with state := .dark, cause := .none } := by
  rw [setPortState_port, flushPort_port]

theorem enablePort_of_signal (h : (s.port p).state = .disabled) (hs : (s.port p).signal = true) :
    enablePort p s = enterTraining p (setPortState p .dark .none (flushPort p s)) :=
  (if_pos h).trans (if_pos (by rw [darkened_port]; exact hs))

theorem enablePort_of_no_signal (h : (s.port p).state = .disabled) (hs : (s.port p).signal = false) :
    enablePort p s = setPortState p .dark .none (flushPort p s) :=
  (if_pos h).trans (if_neg (by rw [darkened_port]; exact ne_true_of_eq_false hs))

theorem enablePort_of_enabled (h : (s.port p).state ≠ .disabled) : enablePort p s = s := if_neg h

/-- R68: a port disabled, the event concluded. -/
theorem disabled_concluded (tag : Word16) (h : (s.port p).state ≠ .disabled) : let t := s.ported tag (disablePort p s.taken)
    t.portView p = (.disabled, .none, (s.port p).attempt, (s.port p).neighbour, none, none) ∧ (t.port p).relay = [] ∧
      (t.port p).control = [] ∧ ((s.port p).state = .joined → PortLost p s t) := by
  have honly : OnlyPort p s (enterDisabled p s.taken) := (onlyPort_taken p s).trans (onlyPort_enterDisabled ..)
  have hdisable : disablePort p s.taken = leavePort p (enterDisabled p) s.taken := if_neg h
  have hport : (leavePort p (enterDisabled p) s.taken).port p = _ := (leavePort_port ..).trans (enterDisabled_port ..)
  have hlost (hj : (s.port p).state = .joined) : LostAt p s (leavePort p (enterDisabled p) s.taken) :=
    leavePort_lost (honly.entered (by rw [enterDisabled_port]; exact ⟨nofun, nofun⟩)) hj
  rw [hdisable]
  generalize leavePort p (enterDisabled p) s.taken = e at hport hlost
  have hdown := ported_down (e := e) tag s (by rw [hport]; rintro (h | h) <;> exact nomatch h)
  intro t
  refine ⟨?_, ?_, ?_, fun hj => ported_lost tag (hlost hj)⟩
  · rw [ported_view, State.portView, hport]
    rfl
  all_goals rw [hdown, hport]; rfl

/-- R68: a port retrained, the event concluded. -/
theorem retrained_concluded (tag : Word16) (h : (s.port p).state ≠ .dark) : let t := s.ported tag (retrainPort p s.taken)
    t.portView p = (.training, .none, 1, (s.port p).neighbour, some 2500000, none) ∧ (t.port p).inTransmission = none ∧
      ((s.port p).state = .joined → PortLost p s t) := by
  have honly : OnlyPort p s (enterTraining p s.taken) := (onlyPort_taken p s).trans (onlyPort_enterTraining ..)
  have hretrain : retrainPort p s.taken = leavePort p (enterTraining p) s.taken := if_neg h
  have hport : (leavePort p (enterTraining p) s.taken).port p = _ := (leavePort_port ..).trans (enterTraining_port ..)
  have hlost (hj : (s.port p).state = .joined) : LostAt p s (leavePort p (enterTraining p) s.taken) :=
    leavePort_lost (honly.entered (by rw [enterTraining_port]; exact ⟨nofun, nofun⟩)) hj
  rw [hretrain]
  generalize leavePort p (enterTraining p) s.taken = e at hport hlost
  have hdown := ported_down (e := e) tag s (by rw [hport]; rintro (h | h) <;> exact nomatch h)
  intro t
  refine ⟨?_, ?_, fun hj => ported_lost tag (hlost hj)⟩
  · rw [ported_view, State.portView, hport]
    rfl
  · rw [hdown, hport]
    rfl

theorem idle_concluded (tag : Word16) (s : State) (p : Port) :
    (s.ported tag s.taken).portView p = s.portView p ∧ (s.ported tag s.taken).roster.entries = s.roster.entries :=
  ⟨ported_view tag s s.taken p, (ported_settled tag s s.taken).entries⟩

/-- Settles O42: by the port's state. -/
theorem portControlMovesItsPort : Obligations.PortControlMovesItsPort := by
  intro s tag port hv enable disable retrain
  have henable : exec enable s = _ := exec_portEnable (tag := tag) (port := port) hv
  have hdisable : exec disable s = _ := exec_portDisable (tag := tag) (port := port) hv
  have hretrain : exec retrain s = _ := exec_portRetrain (tag := tag) (port := port) hv
  refine ⟨fun h c hc => ?_, fun p hp => ?_⟩
  · rcases hc with rfl | rfl | rfl
    · exact henable.trans (congrArg _ (onPortNumber_of_lt _ _ h))
    · exact hdisable.trans (congrArg _ (onPortNumber_of_lt _ _ h))
    · exact hretrain.trans (congrArg _ (onPortNumber_of_lt _ _ h))
  · replace henable : exec enable s = .next (s.ported tag (enablePort p s.taken)) :=
      henable.trans (congrArg _ (onPortNumber_of_eq _ _ hp))
    replace hdisable : exec disable s = .next (s.ported tag (disablePort p s.taken)) :=
      hdisable.trans (congrArg _ (onPortNumber_of_eq _ _ hp))
    replace hretrain := hretrain.trans (congrArg _ (onPortNumber_of_eq _ _ hp))
    have hbusy (h : (s.port p).state = .disabled) : exec retrain s = .next (postResult tag 0x30 .busy s.taken) :=
      hretrain.trans (congrArg _ (if_pos h))
    have hretrained (h : (s.port p).state ≠ .disabled) : exec retrain s = .next (s.ported tag (retrainPort p s.taken)) :=
      hretrain.trans (congrArg _ (if_neg h))
    refine ⟨fun h hs => ⟨_, henable, ?_⟩, fun h hs => ⟨_, henable, ?_⟩, fun h => ⟨_, henable, ?_⟩,
      fun h => ⟨_, hdisable, disabled_concluded tag h⟩, fun h => ⟨_, hdisable, ?_⟩, hbusy,
      fun h => ⟨_, hretrained (by rw [show (s.port p).state = .dark from h]; exact nofun), ?_⟩,
      fun h hd => ⟨_, hretrained h, retrained_concluded tag hd⟩⟩
    · rw [ported_view, enablePort_of_signal (s := s.taken) h hs, State.portView, enterTraining_port, darkened_port]
      rfl
    · rw [ported_view, enablePort_of_no_signal (s := s.taken) h hs, State.portView, darkened_port]
      rfl
    · rw [enablePort_of_enabled (s := s.taken) h]
      exact idle_concluded tag s p
    · rw [show disablePort p s.taken = s.taken from if_pos h]
      exact idle_concluded tag s p
    · rw [show retrainPort p s.taken = s.taken from if_pos h]
      exact (idle_concluded tag s p).1

end Sys2Proof.Machine

/-! PROOFS. Taking a vector and an announcement (R94 to R96, R99): what each makes of an entry. -/

namespace Sys2Proof.Machine
variable {s t u : State} {f g n : FrameNo} {p : Port}

/-! ### An announcement (R94, R99) -/

/-- R94, R99: what an entry becomes of the own announcement of its frame. -/
def RosterEntry.announced (news : ItemNews) (auto : Bool) (e : RosterEntry) : RosterEntry :=
  let restarts : Bool := decide (e.state ≠ .absent ∧ e.incarnation ≠ some news.incarnation)
  { e with
    incarnation := some news.incarnation
    masterCapable := news.masterCapable
    belief := news.belief
    sendGate := if restarts then auto else e.sendGate
    acceptGate := if restarts then auto else e.acceptGate
    restartSeen := restarts || e.restartSeen }

theorem entriesOnly_restartFrame (f : FrameNo) (i : Word16) (s : State) : EntriesOnly s (restartFrame f i s) := by
  unfold restartFrame
  exact (entriesOnly_resetGates f s).trans rfl

theorem restartFrame_entry (f : FrameNo) (i : Word16) (s : State) (g : FrameNo) : (restartFrame f i s).entry g =
    if g = f then { s.entry f with sendGate := s.roster.autoAdmit, acceptGate := s.roster.autoAdmit, restartSeen := true, incarnation := some i }
    else s.entry g := by
  change ((resetGates f s).onEntry f fun e => { e with restartSeen := true, incarnation := some i }).entry g = _
  rw [onEntry_entry, resetGates_entry, resetGates_entry, if_pos rfl]
  split <;> rfl

theorem entriesOnly_takeAnnouncement (f : FrameNo) (news : ItemNews) (s : State) : EntriesOnly s (takeAnnouncement f news s) := by
  unfold takeAnnouncement
  exact (EntriesOnly.ite (entriesOnly_restartFrame ..) (.refl s)).trans (entriesOnly_onEntry ..)

theorem takeAnnouncement_entry (f : FrameNo) (news : ItemNews) (s : State) (g : FrameNo) : (takeAnnouncement f news s).entry g =
    if g = f then (s.entry f).announced news s.roster.autoAdmit else s.entry g := by
  unfold takeAnnouncement RosterEntry.announced
  dsimp only
  by_cases h : (s.entry f).state ≠ .absent ∧ (s.entry f).incarnation ≠ some news.incarnation
  · rw [if_pos h, onEntry_entry, restartFrame_entry, restartFrame_entry, if_pos rfl, decide_eq_true h]
    split <;> rfl
  · rw [if_neg h, onEntry_entry, decide_eq_false h]
    split <;> rfl

/-! ### Hop counts (R91, R95) -/

/-- R91: an entry with a hop count via a port. -/
def RosterEntry.hopped (p : Port) (hops : Option Nat) (e : RosterEntry) : RosterEntry :=
  { e with hops := e.hops.set p hops, route := routeOf (e.hops.set p hops) }

theorem entriesOnly_setHops (f : FrameNo) (p : Port) (hops : Option Nat) (s : State) : EntriesOnly s (setHops f p hops s) := entriesOnly_onEntry ..

theorem setHops_entry (f : FrameNo) (p : Port) (hops : Option Nat) (s : State) (g : FrameNo) : (setHops f p hops s).entry g =
    if g = f then (s.entry f).hopped p hops else s.entry g := onEntry_entry ..

/-- R95: the hop count that an item gives an entry. -/
def RosterEntry.hopsOf (item : VectorItem) (e : RosterEntry) : Option Nat := match itemNews item with
  | none => none
  | some n => if n.hops < 7 ∧ (e.state = .absent ∨ e.incarnation = some n.incarnation) then some (n.hops + 1) else none

/-- R95: the incarnation that an Absent entry takes with a hop count. -/
def RosterEntry.reached (item : VectorItem) (e : RosterEntry) : RosterEntry := match itemNews item with
  | none => e
  | some n => if n.hops < 7 ∧ e.state = .absent then { e with incarnation := some n.incarnation } else e

/-- R95: what an entry becomes of an item's hop count. -/
def RosterEntry.heardOf (p : Port) (item : VectorItem) (e : RosterEntry) : RosterEntry := (e.reached item).hopped p (e.hopsOf item)

theorem entriesOnly_takeHops (p : Port) (f : FrameNo) (item : VectorItem) (s : State) : EntriesOnly s (takeHops p f item s) := by
  unfold takeHops
  split
  · exact entriesOnly_setHops ..
  · exact .ite (entriesOnly_setHops ..) (.ite ((entriesOnly_onEntry ..).trans (entriesOnly_setHops ..))
      (.ite (entriesOnly_setHops ..) (entriesOnly_setHops ..)))

theorem takeHops_entry (p : Port) (f : FrameNo) (item : VectorItem) (s : State) (g : FrameNo) : (takeHops p f item s).entry g =
    if g = f then (s.entry f).heardOf p item else s.entry g := by
  unfold takeHops RosterEntry.heardOf RosterEntry.reached RosterEntry.hopsOf
  cases itemNews item with
  | none => exact setHops_entry ..
  | some n =>
    by_cases h7 : n.hops < 7
    case neg =>
      have h8 : 7 < n.hops + 1 := by omega
      simp only [h7, h8, if_true, if_false, false_and]
      exact setHops_entry ..
    have h8 : ¬ 7 < n.hops + 1 := by omega
    by_cases ha : (s.entry f).state = .absent
    · simp only [h7, h8, ha, if_true, if_false, true_and, true_or, setHops_entry, onEntry_entry]
      split <;> rfl
    · by_cases hi : (s.entry f).incarnation = some n.incarnation
      · simp only [h7, h8, ha, hi, if_true, if_false, true_and, false_or]
        exact setHops_entry ..
      · simp only [h7, h8, ha, hi, if_false, true_and, false_or]
        exact setHops_entry ..

/-! ### States (R96) -/

/-- R96: what an entry becomes of an item after the hop counts. -/
def RosterEntry.itemTaken (p : Port) (item : VectorItem) (auto : Bool) (e : RosterEntry) : RosterEntry :=
  if e.route = none then if e.state = .absent ∨ e.state = .lost then e else e.entered .lost auto
  else match itemNews item with
    | some n => if e.route = some p then { e.entered (advertisedEntry n.state) auto with masterCapable := n.masterCapable, belief := n.belief }
      else e
    | none => e

theorem entriesOnly_takeItem (p : Port) (f : FrameNo) (item : VectorItem) (s : State) : EntriesOnly s (takeItem p f item s) := by
  unfold takeItem
  refine .ite (.ite (.refl s) (entriesOnly_enterEntry ..)) (.ite ?_ (.refl s))
  split
  · exact (entriesOnly_enterEntry ..).trans (entriesOnly_onEntry ..)
  · exact .refl s

theorem takeItem_entry (p : Port) (f : FrameNo) (item : VectorItem) (s : State) (g : FrameNo) : (takeItem p f item s).entry g =
    if g = f then (s.entry f).itemTaken p item s.roster.autoAdmit else s.entry g := by
  have self : s.entry g = if g = f then s.entry f else s.entry g := by
    split
    · next h => rw [h]
    · rfl
  unfold takeItem RosterEntry.itemTaken takesItem
  dsimp only
  by_cases hr : (s.entry f).route = none
  · rw [if_pos (by rw [hr]; rfl), if_pos hr]
    split
    · exact self
    · exact enterEntry_entry ..
  · rw [if_neg (by simpa using hr), if_neg hr]
    cases itemNews item with
    | none => split <;> exact self
    | some n =>
      by_cases hp : (s.entry f).route = some p
      · rw [if_pos (by simpa using hp)]
        dsimp only
        rw [if_pos hp, onEntry_entry, enterEntry_entry, enterEntry_entry, if_pos rfl]
        split <;> rfl
      · rw [if_neg (by simpa using hp)]
        dsimp only
        rw [if_neg hp]
        exact self

/-! ### A neighbour's vector (R94 to R96) -/

/-- R94: what the sender's entry becomes of its own item. -/
def RosterEntry.neighboured (p : Port) (item : VectorItem) (auto : Bool) (e : RosterEntry) : RosterEntry := match itemNews item with
  | some n => ((e.announced n auto).hopped p (some 1)).entered (advertisedEntry n.state) auto
  | none => if e.state = .absent ∨ e.state = .lost then e else e.hopped p (some 1)

theorem entriesOnly_hearNeighbour (p : Port) (f : FrameNo) (news : Option ItemNews) (s : State) : EntriesOnly s (hearNeighbour p f news s) := by
  unfold hearNeighbour
  split
  · exact (entriesOnly_takeAnnouncement ..).trans (entriesOnly_setHops ..)
  · exact .ite (.refl s) (entriesOnly_setHops ..)

theorem entriesOnly_enterAdvertised (f : FrameNo) (news : Option ItemNews) (s : State) : EntriesOnly s (enterAdvertised f news s) := by
  unfold enterAdvertised
  split
  · exact entriesOnly_enterEntry ..
  · exact .refl s

theorem entriesOnly_takeVector (p : Port) (f : FrameNo) (items : Vector VectorItem 8) (s : State) : EntriesOnly s (takeVector p f items s) := by
  unfold takeVector
  exact (((entriesOnly_hearNeighbour ..).trans (.foldl (fun u f => entriesOnly_takeHops ..) _ _)).trans (entriesOnly_enterAdvertised ..)).trans
    (.foldl (fun u f => entriesOnly_takeItem ..) _ _)

theorem thirds_nodup (s : State) (f : FrameNo) : (s.thirds f).Nodup := (others_nodup s).filter _

theorem mem_thirds : g ∈ s.thirds f ↔ g ≠ s.own ∧ g ≠ f := by
  simp [State.thirds, mem_others]

theorem hearNeighbour_entry (p : Port) (f : FrameNo) (news : Option ItemNews) (s : State) (g : FrameNo) :
    (hearNeighbour p f news s).entry g = if g = f then (match news with
      | some n => ((s.entry f).announced n s.roster.autoAdmit).hopped p (some 1)
      | none => if (s.entry f).state = .absent ∨ (s.entry f).state = .lost then s.entry f else (s.entry f).hopped p (some 1))
    else s.entry g := by
  unfold hearNeighbour
  cases news with
  | some n =>
    dsimp only
    rw [setHops_entry, takeAnnouncement_entry, takeAnnouncement_entry, if_pos rfl]
    split <;> rfl
  | none =>
    dsimp only
    by_cases h : (s.entry f).state = .absent ∨ (s.entry f).state = .lost
    · rw [if_pos h, if_pos h]
      split
      · next hg => rw [hg]
      · rfl
    · rw [if_neg h, if_neg h]
      exact setHops_entry ..

theorem enterAdvertised_entry (f : FrameNo) (news : Option ItemNews) (s : State) (g : FrameNo) :
    (enterAdvertised f news s).entry g = if g = f then (match news with
      | some n => (s.entry f).entered (advertisedEntry n.state) s.roster.autoAdmit
      | none => s.entry f) else s.entry g := by
  unfold enterAdvertised
  cases news with
  | some n => exact enterEntry_entry ..
  | none =>
    dsimp only
    split
    · next hg => rw [hg]
    · rfl

theorem takeVector_entry (p : Port) (items : Vector VectorItem 8) (s : State) (hf : f ≠ s.own) (g : FrameNo) : (takeVector p f items s).entry g =
    if g = f then (s.entry f).neighboured p items[f] s.roster.autoAdmit
    else if g = s.own then s.entry g
    else ((s.entry g).heardOf p items[g]).itemTaken p items[g] s.roster.autoAdmit := by
  unfold takeVector
  dsimp only
  have h1 := hearNeighbour_entry p f (itemNews items[f]) s
  have o1 := entriesOnly_hearNeighbour p f (itemNews items[f]) s
  generalize hearNeighbour p f (itemNews items[f]) s = s1 at h1 o1
  have h2 (g : FrameNo) : ((s.thirds f).foldl (fun acc f => takeHops p f items[f] acc) s1).entry g =
      if g ∈ s.thirds f then (s1.entry g).heardOf p items[g] else s1.entry g :=
    foldl_entry (F := fun f => RosterEntry.heardOf p items[f]) (fun _ => True) (fun u f _ => ⟨trivial, takeHops_entry p f items[f] u⟩)
      (thirds_nodup s f) s1 trivial g
  have o2 : EntriesOnly s1 ((s.thirds f).foldl (fun acc f => takeHops p f items[f] acc) s1) := .foldl (fun u f => entriesOnly_takeHops ..) _ _
  generalize (s.thirds f).foldl (fun acc f => takeHops p f items[f] acc) s1 = s2 at h2 o2
  have h3 := enterAdvertised_entry f (itemNews items[f]) s2
  have o3 := entriesOnly_enterAdvertised f (itemNews items[f]) s2
  generalize enterAdvertised f (itemNews items[f]) s2 = s3 at h3 o3
  have a3 : s3.roster.autoAdmit = s.roster.autoAdmit := ((o1.trans o2).trans o3).autoAdmit
  rw [foldl_entry (F := fun f => RosterEntry.itemTaken p items[f] s.roster.autoAdmit) (fun u => u.roster.autoAdmit = s.roster.autoAdmit)
    (fun u f hu => ⟨(entriesOnly_takeItem ..).autoAdmit.trans hu, fun g => by rw [takeItem_entry, hu]⟩) (thirds_nodup s f) s3 a3 g]
  have hmem : g ∈ s.thirds f ↔ g ≠ s.own ∧ g ≠ f := mem_thirds
  rw [h3, h2, h2, h1, h1, if_pos rfl, if_neg (show f ∉ s.thirds f from fun k => (mem_thirds.mp k).2 rfl), (o1.trans o2).autoAdmit]
  by_cases hg : g = f
  · subst hg
    rw [if_pos rfl, if_pos rfl, if_neg fun k => (hmem.mp k).2 rfl, RosterEntry.neighboured]
    cases itemNews items[g] <;> rfl
  · rw [if_neg hg, if_neg hg]
    by_cases ho : g = s.own
    · rw [if_pos ho, if_neg fun k => (hmem.mp k).1 ho, if_neg fun k => (hmem.mp k).1 ho, if_neg hg]
    · rw [if_neg ho, if_pos (hmem.mpr ⟨ho, hg⟩), if_pos (hmem.mpr ⟨ho, hg⟩), if_neg hg]

/-! ### A relayed announcement (R94) -/

theorem entriesOnly_takeRelayed (f : FrameNo) (news : Option ItemNews) (s : State) : EntriesOnly s (takeRelayed f news s) := by
  unfold takeRelayed
  split
  · exact .ite (.refl s) (.ite ((entriesOnly_takeAnnouncement ..).trans (entriesOnly_enterEntry ..)) (entriesOnly_takeAnnouncement ..))
  · exact .refl s

/-- R94: what an entry becomes of the relayed announcement of its frame. -/
def RosterEntry.relayed (news : Option ItemNews) (auto : Bool) (e : RosterEntry) : RosterEntry := match news with
  | some n => if e.state = .absent then e
    else if e.route = none then e.announced n auto else (e.announced n auto).entered (advertisedEntry n.state) auto
  | none => e

theorem takeRelayed_entry (f : FrameNo) (news : Option ItemNews) (s : State) (g : FrameNo) : (takeRelayed f news s).entry g =
    if g = f then (s.entry f).relayed news s.roster.autoAdmit else s.entry g := by
  have self : s.entry g = if g = f then s.entry f else s.entry g := by
    split
    · next h => rw [h]
    · rfl
  unfold takeRelayed RosterEntry.relayed
  cases news with
  | none => exact self
  | some n =>
    dsimp only
    by_cases ha : (s.entry f).state = .absent
    · rw [if_pos ha, if_pos ha]
      exact self
    · rw [if_neg ha, if_neg ha]
      have hroute : ((takeAnnouncement f n s).entry f).route = (s.entry f).route := by
        rw [takeAnnouncement_entry, if_pos rfl]
        rfl
      rw [hroute]
      by_cases hr : (s.entry f).route = none
      · rw [if_neg (by rw [hr]; exact nofun), if_pos hr]
        exact takeAnnouncement_entry ..
      · rw [if_pos (Option.isSome_iff_ne_none.mpr hr), if_neg hr, enterEntry_entry, (entriesOnly_takeAnnouncement ..).autoAdmit,
          takeAnnouncement_entry, takeAnnouncement_entry, if_pos rfl]
        split <;> rfl

end Sys2Proof.Machine

/-! PROOFS. What a vector or an announcement that is taken draws (R106, R110, R111, R193): the Leave Acks, the merge, the election. -/

namespace Sys2Proof.Machine
variable {s t u w e before taken : State} {f g n : FrameNo} {p q : Port} {items : Vector VectorItem 8} {neighbour : Bool}

/-! ### Leave Acks (R106) -/

/-- R106: the announcer of Leaving that the part acknowledges. -/
def State.announcer (taken : State) (n : FrameNo) (news : Option ItemNews) : Option FrameNo :=
  if saysLeaving news && decide ((taken.entry n).state ≠ .absent) then some n else none

theorem announcer_eq (taken : State) (n : FrameNo) (item : VectorItem) (f : FrameNo) :
    (taken.announcer n (itemNews item) == some f) = (leaverOf n item == some f && (taken.entry f).state != .absent) := by
  unfold State.announcer leaverOf saysLeaving
  cases itemNews item with
  | none => rfl
  | some k =>
    by_cases hk : k.state = .leaving
    · by_cases hf : n = f
      · subst hf
        by_cases ha : (taken.entry n).state = .absent <;> simp [hk, ha]
      · by_cases ha : (taken.entry n).state = .absent <;> simp [hk, ha, hf]
    · simp [hk]

/-- R106: a frame other than the own that an arrival leaves to be acknowledged. -/
def acknowledged (leaver : Option FrameNo) (s taken : State) (f : FrameNo) : Bool :=
  ((taken.entry f).state == .leaving && (s.entry f).state != .leaving) || (leaver == some f && (taken.entry f).state != .absent)

/-- R106: the Leave Ack for a frame. -/
def State.ackOf (s : State) (f : FrameNo) : Body := .leaveAck ⟨eightByte f, eightByte s.own, (s.entry f).incarnation.getD 0⟩

theorem leaveAcks_eq (leaver : Option FrameNo) (s taken : State) (ho : taken.own = s.own) :
    leaveAcks leaver s taken = (taken.others.filter (acknowledged leaver s taken)).map fun f => (f, taken.ackOf f) := by
  unfold leaveAcks State.others State.ackOf
  rw [List.filter_filter, ho]
  congr 2
  funext f
  exact Bool.and_comm ..

theorem leaveAcks_congr {leaver : Option FrameNo} {u taken : State} (h : ∀ f, u.entry f = taken.entry f) :
    leaveAcks leaver s u = leaveAcks leaver s taken := by
  unfold leaveAcks
  simp only [h]

theorem sendLeaveAck_eq (ho : u.own = taken.own) (he : ∀ g, u.entry g = taken.entry g) (hf : f ≠ taken.own) :
    sendLeaveAck f u = sendUnicast f (taken.ackOf f) u := by
  unfold sendLeaveAck State.ackOf
  dsimp only
  rw [if_neg fun k => hf (k.trans ho), he, ho]

theorem ackLeavers_eq (s taken : State) (n : FrameNo) (item : VectorItem) (ho : taken.own = s.own) :
    ackLeavers s (taken.announcer n (itemNews item)) taken = sendAll (leaveAcks (leaverOf n item) s taken) taken := by
  have htest (f : FrameNo) : (decide ((s.entry f).state ≠ .leaving) && decide ((taken.entry f).state = .leaving) ||
      taken.announcer n (itemNews item) == some f) = acknowledged (leaverOf n item) s taken f := by
    have h2 : decide ((taken.entry f).state = .leaving) = ((taken.entry f).state == .leaving) := rfl
    have h3 : decide ((s.entry f).state ≠ .leaving) = ((s.entry f).state != .leaving) := by cases (s.entry f).state <;> rfl
    rw [announcer_eq, acknowledged, h2, h3, Bool.and_comm]
  unfold ackLeavers
  simp only [htest]
  have key (l : List FrameNo) (u : State) (hl : ∀ f ∈ l, f ≠ taken.own) (hu : ∀ g, u.entry g = taken.entry g) (hown : u.own = taken.own) :
      l.foldl (fun acc f => if acknowledged (leaverOf n item) s taken f then sendLeaveAck f acc else acc) u =
        sendAll ((l.filter (acknowledged (leaverOf n item) s taken)).map fun f => (f, taken.ackOf f)) u := by
    induction l generalizing u with
    | nil => rfl
    | cons f l ih =>
      have hf := hl f List.mem_cons_self
      replace ih := ih (hl := fun g hg => hl g (List.mem_cons_of_mem _ hg))
      rw [List.foldl_cons]
      by_cases ht : acknowledged (leaverOf n item) s taken f = true
      · have hq := queueing_sendUnicast f (taken.ackOf f) u
        rw [if_pos ht, List.filter_cons_of_pos ht, sendLeaveAck_eq hown hu hf, ih _ (fun g => (hq.entry g).trans (hu g)) (hq.own.trans hown)]
        rfl
      · rw [if_neg ht, List.filter_cons_of_neg ht]
        exact ih u hu hown
  rw [key _ _ (fun f hf => mem_others.mp hf) (fun _ => rfl) rfl, leaveAcks_eq _ _ _ ho]

/-! ### Merge (R111) -/

theorem mergeOne_only (a : FrameNo) (s : State) : mergeOne a s = s.onRoster fun r => { r with belief := (mergeOne a s).roster.belief } := by
  obtain ⟨b, hb⟩ : ∃ b, mergeOne a s = s.onRoster fun r => { r with belief := b } := by
    unfold mergeOne
    split
    · split
      · split <;> exact ⟨_, rfl⟩
      · dsimp only
        split <;> exact ⟨_, rfl⟩
    · exact ⟨s.roster.belief, rfl⟩
  rw [hb]
  rfl

theorem mergeOne_of_silent (h : (s.entry f).belief ≠ some f) : mergeOne f s = s := if_neg h

/-- R111: a frame that announces itself as master, where no belief is held. -/
theorem mergeOne_belief_of_none (hb : s.roster.belief = none) : (mergeOne f s).roster.belief =
    if (s.entry f).belief = some f ∧ s.counted f = true ∧ s.capable f = true then some f else none := by
  unfold mergeOne
  by_cases h : (s.entry f).belief = some f
  · rw [if_pos h]
    simp only [hb, h, true_and]
    by_cases hc : s.counted f = true ∧ s.capable f = true
    · rw [if_pos hc, if_pos (by simp [hc])]
      rfl
    · rw [if_neg hc, if_neg (by simpa using hc), hb]
  · rw [if_neg h, if_neg fun k => h k.1, hb]

/-- R111: a frame that announces itself as master, against a belief. -/
theorem mergeOne_belief_of_some {m : FrameNo} (hb : s.roster.belief = some m) : (mergeOne f s).roster.belief =
    if (s.entry f).belief = some f ∧ s.counted f = true ∧ s.counted m = true ∧ s.capable (min f m) = true then some (min f m) else some m := by
  unfold mergeOne
  by_cases h : (s.entry f).belief = some f
  · rw [if_pos h]
    simp only [hb, h, true_and]
    by_cases hc : s.counted f = true ∧ s.counted m = true ∧ s.capable (min f m) = true
    · rw [if_pos hc, if_pos (by simp [hc])]
      rfl
    · rw [if_neg hc, if_neg (by simpa [and_assoc] using hc), hb]
  · rw [if_neg h, if_neg fun k => h k.1, hb]

/-! ### What is taken, altogether (R94 to R96, R106, R110, R111) -/

/-- What the roster takes of a vector or of a relayed announcement. -/
def State.takenOf (s : State) (p : Port) (neighbour : Bool) (n : FrameNo) (items : Vector VectorItem 8) : State :=
  if neighbour then takeVector p n items s else takeRelayed n (itemNews items[n]) s

theorem entriesOnly_takenOf (p : Port) (neighbour : Bool) (n : FrameNo) (items : Vector VectorItem 8) (s : State) :
    EntriesOnly s (s.takenOf p neighbour n items) := .ite (entriesOnly_takeVector ..) (entriesOnly_takeRelayed ..)

/-- What is taken, with the Leave Acks it draws. -/
def State.ackedOf (s : State) (p : Port) (neighbour : Bool) (n : FrameNo) (items : Vector VectorItem 8) : State :=
  sendAll (leaveAcks (leaverOf n items[n]) s (s.takenOf p neighbour n items)) (s.takenOf p neighbour n items)

/-- A frame whose announcement an arrival brings. -/
def State.heardAnnounce (s : State) (p : Port) (neighbour : Bool) (n : FrameNo) (items : Vector VectorItem 8) (f : FrameNo) : Bool :=
  (decide (f = n) && (itemNews items[n]).isSome) || (decide (f ≠ n) && neighbour && takesItem p f (s.takenOf p neighbour n items))

theorem takeRoster_eq (p : Port) (neighbour : Bool) (items : Vector VectorItem 8) (hn : n ≠ s.own) : takeRoster p neighbour n items s =
    electIfNeeded s (((s.ackedOf p neighbour n items).others.filter (s.heardAnnounce p neighbour n items)).foldl
      (fun acc f => mergeOne f acc) (s.ackedOf p neighbour n items)) := by
  have hacked := ackLeavers_eq s (s.takenOf p neighbour n items) n items[n] (entriesOnly_takenOf ..).own
  unfold takeRoster
  rw [if_neg hn, State.ackedOf, ← hacked]
  rfl

/-- Only the belief moves. -/
def OnlyBelief (s u : State) : Prop := u = s.onRoster fun r => { r with belief := u.roster.belief }

theorem OnlyBelief.trans (h : OnlyBelief s t) (k : OnlyBelief t u) : OnlyBelief s u := by
  unfold OnlyBelief at h k ⊢
  rw [k, h]
  rfl

theorem OnlyBelief.foldl {α : Type} {f : State → α → State} (h : ∀ s a, OnlyBelief s (f s a)) (l : List α) (s : State) : OnlyBelief s (l.foldl f s) := by
  induction l generalizing s with
  | nil => exact rfl
  | cons a l ih => exact (h s a).trans (ih _)

theorem takeRoster_only (p : Port) (neighbour : Bool) (items : Vector VectorItem 8) (hn : n ≠ s.own) :
    OnlyBelief (s.ackedOf p neighbour n items) (takeRoster p neighbour n items s) := by
  rw [takeRoster_eq p neighbour items hn]
  exact (OnlyBelief.foldl (fun u f => mergeOne_only f u) _ _).trans (electIfNeeded_only ..)

end Sys2Proof.Machine

/-! PROOFS. The arrival of a vector or an announcement, its event concluded (R93, R106, R110, R111): what it tells, and the belief it leaves. -/

namespace Sys2Proof.Machine
variable {s t u w e before taken : State} {f g n : FrameNo} {p q : Port} {neighbour : Bool} {items : Vector VectorItem 8}

/-! ### What stands of the part to which the roster is told -/

theorem sendAll_roster (us : List (FrameNo × Body)) (s : State) : (sendAll us s).roster = s.roster := by
  rw [(queueing_sendAll us s).only]

theorem sendAll_orders (us : List (FrameNo × Body)) (s : State) : (sendAll us s).orders = s.orders := by
  rw [(queueing_sendAll us s).only]

section taken
variable (p neighbour items) (hn : n ≠ w.own)
include hn

theorem takeRoster_entry (f : FrameNo) :
    (takeRoster p neighbour n items w).entry f = (w.takenOf p neighbour n items).entry f := by
  have honly := takeRoster_only p neighbour items hn
  have hacked := (queueing_sendAll (leaveAcks (leaverOf n items[n]) w (w.takenOf p neighbour n items)) (w.takenOf p neighbour n items)).entry f
  unfold OnlyBelief at honly
  rw [honly]
  exact hacked

theorem takeRoster_own : (takeRoster p neighbour n items w).own = w.own := by
  have honly := takeRoster_only p neighbour items hn
  have hacked := (queueing_sendAll (leaveAcks (leaverOf n items[n]) w (w.takenOf p neighbour n items)) (w.takenOf p neighbour n items)).own
  unfold OnlyBelief at honly
  rw [honly]
  exact hacked.trans (entriesOnly_takenOf ..).own

theorem takeRoster_link : (takeRoster p neighbour n items w).link = (w.ackedOf p neighbour n items).link := by
  have honly := takeRoster_only p neighbour items hn
  unfold OnlyBelief at honly
  rw [honly]
  rfl

theorem takeRoster_joined (q : Port) : (takeRoster p neighbour n items w).joined q = w.joined q := by
  rw [State.joined, State.port, takeRoster_link p neighbour items hn]
  refine ((queueing_sendAll _ _).joined q).trans ?_
  rw [State.joined, (entriesOnly_takenOf ..).port]
  rfl

theorem takeRoster_orders : (takeRoster p neighbour n items w).orders.pending = w.orders.pending := by
  have honly := takeRoster_only p neighbour items hn
  unfold OnlyBelief at honly
  rw [honly]
  have htaken := (entriesOnly_takenOf p neighbour n items w).orders
  change (w.ackedOf p neighbour n items).orders.pending = _
  rw [State.ackedOf, sendAll_orders, htaken]

theorem takeRoster_roster : (takeRoster p neighbour n items w).roster = { w.roster with
    entries := (takeRoster p neighbour n items w).roster.entries
    waitSet := (takeRoster p neighbour n items w).roster.waitSet
    belief := (takeRoster p neighbour n items w).roster.belief } := by
  have honly := congrArg State.roster (takeRoster_only p neighbour items hn)
  have hacked : (w.ackedOf p neighbour n items).roster = (w.takenOf p neighbour n items).roster := sendAll_roster _ _
  have htaken := (entriesOnly_takenOf p neighbour n items w).roster
  generalize takeRoster p neighbour n items w = e at honly
  change e.roster = { (w.ackedOf p neighbour n items).roster with belief := e.roster.belief } at honly
  rw [hacked] at honly
  rw [honly, htaken]

/-- R106: what of the Leave Acks is told. -/
theorem told_takeRoster {start : Port → List Frame × Nat} (ho : w.own = s.own) (he : ∀ f, w.entry f = s.entry f)
    (hs : ∀ q, w.joined q = true → w.control q = start q ∧ (w.port q).inTransmission = (s.port q).inTransmission ∧
      ((s.port q).slotReply = none → (w.port q).slotReply = none) ∧ ((s.port q).slotRequest = none → (w.port q).slotRequest = none))
    (hseq : w.link.broadcastSeq = s.link.broadcastSeq) (hunsent : w.link.unsentOwn = s.link.unsentOwn) :
    Told.Event start [] (leaveAcks (leaverOf n items[n]) s (takeRoster p neighbour n items w)) s (takeRoster p neighbour n items w) := by
  have hentry := takeRoster_entry p neighbour items hn
  have hown := takeRoster_own p neighbour items hn
  have hlink := takeRoster_link p neighbour items hn
  have hjoined := takeRoster_joined p neighbour items hn
  generalize takeRoster p neighbour n items w = e at hentry hown hlink hjoined
  have honly := entriesOnly_takenOf p neighbour n items w
  have hacks : leaveAcks (leaverOf n items[n]) s e = leaveAcks (leaverOf n items[n]) w (w.takenOf p neighbour n items) := by
    unfold leaveAcks
    simp only [hentry, he, ho]
  rw [hacks]
  unfold State.ackedOf at hlink
  generalize leaveAcks (leaverOf n items[n]) w (w.takenOf p neighbour n items) = us at hlink
  generalize w.takenOf p neighbour n items = v at hlink hentry honly
  have hq := queueing_sendAll us v
  have hvown : v.own = w.own := honly.own
  have hframe (b : Body) : e.ownFrame b = v.ownFrame b := ownFrame_congr (hown.trans hvown.symm) b
  have hvjoined (q : Port) : v.joined q = w.joined q := by rw [State.joined, honly.port]; rfl
  have hroute (d : FrameNo) : e.openRoute d = v.openRoute d := by simp only [State.openRoute, hentry, hjoined, hvjoined]
  have hport (q : Port) : e.port q = (sendAll us v).port q := by rw [State.port, hlink]; rfl
  refine ⟨hown.trans ho, fun q hj => ?_, fun q hj => ?_, ?_, ?_⟩
  · have hjw : w.joined q = true := (hjoined q).symm.trans hj
    have hcontrol : e.control q = (sendAll us v).control q := congrArg PortRecord.queue (hport q)
    have hv : v.control q = start q := by rw [← (hs q hjw).1, State.control, honly.port]; rfl
    rw [hcontrol, sendAll_control us v ((hvjoined q).trans hjw), hv]
    simp only [eventFrames, List.mapIdx_nil, List.nil_append, hframe, hentry]
  · have hjw : w.joined q = true := (hjoined q).symm.trans hj
    rw [hport, hq.port q, honly.port]
    exact (hs q hjw).2
  · rw [hlink, sendAll_seq, honly.link, hseq, List.length_nil, ite_self]
    exact (BitVec.add_zero _).symm
  · rw [hlink, sendAll_unsent, honly.link, hunsent]
    simp only [hroute]

end taken

/-- R106: an arrival that is taken, its event concluded. -/
theorem Told.of_takeRoster {start : Port → List Frame × Nat} (hn : n ≠ w.own) (ho : w.own = s.own) (he : ∀ f, w.entry f = s.entry f)
    (hs : ∀ q, w.joined q = true → w.control q = start q ∧ (w.port q).inTransmission = (s.port q).inTransmission ∧
      ((s.port q).slotReply = none → (w.port q).slotReply = none) ∧ ((s.port q).slotRequest = none → (w.port q).slotRequest = none))
    (hseq : w.link.broadcastSeq = s.link.broadcastSeq) (hunsent : w.link.unsentOwn = s.link.unsentOwn)
    (hp : w.orders.pending = []) (hphase : w.roster.phase = .none)
    (ht : t = conclude s (takeRoster p neighbour n items w)) : Told start [] (leaveAcks (leaverOf n items[n]) s t) s t := by
  have hevent := told_takeRoster p neighbour items hn ho he hs hseq hunsent
  have hpending := (takeRoster_orders p neighbour items hn).trans hp
  have hwaits : (takeRoster p neighbour n items w).roster.phase = .none := by rw [takeRoster_roster p neighbour items hn]; exact hphase
  generalize takeRoster p neighbour n items w = e at ht hevent hpending hwaits
  have hconcl : ConcludesAs s e (concludeFrom s s e) := concludesAs_of_waiting (.inr hpending) (.of_none hwaits)
  have hentry : ∀ f, t.entry f = e.entry f := by
    have hsettled := settled_conclude s e
    rw [← ht] at hsettled
    intro f
    rw [State.entry, hsettled.entries]
    rfl
  rw [leaveAcks_congr hentry]
  refine .of_event hevent rfl ?_
  rw [ht]
  exact hconcl

end Sys2Proof.Machine

/-! PROOFS. Broadcasts of other frames (R75, R76): the list they join, and the copy that goes on. -/

namespace Sys2Proof.Machine
variable {s t u w e : State} {p q : Port} {f : Frame} {o : FrameNo} {h : Header}

/-! ### The relayed copy (R76) -/

theorem relayBroadcast_port_other (p : Port) (f : Frame) (s : State) : (relayBroadcast p f s).port (otherPort p) =
    if s.joined (otherPort p) = true ∧ f.header.hops.toNat < 7 then (s.port (otherPort p)).offered (hopOn f) else s.port (otherPort p) := by
  unfold relayBroadcast countHopLimited
  by_cases hj : s.joined (otherPort p) = true
  · rw [if_pos hj]
    by_cases hh : f.header.hops.toNat < 7
    · rw [if_pos hh, if_pos ⟨hj, hh⟩, offerRelay_eq, onPort_self]
    · rw [if_neg hh, if_neg fun k => hh k.2]
      exact onPort_other ..
  · rw [if_neg hj, if_neg fun k => hj k.1]

theorem relayBroadcast_port_self (p : Port) (f : Frame) (s : State) : (relayBroadcast p f s).port p =
    { s.port p with counters := { (s.port p).counters with
        hopLimited := if s.joined (otherPort p) = true ∧ 7 ≤ f.header.hops.toNat then countUp (s.port p).counters.hopLimited
          else (s.port p).counters.hopLimited } } := by
  unfold relayBroadcast countHopLimited
  by_cases hj : s.joined (otherPort p) = true
  · rw [if_pos hj]
    by_cases hh : f.header.hops.toNat < 7
    · rw [if_pos hh, if_neg (by omega), offerRelay_eq]
      have := onPort_other s (otherPort p) fun r => r.offered (hopOn f)
      rwa [otherPort_otherPort] at this
    · rw [if_neg hh, if_pos ⟨hj, by omega⟩]
      exact onPort_self ..
  · rw [if_neg hj, if_neg fun k => hj k.1]

theorem onlyLink_relayBroadcast (p : Port) (f : Frame) (s : State) : OnlyLink s (relayBroadcast p f s) := by
  unfold relayBroadcast countHopLimited
  exact .ite (.ite (onlyLink_offerRelay ..) rfl) rfl

theorem relayBroadcast_numbers (p : Port) (f : Frame) (s : State) :
    (relayBroadcast p f s).link.broadcastSeq = s.link.broadcastSeq ∧ (relayBroadcast p f s).link.unsentOwn = s.link.unsentOwn := by
  unfold relayBroadcast countHopLimited offerRelay
  split_ifs <;> exact ⟨rfl, rfl⟩

/-! ### A new broadcast (R75) -/

/-- The part after a new broadcast of another frame has been heard, listed and relayed. -/
def State.listed (s : State) (p : Port) (f : Frame) (o : FrameNo) (seq : Word16) (fresh : Bool) : State :=
  relayBroadcast p f ((s.heard p).onRoster fun r => { r with recent := listBroadcast fresh o seq r.recent })

section listed
variable (s p f o) (seq : Word16) (fresh : Bool)

theorem listed_parts : s.listed p f o seq fresh =
    { s with link := (s.listed p f o seq fresh).link, roster := { s.roster with recent := listBroadcast fresh o seq s.roster.recent } } := by
  have honly := onlyLink_relayBroadcast p f ((s.heard p).onRoster fun r => { r with recent := listBroadcast fresh o seq r.recent })
  unfold OnlyLink at honly
  exact honly

theorem listed_roster : (s.listed p f o seq fresh).roster = { s.roster with recent := listBroadcast fresh o seq s.roster.recent } := by
  rw [listed_parts]

theorem listed_own : (s.listed p f o seq fresh).own = s.own := by
  rw [listed_parts]
  rfl

theorem listed_entry (g : FrameNo) : (s.listed p f o seq fresh).entry g = s.entry g := by
  rw [listed_parts]
  rfl

theorem listed_numbers : (s.listed p f o seq fresh).link.broadcastSeq = s.link.broadcastSeq ∧
    (s.listed p f o seq fresh).link.unsentOwn = s.link.unsentOwn := relayBroadcast_numbers ..

theorem listed_port_self : (s.listed p f o seq fresh).port p =
    { (s.heard p).port p with counters := { ((s.heard p).port p).counters with
        hopLimited := ((s.listed p f o seq fresh).port p).counters.hopLimited } } := by
  have := relayBroadcast_port_self p f ((s.heard p).onRoster fun r => { r with recent := listBroadcast fresh o seq r.recent })
  rw [State.listed, this]
  rfl

theorem listed_port_other : (s.listed p f o seq fresh).port (otherPort p) =
    if s.joined (otherPort p) = true ∧ f.header.hops.toNat < 7 then (s.port (otherPort p)).offered (hopOn f) else s.port (otherPort p) := by
  have := relayBroadcast_port_other p f ((s.heard p).onRoster fun r => { r with recent := listBroadcast fresh o seq r.recent })
  rw [State.listed, this]
  have hjoined : ((s.heard p).onRoster fun r => { r with recent := listBroadcast fresh o seq r.recent }).joined (otherPort p) =
      s.joined (otherPort p) := heard_joined (otherPort p)
  have hport : ((s.heard p).onRoster fun r => { r with recent := listBroadcast fresh o seq r.recent }).port (otherPort p) =
      s.port (otherPort p) := heard_port_other
  rw [hjoined, hport]

/-- What of a port's record a new broadcast leaves. -/
theorem listed_port (q : Port) : ((s.listed p f o seq fresh).port q).state = (s.port q).state ∧
    (s.listed p f o seq fresh).control q = s.control q ∧ ((s.listed p f o seq fresh).port q).inTransmission = (s.port q).inTransmission ∧
    ((s.listed p f o seq fresh).port q).slotReply = (s.port q).slotReply ∧
    ((s.listed p f o seq fresh).port q).slotRequest = (s.port q).slotRequest := by
  rcases port_cases p q with rfl | rfl
  · rw [State.control, listed_port_self, heard_port, goodFrame_eq]
    exact ⟨rfl, rfl, rfl, rfl, rfl⟩
  · rw [State.control, listed_port_other]
    split
    · unfold PortRecord.offered
      split <;> exact ⟨rfl, rfl, rfl, rfl, rfl⟩
    · exact ⟨rfl, rfl, rfl, rfl, rfl⟩

theorem listed_joined (q : Port) : (s.listed p f o seq fresh).joined q = s.joined q := by
  rw [State.joined, (listed_port s p f o seq fresh q).1]
  rfl

/-- R76, R80: the relay queue of the other port. -/
theorem listed_relay (hj : s.joined (otherPort p) = true) : ((s.listed p f o seq fresh).port (otherPort p)).relay =
    if f.header.hops.toNat < 7 ∧ (s.port (otherPort p)).relay.length < 64 then (s.port (otherPort p)).relay ++ [hopOn f]
    else (s.port (otherPort p)).relay := by
  rw [listed_port_other]
  by_cases hh : f.header.hops.toNat < 7
  · rw [if_pos ⟨hj, hh⟩, (offered_spec ..).2.1]
    exact if_congr (by simp [hh]) rfl rfl
  · rw [if_neg fun k => hh k.2, if_neg fun k => hh k.1]

end listed

/-! ### The list (R75) -/

theorem freshLife_iff (s : State) (o : FrameNo) (i : Word16) :
    s.freshLife o (some i) = true ↔ ¬ ((s.entry o).state ≠ .absent ∧ (s.entry o).incarnation = some i) := by
  simp only [State.freshLife, Bool.or_eq_true, beq_iff_eq, bne_iff_ne]
  tauto

theorem duplicateBroadcast_iff (s : State) (o : FrameNo) (seq i : Word16) : s.duplicateBroadcast o seq (some i) = true ↔
    (o, seq) ∈ s.roster.recent ∧ (s.entry o).state ≠ .absent ∧ (s.entry o).incarnation = some i := by
  rw [State.duplicateBroadcast, Bool.and_eq_true, Bool.not_eq_true', ← Bool.not_eq_true, freshLife_iff, not_not, List.contains_iff_mem]

theorem listBroadcast_eq (fresh : Bool) (o : FrameNo) (seq : Word16) (recent : List (FrameNo × Word16)) :
    let kept := if fresh = true then recent.filter fun k => k.1 ≠ o else recent
    listBroadcast fresh o seq recent = (kept ++ [(o, seq)]).drop (kept.length - 15) := by
  unfold listBroadcast
  dsimp only
  congr 1
  simp only [List.length_append, List.length_singleton, Config.recentPlaces]
  omega

theorem listBroadcast_tail (fresh : Bool) (o : FrameNo) (seq : Word16) (recent : List (FrameNo × Word16)) :
    (listBroadcast fresh o seq recent).getLast? = some (o, seq) ∧ (listBroadcast fresh o seq recent).length ≤ 16 := by
  rw [listBroadcast_eq]
  generalize (if fresh = true then recent.filter fun k => k.1 ≠ o else recent) = kept
  have hdrop : (kept ++ [(o, seq)]).drop (kept.length - 15) = kept.drop (kept.length - 15) ++ [(o, seq)] :=
    List.drop_append_of_le_length (Nat.sub_le _ _)
  rw [hdrop]
  refine ⟨List.getLast?_concat, ?_⟩
  simp only [List.length_append, List.length_drop, List.length_singleton]
  omega

/-! ### Arrivals (R75) -/

theorem takeBroadcast_of_duplicate {seq : Word16} {incarnation : FrameNo → Option Word16} {deliver : FrameNo → State → State}
    (hd : s.duplicateBroadcast o seq (incarnation o) = true) : takeBroadcast p f seq incarnation deliver o s =
      s.onPortCounters p fun c => { c with duplicates := countUp c.duplicates } := if_pos hd

theorem takeBroadcast_of_new {seq : Word16} {incarnation : FrameNo → Option Word16} {deliver : FrameNo → State → State}
    (hd : ¬ s.duplicateBroadcast o seq (incarnation o) = true) : takeBroadcast p f seq incarnation deliver o (s.heard p) =
      deliver o (s.listed p f o seq (s.freshLife o (incarnation o))) := if_neg hd

end Sys2Proof.Machine

/-! PROOFS. Roster Updates (R75, R76, R94, R106): of own origin, duplicate, and new. -/

namespace Sys2Proof.Machine
variable {s t u w e : State} {p q : Port} {f : Frame} {o n : FrameNo} {h : Header} {b : RosterUpdateBody} {items : Vector VectorItem 8}
  {neighbour : Bool}

/-! ### What an announcement that is taken leaves of its frame's entry (R94) -/

theorem entered_link (st : EntryState) (hst : st ≠ .absent) (auto : Bool) (e : RosterEntry) :
    (e.entered st auto).state = st ∧ (e.entered st auto).hops = e.hops ∧ (e.entered st auto).route = e.route ∧
      (e.entered st auto).incarnation = e.incarnation ∧ (e.entered st auto).masterCapable = e.masterCapable ∧
      (e.entered st auto).belief = e.belief := by
  refine ⟨entered_state .., ?_⟩
  rw [entered_rest hst]
  exact ⟨rfl, rfl, rfl, rfl, rfl⟩

theorem advertisedEntry_ne_absent (st : PartState) : advertisedEntry st ≠ .absent := by cases st <;> exact nofun

/-- R94: a neighbour's entry after its own announcement. -/
theorem neighboured_spec {item : VectorItem} {news : ItemNews} (hnews : itemNews item = some news) (auto : Bool) (e : RosterEntry) :
    let e' := e.neighboured p item auto
    e'.state = advertisedEntry news.state ∧ e'.hops.get p = some 1 ∧ e'.incarnation = some news.incarnation ∧
      e'.masterCapable = news.masterCapable ∧ e'.belief = news.belief := by
  intro e'
  have he : e' = ((e.announced news auto).hopped p (some 1)).entered (advertisedEntry news.state) auto := by
    change RosterEntry.neighboured p item auto e = _
    unfold RosterEntry.neighboured
    rw [hnews]
  obtain ⟨hstate, hhops, -, hinc, hcap, hbel⟩ := entered_link (advertisedEntry news.state) (advertisedEntry_ne_absent _) auto
    ((e.announced news auto).hopped p (some 1))
  rw [← he] at hstate hhops hinc hcap hbel
  refine ⟨hstate, ?_, hinc, hcap, hbel⟩
  rw [hhops]
  cases p <;> rfl

theorem itemNews_incarnation {item : VectorItem} {news : ItemNews} (hnews : itemNews item = some news) : news.incarnation = item.incarnation := by
  unfold itemNews at hnews
  split at hnews
  · obtain ⟨st, -, rfl⟩ := Option.map_eq_some_iff.mp hnews
    rfl
  · exact nomatch hnews

/-- R94: the entry of a relayed announcement. -/
theorem relayed_spec {item : VectorItem} {news : ItemNews} (hnews : itemNews item = some news) (auto : Bool) {e : RosterEntry} (ha : e.state ≠ .absent) :
    (e.relayed (itemNews item) auto).incarnation = some item.incarnation ∧ (e.relayed (itemNews item) auto).hops = e.hops ∧
      (e.relayed (itemNews item) auto).state = if e.route = none then e.state else advertisedEntry news.state := by
  unfold RosterEntry.relayed
  rw [hnews, ← itemNews_incarnation hnews]
  dsimp only
  rw [if_neg ha]
  by_cases hr : e.route = none
  · rw [if_pos hr, if_pos hr]
    exact ⟨rfl, rfl, rfl⟩
  · rw [if_neg hr, if_neg hr]
    obtain ⟨hstate, hhops, -, hinc, -⟩ := entered_link (advertisedEntry news.state) (advertisedEntry_ne_absent _) auto (e.announced news auto)
    exact ⟨hinc, hhops, hstate⟩

theorem takenOf_neighbour (p : Port) (items : Vector VectorItem 8) (hn : n ≠ w.own) :
    (w.takenOf p true n items).entry n = (w.entry n).neighboured p items[n] w.roster.autoAdmit := by
  have := takeVector_entry p items w hn n
  rw [if_pos rfl] at this
  exact this

theorem takenOf_relayed (p : Port) (n : FrameNo) (items : Vector VectorItem 8) (w : State) :
    (w.takenOf p false n items).entry n = (w.entry n).relayed (itemNews items[n]) w.roster.autoAdmit := by
  have := takeRelayed_entry n (itemNews items[n]) w n
  rw [if_pos rfl] at this
  exact this

theorem takeRoster_entries (p : Port) (neighbour : Bool) (items : Vector VectorItem 8) (hn : n ≠ w.own) :
    (takeRoster p neighbour n items w).roster.entries = (w.takenOf p neighbour n items).roster.entries := by
  have honly := takeRoster_only p neighbour items hn
  have hacked : (w.ackedOf p neighbour n items).roster = (w.takenOf p neighbour n items).roster := sendAll_roster _ _
  unfold OnlyBelief at honly
  rw [honly]
  change (w.ackedOf p neighbour n items).roster.entries = _
  rw [hacked]

theorem takeRelayed_of_absent (news : Option ItemNews) (ha : (w.entry n).state = .absent) : takeRelayed n news w = w := by
  unfold takeRelayed
  split
  · exact if_pos ha
  · rfl

/-! ### The commands -/

/-- A new Roster Update of another frame. -/
def newUpdate (b : RosterUpdateBody) (s : State) (o : FrameNo) : Prop :=
  ¬ ((o, b.seq) ∈ s.roster.recent ∧ (s.entry o).state ≠ .absent ∧ (s.entry o).incarnation = some b.items[o].incarnation)

/-- The part that a new Roster Update comes to, heard, listed and relayed. -/
def State.updated (s : State) (p : Port) (h : Header) (b : RosterUpdateBody) (o : FrameNo) : State :=
  s.listed p ⟨h, .rosterUpdate b⟩ o b.seq (s.freshLife o (some b.items[o].incarnation))

theorem exec_rosterUpdate (hp : s.passes p ⟨h, .rosterUpdate b⟩) (ho : h.origin = eightByte o) (hne : o ≠ s.own) :
    exec (.rosterUpdate p h b) s = .next (conclude s (takeBroadcast p ⟨h, .rosterUpdate b⟩ b.seq (fun o => some b.items[o].incarnation)
      (fun o => takeRoster p (h.hops == 0) o b.items) o (s.heard p))) := by
  have hreceive := receive_of_passes hp (countNotJoined p) (foreignFrame p h (takeBroadcast p ⟨h, .rosterUpdate b⟩ b.seq
    (fun o => some b.items[o].incarnation) fun o => takeRoster p (h.hops == 0) o b.items))
  rw [foreignFrame_of_other (s := s.heard p) ho hne] at hreceive
  exact congrArg (fun v : State => Host.Outcome.next (conclude s v)) hreceive

theorem exec_rosterUpdate_new (hp : s.passes p ⟨h, .rosterUpdate b⟩) (ho : h.origin = eightByte o) (hne : o ≠ s.own) (hnew : newUpdate b s o) :
    exec (.rosterUpdate p h b) s = .next (conclude s (takeRoster p (h.hops == 0) o b.items (s.updated p h b o))) := by
  rw [exec_rosterUpdate hp ho hne, takeBroadcast_of_new fun hd => hnew ((duplicateBroadcast_iff ..).mp hd)]
  rfl

theorem exec_rosterUpdate_again (hp : s.passes p ⟨h, .rosterUpdate b⟩) (ho : h.origin = eightByte o) (hne : o ≠ s.own) (hnew : ¬ newUpdate b s o) :
    exec (.rosterUpdate p h b) s = .next (conclude s ((s.heard p).onPortCounters p fun c => { c with duplicates := countUp c.duplicates })) := by
  rw [exec_rosterUpdate hp ho hne, takeBroadcast_of_duplicate ((duplicateBroadcast_iff ..).mpr (not_not.mp hnew))]

section new
variable (s p h b) (hne : o ≠ s.own)

/-- What a new Roster Update leaves of the part, its event concluded. -/
def State.afterUpdate (s : State) (p : Port) (h : Header) (b : RosterUpdateBody) (o : FrameNo) : State :=
  conclude s (takeRoster p (h.hops == 0) o b.items (s.updated p h b o))

theorem updated_ne (hne : o ≠ s.own) : o ≠ (s.updated p h b o).own := by
  have := listed_own s p ⟨h, .rosterUpdate b⟩ o b.seq (s.freshLife o (some b.items[o].incarnation))
  exact fun k => hne (k.trans this)

include hne

theorem afterUpdate_recent : (s.afterUpdate p h b o).roster.recent =
    listBroadcast (s.freshLife o (some b.items[o].incarnation)) o b.seq s.roster.recent := by
  have hsettled := settled_conclude s (takeRoster p (h.hops == 0) o b.items (s.updated p h b o))
  rw [State.afterUpdate, hsettled.recent, takeRoster_roster p _ b.items (updated_ne s p h b hne), State.updated, listed_roster]

theorem afterUpdate_entries : (s.afterUpdate p h b o).roster.entries = ((s.updated p h b o).takenOf p (h.hops == 0) o b.items).roster.entries := by
  have hsettled := settled_conclude s (takeRoster p (h.hops == 0) o b.items (s.updated p h b o))
  rw [State.afterUpdate, hsettled.entries, takeRoster_entries p _ b.items (updated_ne s p h b hne)]

theorem afterUpdate_entry (g : FrameNo) : (s.afterUpdate p h b o).entry g = ((s.updated p h b o).takenOf p (h.hops == 0) o b.items).entry g := by
  rw [State.entry, afterUpdate_entries s p h b hne]
  rfl

theorem updated_port (q : Port) : ((takeRoster p (h.hops == 0) o b.items (s.updated p h b o)).port q).relay = ((s.updated p h b o).port q).relay ∧
    ((takeRoster p (h.hops == 0) o b.items (s.updated p h b o)).port q).inTransmission = ((s.updated p h b o).port q).inTransmission ∧
    ((takeRoster p (h.hops == 0) o b.items (s.updated p h b o)).port q).counters.duplicates = ((s.updated p h b o).port q).counters.duplicates := by
  have hlink := takeRoster_link p (h.hops == 0) b.items (updated_ne s p h b hne)
  have hport : (takeRoster p (h.hops == 0) o b.items (s.updated p h b o)).port q =
      ((s.updated p h b o).ackedOf p (h.hops == 0) o b.items).port q := by rw [State.port, hlink]; rfl
  have hq := (queueing_sendAll (leaveAcks (leaverOf o b.items[o]) (s.updated p h b o) ((s.updated p h b o).takenOf p (h.hops == 0) o b.items))
    ((s.updated p h b o).takenOf p (h.hops == 0) o b.items)).port q
  rw [hport, State.ackedOf, hq, (entriesOnly_takenOf ..).port]
  exact ⟨rfl, rfl, rfl⟩

theorem afterUpdate_duplicates : ((s.afterUpdate p h b o).port p).counters.duplicates = (s.port p).counters.duplicates := by
  have hsettled := settled_conclude s (takeRoster p (h.hops == 0) o b.items (s.updated p h b o))
  have hcounters := counters_of_standing (hsettled.standing p)
  rw [State.afterUpdate, hcounters, (updated_port s p h b hne p).2.2, State.updated, listed_port_self, heard_port]

theorem afterUpdate_relay (hj : s.joined (otherPort p) = true) (hb : (s.port (otherPort p)).inTransmission.isSome = true) :
    ((s.afterUpdate p h b o).port (otherPort p)).relay =
      if h.hops.toNat < 7 ∧ (s.port (otherPort p)).relay.length < 64
      then (s.port (otherPort p)).relay ++ [⟨⟨h.origin, h.hops + 1⟩, .rosterUpdate b⟩] else (s.port (otherPort p)).relay := by
  obtain ⟨hrelay, hsend, -⟩ := updated_port s p h b hne (otherPort p)
  have hbusy : ((s.updated p h b o).port (otherPort p)).inTransmission = (s.port (otherPort p)).inTransmission :=
    (listed_port ..).2.2.1
  have hrests := (rests_concludeFrom s s (takeRoster p (h.hops == 0) o b.items (s.updated p h b o))).ports.sending (otherPort p)
    (by rw [hsend, hbusy]; exact hb)
  exact hrests.2.trans (hrelay.trans (listed_relay s p ⟨h, .rosterUpdate b⟩ o _ _ hj))

theorem afterUpdate_told (hp : s.orders.pending = []) (hphase : s.roster.phase = .none) :
    Told s.control [] (leaveAcks (leaverOf o b.items[o]) s (s.afterUpdate p h b o)) s (s.afterUpdate p h b o) := by
  have hport := listed_port s p ⟨h, .rosterUpdate b⟩ o b.seq (s.freshLife o (some b.items[o].incarnation))
  have hroster := listed_roster s p ⟨h, .rosterUpdate b⟩ o b.seq (s.freshLife o (some b.items[o].incarnation))
  have horders := congrArg State.orders (listed_parts s p ⟨h, .rosterUpdate b⟩ o b.seq (s.freshLife o (some b.items[o].incarnation)))
  have hnumbers := listed_numbers s p ⟨h, .rosterUpdate b⟩ o b.seq (s.freshLife o (some b.items[o].incarnation))
  refine Told.of_takeRoster (updated_ne s p h b hne) (listed_own ..) (fun g => listed_entry s p _ o _ _ g) (fun q _ => ?_) hnumbers.1 hnumbers.2 ?_ ?_ rfl
  · obtain ⟨-, hc, hi, hr, hq⟩ := hport q
    exact ⟨hc, hi, fun k => hr.trans k, fun k => hq.trans k⟩
  · exact (congrArg RackOrders.pending horders).trans hp
  · exact (congrArg Roster.phase hroster).trans hphase

end new

/-- Settles O54: by the origin, and by whether its pair is listed under the recorded incarnation. -/
theorem rosterUpdatesAreTakenOnce : Obligations.RosterUpdatesAreTakenOnce := by
  intro s p h b o hp ho c item e again kept one
  have hagain (k : again) : ¬ newUpdate b s o := not_not.mpr k
  have hnew (hne : o ≠ s.own) (k : ¬ again) : exec c s = .next (s.afterUpdate p h b o) := exec_rosterUpdate_new hp ho hne k
  refine ⟨fun hown => ownDiscarded rfl hp (hown ▸ ho) trivial, fun hne k => ⟨_, exec_rosterUpdate_again hp ho hne (hagain k), ?_⟩,
    fun hne k hj hb => ⟨_, hnew hne k, afterUpdate_relay s p h b hne hj hb⟩, fun hne k => ⟨_, hnew hne k, ?_⟩⟩
  · have hsettled := settled_conclude s ((s.heard p).onPortCounters p fun c => { c with duplicates := countUp c.duplicates })
    obtain ⟨-, -, hcounters, hentries, -⟩ := counted_concluded hsettled
    refine ⟨(congrArg PortCounters.duplicates hcounters).trans ?_, hsettled.recent, hentries⟩
    rw [heard_port]
    rfl
  · have hkept : kept = if s.freshLife o (some item.incarnation) = true then s.roster.recent.filter fun k => k.1 ≠ o else s.roster.recent := by
      by_cases hf : e.state ≠ .absent ∧ e.incarnation = some item.incarnation
      · exact (if_pos hf).trans (if_neg fun hl => (freshLife_iff s o _).mp hl hf).symm
      · exact (if_neg hf).trans (if_pos ((freshLife_iff s o _).mpr hf)).symm
    have hrecent := afterUpdate_recent s p h b hne
    have htail := listBroadcast_tail (s.freshLife o (some item.incarnation)) o b.seq s.roster.recent
    have hlist := listBroadcast_eq (s.freshLife o (some item.incarnation)) o b.seq s.roster.recent
    have hentry := afterUpdate_entry s p h b hne
    have hupdated (g : FrameNo) : (s.updated p h b o).entry g = s.entry g := listed_entry s p _ o _ _ g
    rw [← hrecent] at htail hlist
    dsimp only at hlist
    rw [← hkept] at hlist
    refine ⟨htail.1, htail.2, hlist, afterUpdate_duplicates s p h b hne, afterUpdate_told s p h b hne, fun news hnews h0 => ?_, fun h0 ha => ?_,
      fun news hnews h0 ha => ?_⟩
    · have hbool : (h.hops == 0) = true := by rw [h0]; rfl
      rw [hentry, hbool, takenOf_neighbour p b.items (updated_ne s p h b hne), ← itemNews_incarnation hnews]
      obtain ⟨hstate, hhops, hinc, -⟩ := neighboured_spec (p := p) hnews (s.updated p h b o).roster.autoAdmit ((s.updated p h b o).entry o)
      exact ⟨hstate, hhops, hinc⟩
    · have hbool : (h.hops == 0) = false := by simpa using h0
      rw [afterUpdate_entries s p h b hne, hbool]
      have hrelayed : (s.updated p h b o).takenOf p false o b.items = s.updated p h b o :=
        takeRelayed_of_absent _ ((congrArg RosterEntry.state (hupdated o)).trans ha)
      rw [hrelayed, State.updated, listed_roster]
    · have hbool : (h.hops == 0) = false := by simpa using h0
      rw [hentry, hbool, takenOf_relayed, hupdated]
      exact relayed_spec hnews _ ha

end Sys2Proof.Machine

/-! PROOFS. What a neighbour's vector makes of the belief (R110, R111), where the sender alone announces itself as master. -/

namespace Sys2Proof.Machine
variable {s t u v w e x : State} {p q : Port} {f g m n : FrameNo} {items : Vector VectorItem 8} {news : ItemNews}

/-! ### The merge (R111) -/

theorem foldl_mergeOne {l : List FrameNo} (hl : l.Nodup) (h : ∀ f ∈ l, f ≠ n → (x.entry f).belief ≠ some f) :
    l.foldl (fun acc f => mergeOne f acc) x = if n ∈ l then mergeOne n x else x := by
  induction l generalizing x with
  | nil => rfl
  | cons f l ih =>
    obtain ⟨hf, hl⟩ := List.nodup_cons.mp hl
    rw [List.foldl_cons]
    by_cases hn : f = n
    · subst hn
      have hrest : ∀ g ∈ l, g ≠ f → ((mergeOne f x).entry g).belief ≠ some g := fun g hg hne => by
        rw [mergeOne_only]
        exact h g (List.mem_cons_of_mem _ hg) hne
      rw [ih hl hrest, if_neg hf, if_pos List.mem_cons_self]
    · rw [mergeOne_of_silent (h f List.mem_cons_self hn), ih hl fun g hg => h g (List.mem_cons_of_mem _ hg)]
      exact if_congr (by rw [List.mem_cons, or_iff_right fun k => hn k.symm]) rfl rfl

theorem routeOf_eq_some {h : PerPort (Option Nat)} (hr : routeOf h = some p) : (h.get p).isSome = true := by
  obtain ⟨a, b⟩ := h
  cases a <;> cases b <;> cases p <;> simp [routeOf, PerPort.get] at *

/-- R95, R96: an entry that is routed through the arrival port has taken its item. -/
theorem itemTaken_of_routed {item : VectorItem} {auto : Bool} {r : RosterEntry} (h : ((r.heardOf p item).itemTaken p item auto).route = some p) :
    ∃ k, itemNews item = some k ∧ ((r.heardOf p item).itemTaken p item auto).belief = k.belief := by
  have hkeeps : ((r.heardOf p item).itemTaken p item auto).route = (r.heardOf p item).route := by
    unfold RosterEntry.itemTaken
    split
    · split
      · rfl
      · exact (entered_link .lost nofun auto _).2.2.1
    · split
      · split
        · exact (entered_link _ (advertisedEntry_ne_absent _) auto _).2.2.1
        · rfl
      · rfl
  rw [hkeeps] at h
  have hroute : (r.heardOf p item).route = routeOf (r.hops.set p (r.hopsOf item)) := by
    unfold RosterEntry.heardOf RosterEntry.reached RosterEntry.hopped
    split
    · rfl
    · split <;> rfl
  have hsome := routeOf_eq_some (hroute.symm.trans h)
  have hget : (r.hops.set p (r.hopsOf item)).get p = r.hopsOf item := by cases p <;> rfl
  rw [hget] at hsome
  cases hitem : itemNews item with
  | none => simp [RosterEntry.hopsOf, hitem] at hsome
  | some k =>
    refine ⟨k, rfl, ?_⟩
    unfold RosterEntry.itemTaken
    rw [if_neg (by rw [h]; exact nofun), hitem]
    exact congrArg RosterEntry.belief (if_pos h)

section taken
variable (p items) (hn : n ≠ w.own)
include hn

/-- R111: a heard frame other than the sender does not announce itself as master, where no item does. -/
theorem silent_of_items (hitems : ∀ g k, g ≠ n → itemNews items[g] = some k → k.belief ≠ some g)
    (hf : f ≠ n) (ho : f ≠ w.own) (hh : w.heardAnnounce p true n items f = true) :
    ((w.takenOf p true n items).entry f).belief ≠ some f := by
  have hentry := takeVector_entry p items w hn f
  rw [if_neg hf, if_neg ho] at hentry
  have htaken : (w.takenOf p true n items).entry f = (takeVector p n items w).entry f := rfl
  have hroute : ((w.takenOf p true n items).entry f).route = some p := by
    simpa [State.heardAnnounce, hf, takesItem] using hh
  rw [htaken, hentry] at hroute ⊢
  obtain ⟨k, hk, hbelief⟩ := itemTaken_of_routed hroute
  rw [hbelief]
  exact hitems f k hf hk

/-- R111: what a neighbour's vector leaves of the belief before the election. -/
theorem takeRoster_of_silent (hnews : itemNews items[n] = some news)
    (hitems : ∀ g k, g ≠ n → itemNews items[g] = some k → k.belief ≠ some g) :
    takeRoster p true n items w = electIfNeeded w (mergeOne n (w.ackedOf p true n items)) := by
  have hq := queueing_sendAll (leaveAcks (leaverOf n items[n]) w (w.takenOf p true n items)) (w.takenOf p true n items)
  have hown : (w.ackedOf p true n items).own = w.own := hq.own.trans (entriesOnly_takenOf ..).own
  rw [takeRoster_eq p true items hn, foldl_mergeOne (n := n) ((others_nodup _).filter _) fun f hf hne => ?_]
  · rw [if_pos]
    refine List.mem_filter.mpr ⟨mem_others.mpr (hown ▸ hn), ?_⟩
    have hsome : (itemNews items[n]).isSome = true := by rw [hnews]; rfl
    simp only [State.heardAnnounce, hsome, decide_true, Bool.and_true, Bool.true_or]
  · obtain ⟨hf, hh⟩ := List.mem_filter.mp hf
    have hentry : (w.ackedOf p true n items).entry f = (w.takenOf p true n items).entry f := hq.entry f
    rw [hentry]
    exact silent_of_items p items hn hitems hne (hown ▸ mem_others.mp hf) hh

end taken

/-! ### The belief (R110, R111) -/

theorem itemNews_state {item : VectorItem} (hnews : itemNews item = some news) : news.state ≠ .starting := by
  unfold itemNews at hnews
  split at hnews
  · obtain ⟨st, hst, rfl⟩ := Option.map_eq_some_iff.mp hnews
    unfold toAdvertised at hst
    split_ifs at hst <;> (cases hst; exact nofun)
  · exact nomatch hnews

/-- R111: the frame is counted, as the entries and the own state give it. -/
theorem counted_iff (s : State) (f : FrameNo) : s.counted f = true ↔
    if f = s.own then s.roster.ownState = .active else (s.entry f).state = .present := by
  unfold State.counted
  split <;> simp

theorem capable_iff (s : State) (f : FrameNo) : s.capable f = true ↔
    if f = s.own then s.roster.masterCapable = true else (s.entry f).masterCapable = true := by
  unfold State.capable
  split <;> rfl

theorem electIfNeeded_entry (before s : State) (f : FrameNo) : (electIfNeeded before s).entry f = s.entry f := by
  rw [electIfNeeded_only]
  rfl

/-- R110: an election leaves what a belief stands by. -/
theorem electIfNeeded_cases (before : State) {b : FrameNo} (hb : x.roster.belief = some b) :
    (stands before x b → (electIfNeeded before x).roster.belief = some b) ∧
      (¬ stands before x b → (electIfNeeded before x).elects (electIfNeeded before x).roster.belief) := by
  refine ⟨fun h => ?_, fun h => ?_⟩
  · rw [electIfNeeded_of_stands hb h, hb]
  · rw [electIfNeeded_of_falls hb h]
    exact elect_elects x

theorem electIfNeeded_none_cases (before : State) (hb : x.roster.belief = none) :
    (electIfNeeded before x).roster.belief = none ∨ (electIfNeeded before x).elects (electIfNeeded before x).roster.belief := by
  by_cases hv : x.view = before.view
  · rw [electIfNeeded_of_none_same hb hv]
    exact .inl hb
  · rw [electIfNeeded_of_none_changed hb hv]
    exact .inr (elect_elects x)

section belief
variable (hn : n ≠ x.own) (hstate : (x.entry n).state = advertisedEntry news.state) (hcap : (x.entry n).masterCapable = news.masterCapable)
  (hbelief : (x.entry n).belief = news.belief) (hst : news.state ≠ .starting)
include hn hstate hst

theorem counted_announcer : x.counted n = true ↔ news.state = .active := by
  rw [counted_iff, if_neg hn, hstate]
  cases h : news.state <;> simp_all [advertisedEntry]

include hcap hbelief

/-- R111: a rival where no belief is held. -/
theorem merged_of_none (before : State) (hb : x.roster.belief = none) :
    let e := electIfNeeded before (mergeOne n x)
    ((news.belief = some n ∧ news.state = .active) → news.masterCapable = true → e.roster.belief = some n) ∧
      (¬ ((news.belief = some n ∧ news.state = .active) ∧ news.masterCapable = true) → e.roster.belief = none ∨ e.elects e.roster.belief) := by
  have hmerge := mergeOne_belief_of_none (f := n) hb
  have hcapable : x.capable n = true ↔ news.masterCapable = true := by rw [capable_iff, if_neg hn, hcap]
  simp only [hbelief, counted_announcer hn hstate hst, hcapable] at hmerge
  refine ⟨fun hr hm => ?_, fun hr => ?_⟩
  · rw [if_pos ⟨hr.1, hr.2, hm⟩] at hmerge
    refine (electIfNeeded_cases before hmerge).1 ?_
    have hown : (mergeOne n x).own = x.own := by rw [mergeOne_only]; rfl
    have hentry : (mergeOne n x).entry n = x.entry n := by rw [mergeOne_only]; rfl
    unfold stands
    rw [hown, if_neg hn, hentry, hstate, hr.2]
    exact fun k => k.2 rfl
  · rw [if_neg fun k => hr ⟨⟨k.1, k.2.1⟩, k.2.2⟩] at hmerge
    exact electIfNeeded_none_cases before hmerge

omit hcap in
/-- R111: a rival against a belief. -/
theorem merged_of_some (before : State) {m : FrameNo} (hb : x.roster.belief = some m) (hbefore : ∀ f, before.entry f = s.entry f)
    (hown : x.own = s.own) (hos : x.roster.ownState = s.roster.ownState) :
    let e := electIfNeeded before (mergeOne n x)
    let wins := (news.belief = some n ∧ news.state = .active) ∧ x.counted m = true ∧ x.capable (min n m) = true
    (wins → e.roster.belief = some (min n m)) ∧ (¬ wins → staysMaster s x m → e.roster.belief = some m) ∧
      (¬ wins → ¬ staysMaster s x m → e.elects e.roster.belief) := by
  have hmerge := mergeOne_belief_of_some (f := n) hb
  simp only [hbelief, counted_announcer hn hstate hst] at hmerge
  have honly := mergeOne_only n x
  generalize mergeOne n x = y at hmerge honly
  have hyentry (f : FrameNo) : y.entry f = x.entry f := by rw [honly]; rfl
  have hyown : y.own = x.own := by rw [honly]; rfl
  have hyos : y.roster.ownState = x.roster.ownState := by rw [honly]; rfl
  have hstands (f : FrameNo) : stands before y f ↔ staysMaster s x f := by
    rw [stands_iff (hyown.trans hown) (hyos.trans hos) hbefore, staysMaster, hyentry]
    rfl
  intro e wins
  refine ⟨fun h => ?_, fun h hm => ?_, fun h hm => ?_⟩
  · obtain ⟨⟨h1, h2⟩, h3, h4⟩ := h
    rw [if_pos ⟨h1, h2, h3, h4⟩] at hmerge
    refine (electIfNeeded_cases before hmerge).1 ((hstands _).mpr ?_)
    unfold staysMaster
    rcases min_choice n m with hmin | hmin
    · rw [hmin, if_neg (hown ▸ hn), hstate, h2]
      exact fun _ => rfl
    · rw [hmin]
      rw [counted_iff, hown, hos] at h3
      split
      · next hm => rwa [if_pos hm] at h3
      · next hm =>
        rw [if_neg hm] at h3
        exact fun _ => h3
  all_goals
    rw [if_neg fun k => h ⟨⟨k.1, k.2.1⟩, k.2.2.1, k.2.2.2⟩] at hmerge
  · exact (electIfNeeded_cases before hmerge).1 ((hstands m).mpr hm)
  · exact (electIfNeeded_cases before hmerge).2 fun k => hm ((hstands m).mp k)

end belief

end Sys2Proof.Machine

/-! PROOFS. Hellos (R64, R65, R74): a second frame of a number, a port that joins, a neighbour heard afresh. -/

namespace Sys2Proof.Machine
variable {s t u w e : State} {p q : Port} {n : FrameNo} {h : Header} {b : HelloBody} {news : ItemNews}

/-- What the part is when a Hello comes to be taken: the port has moved, and nothing of the roster or the orders. -/
structure HelloAt (s w : State) : Prop where
  roster : w.roster = s.roster
  own : w.own = s.own
  orders : w.orders = s.orders
  seq : w.link.broadcastSeq = s.link.broadcastSeq
  unsent : w.link.unsentOwn = s.link.unsentOwn

theorem OnlyPort.helloAt (h : OnlyPort p s w) : HelloAt s w := ⟨h.entries, h.own, by rw [h.parts], h.seq, h.unsent⟩

namespace HelloAt
variable (k : HelloAt s w)
include k

theorem entry (f : FrameNo) : w.entry f = s.entry f := by rw [State.entry, k.roster]; rfl

variable (p) (b) (hs : Settled (takeRoster p true n b.items w) t)
include hs

theorem entry_after (hn : n ≠ s.own) (f : FrameNo) : t.entry f = (w.takenOf p true n b.items).entry f := by
  rw [← takeRoster_entry p true b.items (k.own ▸ hn), State.entry, hs.entries]
  rfl

/-- R94: the sender's entry. -/
theorem announced (hnews : itemNews b.items[n] = some news) (hn : n ≠ s.own) :
    (t.entry n).state = advertisedEntry news.state ∧ (t.entry n).hops.get p = some 1 ∧
      (t.entry n).incarnation = some b.items[n].incarnation ∧ (t.entry n).masterCapable = news.masterCapable ∧
      (t.entry n).belief = news.belief := by
  rw [k.entry_after p b hs hn, takenOf_neighbour p b.items (k.own ▸ hn), ← itemNews_incarnation hnews]
  exact neighboured_spec hnews _ _

/-- R110, R111: the belief. -/
theorem merged (hc : LossConcluded s (takeRoster p true n b.items w) t) (hnews : itemNews b.items[n] = some news) (hn : n ≠ s.own)
    (hl : leaveRight s) (hitems : ∀ g k, g ≠ n → itemNews b.items[g] = some k → k.belief ≠ some g) :
    let rival := news.belief = some n ∧ news.state = .active
    let present : FrameNo → Prop := fun f => if f = s.own then s.roster.ownState = .active else (t.entry f).state = .present
    let capable : FrameNo → Prop := fun f => if f = s.own then s.roster.masterCapable = true else (t.entry f).masterCapable = true
    (s.roster.belief = none → rival → news.masterCapable = true → t.roster.belief = some n) ∧
    (s.roster.belief = none → ¬ (rival ∧ news.masterCapable = true) → t.roster.belief = none ∨ t.elects t.roster.belief) ∧
    ∀ m, s.roster.belief = some m →
      let wins := rival ∧ present m ∧ capable (min n m)
      (wins → t.roster.belief = some (min n m)) ∧
      (¬ wins → staysMaster s t m → t.roster.belief = some m) ∧
      (¬ wins → ¬ staysMaster s t m → t.elects t.roster.belief) := by
  have hnw : n ≠ w.own := k.own ▸ hn
  have hentry := k.entry_after p b hs hn
  obtain ⟨hstate, -, -, hcap, hbel⟩ := k.announced p b hs hnews hn
  have hsilent := takeRoster_of_silent p b.items hnw hnews hitems
  have hroster := takeRoster_roster p true b.items hnw
  set x := w.ackedOf p true n b.items with hx
  have hq := queueing_sendAll (leaveAcks (leaverOf n b.items[n]) w (w.takenOf p true n b.items)) (w.takenOf p true n b.items)
  have honly := entriesOnly_takenOf p true n b.items w
  have hxentry (f : FrameNo) : x.entry f = t.entry f := (hq.entry f).trans (hentry f).symm
  have hxroster : x.roster = (w.takenOf p true n b.items).roster := sendAll_roster _ _
  have hxown : x.own = s.own := (hq.own.trans honly.own).trans k.own
  have hxos : x.roster.ownState = s.roster.ownState := by rw [hxroster, honly.roster, k.roster]
  have hxmc : x.roster.masterCapable = s.roster.masterCapable := by rw [hxroster, honly.roster, k.roster]
  have hxbelief : x.roster.belief = s.roster.belief := by rw [hxroster, honly.roster, k.roster]
  clear_value x
  rw [← hxentry] at hstate hcap hbel
  generalize takeRoster p true n b.items w = e at hsilent hroster hc
  have hfits : e.leaveFits := by
    unfold State.leaveFits
    rw [hroster, k.roster]
    exact hl.2.1
  have hfield := hc.field hfits
  have hbelief := hc.belief
  have hst := itemNews_state hnews
  have hxn : n ≠ x.own := hxown ▸ hn
  have helects (h : e.elects e.roster.belief) : t.elects t.roster.belief := by
    rw [hbelief]
    exact hfield.elects h
  intro rival present capable
  have hpresent (f : FrameNo) : x.counted f = true ↔ present f := by
    rw [counted_iff, hxown, hxos, hxentry]
  have hcapable (f : FrameNo) : x.capable f = true ↔ capable f := by
    rw [capable_iff, hxown, hxmc, hxentry]
  have hstays (f : FrameNo) : staysMaster s x f ↔ staysMaster s t f := by
    unfold staysMaster
    rw [hxentry]
  refine ⟨fun hb hr hm => ?_, fun hb hr => ?_, fun m hb => ?_⟩
  · have := (merged_of_none hxn hstate hcap hbel hst w (hxbelief.trans hb)).1 hr hm
    rw [← hsilent] at this
    exact hbelief.trans this
  · have := (merged_of_none hxn hstate hcap hbel hst w (hxbelief.trans hb)).2 hr
    rw [← hsilent] at this
    exact this.imp hbelief.trans helects
  · have := merged_of_some (s := s) hxn hstate hbel hst w (hxbelief.trans hb) k.entry hxown hxos
    rw [← hsilent, hpresent, hcapable, hstays] at this
    exact ⟨fun hw => hbelief.trans (this.1 hw), fun hw hm => hbelief.trans (this.2.1 hw hm), fun hw hm => helects (this.2.2 hw hm)⟩

end HelloAt

/-! ### A port that joins (R65) -/

theorem helloFrame_congr (hu : OnlyPort q s u) (p : Port) : u.helloFrame p = s.helloFrame p := by
  have hshow : ShowsAs s u := .of_roster hu.own hu.entries
  unfold State.helloFrame State.ownHeader
  rw [hshow.vector, hshow.own]

theorem onlyPort_enterJoined (p : Port) (n : FrameNo) (i : Word16) (s : State) : OnlyPort p s (enterJoined p n i s) := by
  unfold enterJoined
  rw [placeHello_eq]
  exact ((OnlyPort.onPort ..).trans (.setPortState ..)).trans (.onPort ..)

theorem enterJoined_port (p : Port) (n : FrameNo) (i : Word16) (s : State) : (enterJoined p n i s).port p =
    { (s.port p).queueing (placedFirst (s.helloFrame p) (s.control p)) with
      state := .joined, cause := .none, helloTimer := none, neighbour := some (n, i), errorScore := 0, goodRun := 0 } := by
  unfold enterJoined
  rw [placeHello_eq, onPort_self, setPortState_port, onPort_self]
  have honly := (OnlyPort.onPort p (fun r => { r with helloTimer := none, neighbour := some (n, i), errorScore := 0, goodRun := 0 }) s).trans
    (.setPortState p .joined .none _)
  have hcontrol (u : State) (hu : (u.port p).queue = (s.port p).queue) : u.control p = s.control p := hu
  rw [helloFrame_congr honly, hcontrol _ (by rw [setPortState_port, onPort_self]; rfl)]
  rfl

theorem duplicateFrame_iff (s : State) (p : Port) (n : FrameNo) (i : Word16) : s.duplicateFrame p n i = true ↔
    n = s.own ∨ (((s.entry n).state = .present ∨ (s.entry n).state = .leaving ∨ (s.entry n).state = .departed) ∧
      ((s.entry n).hops.get (otherPort p)).isSome = true ∧ (s.entry n).incarnation ≠ some i) := by
  simp only [State.duplicateFrame, Bool.or_eq_true, Bool.and_eq_true, beq_iff_eq, bne_iff_ne]
  tauto

/-! ### The commands -/

theorem exec_hello_linked (hl : (s.port p).state = .linked) (ho : h.origin = eightByte n) :
    exec (.hello p h b) s = .next (conclude s (joinPort p n b.items (countReceived p s))) := by
  refine congrArg (fun v : State => Host.Outcome.next (conclude s v)) ((receive_of_linked _ _ hl).trans ?_)
  simp only [linkedHello, ho, toEight_eightByte]

theorem exec_hello_joined (hp : s.passes p ⟨h, .hello b⟩) (ho : h.origin = eightByte n) (h0 : h.hops = 0) :
    exec (.hello p h b) s = .next (conclude s (takeRoster p true n b.items
      ((s.heard p).onPort p fun r => { r with neighbour := some (n, b.items[n].incarnation) }))) := by
  refine congrArg (fun v : State => Host.Outcome.next (conclude s v)) ((receive_of_passes hp _ _).trans ?_)
  rw [neighbourFrame, if_pos h0]
  simp only [joinedHello, ho, toEight_eightByte]

theorem exec_hello_far (hp : s.passes p ⟨h, .hello b⟩) (h0 : h.hops ≠ 0) :
    exec (.hello p h b) s = .next (conclude s (countMalformed p (s.heard p))) :=
  congrArg (fun v : State => Host.Outcome.next (conclude s v)) ((receive_of_passes hp _ _).trans (if_neg h0))

/-- R74: a neighbour heard afresh. -/
def State.reheard (s : State) (p : Port) (n : FrameNo) (b : HelloBody) : State :=
  (s.heard p).onPort p fun r => { r with neighbour := some (n, b.items[n].incarnation) }

theorem onlyPort_heard (p : Port) (s : State) : OnlyPort p s (s.heard p) := (OnlyPort.onPort ..).trans (.onPort ..)

theorem onlyPort_reheard (p : Port) (n : FrameNo) (b : HelloBody) (s : State) : OnlyPort p s (s.reheard p n b) :=
  (onlyPort_heard p s).trans (.onPort ..)

theorem reheard_port (p : Port) (n : FrameNo) (b : HelloBody) (s : State) :
    (s.reheard p n b).port p = { (s.heard p).port p with neighbour := some (n, b.items[n].incarnation) } := onPort_self ..

/-- R65: the part whose port has joined. -/
def State.joins (s : State) (p : Port) (n : FrameNo) (b : HelloBody) : State := enterJoined p n b.items[n].incarnation (countReceived p s)

theorem onlyPort_joins (p : Port) (n : FrameNo) (b : HelloBody) (s : State) : OnlyPort p s (s.joins p n b) :=
  (OnlyPort.onPort ..).trans (onlyPort_enterJoined ..)

theorem joins_port (p : Port) (n : FrameNo) (b : HelloBody) (s : State) : (s.joins p n b).port p =
    { (s.port p).queueing (placedFirst (s.helloFrame p) (s.control p)) with
      state := .joined, cause := .none, helloTimer := none, neighbour := some (n, b.items[n].incarnation), errorScore := 0, goodRun := 0
      counters := { (s.port p).counters with
        received := countUp (s.port p).counters.received, controlDrops := (placedFirst (s.helloFrame p) (s.control p)).2 } } := by
  have hport : (countReceived p s).port p = { s.port p with
      counters := { (s.port p).counters with received := countUp (s.port p).counters.received } } := onPort_self ..
  have hcontrol : (countReceived p s).control p = s.control p := by rw [State.control, hport]; rfl
  have hhello : (countReceived p s).helloFrame p = s.helloFrame p := helloFrame_congr (q := p) (OnlyPort.onPort ..) p
  rw [State.joins, enterJoined_port, hcontrol, hhello, hport]
  rfl

/-- The sender's number is the own: nothing is taken. -/
theorem takeRoster_standing (p q : Port) (n : FrameNo) (b : HelloBody) (w : State) :
    ((takeRoster p true n b.items w).port q).standing = (w.port q).standing := by
  by_cases hn : n = w.own
  · have htake : takeRoster p true n b.items w = w := if_pos hn
    rw [htake]
  · have hlink := takeRoster_link p true b.items hn
    have hq := (queueing_sendAll (leaveAcks (leaverOf n b.items[n]) w (w.takenOf p true n b.items)) (w.takenOf p true n b.items)).port q
    have hport : (takeRoster p true n b.items w).port q = (w.ackedOf p true n b.items).port q := by rw [State.port, hlink]; rfl
    rw [hport, State.ackedOf, hq, (entriesOnly_takenOf ..).port]
    rfl

/-- What the part is when a Hello comes to be taken, with the queues that the Leave Acks join. -/
structure HelloFrom (start : Port → List Frame × Nat) (s w : State) : Prop extends HelloAt s w where
  queues : ∀ q, w.joined q = true → w.control q = start q ∧ (w.port q).inTransmission = (s.port q).inTransmission ∧
    ((s.port q).slotReply = none → (w.port q).slotReply = none) ∧ ((s.port q).slotRequest = none → (w.port q).slotRequest = none)

theorem HelloFrom.of_onlyPort {start : Port → List Frame × Nat} (h : OnlyPort p s w) (hself : w.control p = start p)
    (hother : s.control (otherPort p) = start (otherPort p))
    (hp : (w.port p).inTransmission = (s.port p).inTransmission ∧ (w.port p).slotReply = (s.port p).slotReply ∧
      (w.port p).slotRequest = (s.port p).slotRequest) : HelloFrom start s w := by
  refine ⟨h.helloAt, fun q _ => ?_⟩
  rcases port_cases p q with rfl | rfl
  · exact ⟨hself, hp.1, fun k => hp.2.1.trans k, fun k => hp.2.2.trans k⟩
  · refine ⟨?_, ?_⟩
    · rw [State.control, h.other]
      exact hother
    · rw [h.other]
      exact ⟨rfl, id, id⟩

/-- R93, R106: what a Hello that is taken tells. -/
theorem HelloFrom.told {start : Port → List Frame × Nat} (k : HelloFrom start s w) (p : Port) (b : HelloBody) (hn : n ≠ s.own)
    (hp : s.orders.pending = []) (hphase : s.roster.phase = .none) :
    Told start [] (leaveAcks (leaverOf n b.items[n]) s (conclude s (takeRoster p true n b.items w))) s
      (conclude s (takeRoster p true n b.items w)) :=
  .of_takeRoster (k.own ▸ hn) k.own k.toHelloAt.entry k.queues k.seq k.unsent ((congrArg RackOrders.pending k.orders).trans hp)
    ((congrArg Roster.phase k.roster).trans hphase) rfl

theorem helloFrom_joins (p : Port) (n : FrameNo) (b : HelloBody) (s : State) :
    HelloFrom (fun q => if q = p then placedFirst (s.helloFrame p) (s.control p) else s.control q) s (s.joins p n b) := by
  have hport := joins_port p n b s
  refine .of_onlyPort (onlyPort_joins p n b s) ?_ ?_ ?_
  · rw [State.control, hport]
    exact (if_pos rfl).symm
  · exact (if_neg (by cases p <;> exact nofun)).symm
  · rw [hport]
    exact ⟨rfl, rfl, rfl⟩

theorem helloFrom_reheard (p : Port) (n : FrameNo) (b : HelloBody) (s : State) : HelloFrom s.control s (s.reheard p n b) := by
  have hport := reheard_port p n b s
  obtain ⟨-, hsend, -, hcontrol, hreply, hrequest⟩ := heard_link (s := s) (p := p) p
  have hqueue : (s.heard p).control p = s.control p := by
    rw [State.control, heard_port, goodFrame_eq]
    rfl
  refine .of_onlyPort (onlyPort_reheard p n b s) ?_ rfl ?_
  · rw [← hqueue, State.control, hport]
    rfl
  · rw [hport]
    exact ⟨hsend, hreply, hrequest⟩

/-- R65: a port that has joined, its event concluded. -/
theorem joined_concluded (p : Port) (n : FrameNo) (b : HelloBody) (s : State) :
    let t := conclude s (takeRoster p true n b.items (s.joins p n b))
    t.portView p = (.joined, .none, (s.port p).attempt, some (n, b.items[n].incarnation), (s.port p).trainingTimer, none) ∧
      (t.port p).errorScore = 0 ∧ (t.port p).goodRun = 0 := by
  have hs := (settled_conclude s (takeRoster p true n b.items (s.joins p n b))).standing p
  rw [takeRoster_standing, joins_port] at hs
  exact ⟨congrArg (fun d : PortStanding => (d.state, d.cause, d.attempt, d.neighbour, d.trainingTimer, d.helloTimer)) hs,
    congrArg PortStanding.errorScore hs, congrArg PortStanding.goodRun hs⟩

theorem reheard_concluded (p : Port) (n : FrameNo) (b : HelloBody) (hj : (s.port p).state = .joined) :
    let t := conclude s (takeRoster p true n b.items (s.reheard p n b))
    (t.port p).state = .joined ∧ (t.port p).neighbour = some (n, b.items[n].incarnation) := by
  have hs := (settled_conclude s (takeRoster p true n b.items (s.reheard p n b))).standing p
  rw [takeRoster_standing, reheard_port] at hs
  refine ⟨(congrArg PortStanding.state hs).trans ?_, congrArg PortStanding.neighbour hs⟩
  exact (heard_link (s := s) (p := p) p).1.trans hj

/-- R65: a second frame of a number. -/
theorem duplicate_concluded (p : Port) (s : State) :
    let t := conclude s (enterFault p .duplicateFrame (countReceived p s))
    t.portView p = (.fault, .duplicateFrame, (s.port p).attempt, (s.port p).neighbour, none, none) ∧ t.roster.entries = s.roster.entries := by
  have honly : OnlyPort p s (enterFault p .duplicateFrame (countReceived p s)) := (OnlyPort.onPort ..).trans (onlyPort_enterFault ..)
  have hcount : (countReceived p s).port p = { s.port p with
      counters := { (s.port p).counters with received := countUp (s.port p).counters.received } } := onPort_self ..
  refine ⟨?_, ?_⟩
  · rw [conclude_portView, State.portView, enterFault_port, hcount]
    rfl
  · exact (settled_conclude s (enterFault p .duplicateFrame (countReceived p s))).entries.trans (congrArg Roster.entries honly.entries)

/-- Settles O53: by the port's state, whether the sender is a second frame of its number, and the hop count. -/
theorem hellosJoinAndAnnounce : Obligations.HellosJoinAndAnnounce := by
  intro s p h b n ho c r item e second announced merged told
  have hannounced {w : State} (k : HelloAt s w) : announced (conclude s (takeRoster p true n b.items w)) := fun news hnews hn =>
    k.announced p b (settled_conclude ..) hnews hn
  have hmerged {w : State} (k : HelloAt s w) : merged (conclude s (takeRoster p true n b.items w)) := fun news hnews hn hp hl hitems =>
    k.merged p b (settled_conclude ..) (lossConcluded (.inr ((takeRoster_orders p true b.items (k.own ▸ hn)).trans
      ((congrArg RackOrders.pending k.orders).trans hp)))) hnews hn hl hitems
  have htold {w : State} {start : Port → List Frame × Nat} (k : HelloFrom start s w) : told start (conclude s (takeRoster p true n b.items w)) :=
    fun hn hp hphase => k.told p b hn hp hphase
  refine ⟨fun hl hsecond => ⟨_, (exec_hello_linked hl ho).trans (congrArg (fun v : State => Host.Outcome.next (conclude s v)) (if_pos ?_)),
      duplicate_concluded p s⟩,
    fun hl hsecond => ⟨_, (exec_hello_linked hl ho).trans (congrArg (fun v : State => Host.Outcome.next (conclude s v)) (if_neg ?_)), ?_⟩,
    fun hp h0 => ⟨_, exec_hello_joined hp ho h0, ?_⟩, fun hp h0 => ⟨_, exec_hello_far hp h0, ?_⟩⟩
  · exact (duplicateFrame_iff (countReceived p s) p n _).mpr hsecond
  · exact fun k => hsecond ((duplicateFrame_iff (countReceived p s) p n _).mp k)
  · obtain ⟨hview, hscore, hrun⟩ := joined_concluded p n b s
    have hfrom := helloFrom_joins p n b s
    exact ⟨hview, hscore, hrun, hannounced hfrom.toHelloAt, hmerged hfrom.toHelloAt, htold hfrom⟩
  · obtain ⟨hstate, hneighbour⟩ := reheard_concluded p n b hp.1
    have hfrom := helloFrom_reheard p n b s
    exact ⟨hstate, hneighbour, hannounced hfrom.toHelloAt, hmerged hfrom.toHelloAt, htold hfrom⟩
  · obtain ⟨-, hcount, hentries, -⟩ := malformed_concluded (settled_conclude s (countMalformed p (s.heard p)))
    exact ⟨hentries, hcount⟩

end Sys2Proof.Machine

/-! PROOFS. Vectors as they are made and taken (R92, R95, R96), the notices of a roster change in their order (R93), and the one transition of
the lock state (R112, R119, R129, R131, R132). -/

namespace Sys2Proof.Machine
variable {s t u w e before noted : State} {p q : Port} {f o n : FrameNo} {h : Header} {items : Vector VectorItem 8} {seq : Word16}

/-! ### The vector made (R92) -/

theorem vector_getElem (s : State) (p : Port) (f : FrameNo) : (s.vector p)[f] = s.vectorItem p f := Vector.getElem_ofFn ..

theorem vectorItem_own (s : State) (p : Port) (hs : s.roster.ownState ≠ .starting) : s.vectorItem p s.own =
    ⟨0, if s.roster.masterCapable then 1 else 0,
      if s.roster.ownState = .departed then 3 else if s.roster.ownState = .leaving ∧ s.roster.phase = .announced then 2 else 1,
      frameByte s.roster.belief, s.roster.incarnation⟩ := by
  unfold State.vectorItem ItemNews.item State.advertised
  rw [if_pos rfl]
  cases hst : s.roster.ownState with
  | starting => exact absurd hst hs
  | active => simp [partCode]
  | departed => simp [partCode]
  | leaving => by_cases hp : s.roster.phase = .announced <;> simp [partCode, hp]

theorem vectorItem_unrouted (hf : f ≠ s.own) (hr : (s.entry f).route = none ∨ (s.entry f).route = some p) :
    s.vectorItem p f = ⟨0xFF, 0, 0, 0, 0⟩ := by
  unfold State.vectorItem
  rw [if_neg hf]
  rcases hr with hr | hr <;> simp [hr, unreachableItem]

theorem vectorItem_routed {hops : Nat} {i : Word16} {st : Byte} (hf : f ≠ s.own) (hr : (s.entry f).route = some (otherPort p))
    (hh : (s.entry f).hops.get (otherPort p) = some hops) (hi : (s.entry f).incarnation = some i)
    (hst : ((s.entry f).state, st) ∈ [(EntryState.present, (1 : Byte)), (.leaving, 2), (.departed, 3)]) :
    s.vectorItem p f = ⟨BitVec.ofNat 8 hops, if (s.entry f).masterCapable then 1 else 0, st, frameByte (s.entry f).belief, i⟩ := by
  have hne : otherPort p ≠ p := by cases p <;> exact nofun
  have hcode : BitVec.ofNat 8 (partCode (entryAdvertised (s.entry f).state)) = st := by
    simp only [List.mem_cons, Prod.mk.injEq, List.not_mem_nil, or_false] at hst
    rcases hst with ⟨h1, rfl⟩ | ⟨h1, rfl⟩ | ⟨h1, rfl⟩ <;> rw [h1] <;> rfl
  unfold State.vectorItem ItemNews.item
  rw [if_neg hf]
  simp only [hr, hh, hi, if_neg hne, hcode, Option.getD_some]

/-! ### The vector taken (R95, R96) -/

theorem heardOf_spec (p : Port) (item : VectorItem) (r : RosterEntry) : (r.heardOf p item).hops = r.hops.set p (r.hopsOf item) ∧
    (r.heardOf p item).route = routeOf (r.hops.set p (r.hopsOf item)) ∧ (r.heardOf p item).state = r.state := by
  unfold RosterEntry.heardOf RosterEntry.reached RosterEntry.hopped
  split
  · exact ⟨rfl, rfl, rfl⟩
  · split <;> exact ⟨rfl, rfl, rfl⟩

theorem itemTaken_spec (p : Port) (item : VectorItem) (auto : Bool) (r : RosterEntry) : (r.itemTaken p item auto).hops = r.hops ∧
    (r.itemTaken p item auto).route = r.route ∧ (r.itemTaken p item auto).state = (match r.route, itemNews item with
      | none, _ => if r.state = .absent then .absent else .lost
      | some q, some k => if q = p then advertisedEntry k.state else r.state
      | some _, none => r.state) := by
  unfold RosterEntry.itemTaken
  cases hr : r.route with
  | none =>
    simp only [if_true]
    by_cases ha : r.state = .absent
    · simp [ha, hr]
    · by_cases hl : r.state = .lost
      · simp [hl, hr]
      · obtain ⟨h1, h2, h3, -⟩ := entered_link .lost nofun auto r
        simp [ha, hl, h1, h2, h3, hr]
  | some q =>
    rw [if_neg nofun]
    cases itemNews item with
    | none => exact ⟨rfl, hr, rfl⟩
    | some k =>
      by_cases hq : q = p
      · obtain ⟨h1, h2, h3, -⟩ := entered_link (advertisedEntry k.state) (advertisedEntry_ne_absent _) auto r
        simp [hq, h1, h2, h3, hr]
      · simp [hq, hr]

/-- R95, R96: another frame's entry after a neighbour's vector. -/
theorem takenOf_third (p : Port) (items : Vector VectorItem 8) (hn : n ≠ w.own) (hf : f ≠ w.own) (hfn : f ≠ n) :
    let r := w.entry f
    let r' := (w.takenOf p true n items).entry f
    let hops := r.hopsOf items[f]
    let route := routeOf (r.hops.set p hops)
    r'.hops = r.hops.set p hops ∧ r'.route = route ∧ r'.state = (match route, itemNews items[f] with
      | none, _ => if r.state = .absent then .absent else .lost
      | some q, some k => if q = p then advertisedEntry k.state else r.state
      | some _, none => r.state) := by
  have hentry := takeVector_entry p items w hn f
  rw [if_neg hfn, if_neg hf] at hentry
  have htaken : (w.takenOf p true n items).entry f = _ := hentry
  obtain ⟨h1, h2, h3⟩ := heardOf_spec p items[f] (w.entry f)
  obtain ⟨k1, k2, k3⟩ := itemTaken_spec p items[f] w.roster.autoAdmit ((w.entry f).heardOf p items[f])
  rw [← htaken] at k1 k2 k3
  rw [h2, h3] at k3
  exact ⟨k1.trans h1, k2.trans h2, k3⟩

/-! ### The notices of a roster change (R93) -/

/-- R93: the events for one other frame. -/
def frameEvents (before s : State) (f : FrameNo) : List EventInfo :=
  (if (before.entry f).state ≠ .absent ∧ (s.entry f).state ≠ .absent ∧ (before.entry f).incarnation ≠ (s.entry f).incarnation
    then [.restartSeen f ((s.entry f).incarnation.getD 0)] else []) ++
  (if (before.entry f).state ≠ (s.entry f).state then [.entryChanged f (s.entry f).state] else [])

theorem notifyFrame_eq (before s u : State) (f : FrameNo) (hu : ∀ g, u.entry g = s.entry g) :
    notifyFrame before u f = (frameEvents before s f).foldl (fun v e => raise e v) u := by
  unfold notifyFrame frameEvents
  dsimp only
  rw [hu]
  split_ifs <;> first | rfl | contradiction

theorem raises_only (l : List EventInfo) (u : State) : OnlyReporter u (l.foldl (fun v e => raise e v) u) := .foldl (fun _ _ => onlyReporter_raise ..) l u

theorem notifyFrames_eq (before s : State) (l : List FrameNo) (u : State) (hu : OnlyReporter s u) :
    l.foldl (notifyFrame before) u = (l.flatMap (frameEvents before s)).foldl (fun v e => raise e v) u := by
  induction l generalizing u with
  | nil => rfl
  | cons f l ih =>
    have hentry (g : FrameNo) : u.entry g = s.entry g := by rw [hu.1]; rfl
    rw [List.foldl_cons, List.flatMap_cons, List.foldl_append, notifyFrame_eq before s u f hentry]
    exact ih _ (hu.trans (raises_only ..))

/-- R93: the events of one roster change. -/
def noticeEvents (before s : State) : List EventInfo :=
  (s.others.flatMap (frameEvents before s)) ++
    (if before.roster.ownState ≠ s.roster.ownState then [.partStateChanged s.own s.roster.ownState] else []) ++
    (if before.roster.belief ≠ s.roster.belief then [.beliefChanged s.own s.roster.belief] else [])

theorem raise_if {c : Prop} [Decidable c] (info : EventInfo) (u : State) :
    (if c then u else raise info u) = (if ¬ c then [info] else []).foldl (fun v e => raise e v) u := by
  by_cases h : c
  · rw [if_pos h, if_neg (not_not.mpr h)]
    rfl
  · rw [if_neg h, if_pos h]
    rfl

theorem notices_eq (before s : State) : notifyBelief before (notifyOwn before (s.others.foldl (notifyFrame before) s)) =
    (noticeEvents before s).foldl (fun v e => raise e v) s := by
  rw [notifyFrames_eq before s s.others s (.refl s), noticeEvents, List.foldl_append, List.foldl_append]
  have h1 := raises_only (s.others.flatMap (frameEvents before s)) s
  generalize (s.others.flatMap (frameEvents before s)).foldl (fun v e => raise e v) s = u at h1
  have hown (u : State) (h : OnlyReporter s u) : u.own = s.own := congrArg Straps.frame h.2
  have hroster (u : State) (h : OnlyReporter s u) : u.roster = s.roster := by rw [h.1]
  have hstep : notifyOwn before u = (if before.roster.ownState ≠ s.roster.ownState then [EventInfo.partStateChanged s.own s.roster.ownState]
      else []).foldl (fun v e => raise e v) u := by
    rw [← raise_if, notifyOwn, hown u h1, hroster u h1]
  rw [hstep]
  have h2 := h1.trans (raises_only (if before.roster.ownState ≠ s.roster.ownState then [EventInfo.partStateChanged s.own s.roster.ownState]
      else []) u)
  generalize (if before.roster.ownState ≠ s.roster.ownState then [EventInfo.partStateChanged s.own s.roster.ownState]
      else []).foldl (fun v e => raise e v) u = v at h2
  rw [← raise_if, notifyBelief, hown v h2, hroster v h2]

/-- R93: the events in their order, and the lock transition behind them, where no leave has completed. -/
theorem notify_eq (left : Option FrameNo) (h : before.roster.ownState = .departed ∨ s.roster.ownState ≠ .departed) :
    notify left before s = followMaster before.roster.belief left ((noticeEvents before s).foldl (fun v e => raise e v) s) := by
  unfold notify
  dsimp only
  rw [notices_eq]
  have hraised := raises_only (noticeEvents before s) s
  generalize (noticeEvents before s).foldl (fun v e => raise e v) s = u at hraised
  have hown : (followMaster before.roster.belief left u).roster = u.roster := by
    have hlock (f : RackTime → RackTime) (u : State) : (changeLock f u).roster = u.roster := by
      unfold changeLock
      dsimp only
      split_ifs <;> rfl
    unfold followMaster
    dsimp only
    split_ifs <;> first | rfl | exact hlock ..
  rw [notifyDeparture, if_neg]
  rw [hown, hraised.1]
  exact fun k => h.elim k.1 fun h => h k.2

end Sys2Proof.Machine

/-! PROOFS. The one transition of the lock state toward the belief that an event leaves (R112, R119, R129, R131, R132), and Forget Frame's
notice. -/

namespace Sys2Proof.Machine
variable {s t u w e before noted : State} {p q : Port} {f b o n : FrameNo} {former left : Option FrameNo}

/-! ### The lock transition -/

theorem changeLock_becomes (k : RackTime → RackTime) (s : State) : changeLock k s =
    if (k s.clock).lock = s.clock.lock then { s with clock := k s.clock }
    else raise (.lockStateChanged s.own (k s.clock).lock s.clock.lock) { s with clock := k s.clock } := rfl

/-- What clock a transition makes of a clock. -/
def Becomes (s u : State) (k : RackTime) : Prop :=
  u = if k.lock = s.clock.lock then { s with clock := k } else raise (.lockStateChanged s.own k.lock s.clock.lock) { s with clock := k }

theorem changeLock_of_eq {k : RackTime → RackTime} {c : RackTime} (h : k s.clock = c) : Becomes s (changeLock k s) c := by
  subst h
  exact changeLock_becomes k s

/-- R119: what the clock forgets where it takes an up port. -/
def RackTime.taken (up : Option Port) (c : RackTime) : RackTime := { c with outstanding := none, missed := 0, upPort := up }

section follow
variable (hl : left ≠ some s.own)
include hl

theorem followMaster_from_master (hf : former = some s.own) (hm : s.clock.lock = .master) :
    followMaster former left s = changeLock (RackTime.fromMaster (s.upPortFor left)) s := by
  unfold followMaster
  rw [if_neg hl, if_pos ⟨hf, hm⟩]

theorem followMaster_follower (hf : ¬ (former = some s.own ∧ s.clock.lock = .master)) : followMaster former left s =
    if s.upPortFor left ≠ s.clock.upPort ∨ ∃ f g, former = some f ∧ left = some g ∧ f ≠ g ∧ f ≠ s.own
    then changeLock (RackTime.changeLeader (s.upPortFor left)) s else s := by
  unfold followMaster
  dsimp only
  rw [if_neg hl, if_neg hf]
  refine if_congr (or_congr_right ?_) rfl rfl
  cases former <;> cases left <;> simp

end follow

theorem fromMaster_of_up {up : Option Port} (c : RackTime) (h : up ≠ none) : RackTime.fromMaster up c = (c.taken up).toAcquiring := by
  unfold RackTime.fromMaster
  exact if_pos (Option.isSome_iff_ne_none.mpr h)

theorem fromMaster_of_none (c : RackTime) : RackTime.fromMaster none c = (c.taken none).toHoldover := rfl

theorem changeLeader_of_up {up : Option Port} {c : RackTime} (hc : c.upPort ≠ none) (h : up ≠ none)
    (ht : c.lock = .acquiring ∨ c.lock = .locked) : RackTime.changeLeader up c = (c.taken up).toAcquiring := by
  obtain ⟨r, hr⟩ := Option.ne_none_iff_exists'.mp hc
  obtain ⟨q, rfl⟩ := Option.ne_none_iff_exists'.mp h
  unfold RackTime.changeLeader
  rcases ht with ht | ht <;> rw [hr, ht] <;> rfl

theorem changeLeader_of_none {c : RackTime} (hc : c.upPort ≠ none) (ht : c.lock = .acquiring ∨ c.lock = .locked) :
    RackTime.changeLeader none c = (c.taken none).toHoldover := by
  obtain ⟨r, hr⟩ := Option.ne_none_iff_exists'.mp hc
  unfold RackTime.changeLeader
  rcases ht with ht | ht <;> rw [hr, ht] <;> rfl

theorem changeLeader_of_loose {up : Option Port} {c : RackTime} (h : ¬ (c.lock = .acquiring ∨ c.lock = .locked) ∨ c.upPort = none) :
    RackTime.changeLeader up c = c.taken up := by
  unfold RackTime.changeLeader
  rcases h with h | h
  · obtain ⟨ha, hk⟩ := not_or.mp h
    cases hl : c.lock with
    | acquiring => exact absurd hl ha
    | locked => exact absurd hl hk
    | _ => cases c.upPort <;> cases up <;> rfl
  · rw [h]
    rfl

theorem followMaster_to_master (hf : former ≠ some s.own) : followMaster former (some s.own) s = changeLock RackTime.toMaster s := by
  unfold followMaster
  rw [if_pos rfl, if_neg hf]

theorem toMaster_of_been {c : RackTime} (h : c.beenMaster = true) : c.toMaster =
    { c.taken none with lock := .master, within := 0, outside := 0, holdoverAge := 0, trim := clampTrim c.integral } := by
  simp only [RackTime.toMaster, h, if_true]
  exact congrArg (fun x => ({ c.taken none with
    lock := .master, within := 0, outside := 0, holdoverAge := 0, trim := clampTrim c.integral, beenMaster := x } : RackTime)) h.symm

theorem toMaster_of_new {c : RackTime} (h : c.beenMaster = false) : c.toMaster =
    { c.taken none with
      lock := .master, within := 0, outside := 0, holdoverAge := 0, beenMaster := true
      trim := clampTrim c.settings.masterTrim, integral := clampTrim c.settings.masterTrim } := by
  simp only [RackTime.toMaster, h, Bool.false_eq_true, if_false]
  rfl

theorem upPortFor_eq (s : State) (left : Option FrameNo) : s.upPortFor left = match left with
    | none => none
    | some f => if f ≠ s.own ∧ (s.entry f).state = .present then (s.entry f).route else none := by
  cases left <;> rfl

theorem upPortFor_own (s : State) : s.upPortFor (some s.own) = none := if_neg fun k => k.1 rfl

/-- R112, R119, R129, R131, R132: the transition, by the belief and the lock state. -/
theorem followMaster_spec (s : State) (former left : Option FrameNo) :
    let c := s.clock
    let u := followMaster former left s
    let up := s.upPortFor left
    let taken := c.taken up
    let follower := left ≠ some s.own ∧ ¬ (former = some s.own ∧ c.lock = .master)
    let moved := up ≠ c.upPort ∨ ∃ f g, former = some f ∧ left = some g ∧ f ≠ g ∧ f ≠ s.own
    let tracks := c.lock = .acquiring ∨ c.lock = .locked
    (left = some s.own → former = some s.own → u = s) ∧
    (left = some s.own → former ≠ some s.own → Becomes s u c.toMaster) ∧
    (left ≠ some s.own → former = some s.own → c.lock = .master →
      (up ≠ none → Becomes s u taken.toAcquiring) ∧ (up = none → Becomes s u taken.toHoldover)) ∧
    (follower → ¬ moved → u = s) ∧
    (follower → moved → tracks → c.upPort ≠ none →
      (up ≠ none → Becomes s u taken.toAcquiring) ∧ (up = none → Becomes s u taken.toHoldover)) ∧
    (follower → moved → ¬ tracks ∨ c.upPort = none → Becomes s u taken) := by
  intro c u up taken follower moved tracks
  refine ⟨fun hl hf => ?_, fun hl hf => ?_, fun hl hf hm => ?_, fun hf hm => ?_, fun hf hm ht hc => ?_, fun hf hm ht => ?_⟩
  · change followMaster former left s = s
    unfold followMaster
    rw [if_pos hl, if_pos hf]
  · subst hl
    change Becomes s (followMaster former (some s.own) s) _
    rw [followMaster_to_master hf]
    exact changeLock_of_eq rfl
  · have hu : u = changeLock (RackTime.fromMaster up) s := followMaster_from_master hl hf hm
    rw [hu]
    refine ⟨fun h => changeLock_of_eq (fromMaster_of_up c h), fun h => changeLock_of_eq ?_⟩
    change RackTime.fromMaster up c = (c.taken up).toHoldover
    rw [h]
    exact fromMaster_of_none c
  · exact (followMaster_follower hf.1 hf.2).trans (if_neg hm)
  all_goals
    have hu : u = changeLock (RackTime.changeLeader up) s := (followMaster_follower hf.1 hf.2).trans (if_pos hm)
    rw [hu]
  · refine ⟨fun h => changeLock_of_eq (changeLeader_of_up hc h ht), fun h => changeLock_of_eq ?_⟩
    change RackTime.changeLeader up c = (c.taken up).toHoldover
    rw [h]
    exact changeLeader_of_none hc ht
  · exact changeLock_of_eq (changeLeader_of_loose ht)

end Sys2Proof.Machine

/-! PROOFS. Events that leave the leader and the up port (R119), and Forget Frame's notice (R93, R103). -/

namespace Sys2Proof.Machine
variable {s t u w e before noted : State} {p q : Port} {f b o n : FrameNo} {tag : Word16}

/-! ### The Rack Time Unit at the end of an event that leaves its leader -/

theorem upPortFor_congr (ho : u.own = s.own) (he : ∀ g, u.entry g = s.entry g) (left : Option FrameNo) : u.upPortFor left = s.upPortFor left := by
  cases left with
  | none => rfl
  | some f => simp only [State.upPortFor, ho, he]

/-- R119: a leader and an up port that stand. -/
theorem followMaster_idle {left : Option FrameNo} (h : s.upPortFor left = s.clock.upPort) : followMaster left left s = s := by
  unfold followMaster
  dsimp only
  split_ifs with h1 h2 h3
  · rfl
  · exact absurd h2.1 h1
  · exact absurd h3 fun k => k.elim (fun k => k h) fun k => k.2.2.1 rfl
  · rfl

theorem notifyDeparture_clock (before s : State) : (notifyDeparture before s).clock = s.clock := by
  unfold notifyDeparture
  split_ifs
  · dsimp only
    split <;> rfl
  · rfl

theorem notify_clock (hb : noted.roster.belief = s.roster.belief) (hup : s.upPortNow = s.clock.upPort) :
    (notify s.roster.belief noted s).clock = s.clock := by
  have hraised := raises_only (noticeEvents noted s) s
  unfold notify
  dsimp only
  rw [notices_eq, notifyDeparture_clock, hb]
  generalize (noticeEvents noted s).foldl (fun v e => raise e v) s = v at hraised
  have hclock : v.clock = s.clock := by rw [hraised.1]
  have hv : v.upPortFor s.roster.belief = v.clock.upPort := by
    rw [hclock, ← hup]
    exact upPortFor_congr (congrArg Straps.frame hraised.2) (fun g => by rw [hraised.1]; rfl) _
  rw [followMaster_idle hv, hclock]

/-- What a round makes of the clock and of the reports is what the notices make. -/
theorem round_units (h : e.calm noted) :
    (round before noted e).clock = (notify (advance e).roster.belief noted (advance e)).clock ∧
      (round before noted e).reporter = (notify (advance e).roster.belief noted (advance e)).reporter := by
  have hann := announce_of_calm (calm_advance h)
  have hupdate (u : State) : (updateIfChanged before u).clock = u.clock ∧ (updateIfChanged before u).reporter = u.reporter := by
    unfold updateIfChanged makeRosterUpdate
    have hbroadcast := broadcast_only (fun seq p => .rosterUpdate ⟨seq, u.vector p⟩) u
    generalize broadcast (fun seq p => .rosterUpdate ⟨seq, u.vector p⟩) u = v at hbroadcast
    split
    · exact ⟨rfl, rfl⟩
    · have hclock : v.clock = u.clock := by rw [hbroadcast]
      have hreporter : v.reporter = u.reporter := by rw [hbroadcast]
      exact ⟨hclock, hreporter⟩
  have hsync (u : State) : (syncResend (syncRefresh u)).clock = u.clock ∧ (syncResend (syncRefresh u)).reporter = u.reporter := by
    constructor <;> rw [(synced u).parts]
  rw [round_eq, (granted .b _).clock, (granted .a _).clock, (granted .b _).reporter, (granted .a _).reporter, State.readied, (hsync _).1, (hsync _).2,
    (hupdate _).1, (hupdate _).2, hann]
  exact ⟨rfl, rfl⟩

/-- An event that leaves the leader and the up port leaves the clock to the units that it has moved itself. -/
theorem round_clock (hb : noted.roster.belief = e.roster.belief) (hup : e.upPortNow = e.clock.upPort) :
    (round before noted e).clock = e.clock ∧ (round before noted e).upPortNow = (round before noted e).clock.upPort := by
  have hcalm : e.calm noted := .inl hb
  have hsettled := settled_round before noted e
  have hadv := settled_advance e
  have hupadv : (advance e).upPortNow = (advance e).clock.upPort := by
    rw [advance_clock, ← hup, State.upPortNow, advance_belief]
    exact upPortFor_congr (congrArg Straps.frame hadv.straps) (fun g => by rw [State.entry, advance_entries]; rfl) _
  have hclock : (round before noted e).clock = e.clock :=
    (round_units hcalm).1.trans ((notify_clock (hb.trans (advance_belief e).symm) hupadv).trans (advance_clock e))
  refine ⟨hclock, ?_⟩
  rw [hclock, ← hup, State.upPortNow, (steady_round_of_calm hcalm).belief]
  exact upPortFor_congr (congrArg Straps.frame hsettled.straps) (fun g => by rw [State.entry, hsettled.entries]; rfl) _

theorem concludeFrom_clock (hb : noted.roster.belief = e.roster.belief) (hup : e.upPortNow = e.clock.upPort) :
    (concludeFrom before noted e).clock = e.clock := by
  obtain ⟨h1, k1⟩ := round_clock (before := before) hb hup
  unfold concludeFrom
  dsimp only
  generalize round before noted e = s1 at h1 k1
  obtain ⟨h2, k2⟩ := round_clock (before := s1) (noted := s1) rfl k1
  generalize round s1 s1 s1 = s2 at h2 k2
  exact ((round_clock (before := s2) (noted := s2) rfl k2).1.trans h2).trans h1

/-! ### Rounds that raise nothing -/

theorem noticeEvents_self (s : State) : noticeEvents s s = [] := by
  have hframe (f : FrameNo) : frameEvents s s f = [] := by simp [frameEvents]
  simp [noticeEvents, hframe]

theorem notify_self (hup : s.upPortNow = s.clock.upPort) : notify s.roster.belief s s = s := by
  rw [notify_eq _ (em _), noticeEvents_self]
  exact followMaster_idle hup

/-- A settled part with no tap draining is left by a round. -/
theorem round_of_still (h : s.settles) (hk : ∀ k, (s.tap k).state ≠ .draining) (hup : s.upPortNow = s.clock.upPort) : round s s s = s := by
  have hsettle : settleTaps s = s := settleTaps_of_none fun k hd => hk k hd.1
  rw [(round_of_settles h).2, hsettle, notify_self hup]

/-- Where no tap drains and no leave is on its way, an event that leaves the leader and the up port raises the notices of its change alone. -/
theorem concludeFrom_of_quiet (hb : noted.roster.belief = e.roster.belief) (hw : e.waiting) (hk : ∀ k, (e.tap k).state ≠ .draining)
    (hup : e.upPortNow = e.clock.upPort) (ho : noted.roster.ownState = .departed ∨ e.roster.ownState ≠ .departed) :
    (concludeFrom before noted e).reporter = ((noticeEvents noted e).foldl (fun v i => raise i v) e).reporter := by
  have hcalm : e.calm noted := .inl hb
  have hadv : advance e = e := (advance_of_waiting hw).trans (settleTaps_of_none fun k hd => hk k hd.1)
  have hreport := (round_units (before := before) hcalm).2
  have hsettles : (round before noted e).settles := settles_round (steadyLeave_round hcalm (waiting_advance hw))
  have htaps (k : TapNo) : ((round before noted e).tap k).state ≠ .draining := by
    rcases (round_rests (before := before) hcalm k).state with h | ⟨h, -⟩
    · rw [h]
      exact hk k
    · exact absurd h (hk k)
  obtain ⟨-, hupround⟩ := round_clock (before := before) hb hup
  rw [hadv, notify_eq _ ho, hb] at hreport
  have hraised := raises_only (noticeEvents noted e) e
  have hfollow : followMaster e.roster.belief e.roster.belief ((noticeEvents noted e).foldl (fun v i => raise i v) e) =
      (noticeEvents noted e).foldl (fun v i => raise i v) e := by
    generalize (noticeEvents noted e).foldl (fun v i => raise i v) e = v at hraised
    refine followMaster_idle ?_
    have hclock : v.clock = e.clock := by rw [hraised.1]
    rw [hclock, ← hup]
    exact upPortFor_congr (congrArg Straps.frame hraised.2) (fun g => by rw [hraised.1]; rfl) _
  rw [hfollow] at hreport
  unfold concludeFrom
  dsimp only
  generalize round before noted e = s1 at hreport hsettles htaps hupround
  rw [round_of_still hsettles htaps hupround, round_of_still hsettles htaps hupround, hreport]

/-! ### Forget Frame (R93, R103) -/

/-- What the directive has made of the part when its event is concluded. -/
def State.forgets (s : State) (tag : Word16) (f : FrameNo) : State := postResult tag 0x22 .done (s.taken.forgotten f)

theorem forgets_entry (s : State) (tag : Word16) (f g : FrameNo) : (s.forgets tag f).entry g = if g = f then RosterEntry.absent else s.entry g :=
  onEntry_entry f (fun _ => RosterEntry.absent) s g

/-- R110: a Lost frame forgotten calls no election where another frame is believed master. -/
theorem electIfNeeded_forgotten (hb : s.roster.belief = some b) (hbo : b ≠ s.own) (h : (s.entry f).state = .lost) :
    electIfNeeded s.taken (s.taken.forgotten f) = s.taken.forgotten f := by
  refine electIfNeeded_of_stands (f := b) hb ?_
  unfold stands
  rw [if_neg (show b ≠ (s.taken.forgotten f).own from hbo)]
  intro k
  have hentry : (s.taken.forgotten f).entry b = if b = f then RosterEntry.absent else s.entry b := onEntry_entry f (fun _ => RosterEntry.absent) s b
  rw [hentry] at k
  by_cases hf : b = f
  · subst hf
    have : (s.entry b).state = .present := k.1
    rw [h] at this
    exact nomatch this
  · rw [if_neg hf] at k
    exact k.2 k.1

theorem exec_forgetFrame_of_led {frame : Byte} (hv : (s.region 0).valid = true) (hf : frame.toNat = f.val) (hne : f ≠ s.own)
    (h : (s.entry f).state = .lost) (hb : s.roster.belief = some b) (hbo : b ≠ s.own) :
    exec (.forgetFrame tag frame) s = .next (conclude s.taken (s.forgets tag f)) := by
  rw [exec_forgetFrame hv hf hne h, electIfNeeded_forgotten hb hbo h]
  rfl

theorem mem_flatMap_single {α β : Type} {l : List α} {F : α → List β} {a : α} (hl : l.Nodup) (ha : a ∈ l) (h : ∀ x ∈ l, x ≠ a → F x = []) :
    l.flatMap F = F a := by
  induction l with
  | nil => exact nomatch ha
  | cons x l ih =>
    obtain ⟨hx, hl⟩ := List.nodup_cons.mp hl
    rw [List.flatMap_cons]
    by_cases hxa : x = a
    · subst hxa
      have hrest : l.flatMap F = [] := List.flatMap_eq_nil_iff.mpr fun y hy => h y (List.mem_cons_of_mem _ hy) fun k => hx (k ▸ hy)
      rw [hrest, List.append_nil]
    · rw [h x List.mem_cons_self hxa, List.nil_append]
      exact ih hl ((List.mem_cons.mp ha).resolve_left fun k => hxa k.symm) fun y hy => h y (List.mem_cons_of_mem _ hy)

theorem noticeEvents_forgets (tag : Word16) (hne : f ≠ s.own) (h : (s.entry f).state = .lost) :
    noticeEvents s.taken (s.forgets tag f) = [.entryChanged f .absent] := by
  have hentry := forgets_entry s tag f
  have hown : (s.forgets tag f).own = s.own := rfl
  have hself : frameEvents s.taken (s.forgets tag f) f = [.entryChanged f .absent] := by
    unfold frameEvents
    rw [hentry, if_pos rfl, if_neg fun k => k.2.1 rfl, if_pos]
    · rfl
    · change (s.entry f).state ≠ .absent
      rw [h]
      exact nofun
  have hother (g : FrameNo) (hg : g ≠ f) : frameEvents s.taken (s.forgets tag f) g = [] := by
    unfold frameEvents
    rw [hentry, if_neg hg, if_neg fun k => k.2.2 rfl, if_neg fun k => k rfl]
    rfl
  unfold noticeEvents
  rw [mem_flatMap_single (a := f) (others_nodup _) (mem_others.mpr (hown ▸ hne)) fun g _ hg => hother g hg, hself,
    if_neg fun k => k rfl, if_neg fun k => k rfl]
  rfl

/-- R119: the up port where a frame that was not Present is forgotten. -/
theorem upPortNow_forgets (tag : Word16) (h : (s.entry f).state = .lost) : (s.forgets tag f).upPortNow = s.upPortNow := by
  change (s.forgets tag f).upPortFor s.roster.belief = s.upPortFor s.roster.belief
  cases s.roster.belief with
  | none => rfl
  | some b =>
    have hown : (s.forgets tag f).own = s.own := rfl
    simp only [State.upPortFor, hown, forgets_entry]
    by_cases hbf : b = f
    · subst hbf
      simp [h, RosterEntry.absent]
    · rw [if_neg hbf]

/-- An event that moves no port, and makes no frames. -/
theorem told_event_of_link (ho : u.own = s.own) (hl : u.link = s.link) : Told.Event s.control [] [] s u := by
  have hport (q : Port) : u.port q = s.port q := by rw [State.port, hl]; rfl
  refine ⟨ho, fun q _ => ?_, fun q _ => ?_, ?_, ?_⟩
  · rw [State.control, hport]
    rfl
  · rw [hport]
    exact ⟨rfl, id, id⟩
  · rw [List.length_nil, ite_self, hl]
    exact (BitVec.add_zero _).symm
  · rw [hl]
    rfl

/-- An event that settles at once, that makes no frames and leaves the leader: its notices, and what the ports are told. -/
theorem quiet_concluded {v x : State} (hevent : Told.Event s.control [] [] s x) (hv : v.view = s.view) (hb : v.roster.belief = x.roster.belief)
    (hw : x.waiting) (hk : ∀ k, (x.tap k).state ≠ .draining) (hup : x.upPortNow = x.clock.upPort)
    (ho : v.roster.ownState = .departed ∨ x.roster.ownState ≠ .departed) :
    (concludeFrom v v x).reporter = ((noticeEvents v x).foldl (fun v i => raise i v) x).reporter ∧ Told s.control [] [] s (concludeFrom v v x) :=
  ⟨concludeFrom_of_quiet hb hw hk hup ho, .of_event hevent hv (concludesAs_of_waiting (.inl hb) hw)⟩

theorem raise_reporter (info : EventInfo) (hr : u.reporter = w.reporter) (hs : u.stamp = w.stamp) :
    (raise info u).reporter = (raise info w).reporter := by
  unfold raise State.onReporter
  rw [hr, hs]

/-- R93, R103: Forget Frame, its event concluded. -/
theorem forgets_concluded (tag : Word16) (hne : f ≠ s.own) (h : (s.entry f).state = .lost)
    (hup : s.upPortNow = s.clock.upPort) (hphase : s.roster.phase = .none) (hk : ∀ k, (s.tap k).state ≠ .draining) {t : State}
    (ht : t = concludeFrom s.taken s.taken (s.forgets tag f)) :
    t.reporter = (raise (.entryChanged f .absent) (postResult tag 0x22 .done s.taken)).reporter ∧ Told s.control [] [] s t := by
  have hevent : Told.Event s.control [] [] s (s.forgets tag f) := told_event_of_link (u := s.forgets tag f) rfl rfl
  have hnotices := noticeEvents_forgets tag hne h
  have hw : (s.forgets tag f).waiting := .of_none hphase
  obtain ⟨hreport, htold⟩ := quiet_concluded (v := s.taken) hevent rfl rfl hw hk ((upPortNow_forgets tag h).trans hup) (em _)
  rw [hnotices] at hreport
  rw [ht]
  exact ⟨hreport.trans (raise_reporter _ rfl rfl), htold⟩

/-! ### A neighbour's vector (R95) -/

theorem exec_neighbour_vector {h : Header} {items : Vector VectorItem 8} {c : Instr} {seq : Word16}
    (hc : c = .hello p h ⟨items⟩ ∧ s.passes p ⟨h, .hello ⟨items⟩⟩ ∨
      c = .rosterUpdate p h ⟨seq, items⟩ ∧ s.passes p ⟨h, .rosterUpdate ⟨seq, items⟩⟩ ∧ newUpdate ⟨seq, items⟩ s o)
    (ho : h.origin = eightByte o) (h0 : h.hops = 0) (hne : o ≠ s.own) :
    ∃ t w : State, exec c s = .next t ∧ w.own = s.own ∧ (∀ g, w.entry g = s.entry g) ∧ ∀ g, t.entry g = (w.takenOf p true o items).entry g := by
  rcases hc with ⟨rfl, hp⟩ | ⟨rfl, hp, hnew⟩
  · have hat : HelloAt s (s.reheard p o ⟨items⟩) := (onlyPort_reheard ..).helloAt
    exact ⟨_, _, exec_hello_joined hp ho h0, hat.own, hat.entry, fun g => hat.entry_after p ⟨items⟩ (settled_conclude ..) hne g⟩
  · have hbool : (h.hops == 0) = true := by rw [h0]; rfl
    refine ⟨_, s.updated p h ⟨seq, items⟩ o, exec_rosterUpdate_new hp ho hne hnew, listed_own .., fun g => listed_entry s p _ o _ _ g, fun g => ?_⟩
    have hentry := afterUpdate_entry s p h ⟨seq, items⟩ hne g
    rw [hbool] at hentry
    exact hentry

/-! ### The statement -/

/-- Settles O59: vectors by the entry's route, the notices by what has changed, the lock transition by the belief. -/
theorem vectorsShowAndChangeTheRoster : Obligations.VectorsShowAndChangeTheRoster := by
  refine ⟨fun s p f => ?_, fun s p h o items c seq hc ho h0 hne => ?_, fun before s left h => ?_, fun s tag frame f b hv hf hne hl _ hb hbo hup
    hphase hk => ?_, fun s former left => ?_⟩
  · refine ⟨fun hf hs => ?_, fun hf hr => (vector_getElem s p f).trans (vectorItem_unrouted hf hr), fun hops i st hf hr hh hi hst =>
      (vector_getElem s p f).trans (vectorItem_routed hf hr hh hi hst)⟩
    subst hf
    exact (vector_getElem s p _).trans (vectorItem_own s p hs)
  · obtain ⟨t, w, hexec, hown, hentry, hafter⟩ := exec_neighbour_vector hc ho h0 hne
    refine ⟨t, hexec, fun g hg hgo => ?_⟩
    have hthird := takenOf_third p items (fun k => hne (k.trans hown)) (fun k => hg (k.trans hown)) hgo
    rw [← hafter, hentry] at hthird
    exact hthird
  · exact notify_eq left h
  · exact ⟨_, exec_forgetFrame_of_led hv hf hne hl hb hbo, forgets_concluded tag hne hl hup hphase hk rfl⟩
  · obtain ⟨hstays, hbecomes, hfrom, hidle, htracks, hloose⟩ := followMaster_spec s former left
    have hup := upPortFor_eq s left
    intro c u up clamp taken acquiring holdover becomes follower moved tracks
    have hupeq : s.upPortFor left = up := hup
    rw [hupeq] at hfrom hidle htracks hloose
    refine ⟨hstays, fun hl hf hbeen => ?_, fun hl hf hbeen => ?_, hfrom, hidle, htracks, hloose⟩
    all_goals
      have hnone : up = none := by
        rw [← hupeq, hl]
        exact upPortFor_own s
      have htaken : taken = c.taken none := by
        rw [← hnone]
        rfl
      have := hbecomes hl hf
      rw [htaken]
    · rw [toMaster_of_been hbeen] at this
      exact this
    · rw [toMaster_of_new hbeen] at this
      exact this

end Sys2Proof.Machine

/-! PROOFS. A Roster Update made, and what concludes its event (R71, R93); the refresh timer's expiry (R93, R110). -/

namespace Sys2Proof.Machine
variable {s t u w x e : State} {p q : Port} {f : FrameNo}

/-! ### A Roster Update made (R93) -/

theorem makeRosterUpdate_parts (s : State) : makeRosterUpdate s = { s with
    link := (makeRosterUpdate s).link
    roster := { s.roster with refreshTimer := if s.refreshRuns then some s.refreshPeriod else none } } := by
  have hbroadcast := broadcast_only (fun seq p => .rosterUpdate ⟨seq, s.vector p⟩) s
  unfold OnlyLinks at hbroadcast
  unfold makeRosterUpdate
  generalize broadcast (fun seq p => .rosterUpdate ⟨seq, s.vector p⟩) s = v at hbroadcast
  rw [hbroadcast]
  rfl

theorem makeRosterUpdate_port (s : State) (p : Port) : (makeRosterUpdate s).port p = if s.joined p = true
    then (s.port p).queueing (queued (s.control p) (s.updateFrame s.link.broadcastSeq p)) else s.port p :=
  broadcast_port (fun seq p => .rosterUpdate ⟨seq, s.vector p⟩) s p

theorem makeRosterUpdate_seq (s : State) : (makeRosterUpdate s).link.broadcastSeq = s.link.broadcastSeq + if s.anyJoined = true then 1 else 0 :=
  broadcast_seq (fun seq p => .rosterUpdate ⟨seq, s.vector p⟩) s

theorem makeRosterUpdate_shows (s : State) : ShowsAs s (makeRosterUpdate s) := by
  have := makeRosterUpdate_parts s
  refine ⟨by rw [this]; rfl, ?_, ?_, ?_, ?_, ?_, ?_⟩ <;> rw [this]

theorem makeRosterUpdate_waitSet (s : State) : (makeRosterUpdate s).roster.waitSet = s.roster.waitSet := by rw [makeRosterUpdate_parts]

theorem makeRosterUpdate_joined (s : State) (p : Port) : (makeRosterUpdate s).joined p = s.joined p := by
  rw [State.joined, makeRosterUpdate_port]
  split <;> rfl

theorem makeRosterUpdate_refresh (s : State) : (makeRosterUpdate s).roster.refreshTimer =
    if s.refreshRuns = true then some s.refreshPeriod else none := by rw [makeRosterUpdate_parts]

theorem makeRosterUpdate_refreshRuns (s : State) : (makeRosterUpdate s).refreshRuns = s.refreshRuns :=
  refreshRuns_congr (makeRosterUpdate_shows s) (makeRosterUpdate_joined s)

/-! ### What concludes it -/

theorem Notified.roster (h : Notified s u) : u.roster = { s.roster with leaveTag := u.roster.leaveTag } := congrArg State.roster h.parts

/-- A refresh timer that runs as it should is left by what makes a part ready that makes no roster change. -/
theorem readied_refresh (hw : x.waiting) (h : x.roster.refreshTimer.isSome = x.refreshRuns) :
    (State.readied x x x).roster.refreshTimer = x.roster.refreshTimer := by
  have hann : announce x (advance x) = notify (advance x).roster.belief x (advance x) := announce_of_calm (calm_advance (.inl rfl))
  have hadv : (advance x).roster = x.roster := by
    rw [advance_of_waiting hw]
    exact (settleTaps_only x).roster
  have hn := notified_notify (advance x).roster.belief x (advance x)
  rw [← hann] at hn
  have hroster := hn.roster
  have hown := hn.own.trans (advance_own x)
  have hlink := hn.link.trans (advance_link x)
  unfold State.readied
  generalize announce x (advance x) = v at hroster hown hlink
  rw [hadv] at hroster
  have hshows : ShowsAs x v := by
    refine ⟨hown, ?_, ?_, ?_, ?_, ?_, ?_⟩ <;> rw [hroster]
  have hruns : v.refreshRuns = x.refreshRuns := refreshRuns_congr hshows fun p => by rw [State.joined, State.port, hlink]; rfl
  have htimer : v.roster.refreshTimer = x.roster.refreshTimer := by rw [hroster]
  rw [updateIfChanged, if_pos hshows.view, syncRefresh_of_right (by rw [htimer, hruns, h]), syncResend_parts]
  exact htimer

theorem concludeFrom_refresh (hw : x.waiting) (h : x.roster.refreshTimer.isSome = x.refreshRuns) :
    (concludeFrom x x x).roster.refreshTimer = x.roster.refreshTimer := by
  have hstill := concludeFrom_of_steady (steadyLeave_round (before := x) (noted := x) (.inl rfl) (waiting_advance hw))
  rw [hstill.roster, round_eq, (granted .b _).roster, (granted .a _).roster, readied_refresh hw h]

/-- What a Roster Update makes of a part, its event concluded. -/
structure Updated (v t : State) : Prop where
  shows : ShowsAs v t
  sends : ∀ p, v.joined p = true → PortSends (queued (v.control p) (t.updateFrame v.link.broadcastSeq p)) p v t
  seq : t.link.broadcastSeq = v.link.broadcastSeq + if v.anyJoined = true then 1 else 0
  unsent : t.link.unsentOwn = v.link.unsentOwn
  joined : ∀ p, t.joined p = v.joined p
  refresh : t.roster.refreshTimer = if v.refreshRuns = true then some v.refreshPeriod else none

theorem updated_concluded {v : State} (hw : v.waiting) (hx : x = makeRosterUpdate v) : Updated v (concludeFrom x x x) := by
  have hmade := makeRosterUpdate_shows v
  have hwaits := makeRosterUpdate_waitSet v
  have hjoined := makeRosterUpdate_joined v
  have hport := makeRosterUpdate_port v
  have hseq := makeRosterUpdate_seq v
  have hunsent : (makeRosterUpdate v).link.unsentOwn = v.link.unsentOwn := broadcast_unsent (fun seq p => .rosterUpdate ⟨seq, v.vector p⟩) v
  have hruns := makeRosterUpdate_refreshRuns v
  have htimer := makeRosterUpdate_refresh v
  rw [← hx] at hmade hwaits hjoined hport hseq hunsent hruns htimer
  have hwx : x.waiting := by
    unfold State.waiting
    rw [hmade.phase, hwaits]
    exact hw
  have hadv : advance x = settleTaps x := advance_of_waiting hwx
  have honly := settleTaps_only x
  have hsettled : ShowsAs x (advance x) := by
    rw [hadv]
    exact .of_roster honly.own honly.roster
  have ht := concludesAs_of_waiting (before := x) (noted := x) (.inl rfl) hwx
  have hrefresh := concludeFrom_refresh hwx (by rw [htimer, hruns]; split <;> simp_all)
  generalize concludeFrom x x x = t at ht hrefresh
  have hshows : ShowsAs v t := hmade.trans (hsettled.trans ht.shows)
  refine ⟨hshows, fun p hp => ?_, ?_, ht.unsent.trans hunsent, fun p => (ht.joined p).trans (hjoined p), hrefresh.trans htimer⟩
  · have hsend := ht.sends p ((hjoined p).trans hp)
    have hx := hport p
    rw [if_pos hp] at hx
    have hcontrol : x.control p = queued (v.control p) (v.updateFrame v.link.broadcastSeq p) := congrArg PortRecord.queue hx
    rw [if_pos hsettled.view, hcontrol, ← hshows.updateFrame] at hsend
    refine hsend.congr ?_ rfl
    rw [hx]
    exact ⟨rfl, id, id⟩
  · rw [ht.seq, if_neg fun k => k.1 hsettled.view, hseq]
    exact BitVec.add_zero _

/-! ### The refresh timer's expiry (R93, R110) -/

theorem refreshElection_only (s : State) : OnlyBelief s (refreshElection s) := by
  unfold refreshElection OnlyBelief
  split
  · split <;> rfl
  · rfl

theorem refreshElection_elects (hb : s.roster.belief = some f) (hf : f ≠ s.own) (h : (s.entry f).state ≠ .present) :
    s.elects (refreshElection s).roster.belief := by
  unfold refreshElection
  simp only [hb]
  rw [if_pos ⟨hf, h⟩]
  exact elects_found s

theorem refreshElection_kept (h : ∀ f, s.roster.belief = some f → f = s.own ∨ (s.entry f).state = .present) : refreshElection s = s := by
  unfold refreshElection
  split
  · next f hb => exact if_neg fun k => (h f hb).elim k.1 k.2
  · rfl

/-- The part at a refresh, when it makes its Roster Update. -/
def State.refreshed (s : State) : State := announce s (refreshElection s)

theorem exec_refresh (h : s.roster.refreshTimer.isSome = true) : exec .refreshTimerExpiry s =
    .next (concludeFrom (makeRosterUpdate s.refreshed) (makeRosterUpdate s.refreshed) (makeRosterUpdate s.refreshed)) :=
  congrArg Host.Outcome.next (if_pos h)

/-- R93: with nothing pending, a refresh moves the belief alone before its Roster Update. -/
theorem refreshed_parts (hp : s.orders.pending = []) :
    s.refreshed.roster = { s.roster with belief := (refreshElection s).roster.belief } ∧ s.refreshed.own = s.own ∧ s.refreshed.link = s.link := by
  have honly := refreshElection_only s
  unfold OnlyBelief at honly
  unfold State.refreshed
  generalize refreshElection s = e at honly
  have hroster : e.roster = { s.roster with belief := e.roster.belief } := congrArg State.roster honly
  have horders : e.orders = s.orders := by rw [honly]; rfl
  have hown : e.own = s.own := by rw [honly]; rfl
  have hlink : e.link = s.link := by rw [honly]; rfl
  have hcalm : e.calm s := .inr ((congrArg RackOrders.pending horders).trans hp)
  have hstate : s.roster.ownState = .departed ∨ e.roster.ownState ≠ .departed := by
    rw [hroster]
    exact em _
  have hn := notified_notify e.roster.belief s e
  have hnroster := notify_roster e.roster.belief hstate
  rw [announce_of_calm hcalm]
  generalize notify e.roster.belief s e = v at hn hnroster
  exact ⟨hnroster.trans hroster, hn.own.trans hown, hn.link.trans hlink⟩

/-- R93: the refresh, its event concluded. -/
theorem refresh_concluded (hp : s.orders.pending = []) (ht : t = concludeFrom (makeRosterUpdate s.refreshed) (makeRosterUpdate s.refreshed)
      (makeRosterUpdate s.refreshed)) :
    t.roster.entries = s.roster.entries ∧ t.roster.belief = (refreshElection s).roster.belief ∧ (s.waiting → Updated s.refreshed t) := by
  obtain ⟨hroster, -, -⟩ := refreshed_parts hp
  have hsettled := settled_concludeFrom (makeRosterUpdate s.refreshed) (makeRosterUpdate s.refreshed) (makeRosterUpdate s.refreshed)
  have hbelief := belief_concludeFrom (before := makeRosterUpdate s.refreshed) (noted := makeRosterUpdate s.refreshed)
    (e := makeRosterUpdate s.refreshed) (.inl rfl)
  have hupdated (hw : s.refreshed.waiting) := updated_concluded hw rfl
  have hshows := makeRosterUpdate_shows s.refreshed
  rw [← ht] at hsettled hbelief hupdated
  refine ⟨?_, ?_, fun hw => hupdated ?_⟩
  · rw [hsettled.entries, hshows.entries, hroster]
  · rw [hbelief, hshows.belief, hroster]
  · unfold State.waiting
    rw [hroster]
    exact hw

end Sys2Proof.Machine

/-! PROOFS. The exchange timer's expiry (R120, R121, R129), the resend timer's (R159), and the tick (R40, R114). -/

namespace Sys2Proof.Machine
variable {s t u w x e before noted : State} {p q : Port} {f : FrameNo}

/-! ### The expiry's clock (R120, R129) -/

/-- R120: the missed replies once an expiry has counted. -/
def RackTime.missedNow (c : RackTime) : Nat := if c.outstanding.isSome then min (c.missed + 1) 255 else c.missed

/-- R120: the leader is lost at an expiry. -/
def RackTime.loses (c : RackTime) : Prop := 3 ≤ c.missedNow ∧ (c.lock = .acquiring ∨ c.lock = .locked)

theorem countMissed_eq (c : RackTime) : c.countMissed = { c with outstanding := none, missed := c.missedNow } := by
  unfold RackTime.countMissed RackTime.missedNow
  cases ho : c.outstanding with
  | none => exact congrArg (fun o => { c with outstanding := o }) ho
  | some o => rfl

theorem leaderLost_iff (c : RackTime) : c.countMissed.leaderLost = true ↔ c.loses := by
  rw [countMissed_eq]
  simp [RackTime.leaderLost, RackTime.loses]

theorem expire_of_lost {c : RackTime} (h : c.loses) : c.expire = c.countMissed.toHoldover := by
  have hlock : c.lock ≠ .holdover := by
    rcases h.2 with h | h <;> rw [h] <;> exact nofun
  unfold RackTime.expire
  dsimp only
  rw [if_neg hlock, if_pos ((leaderLost_iff c).mpr h)]

theorem expire_of_holdover {c : RackTime} (h : c.lock = .holdover) : c.expire = c.countMissed.ageHoldover := by
  have hlost : ¬ c.countMissed.leaderLost = true := fun k => by
    rcases ((leaderLost_iff c).mp k).2 with k | k <;> rw [h] at k <;> exact nomatch k
  unfold RackTime.expire
  dsimp only
  rw [if_pos h, if_neg hlost]

theorem expire_of_other {c : RackTime} (hl : ¬ c.loses) (hh : c.lock ≠ .holdover) : c.expire = c.countMissed := by
  unfold RackTime.expire
  dsimp only
  rw [if_neg hh, if_neg (mt (leaderLost_iff c).mp hl)]

/-- What of the clock an expiry sets in every lock state, and leaves. -/
theorem expire_rest (c : RackTime) : c.expire.missed = c.missedNow ∧ c.expire.outstanding = none ∧ c.expire.time = c.time ∧
    c.expire.upPort = c.upPort ∧ c.expire.settings = c.settings ∧ c.expire.requestNumber = c.requestNumber := by
  have hcount := countMissed_eq c
  by_cases hl : c.loses
  · rw [expire_of_lost hl, hcount]
    exact ⟨rfl, rfl, rfl, rfl, rfl, rfl⟩
  · by_cases hh : c.lock = .holdover
    · rw [expire_of_holdover hh, hcount]
      exact ⟨rfl, rfl, rfl, rfl, rfl, rfl⟩
    · rw [expire_of_other hl hh, hcount]
      exact ⟨rfl, rfl, rfl, rfl, rfl, rfl⟩

/-- R120, R129: the lock state after an expiry. -/
theorem expire_lock (c : RackTime) : (c.loses → c.expire.lock = .holdover ∧ c.expire.holdoverAge = 0 ∧ c.expire.trim = clampTrim c.integral) ∧
    (c.lock = .holdover → c.expire.holdoverAge = min (c.holdoverAge + 1) 1000000 ∧
      c.expire.lock = if c.settings.holdover ≤ min (c.holdoverAge + 1) 1000000 then .freeRun else .holdover) ∧
    (¬ c.loses → c.lock ≠ .holdover → c.expire.lock = c.lock ∧ c.expire.trim = c.trim) := by
  have hcount := countMissed_eq c
  refine ⟨fun hl => ?_, fun hh => ?_, fun hl hh => ?_⟩
  · rw [expire_of_lost hl, hcount]
    exact ⟨rfl, rfl, rfl⟩
  · rw [expire_of_holdover hh, hcount]
    exact ⟨rfl, congrArg (fun l => if c.settings.holdover ≤ min (c.holdoverAge + 1) 1000000 then LockState.freeRun else l) hh⟩
  · rw [expire_of_other hl hh, hcount]
    exact ⟨rfl, rfl⟩

/-! ### The request toward the up port (R121) -/

/-- R121: the clock that has made a request. -/
def RackTime.requested (c : RackTime) : RackTime := match c.upPort with
  | none => c
  | some p => { c with requestNumber := c.requestNumber + 1, outstanding := some ⟨c.requestNumber, p⟩ }

theorem makeRequest_clock (s : State) : (makeRequest s).clock = s.clock.requested := by
  cases hp : s.clock.upPort <;> simp only [makeRequest, RackTime.requested, hp]
  rw [← hp]
  rfl

theorem makeRequest_parts (s : State) : makeRequest s = { s with clock := (makeRequest s).clock, link := (makeRequest s).link } := by
  cases hp : s.clock.upPort <;> simp only [makeRequest, hp]
  rfl

theorem makeRequest_port (hp : s.clock.upPort = some p) : (makeRequest s).port p =
    { s.port p with slotRequest := some ⟨s.clock.requestNumber, 0⟩ } := by
  unfold makeRequest
  simp only [hp]
  rw [onPort_self]
  rfl

/-- R121: an idle port sends the request in its time slot at once, with its time of sending. -/
theorem round_request {b : TimeRequestBody} (hc : e.calm noted) (hj : e.joined p = true) (hi : (e.port p).inTransmission = none)
    (hr : (e.port p).slotReply = none) (hq : (e.port p).slotRequest = some b) :
    ((round before noted e).port p).slotRequest = none ∧ ((round before noted e).port p).inTransmission =
      some (e.ownFrame (.timeRequest { b with t1 := BitVec.ofNat 72 (round before noted e).clock.now })) := by
  have hready := readied (before := before) (calm_advance hc)
  rw [round_eq]
  generalize State.readied before noted e = y at hready
  have hport : (y.port p).state = (e.port p).state ∧ (y.port p).inTransmission = (e.port p).inTransmission ∧
      (y.port p).slotReply = (e.port p).slotReply ∧ (y.port p).slotRequest = (e.port p).slotRequest := by
    by_cases hv : (advance e).view = before.view
    · rw [State.port, hready.same hv, advance_link]
      exact ⟨rfl, rfl, rfl, rfl⟩
    · rw [hready.queues hv p, advance_port]
      split <;> exact ⟨rfl, rfl, rfl, rfl⟩
  obtain ⟨hstate, htrans, hreply, hrequest⟩ := hport
  have hown : y.own = e.own := hready.shows.own.trans (advance_own e)
  have hgrant (v : State) (hl : v.port p = y.port p) (ho : v.own = y.own) : (grant p v).port p = { y.port p with
      slotRequest := none
      inTransmission := some (e.ownFrame (.timeRequest { b with t1 := BitVec.ofNat 72 v.clock.now })) } := by
    have hjoined : (v.port p).state = .joined := by
      rw [hl, hstate]
      simpa [State.joined] using hj
    rw [grant_of_request (p := p) (s := v) (by rw [hl, htrans, hi]) hjoined (by rw [hl, hreply, hr]) (by rw [hl, hrequest, hq]), onPort_self, hl,
      State.ownHeader, ho, hown]
    rfl
  have hclock : (grant .b (grant .a y)).clock = y.clock := (granted .b _).clock.trans (granted .a _).clock
  rw [hclock]
  cases p with
  | a =>
    rw [show (grant .b (grant .a y)).port .a = (grant .a y).port .a from (granted .b (grant .a y)).other, hgrant y rfl rfl]
    exact ⟨rfl, rfl⟩
  | b =>
    rw [hgrant (grant .a y) (granted .a y).other (by rw [State.own, (granted .a y).reporter]; rfl), (granted .a y).clock]
    exact ⟨rfl, rfl⟩

theorem concludeFrom_request {b : TimeRequestBody} (hc : e.calm noted) (hj : e.joined p = true) (hi : (e.port p).inTransmission = none)
    (hr : (e.port p).slotReply = none) (hq : (e.port p).slotRequest = some b) (hclock : (round before noted e).clock = e.clock) :
    ((concludeFrom before noted e).port p).slotRequest = none ∧ ((concludeFrom before noted e).port p).inTransmission =
      some (e.ownFrame (.timeRequest { b with t1 := BitVec.ofNat 72 e.clock.now })) := by
  obtain ⟨hslot, hsent⟩ := round_request (before := before) hc hj hi hr hq
  rw [hclock] at hsent
  unfold concludeFrom
  dsimp only
  generalize round before noted e = s1 at hslot hsent
  have hrests := (rests_round s1 s1 s1).trans (rests_round (round s1 s1 s1) (round s1 s1 s1) (round s1 s1 s1))
  generalize round (round s1 s1 s1) (round s1 s1 s1) (round s1 s1 s1) = t at hrests
  have hsome : (s1.port p).inTransmission.isSome = true := by rw [hsent]; rfl
  exact ⟨(hrests.ports.slots p hsome).2.trans hslot, (hrests.ports.sending p hsome).1.trans hsent⟩

/-! ### The expiry -/

/-- The part at the expiry of the exchange timer, its request made and the timer restarted. -/
def State.exchanged (s : State) : State := (makeRequest (changeLock RackTime.expire s)).onClock RackTime.startExchange

theorem exec_exchange (h : s.clock.exchangeTimer.isSome = true) : exec .exchangeTimerExpiry s = .next (concludeFrom s s s.exchanged) :=
  congrArg Host.Outcome.next (if_pos h)

theorem exchanged_clock (s : State) : s.exchanged.clock = s.clock.expire.requested.startExchange := by
  unfold State.exchanged State.onClock
  rw [makeRequest_clock, changeLock_clock]

/-- What of the part an expiry leaves: all but the clock, the reports and the time slot of the up port. -/
theorem exchanged_parts (s : State) : s.exchanged.roster = s.roster ∧ s.exchanged.own = s.own ∧
    (s.clock.upPort = none → s.exchanged.link = s.link) ∧
    ∀ p, s.clock.upPort = some p → s.exchanged.port p = { s.port p with slotRequest := some ⟨s.clock.requestNumber, 0⟩ } := by
  have hchanged := notified_changeLock RackTime.expire s
  have hclock := changeLock_clock RackTime.expire s
  obtain ⟨-, -, -, hup, -, hnumber⟩ := expire_rest s.clock
  have hroster : (changeLock RackTime.expire s).roster = s.roster := by
    unfold changeLock
    dsimp only
    split_ifs <;> rfl
  unfold State.exchanged
  generalize changeLock RackTime.expire s = v at hchanged hclock hroster
  have hvown := hchanged.own
  have hvlink := hchanged.link
  have hvup : v.clock.upPort = s.clock.upPort := by rw [hclock, hup]
  have hvnumber : v.clock.requestNumber = s.clock.requestNumber := by rw [hclock, hnumber]
  have hmade := makeRequest_parts v
  refine ⟨?_, ?_, fun hn => ?_, fun p hp => ?_⟩
  · change (makeRequest v).roster = _
    rw [hmade]
    exact hroster
  · change (makeRequest v).own = _
    rw [hmade]
    exact hvown
  · change (makeRequest v).link = _
    unfold makeRequest
    simp only [hvup, hn]
    exact hvlink
  · change (makeRequest v).port p = _
    rw [makeRequest_port (hvup.trans hp), hvnumber, State.port, hvlink]
    rfl

theorem requested_of_up {c : RackTime} (h : c.upPort = some p) : c.requested.outstanding = some ⟨c.requestNumber, p⟩ ∧
    c.requested.requestNumber = c.requestNumber + 1 := by
  simp only [RackTime.requested, h]
  exact ⟨trivial, trivial⟩

theorem requested_of_none {c : RackTime} (h : c.upPort = none) : c.requested = c := by simp only [RackTime.requested, h]

theorem requested_rest (c : RackTime) : c.requested.upPort = c.upPort ∧ c.requested.missed = c.missed ∧ c.requested.time = c.time ∧
    c.requested.settings = c.settings ∧ c.requested.lock = c.lock ∧ c.requested.holdoverAge = c.holdoverAge ∧ c.requested.trim = c.trim := by
  unfold RackTime.requested
  split <;> exact ⟨rfl, rfl, rfl, rfl, rfl, rfl, rfl⟩

/-- R119: an expiry leaves the up port that the belief and the roster give. -/
theorem exchanged_upPort (hup : s.upPortNow = s.clock.upPort) : s.exchanged.upPortNow = s.exchanged.clock.upPort := by
  obtain ⟨hroster, hown, -⟩ := exchanged_parts s
  have hentry (g : FrameNo) : s.exchanged.entry g = s.entry g := by rw [State.entry, hroster]; rfl
  have hclock : s.exchanged.clock.upPort = s.clock.upPort := by
    rw [exchanged_clock]
    exact (requested_rest _).1.trans (expire_rest s.clock).2.2.2.1
  rw [hclock, ← hup, State.upPortNow, hroster]
  exact upPortFor_congr hown hentry _

/-- R120, R121, R129: an expiry, its event concluded. -/
theorem exchange_concluded (hup : s.upPortNow = s.clock.upPort) (ht : t = concludeFrom s s s.exchanged) : t.clock = s.exchanged.clock ∧
    ∀ p, s.clock.upPort = some p →
      ((s.port p).inTransmission.isSome = true → (t.port p).slotRequest = some ⟨s.clock.requestNumber, 0⟩ ∧
        (t.port p).slotReply = (s.port p).slotReply) ∧
      ((s.port p).inTransmission = none → s.joined p = true → (s.port p).slotReply = none → (t.port p).slotRequest = none ∧
        (t.port p).inTransmission =
          some (s.ownFrame (.timeRequest ⟨s.clock.requestNumber, BitVec.ofNat 72 s.clock.now⟩))) := by
  obtain ⟨hroster, hown, -, hport⟩ := exchanged_parts s
  have hupe := exchanged_upPort hup
  have hbelief : s.roster.belief = s.exchanged.roster.belief := by rw [hroster]
  have htime : s.exchanged.clock.now = s.clock.now := by
    rw [exchanged_clock]
    exact congrArg (· / 2 ^ 24) ((requested_rest _).2.2.1.trans (expire_rest s.clock).2.2.1)
  have hclock := concludeFrom_clock (before := s) hbelief hupe
  have hround := (round_clock (before := s) hbelief hupe).1
  have hrests := rests_concludeFrom s s s.exchanged
  have hrequest (p : Port) {b : TimeRequestBody} (hj : s.exchanged.joined p = true) (hi : (s.exchanged.port p).inTransmission = none)
      (hr : (s.exchanged.port p).slotReply = none) (hq : (s.exchanged.port p).slotRequest = some b) :=
    concludeFrom_request (before := s) (noted := s) (.inl hbelief) hj hi hr hq hround
  rw [← ht] at hclock hrests hrequest
  refine ⟨hclock, fun p hp => ⟨fun hbusy => ?_, fun hi hj hr => ?_⟩⟩
  · have hslots := hrests.ports.slots p (by rw [hport p hp]; exact hbusy)
    rw [hport p hp] at hslots
    exact ⟨hslots.2, hslots.1⟩
  · have hsent := hrequest p (b := ⟨s.clock.requestNumber, 0⟩) (by rw [State.joined, hport p hp]; exact hj) (by rw [hport p hp]; exact hi)
      (by rw [hport p hp]; exact hr) (by rw [hport p hp])
    rw [htime, ownFrame_congr hown] at hsent
    exact hsent

/-! ### The resend timer (R159) -/

theorem setStatus_same {l : PendingEntry} (hn : (s.orders.pending.map PendingEntry.seq).Nodup) (hl : l ∈ s.orders.pending) (hs : l.status = .sent) :
    setStatus l.seq .sent s = s := by
  have hmap : (s.orders.pending.map fun e => if e.seq = l.seq then { e with status := .sent } else e) = s.orders.pending := by
    refine (List.map_congr_left fun e he => ?_).trans (List.map_id _)
    split
    · next heq =>
      have : e = l := List.inj_on_of_nodup_map hn he hl heq
      subst this
      rw [← hs]
      rfl
    · rfl
  exact congrArg (fun l => { s with orders := { s.orders with pending := l } }) hmap

/-- R159: the requests of the Sent entries, toward a frame. -/
def requestsTo (f : FrameNo) (l : List PendingEntry) : List (FrameNo × Body) :=
  l.map fun e => (f, .rackRequest ⟨eightByte f, e.seq, e.directive.block⟩)

theorem requestEntries_eq (f : FrameNo) (hn : (s.orders.pending.map PendingEntry.seq).Nodup) (l : List PendingEntry)
    (hl : ∀ e ∈ l, e ∈ s.orders.pending ∧ e.status = .sent) :
    l.foldl (fun acc e => requestEntry f e acc) s = sendAll (requestsTo f l) s := by
  suffices h : ∀ u : State, u.orders = s.orders → l.foldl (fun acc e => requestEntry f e acc) u = sendAll (requestsTo f l) u from h s rfl
  induction l with
  | nil => exact fun _ _ => rfl
  | cons e l ih =>
    intro u hu
    obtain ⟨hmem, hsent⟩ := hl e List.mem_cons_self
    have hsame : setStatus e.seq .sent u = u := setStatus_same (by rw [hu]; exact hn) (by rw [hu]; exact hmem) hsent
    have hstep : requestEntry f e u = sendUnicast f (.rackRequest ⟨eightByte f, e.seq, e.directive.block⟩) u := by
      rw [requestEntry, hsame]
    rw [List.foldl_cons, hstep]
    refine ih (fun k hk => hl k (List.mem_cons_of_mem _ hk)) _ ?_
    rw [sendUnicast_only f _ u]
    exact hu

theorem queued_append (l : List Frame) (k : List Frame × Nat) (hl : ∀ f ∈ l, isRosterUpdate f = false) (h : k.1.length + l.length ≤ 16) :
    l.foldl queued k = (k.1 ++ l, k.2) := by
  induction l generalizing k with
  | nil => simp
  | cons f l ih =>
    rw [List.length_cons] at h
    have hf : ¬ (isRosterUpdate f = true ∧ k.1.any isRosterUpdate = true) := fun j => by
      rw [hl f List.mem_cons_self] at j
      exact nomatch j.1
    rw [List.foldl_cons, queued_of_room hf (by omega), ih _ (fun g hg => hl g (List.mem_cons_of_mem _ hg)) (by simp; omega)]
    simp

/-- R159: the requests made again, into the control queue of the route port. -/
theorem requestsTo_control (hr : (s.entry f).route = some p) (hj : s.joined p = true) (l : List PendingEntry)
    (h : (s.port p).control.length + l.length ≤ 16) : ((sendAll (requestsTo f l) s).control p).1 =
      (s.port p).control ++ l.map fun e => s.ownFrame (.rackRequest ⟨eightByte f, e.seq, e.directive.block⟩) := by
  have hframes : ((requestsTo f l).filterMap fun d => if (s.entry d.1).route = some p then some (s.ownFrame d.2) else none) =
      l.map fun e => s.ownFrame (.rackRequest ⟨eightByte f, e.seq, e.directive.block⟩) := by
    rw [requestsTo, List.filterMap_map, ← List.filterMap_eq_map]
    exact List.filterMap_congr fun e _ => if_pos hr
  rw [sendAll_control _ _ hj, hframes, queued_append]
  · rfl
  · intro g hg
    obtain ⟨e, -, rfl⟩ := List.mem_map.mp hg
    rfl
  · rw [List.length_map]
    exact h

/-- R159: the requests made again, their event concluded. -/
theorem resend_concluded (us : List (FrameNo × Body)) (hj : s.joined p = true) (hb : (s.port p).inTransmission.isSome = true)
    (ht : t = concludeFrom s s (sendAll us s)) :
    t.orders.pending = s.orders.pending ∧ (s.roster.phase = .none → (t.port p).control = ((sendAll us s).control p).1) := by
  have hq := queueing_sendAll us s
  have hroster := sendAll_roster us s
  have horders := sendAll_orders us s
  have hcalm : (sendAll us s).calm s := .inl (by rw [hroster])
  have hsteady := steady_concludeFrom_of_calm (before := s) hcalm
  have hconcludes (hw : (sendAll us s).waiting) := concludesAs_of_waiting (before := s) hcalm hw
  have hbusy : ((sendAll us s).port p).inTransmission.isSome = true := by rw [hq.port p]; exact hb
  have hshows : ShowsAs s (sendAll us s) := .of_roster hq.own hroster
  generalize sendAll us s = e at *
  rw [← ht] at hsteady hconcludes
  refine ⟨(congrArg RackOrders.pending hsteady.orders).trans (by rw [horders]), fun hphase => ?_⟩
  have hw : e.waiting := by
    unfold State.waiting
    rw [hroster, hphase]
    exact ⟨nofun, nofun⟩
  have hview : (advance e).view = s.view := by
    rw [advance_of_waiting hw]
    exact (hshows.trans (.of_roster (settleTaps_only e).own (settleTaps_only e).roster)).view
  have hsend := (hconcludes hw).sends p ((hq.joined p).trans hj)
  rw [if_pos hview] at hsend
  exact (hsend.busy hbusy).1

/-! ### The statement -/

/-- R40, R114: a tick. -/
theorem tick_spec (s : State) (ht : t = startDue (s.onClock RackTime.tick)) :
    t = { s with clock := { s.clock with time := t.clock.time }, tapEngine := t.tapEngine } ∧ t.clock.time = moveTime s.clock.time (4 * 2 ^ 32 + s.clock.trim) ∧
      ∀ k, ((s.tap k).state = .armed → (s.tap k).armTime.toNat ≤ t.clock.time / 2 ^ 24 → (t.tap k).state = .running) ∧
        ((s.tap k).state ≠ .armed ∨ t.clock.time / 2 ^ 24 < (s.tap k).armTime.toNat → t.tap k = s.tap k) := by
  have honly := startDue_only (s.onClock RackTime.tick)
  have hclock := startDue_clock (s.onClock RackTime.tick)
  have htap := startDue_tap (s.onClock RackTime.tick)
  rw [← ht] at honly hclock htap
  have htime : t.clock.time = moveTime s.clock.time (4 * 2 ^ 32 + s.clock.trim) := congrArg RackTime.time hclock
  refine ⟨?_, htime, fun k => ?_⟩
  · rw [hclock]
    exact honly
  · have hk : t.tap k = (s.tap k).due (t.clock.time / 2 ^ 24) (s.region (tapRegion k)).paired := by
      rw [htap, htime]
      rfl
    refine ⟨fun ha hd => ?_, fun h => ?_⟩
    · rw [hk, Tap.due, if_pos ⟨ha, hd⟩]
      rfl
    · rw [hk, Tap.due, if_neg fun j => h.elim (fun h => h j.1) fun h => absurd j.2 (by omega)]

/-- R159: the requests made again at an expiry. -/
theorem exec_resend (hr : s.orders.resendTimer.isSome = true) (hb : s.roster.belief = some f) (hf : f ≠ s.own)
    (hn : (s.orders.pending.map PendingEntry.seq).Nodup) : exec .resendTimerExpiry s =
      .next (concludeFrom s s (sendAll (requestsTo f (s.orders.pending.filter fun e => e.status == .sent)) s)) := by
  have hresend : resendAll s = sendAll (requestsTo f (s.orders.pending.filter fun e => e.status == .sent)) s := by
    unfold resendAll
    simp only [hb]
    rw [if_neg hf]
    exact requestEntries_eq f hn _ fun e he => ⟨(List.mem_filter.mp he).1, beq_iff_eq.mp (List.mem_filter.mp he).2⟩
  rw [← hresend]
  exact congrArg Host.Outcome.next (if_pos hr)

/-- Settles O60: each expiry by whether its timer runs. -/
theorem timersActAtTheirExpiry : Obligations.TimersActAtTheirExpiry := by
  intro s
  refine ⟨fun f => candidate_iff, fun f => successor_iff, fun hr hp => ⟨_, exec_refresh hr, ?_⟩, fun hr => ?_, fun hx hup =>
    ⟨_, exec_exchange hx, ?_⟩, fun hx => ?_, fun f p hr hb hf hroute hj hbusy hn => ?_,
    fun hr => congrArg Host.Outcome.next (if_neg (by rw [hr]; exact nofun)), _, rfl, ?_⟩
  · obtain ⟨hentries, hbelief, hupdated⟩ := refresh_concluded hp rfl
    obtain ⟨hroster, hown, hlink⟩ := refreshed_parts hp
    have hport (p : Port) : s.refreshed.port p = s.port p := by rw [State.port, hlink]; rfl
    have hjoined (p : Port) : s.refreshed.joined p = s.joined p := by rw [State.joined, hport]; rfl
    refine ⟨hentries, fun f hb hf h => ?_, fun h => ?_, fun hd ha => ?_⟩
    · rw [hbelief]
      exact refreshElection_elects hb hf h
    · rw [hbelief, refreshElection_kept h]
    · have k := hupdated ⟨hd, ha⟩
      refine ⟨fun p hp => ?_, fun hany => ?_, fun hnone => ?_⟩
      · have hsend := k.sends p ((hjoined p).trans hp)
        rw [State.control, hport, hlink] at hsend
        refine hsend.congr ?_ rfl
        rw [hport]
        exact ⟨rfl, id, id⟩
      · have hyes : s.refreshed.anyJoined = true := anyJoined_iff.mpr (by simpa only [hjoined] using hany)
        refine ⟨?_, fun hs => ?_⟩
        · rw [k.seq, if_pos hyes, hlink]
        · have hruns : s.refreshed.refreshRuns = true := by
            rw [State.refreshRuns, hyes, hroster]
            simpa using hs
          rw [k.refresh, if_pos hruns, State.refreshPeriod, hroster]
          by_cases hann : s.roster.phase = .announced
          · rw [if_pos ⟨hann, ha hann⟩, if_pos hann]
            rfl
          · rw [if_neg fun j => hann j.1, if_neg hann]
            rfl
      · have hno : ¬ s.refreshed.anyJoined = true := fun j => by
          obtain ⟨p, hp⟩ := anyJoined_iff.mp j
          rw [hjoined, hnone] at hp
          exact nomatch hp
        rw [k.seq, if_neg hno, hlink]
        exact BitVec.add_zero _
  · exact congrArg Host.Outcome.next (if_neg (by rw [hr]; exact nofun))
  · obtain ⟨hclock, hports⟩ := exchange_concluded hup rfl
    obtain ⟨hmissed, hnone, htime, hupPort, hsettings, hnumber⟩ := expire_rest s.clock
    obtain ⟨hlost, hholdover, hstays⟩ := expire_lock s.clock
    obtain ⟨-, hrmissed, hrtime, hrsettings, hrlock, hrage, hrtrim⟩ := requested_rest s.clock.expire
    rw [hclock, exchanged_clock]
    have hk : s.clock.expire.requested.settings.k = s.clock.settings.k := by rw [hrsettings, hsettings]
    refine ⟨congrArg (fun k => some (2 ^ k)) hk, hk, hrmissed.trans hmissed, hrtime.trans htime, fun p hp => ?_, fun hp => ?_, fun hl => ?_,
      fun hl => ?_, fun hl hh => ?_⟩
    · obtain ⟨hout, hnext⟩ := requested_of_up (hupPort.trans hp)
      rw [hnumber] at hout hnext
      obtain ⟨hbusy, hidle⟩ := hports p hp
      exact ⟨hout, hnext, hbusy, hidle⟩
    · have hsame := requested_of_none (hupPort.trans hp)
      rw [hsame]
      exact ⟨hnone, hnumber⟩
    · obtain ⟨h1, h2, h3⟩ := hlost hl
      exact ⟨hrlock.trans h1, hrage.trans h2, hrtrim.trans h3⟩
    · obtain ⟨h1, h2⟩ := hholdover hl
      exact ⟨hrage.trans h1, hrlock.trans h2⟩
    · obtain ⟨h1, h2⟩ := hstays hl hh
      exact ⟨hrlock.trans h1, hrtrim.trans h2⟩
  · exact congrArg Host.Outcome.next (if_neg (by rw [hx]; exact nofun))
  · intro sent hlen
    have hexec := exec_resend hr hb hf hn
    have hconcluded {t : State} (ht : t = concludeFrom s s (sendAll (requestsTo f sent) s)) := resend_concluded (requestsTo f sent) hj hbusy ht
    change exec .resendTimerExpiry s = .next (concludeFrom s s (sendAll (requestsTo f sent) s)) at hexec
    have hcontrol := requestsTo_control hroute hj sent hlen
    generalize concludeFrom s s (sendAll (requestsTo f sent) s) = t at hexec hconcluded
    obtain ⟨hpending, hsent⟩ := hconcluded rfl
    exact ⟨t, hexec, hpending, fun hphase => (hsent hphase).trans hcontrol⟩
  · obtain ⟨honly, htime, htaps⟩ := tick_spec s rfl
    exact ⟨htime, honly, htaps⟩

end Sys2Proof.Machine

/-! PROOFS. Rack orders (R161, R163 to R167): what applying one moves, what completing an own entry leaves of the pending list, and what the
master's order makes. -/

namespace Sys2Proof.Machine
variable {s t u w e before : State} {p q : Port} {f o : FrameNo} {seq : Word16} {d : RackDirective} {rackSeq : Nat}

/-! ### What a directive that takes effect moves (R164 to R166) -/

/-- What an applied directive moves beside the taps, the clock and the reports: the belief, and the counts of skipped taps and late arms. -/
structure Directed (s u : State) : Prop where
  own : u.own = s.own
  link : u.link = s.link
  roster : u.roster = { s.roster with belief := u.roster.belief, leaveTag := u.roster.leaveTag }
  orders : u.orders = { s.orders with counters := { s.orders.counters with
    skippedTaps := u.orders.counters.skippedTaps, lateArms := u.orders.counters.lateArms } }

namespace Directed

theorem refl (s : State) : Directed s s := ⟨rfl, rfl, rfl, rfl⟩

theorem trans (h : Directed s t) (k : Directed t u) : Directed s u where
  own := k.own.trans h.own
  link := k.link.trans h.link
  roster := by rw [k.roster, h.roster]
  orders := by rw [k.orders, h.orders]

theorem foldl {α : Type} {g : State → α → State} (h : ∀ s a, Directed s (g s a)) (l : List α) (s : State) : Directed s (l.foldl g s) := by
  induction l generalizing s with
  | nil => exact refl s
  | cons a l ih => exact (h s a).trans (ih _)

theorem ite {c : Prop} [Decidable c] (h : Directed s t) (k : Directed s u) : Directed s (if c then t else u) := by
  split <;> assumption

theorem of_taps (h : OnlyTaps s u) : Directed s u := ⟨h.own, h.link, by rw [h.roster], by rw [h.orders]⟩

theorem of_notified (h : Notified s u) : Directed s u := ⟨h.own, h.link, by rw [h.roster], by rw [h.orders]⟩

section
variable (h : Directed s u)
include h

theorem entry (f : FrameNo) : u.entry f = s.entry f := by rw [State.entry, h.roster]; rfl

theorem pending : u.orders.pending = s.orders.pending := by rw [h.orders]

theorem phase : u.roster.phase = s.roster.phase := by rw [h.roster]

theorem ownState : u.roster.ownState = s.roster.ownState := by rw [h.roster]

end

end Directed

theorem onTap_only (j : TapNo) (g : Tap → Tap) (s : State) : OnlyTaps s (s.onTap j g) := ⟨rfl, rfl, rfl⟩

theorem directed_counters (g : OrderCounters → OrderCounters) (s : State) (h : g s.orders.counters = { s.orders.counters with
    skippedTaps := (g s.orders.counters).skippedTaps, lateArms := (g s.orders.counters).lateArms }) : Directed s (s.onOrderCounters g) :=
  ⟨rfl, rfl, rfl, congrArg (fun c => { s.orders with counters := c }) h⟩

theorem directed_armTapOf (g : Fin 16) (time : TimeValue) (s : State) (j : TapNo) : Directed s (armTapOf g time s j) := by
  unfold armTapOf
  exact .ite (.ite (.of_taps (onTap_only ..)) (directed_counters _ _ rfl)) (.refl s)

theorem directed_startDue (s : State) : Directed s (startDue s) := by
  have honly := startDue_only s
  generalize startDue s = u at honly
  refine ⟨?_, ?_, ?_, ?_⟩ <;> rw [honly]
  rfl

theorem lateArm_directed (g : Fin 16) (time : TimeValue) (rackSeq : Nat) (s : State) :
    Directed s (raise (.lateArm g rackSeq time) ((startDue s).onOrderCounters fun c => { c with lateArms := countUp c.lateArms })) := by
  have h := directed_startDue s
  generalize startDue s = u at h
  exact (h.trans (directed_counters _ u rfl)).trans (.of_taps (.of_reporter (onlyReporter_raise ..)))

theorem directed_applyArm (g : Fin 16) (time : TimeValue) (rackSeq : Nat) (s : State) : Directed s (applyArm g time rackSeq s) := by
  have armed : Directed s (eight.foldl (armTapOf g time) s) := .foldl (fun u j => directed_armTapOf g time u j) _ _
  exact .ite (armed.trans (lateArm_directed g time rackSeq _)) armed

theorem abandonPass_only (j : TapNo) (s : State) : OnlyTaps s (abandonPass j s) := by
  have ite {c : Prop} [Decidable c] {t u : State} (h : OnlyTaps s t) (k : OnlyTaps s u) : OnlyTaps s (if c then t else u) := by
    split <;> assumption
  unfold abandonPass offerMark
  exact ite (ite (onTap_only ..) (onTap_only ..)) (.refl s)

theorem haltTap_only (j : TapNo) (s : State) : OnlyTaps s (haltTap j s) := by
  have drained (g h : Tap → Tap) : OnlyTaps s ((abandonPass j (s.onTap j g)).onTap j h) :=
    ((onTap_only j g s).trans (abandonPass_only ..)).trans (onTap_only ..)
  unfold haltTap
  split
  · exact onTap_only ..
  · exact drained _ _
  · exact drained _ _
  · exact onTap_only ..
  · exact .refl s
  · exact .refl s

theorem haltTapOf_only (g : Fin 16) (s : State) (j : TapNo) : OnlyTaps s (haltTapOf g s j) := by
  unfold haltTapOf
  split
  · exact (haltTap_only j s).trans (settleTap_only ..)
  · exact .refl s

theorem claimBelief_only (f : FrameNo) (s : State) : OnlyBelief s (claimBelief f s) := by
  unfold claimBelief OnlyBelief
  split <;> rfl

theorem directed_claimBelief (f : FrameNo) (s : State) : Directed s (claimBelief f s) := by
  unfold claimBelief
  split <;> exact ⟨rfl, rfl, rfl, rfl⟩

theorem directed_applyDirective (rest : State → State) (d : RackDirective) (rackSeq : Nat) (s : State) :
    Directed s (applyDirective rest d rackSeq s) := by
  cases d with
  | masterClaim f =>
    exact .ite (.refl s) ((directed_claimBelief f s).trans (.of_notified (notified_notify ..)))
  | rackArm g time => exact directed_applyArm g time rackSeq s
  | rackHalt g => exact .foldl (fun u j => .of_taps (haltTapOf_only g u j)) _ _

/-- R164: a claim for another frame, or for the own one in an Active part, gives the belief. -/
theorem applyDirective_claims (rest : State → State) (rackSeq : Nat) (h : f ≠ s.own ∨ s.roster.ownState = .active) :
    (applyDirective rest (.masterClaim f) rackSeq s).roster.belief = some f := by
  unfold applyDirective
  dsimp only
  split
  · next hb => exact hb
  · have hclaim : claimBelief f s = s.onRoster fun r => { r with belief := some f } := if_neg fun k => h.elim (fun h => h k.1) k.2
    have hn := notified_notify (rest (claimBelief f s)).roster.belief s (claimBelief f s)
    rw [hn.belief, hclaim]
    rfl

theorem applyArm_belief (g : Fin 16) (time : TimeValue) (rackSeq : Nat) (s : State) :
    (applyArm g time rackSeq s).roster.belief = s.roster.belief := by
  have arm (u : State) (j : TapNo) : (armTapOf g time u j).roster = u.roster := by
    unfold armTapOf
    split_ifs <;> rfl
  have armed (l : List TapNo) (u : State) : (l.foldl (armTapOf g time) u).roster = u.roster := by
    induction l generalizing u with
    | nil => rfl
    | cons j l ih => exact (ih _).trans (arm u j)
  have hroster := armed eight s
  unfold applyArm
  dsimp only
  generalize eight.foldl (armTapOf g time) s = u at hroster
  have hdue : (startDue u).roster = u.roster := by rw [startDue_only]
  generalize startDue u = v at hdue
  split
  · exact congrArg Roster.belief (hdue.trans hroster)
  · rw [hroster]

theorem haltTaps_roster (g : Fin 16) (l : List TapNo) (s : State) : (l.foldl (haltTapOf g) s).roster = s.roster := by
  induction l generalizing s with
  | nil => rfl
  | cons j l ih => exact (ih _).trans (haltTapOf_only g s j).roster

theorem applyDirective_belief (rest : State → State) (rackSeq : Nat) (h : ∀ f, d ≠ .masterClaim f) :
    (applyDirective rest d rackSeq s).roster.belief = s.roster.belief := by
  cases d with
  | masterClaim f => exact absurd rfl (h f)
  | rackArm g time => exact applyArm_belief g time rackSeq s
  | rackHalt g => exact congrArg Roster.belief (haltTaps_roster g eight s)

/-! ### An own entry completed (R167) -/

/-- R167: what an applied own order leaves of the pending list. -/
def completed (seq : Word16) (l : List PendingEntry) : List PendingEntry :=
  if (l.takeWhile fun k => k.seq ≠ seq).length < l.length then l.drop ((l.takeWhile fun k => k.seq ≠ seq).length + 1) else l

theorem find?_isSome_iff (seq : Word16) (l : List PendingEntry) :
    (l.find? fun e => e.seq = seq).isSome = true ↔ (l.takeWhile fun k => k.seq ≠ seq).length < l.length := by
  induction l with
  | nil => simp
  | cons e l ih =>
    by_cases h : e.seq = seq
    · simp [h]
    · simp only [List.find?_cons, h, decide_false, List.takeWhile_cons, ne_eq, not_false_eq_true, decide_true, if_true, List.length_cons,
        Nat.add_lt_add_iff_right]
      simpa using ih

theorem completePending_spec (seq : Word16) (s : State) : (completePending seq s).own = s.own ∧ (completePending seq s).link = s.link ∧
    (completePending seq s).roster = s.roster ∧ (completePending seq s).tapEngine = s.tapEngine ∧ (completePending seq s).clock = s.clock ∧
    (completePending seq s).orders = { s.orders with pending := completed seq s.orders.pending } := by
  have hsome := find?_isSome_iff seq s.orders.pending
  unfold completePending State.pendingEntry
  cases hf : s.orders.pending.find? fun e => e.seq = seq with
  | none =>
    rw [hf] at hsome
    have : completed seq s.orders.pending = s.orders.pending := if_neg fun k => nomatch hsome.mpr k
    rw [this]
    exact ⟨rfl, rfl, rfl, rfl, rfl, rfl⟩
  | some e =>
    rw [hf] at hsome
    have hdone : completed seq s.orders.pending = _ := if_pos (hsome.mp rfl)
    rw [hdone]
    have hrefuse (k : PendingEntry) (u : State) : OnlyReporter u (refuseEntry k s.own .overtaken u) :=
      (onlyReporter_post ..).trans (onlyReporter_raise ..)
    have honly (l : List PendingEntry) (u : State) : OnlyReporter u (l.foldl (fun acc k => refuseEntry k s.own .overtaken acc) u) :=
      .foldl (fun u k => hrefuse k u) l u
    dsimp only
    have h := (honly (s.orders.pending.takeWhile fun k => k.seq ≠ seq)
      (s.onOrders fun o => { o with pending := o.pending.drop ((s.orders.pending.takeWhile fun k => k.seq ≠ seq).length + 1) })).trans
      (onlyReporter_post e.tag (rackCode e.directive) .done _)
    generalize postResult e.tag (rackCode e.directive) .done _ = v at h
    obtain ⟨hparts, hown⟩ := h
    refine ⟨congrArg Straps.frame hown, ?_, ?_, ?_, ?_, ?_⟩ <;> rw [hparts] <;> rfl

/-! ### An order applied (R163) -/

/-- R163: what a new order moves. -/
structure Applied (rackSeq : Nat) (master o : FrameNo) (seq : Word16) (s u : State) : Prop where
  own : u.own = s.own
  link : u.link = s.link
  roster : u.roster = { s.roster with belief := u.roster.belief, leaveTag := u.roster.leaveTag }
  orders : u.orders = { s.orders with
    applied := s.orders.applied.set o (some seq)
    lastOrder := some (rackSeq, master)
    pending := if o = s.own then completed seq s.orders.pending else s.orders.pending
    counters := { s.orders.counters with
      applied := countUp s.orders.counters.applied
      skippedTaps := u.orders.counters.skippedTaps
      lateArms := u.orders.counters.lateArms } }

theorem finishOrder_spec (o : FrameNo) (seq : Word16) (d : RackDirective) (rackSeq : Nat) (s : State) :
    (finishOrder o seq d rackSeq s).own = s.own ∧ (finishOrder o seq d rackSeq s).link = s.link ∧
    (finishOrder o seq d rackSeq s).roster = s.roster ∧ (finishOrder o seq d rackSeq s).tapEngine = s.tapEngine ∧
    (finishOrder o seq d rackSeq s).clock = s.clock ∧ (finishOrder o seq d rackSeq s).orders =
      { s.orders with pending := if o = s.own then completed seq s.orders.pending else s.orders.pending } := by
  unfold finishOrder
  dsimp only
  by_cases h : o = s.own
  · rw [if_pos h, if_pos h]
    exact completePending_spec seq (raise (.rackApplied o d seq rackSeq) s)
  · rw [if_neg h, if_neg h]
    exact ⟨rfl, rfl, rfl, rfl, rfl, rfl⟩

theorem applyOrder_of_new {master : FrameNo} (rest : State → State) (h : s.newOrder o seq = true) : applyOrder rest rackSeq master o seq d s =
    finishOrder o seq d rackSeq (applyDirective (fun u => rest (finishOrder o seq d rackSeq u)) d rackSeq
      (recordOrder rackSeq master o seq s)) := if_pos h

theorem applyOrder_of_old {master : FrameNo} (rest : State → State) (h : s.newOrder o seq = false) :
    applyOrder rest rackSeq master o seq d s = countDuplicate s := if_neg (by rw [h]; exact nofun)

theorem applied_applyOrder {master : FrameNo} (rest : State → State) (h : s.newOrder o seq = true) :
    Applied rackSeq master o seq s (applyOrder rest rackSeq master o seq d s) := by
  rw [applyOrder_of_new rest h]
  have hdirected := directed_applyDirective (fun u => rest (finishOrder o seq d rackSeq u)) d rackSeq (recordOrder rackSeq master o seq s)
  generalize applyDirective (fun u => rest (finishOrder o seq d rackSeq u)) d rackSeq (recordOrder rackSeq master o seq s) = v at hdirected
  obtain ⟨hown, hlink, hroster, -, -, horders⟩ := finishOrder_spec o seq d rackSeq v
  have hvown : v.own = s.own := hdirected.own
  refine ⟨hown.trans hvown, hlink.trans hdirected.link, ?_, ?_⟩
  · rw [hroster]
    exact hdirected.roster
  · rw [horders, hvown, hdirected.orders]
    rfl

/-- R163: the belief after a new order. -/
theorem applyOrder_claims {master : FrameNo} (rest : State → State) (h : s.newOrder o seq = true) (hf : f ≠ s.own ∨ s.roster.ownState = .active) :
    (applyOrder rest rackSeq master o seq (.masterClaim f) s).roster.belief = some f := by
  rw [applyOrder_of_new rest h, (finishOrder_spec ..).2.2.1]
  exact applyDirective_claims _ rackSeq (s := recordOrder rackSeq master o seq s) hf

theorem applyOrder_belief {master : FrameNo} (rest : State → State) (h : s.newOrder o seq = true) (hd : ∀ f, d ≠ .masterClaim f) :
    (applyOrder rest rackSeq master o seq d s).roster.belief = s.roster.belief := by
  rw [applyOrder_of_new rest h, (finishOrder_spec ..).2.2.1]
  exact applyDirective_belief _ rackSeq (s := recordOrder rackSeq master o seq s) hd

end Sys2Proof.Machine

/-! PROOFS. The master's order (R161), and rack directives as they are submitted (R158, R159, R161, R162). -/

namespace Sys2Proof.Machine
variable {s t u w x e before : State} {p q : Port} {f o : FrameNo} {seq tag code : Word16} {d : RackDirective} {noWait : Bool}

/-! ### Frames that an event makes (R71) -/

namespace Told.Event
variable {start : Port → List Frame × Nat} {bs : List (Word16 → Body)} {us : List (FrameNo × Body)}

theorem congr (h : Told.Event start bs us s e) (ho : u.own = e.own) (he : ∀ f, u.entry f = e.entry f) (hl : u.link = e.link) :
    Told.Event start bs us s u := by
  have hport (q : Port) : u.port q = e.port q := by rw [State.port, hl]; rfl
  have hjoined (q : Port) : u.joined q = e.joined q := by rw [State.joined, hport]; rfl
  have hcontrol (q : Port) : u.control q = e.control q := by rw [State.control, hport]; rfl
  refine ⟨ho.trans h.own, fun q hq => ?_, fun q hq => ?_, ?_, ?_⟩
  · rw [hcontrol, h.control q ((hjoined q).symm.trans hq), eventFrames_congr ho he]
  · rw [hport]
    exact h.sending q ((hjoined q).symm.trans hq)
  · have hany : u.anyJoined = e.anyJoined := by simp only [State.anyJoined, hjoined]
    rw [hl, h.seq, hany]
  · have hroute (d : FrameNo) : u.openRoute d = e.openRoute d := by simp only [State.openRoute, he, hjoined]
    rw [hl, h.unsent]
    simp only [hroute]

variable (h : Told.Event start [] [] s w)
include h

theorem seq_eq : w.link.broadcastSeq = s.link.broadcastSeq := by
  rw [h.seq, List.length_nil, ite_self]
  exact BitVec.add_zero _

theorem broadcast (b : Word16 → Body) : Told.Event start [b] [] s (broadcast (fun k _ => b k) w) := by
  have hq := queueing_broadcast (fun k _ => b k) w
  refine ⟨hq.own.trans h.own, fun q hj => ?_, fun q hj => ?_, ?_, ?_⟩
  · have hj : w.joined q = true := (hq.joined q).symm.trans hj
    have hstart : w.control q = start q := h.control q hj
    have hframe : (Machine.broadcast (fun k _ => b k) w).ownFrame = w.ownFrame := funext fun c => ownFrame_congr hq.own c
    rw [broadcast_control, if_pos hj, hstart, h.seq_eq]
    simp only [eventFrames, List.mapIdx_cons, List.mapIdx_nil, List.filterMap_nil, List.append_nil, List.foldl_cons, List.foldl_nil, hframe]
    exact congrArg (fun k => queued (start q) (w.ownFrame (b k))) (BitVec.add_zero _).symm
  · have hj : w.joined q = true := (hq.joined q).symm.trans hj
    rw [hq.port q]
    exact h.sending q hj
  · have hany : (Machine.broadcast (fun k _ => b k) w).anyJoined = w.anyJoined := by simp only [State.anyJoined, hq.joined]
    rw [broadcast_seq, h.seq_eq, hany, List.length_singleton]
    split <;> rfl
  · rw [broadcast_unsent]
    exact h.unsent

theorem unicast (d : FrameNo) (b : Body) : Told.Event start [] [(d, b)] s (sendUnicast d b w) := by
  have hq := queueing_sendAll [(d, b)] w
  have hcontrol (q : Port) (hj : w.joined q = true) := sendAll_control [(d, b)] w hj
  have hseq := sendAll_seq [(d, b)] w
  have hunsent := sendAll_unsent [(d, b)] w
  change Told.Event start [] [(d, b)] s (sendAll [(d, b)] w)
  generalize sendAll [(d, b)] w = u at hq hcontrol hseq hunsent
  have hframe : u.ownFrame = w.ownFrame := funext fun c => ownFrame_congr hq.own c
  refine ⟨hq.own.trans h.own, fun q hj => ?_, fun q hj => ?_, ?_, ?_⟩
  · have hj : w.joined q = true := (hq.joined q).symm.trans hj
    have hstart : w.control q = start q := h.control q hj
    rw [hcontrol q hj, hstart]
    simp only [eventFrames, List.mapIdx_nil, List.nil_append, hframe, hq.entry]
  · have hj : w.joined q = true := (hq.joined q).symm.trans hj
    rw [hq.port q]
    exact h.sending q hj
  · rw [hseq, h.seq_eq, List.length_nil, ite_self]
    exact (BitVec.add_zero _).symm
  · have hsame : w.link.unsentOwn = s.link.unsentOwn := h.unsent
    rw [hunsent, hsame]
    simp only [hq.openRoute]

end Told.Event

/-! ### The master's order (R161) -/

/-- R161: the broadcast of an order. -/
def orderBody (s : State) (o : FrameNo) (seq : Word16) (d : RackDirective) (k : Word16) : Body :=
  .rackOrder ⟨k, BitVec.ofNat 32 s.orders.nextRackSeq, eightByte o, seq, d.block⟩

/-- The part as it orders: the next rack sequence taken. -/
def State.sequenced (s : State) : State := s.onOrders fun r => { r with nextRackSeq := countUp r.nextRackSeq }

theorem issueOrder_eq (o : FrameNo) (seq : Word16) (d : RackDirective) (s : State) :
    issueOrder o seq d s = broadcast (fun k _ => orderBody s o seq d k) s.sequenced := rfl

/-- R161: what a new order makes of the master. -/
structure IsOrdered (o : FrameNo) (seq : Word16) (d : RackDirective) (s u : State) : Prop where
  own : u.own = s.own
  link : u.link = (broadcast (fun k _ => orderBody s o seq d k) s.sequenced).link
  roster : u.roster = { s.roster with belief := u.roster.belief, leaveTag := u.roster.leaveTag }
  orders : u.orders = { s.orders with
    nextRackSeq := countUp s.orders.nextRackSeq
    applied := s.orders.applied.set o (some seq)
    lastOrder := some (s.orders.nextRackSeq, s.own)
    pending := if o = s.own then completed seq s.orders.pending else s.orders.pending
    counters := { s.orders.counters with
      ordered := countUp s.orders.counters.ordered
      applied := countUp s.orders.counters.applied
      skippedTaps := u.orders.counters.skippedTaps
      lateArms := u.orders.counters.lateArms } }
  claims : ∀ f, d = .masterClaim f → f ≠ s.own ∨ s.roster.ownState = .active → u.roster.belief = some f
  keeps : (∀ f, d ≠ .masterClaim f) → u.roster.belief = s.roster.belief

theorem isOrdered_order (h : s.newOrder o seq = true) : IsOrdered o seq d s (order o seq d s) := by
  have hq := queueing_broadcast (fun k _ => orderBody s o seq d k) s.sequenced
  have hissue := issueOrder_eq o seq d s
  have hord : (issueOrder o seq d s).orders = { s.orders with nextRackSeq := countUp s.orders.nextRackSeq } := by
    rw [hissue, hq.only]
    rfl
  have hros : (issueOrder o seq d s).roster = s.roster := by
    rw [hissue, hq.only]
    rfl
  have hown : (issueOrder o seq d s).own = s.own := hq.own
  have hlink : (issueOrder o seq d s).link = (broadcast (fun k _ => orderBody s o seq d k) s.sequenced).link := by rw [hissue]
  unfold order
  generalize issueOrder o seq d s = i at hord hros hown hlink
  have hnew : i.newOrder o seq = true := by
    unfold State.newOrder
    rw [hord]
    exact h
  have happlied := applied_applyOrder (rackSeq := s.orders.nextRackSeq) (master := s.own) (d := d) id hnew
  have hclaims (f : FrameNo) (hd : d = .masterClaim f) (hf : f ≠ i.own ∨ i.roster.ownState = .active) :
      (applyOrder id s.orders.nextRackSeq s.own o seq d i).roster.belief = some f := by
    subst hd
    exact applyOrder_claims (rackSeq := s.orders.nextRackSeq) (master := s.own) id hnew hf
  have hkeeps (hd : ∀ f, d ≠ .masterClaim f) := applyOrder_belief (rackSeq := s.orders.nextRackSeq) (master := s.own) id hnew hd
  generalize applyOrder id s.orders.nextRackSeq s.own o seq d i = v at happlied hclaims hkeeps
  rw [hown, hros] at hclaims
  rw [hros] at hkeeps
  obtain ⟨hvown, hvlink, hvroster, hvorders⟩ := happlied
  rw [hros] at hvroster
  rw [hord, hown] at hvorders
  refine ⟨hvown.trans hown, hvlink.trans hlink, hvroster, ?_, hclaims, hkeeps⟩
  have hu : (countOrdered v).orders = { v.orders with counters := { v.orders.counters with ordered := countUp v.orders.counters.ordered } } := rfl
  rw [hu, hvorders]

theorem IsOrdered.told {start : Port → List Frame × Nat} (k : IsOrdered o seq d w u) (h : Told.Event start [] [] s w) :
    Told.Event start [orderBody w o seq d] [] s u := by
  have hmade := (h.congr (u := w.sequenced) rfl (fun _ => rfl) rfl).broadcast (orderBody w o seq d)
  have hq := queueing_broadcast (fun k _ => orderBody w o seq d k) w.sequenced
  refine hmade.congr (k.own.trans hq.own.symm) (fun f => ?_) k.link
  rw [hq.entry, State.entry, k.roster]
  rfl

/-! ### A rack directive submitted (R158) -/

/-- R158: the part with the directive among its pending entries, and its result. -/
def State.submitted (s : State) (tag : Word16) (d : RackDirective) : State := postResult tag (rackCode d) .accepted
  (s.onOrders fun o => { o with pending := o.pending ++ [⟨s.orders.nextSeq, d, tag, .waiting⟩], nextSeq := o.nextSeq + 1 })

theorem submit_eq (tag : Word16) (d : RackDirective) (s : State) :
    submit tag d s = resubmit s (dealEntry (s.submitted tag d) ⟨s.orders.nextSeq, d, tag, .waiting⟩) := rfl

/-- R158: the codes of the three, and the greatest numbers that they may name. -/
def rackCommand (tag : Word16) (target : Byte) (time : TimeValue) (noWait : Bool) (c : Instr) (code : Word16) (top : Nat) (d : RackDirective) : Prop :=
  c = .masterClaim tag target noWait ∧ code = 0x40 ∧ top = 7 ∧ d = .masterClaim (Fin.ofNat 8 target.toNat) ∨
    c = .rackArm tag target time noWait ∧ code = 0x41 ∧ top = 15 ∧ d = .rackArm (Fin.ofNat 16 target.toNat) time ∨
    c = .rackHalt tag target noWait ∧ code = 0x42 ∧ top = 15 ∧ d = .rackHalt (Fin.ofNat 16 target.toNat)

theorem map_toEight {α : Type} (g : FrameNo → α) (b : Byte) :
    (toEight b).map g = if b.toNat ≤ 7 then some (g (Fin.ofNat 8 b.toNat)) else none := by
  split
  · next h =>
    rw [toEight_of_le (f := Fin.ofNat 8 b.toNat) (Nat.mod_eq_of_lt (by omega)).symm]
    rfl
  · rw [toEight_of_lt (by omega)]
    rfl

theorem map_toGroup {α : Type} (g : Fin 16 → α) (b : Byte) :
    (toGroup b).map g = if b.toNat ≤ 15 then some (g (Fin.ofNat 16 b.toNat)) else none := by
  split
  · next h =>
    rw [toGroup_of_le (f := Fin.ofNat 16 b.toNat) (Nat.mod_eq_of_lt (by omega)).symm]
    rfl
  · rw [toGroup_of_lt (by omega)]
    rfl

theorem dispatch_masterClaim (tag : Word16) (b : Byte) (noWait : Bool) (s : State) :
    dispatch (.masterClaim tag b noWait) s = rackDirective tag 0x40 ((toEight b).map .masterClaim) noWait s := rfl

theorem dispatch_rackArm (tag : Word16) (b : Byte) (time : TimeValue) (noWait : Bool) (s : State) :
    dispatch (.rackArm tag b time noWait) s = rackDirective tag 0x41 ((toGroup b).map (.rackArm · time)) noWait s := rfl

theorem dispatch_rackHalt (tag : Word16) (b : Byte) (noWait : Bool) (s : State) :
    dispatch (.rackHalt tag b noWait) s = rackDirective tag 0x42 ((toGroup b).map .rackHalt) noWait s := rfl

theorem exec_rack {target : Byte} {time : TimeValue} {c : Instr} {top : Nat} (hc : rackCommand tag target time noWait c code top d)
    (hv : (s.region 0).valid = true) : rackCode d = code ∧ exec c s =
      .next (rackDirective tag code (if target.toNat ≤ top then some d else none) noWait s.taken) := by
  rcases hc with ⟨rfl, rfl, rfl, rfl⟩ | ⟨rfl, rfl, rfl, rfl⟩ | ⟨rfl, rfl, rfl, rfl⟩
  · exact ⟨rfl, by rw [exec_of_directive _ rfl hv, dispatch_masterClaim, map_toEight]⟩
  · exact ⟨rfl, by rw [exec_of_directive _ rfl hv, dispatch_rackArm, map_toGroup]⟩
  · exact ⟨rfl, by rw [exec_of_directive _ rfl hv, dispatch_rackHalt, map_toGroup]⟩

/-! ### Where the directive goes (R158, R159, R161, R162) -/

theorem takeRack_of_none (s : State) : takeRack tag code none noWait s = postResult tag code .badArgument s := rfl

theorem takeRack_of_noMaster (hw : noWait = true) (hb : s.roster.belief = none) :
    takeRack tag code (some d) noWait s = postResult tag code .noMaster s := if_pos ⟨hw, hb⟩

theorem takeRack_of_full (h : ¬ (noWait = true ∧ s.roster.belief = none)) (hf : 4 ≤ s.orders.pending.length) :
    takeRack tag code (some d) noWait s = postResult tag code .busy s := (if_neg h).trans (if_pos hf)

theorem takeRack_of_room (h : ¬ (noWait = true ∧ s.roster.belief = none)) (hf : s.orders.pending.length < 4) :
    takeRack tag code (some d) noWait s = submit tag d s := (if_neg h).trans (if_neg (Nat.not_le.mpr hf))

theorem setStatus_orders (seq : Word16) (st : PendingStatus) (s : State) : (setStatus seq st s).orders = { s.orders with
    pending := s.orders.pending.map fun e => if e.seq = seq then { e with status := st } else e } := rfl

theorem submitted_orders (tag : Word16) (d : RackDirective) (s : State) : (s.submitted tag d).orders = { s.orders with
    pending := s.orders.pending ++ [⟨s.orders.nextSeq, d, tag, .waiting⟩], nextSeq := s.orders.nextSeq + 1 } := rfl

theorem submit_waiting (hb : s.roster.belief = none) : submit tag d s = setStatus s.orders.nextSeq .waiting (s.submitted tag d) := by
  rw [submit_eq]
  have hdeal : dealEntry (s.submitted tag d) ⟨s.orders.nextSeq, d, tag, .waiting⟩ =
      setStatus s.orders.nextSeq .waiting (s.submitted tag d) := by
    unfold dealEntry
    rw [show (s.submitted tag d).roster.belief = none from hb]
  rw [hdeal]
  exact if_pos rfl

theorem submit_sent (hb : s.roster.belief = some f) (hf : f ≠ s.own) : submit tag d s =
    sendUnicast f (.rackRequest ⟨eightByte f, s.orders.nextSeq, d.block⟩) (setStatus s.orders.nextSeq .sent (s.submitted tag d)) := by
  have hdeal : dealEntry (s.submitted tag d) ⟨s.orders.nextSeq, d, tag, .waiting⟩ =
      requestEntry f ⟨s.orders.nextSeq, d, tag, .waiting⟩ (s.submitted tag d) := by
    unfold dealEntry
    simp only [show (s.submitted tag d).roster.belief = some f from hb]
    exact if_neg hf
  rw [submit_eq, hdeal, requestEntry]
  have hq := queueing_sendUnicast f (.rackRequest ⟨eightByte f, s.orders.nextSeq, d.block⟩) (setStatus s.orders.nextSeq .sent (s.submitted tag d))
  refine if_pos ?_
  rw [hq.only]
  rfl

theorem submit_own (hb : s.roster.belief = some s.own) :
    submit tag d s = resubmit s (orderOwn ⟨s.orders.nextSeq, d, tag, .waiting⟩ (s.submitted tag d)) := by
  have hdeal : dealEntry (s.submitted tag d) ⟨s.orders.nextSeq, d, tag, .waiting⟩ =
      orderOwn ⟨s.orders.nextSeq, d, tag, .waiting⟩ (s.submitted tag d) := by
    unfold dealEntry
    simp only [show (s.submitted tag d).roster.belief = some s.own from hb]
    exact if_pos rfl
  rw [submit_eq, hdeal]

/-! ### What concludes it -/

/-- What of an event's conclusion goes into what a rack command makes, all its notices given. -/
structure NotedConcluded (before x t : State) : Prop where
  own : t.own = x.own
  belief : t.roster.belief = x.roster.belief
  orders : t.orders = { x.orders with resendTimer := t.orders.resendTimer }
  resend : t.orders.resendTimer.isSome = t.resendRuns
  told : x.waiting → ConcludesAs before x t

theorem timersRight_concludeFrom (before noted x : State) : timersRight (concludeFrom before noted x) := timersRight_round ..

theorem notedConcluded (before x : State) : NotedConcluded before x (concludeFrom before x x) := by
  have hsteady := steady_concludeFrom_of_calm (before := before) (noted := x) (e := x) (.inl rfl)
  have hrests := rests_concludeFrom before x x
  have htimers := timersRight_concludeFrom before x x
  have htold (hw : x.waiting) : ConcludesAs before x (concludeFrom before x x) := concludesAs_of_waiting (.inl rfl) hw
  exact ⟨hrests.own, hsteady.belief, hsteady.orders, htimers.2, htold⟩

theorem rackDirective_eq (k : Option RackDirective) (s : State) {x : State} (h : takeRack tag code k noWait s = x) :
    rackDirective tag code k noWait s = concludeFrom s x x := by rw [← h]; rfl

section submitted
variable {st : PendingStatus}

/-- R158: the pending list with the entry of a directive at its tail, in a status. -/
theorem pending_submitted (hx : x.orders = (setStatus s.orders.nextSeq st (s.taken.submitted tag d)).orders) (h : NotedConcluded s.taken x t) :
    t.orders.pending.map PendingEntry.seq = s.orders.pending.map PendingEntry.seq ++ [s.orders.nextSeq] ∧
      t.orders.nextSeq = s.orders.nextSeq + 1 ∧ t.orders.pending.getLast? = some ⟨s.orders.nextSeq, d, tag, st⟩ := by
  have hpending : t.orders.pending = (s.orders.pending ++ [(⟨s.orders.nextSeq, d, tag, .waiting⟩ : PendingEntry)]).map
      fun e : PendingEntry => if e.seq = s.orders.nextSeq then { e with status := st } else e := by
    rw [h.orders, hx]
    rfl
  refine ⟨?_, ?_, ?_⟩
  · have hseq (e : PendingEntry) : (if e.seq = s.orders.nextSeq then { e with status := st } else e).seq = e.seq := by split <;> rfl
    rw [hpending, List.map_map, List.map_append]
    simp [Function.comp_def, hseq]
  · rw [h.orders, hx]
    rfl
  · rw [hpending]
    simp

end submitted

/-- R159: a directive toward another master is requested. -/
theorem sent_concluded (hb : s.roster.belief = some f) (hf : f ≠ s.own) (hx : x = submit tag d s.taken) (h : NotedConcluded s.taken x t) :
    x.orders = (setStatus s.orders.nextSeq .sent (s.taken.submitted tag d)).orders ∧ t.orders.resendTimer.isSome = true ∧
      (s.roster.phase = .none → Told s.control [] [(f, .rackRequest ⟨eightByte f, s.orders.nextSeq, d.block⟩)] s t) := by
  have hsubmit := submit_sent (s := s.taken) (tag := tag) (d := d) hb hf
  rw [← hx, taken_orders] at hsubmit
  have hq := queueing_sendUnicast f (.rackRequest ⟨eightByte f, s.orders.nextSeq, d.block⟩)
    (setStatus s.orders.nextSeq .sent (s.taken.submitted tag d))
  have hevent : Told.Event s.control [] [(f, .rackRequest ⟨eightByte f, s.orders.nextSeq, d.block⟩)] s x := by
    rw [hsubmit]
    exact (told_event_of_link (s := s) (u := setStatus s.orders.nextSeq .sent (s.taken.submitted tag d)) rfl rfl).unicast _ _
  have horders : x.orders = (setStatus s.orders.nextSeq .sent (s.taken.submitted tag d)).orders := by
    rw [hsubmit, hq.only]
  have hroster : x.roster = s.roster := by
    rw [hsubmit, hq.only]
    rfl
  have hown : x.own = s.own := hevent.own
  obtain ⟨-, -, hlast⟩ := pending_submitted horders h
  refine ⟨horders, ?_, fun hphase => .of_event (before := s.taken) hevent rfl (h.told (.of_none (by rw [hroster]; exact hphase)))⟩
  have hany : t.orders.pending.any (fun e => e.status == .sent) = true :=
    List.any_eq_true.mpr ⟨_, List.mem_of_getLast? hlast, rfl⟩
  have hbelief : t.roster.belief = some f := by rw [h.belief, hroster, hb]
  rw [h.resend, State.resendRuns, hany, hbelief, h.own, hown]
  exact decide_eq_true hf

/-- R162: a claim for no candidate is refused at the master itself. -/
theorem submit_refused (hb : s.roster.belief = some s.own) (hp : s.orders.pending = []) (hd : s.validOrder d = false) :
    submit tag d s = raise (.rackRefused s.own s.orders.nextSeq .notCandidate) (postResult tag (rackCode d) .rackRefused
      (postResult tag (rackCode d) .accepted (s.onOrders fun o => { o with nextSeq := o.nextSeq + 1 }))) := by
  have hvalid : ¬ (s.submitted tag d).validOrder d = true := by
    have : (s.submitted tag d).validOrder d = s.validOrder d := by cases d <;> rfl
    rw [this, hd]
    exact nofun
  have hempty : (s.orders.pending ++ [(⟨s.orders.nextSeq, d, tag, .waiting⟩ : PendingEntry)]).filter (fun e => e.seq ≠ s.orders.nextSeq) =
      s.orders.pending := by rw [hp]; simp
  have hremoved : removePending s.orders.nextSeq (s.submitted tag d) = postResult tag (rackCode d) .accepted
      (s.onOrders fun o => { o with nextSeq := o.nextSeq + 1 }) :=
    congrArg (fun l => postResult tag (rackCode d) .accepted (s.onOrders fun o => { o with pending := l, nextSeq := o.nextSeq + 1 })) hempty
  have hown : orderOwn ⟨s.orders.nextSeq, d, tag, .waiting⟩ (s.submitted tag d) = refuseEntry ⟨s.orders.nextSeq, d, tag, .waiting⟩ s.own
      .notCandidate (removePending s.orders.nextSeq (s.submitted tag d)) := if_neg hvalid
  rw [submit_own hb, hown, hremoved]
  exact if_pos rfl

theorem completed_single (e : PendingEntry) : completed e.seq [e] = [] := by simp [completed]

/-- R161: a valid directive is ordered and applied at the master itself. -/
theorem submit_ordered (hb : s.roster.belief = some s.own) (hp : s.orders.pending = []) (hd : s.validOrder d = true)
    (hn : s.newOrder s.own s.orders.nextSeq = true) :
    submit tag d s = order s.own s.orders.nextSeq d (s.submitted tag d) ∧
      IsOrdered s.own s.orders.nextSeq d (s.submitted tag d) (submit tag d s) ∧ (submit tag d s).orders.pending = [] := by
  have hordered := isOrdered_order (s := s.submitted tag d) (o := s.own) (seq := s.orders.nextSeq) (d := d) hn
  have hvalid : (s.submitted tag d).validOrder d = true := by
    have : (s.submitted tag d).validOrder d = s.validOrder d := by cases d <;> rfl
    rw [this, hd]
  have hown : orderOwn ⟨s.orders.nextSeq, d, tag, .waiting⟩ (s.submitted tag d) = order s.own s.orders.nextSeq d (s.submitted tag d) := if_pos hvalid
  have hpending : (order s.own s.orders.nextSeq d (s.submitted tag d)).orders.pending = [] := by
    rw [hordered.orders]
    change (if s.own = s.own then completed s.orders.nextSeq (s.orders.pending ++ [⟨s.orders.nextSeq, d, tag, .waiting⟩]) else _) = []
    rw [if_pos rfl, hp]
    exact completed_single ⟨s.orders.nextSeq, d, tag, .waiting⟩
  have hsubmit : submit tag d s = order s.own s.orders.nextSeq d (s.submitted tag d) := by
    rw [submit_own hb, hown, resubmit_of_calm (.inr hpending)]
  exact ⟨hsubmit, hsubmit ▸ hordered, hsubmit ▸ hpending⟩

/-- R161, R163: the records of a new order, its event concluded. -/
theorem IsOrdered.records (k : IsOrdered o seq d w u) (h : NotedConcluded before u t) : t.orders.applied[o] = some seq ∧
    t.orders.lastOrder = some (w.orders.nextRackSeq, w.own) ∧ t.orders.nextRackSeq = min (w.orders.nextRackSeq + 1) (2 ^ 32 - 1) ∧
    t.orders.counters.ordered = min (w.orders.counters.ordered + 1) (2 ^ 32 - 1) := by
  rw [h.orders, k.orders]
  exact ⟨Vector.getElem_set_self .., rfl, rfl, rfl⟩

/-- Settles O45: by the checks in their order, and by the master belief. -/
theorem rackDirectivesAreSubmitted : Obligations.RackDirectivesAreSubmitted := by
  intro s tag target time noWait hv c code top d hc refused
  obtain ⟨hcode, hexec⟩ := exec_rack hc hv
  have hrefused (r : DirectiveResult) (h : takeRack tag code (if target.toNat ≤ top then some d else none) noWait s.taken =
      postResult tag code r s.taken) : refused r := hexec.trans (congrArg Host.Outcome.next (rackDirective_eq _ _ h))
  have hsubmit (ht : target.toNat ≤ top) (hw : ¬ (noWait = true ∧ s.roster.belief = none)) (hl : s.orders.pending.length < 4) :
      exec c s = .next (concludeFrom s.taken (submit tag d s.taken) (submit tag d s.taken)) := by
    refine hexec.trans (congrArg Host.Outcome.next (rackDirective_eq _ _ ?_))
    rw [if_pos ht]
    exact takeRack_of_room hw hl
  have hconcluded := notedConcluded s.taken (submit tag d s.taken)
  refine ⟨fun ht => hrefused _ ?_, fun ht hw hb => hrefused _ ?_, fun ht hw hl => hrefused _ ?_, fun ht hw hb hl => ?_, fun f ht hb hf hl => ?_,
    fun f hd ht hb hp hf => ?_, fun ht hb hp hn hf => ?_⟩
  · rw [if_neg (Nat.not_le.mpr ht)]
    rfl
  · rw [if_pos ht]
    exact takeRack_of_noMaster hw hb
  · rw [if_pos ht]
    exact takeRack_of_full hw hl
  · have horders : (submit tag d s.taken).orders = (setStatus s.orders.nextSeq .waiting (s.taken.submitted tag d)).orders :=
      congrArg State.orders (submit_waiting (s := s.taken) hb)
    exact ⟨_, hsubmit ht (by simp [hw]) hl, pending_submitted horders hconcluded⟩
  · obtain ⟨horders, hresend, htold⟩ := sent_concluded hb hf rfl hconcluded
    obtain ⟨hseqs, hnext, hlast⟩ := pending_submitted horders hconcluded
    exact ⟨_, hsubmit ht (by simp [hb]) hl, hseqs, hnext, hresend, hlast, htold⟩
  · have hinvalid : s.taken.validOrder d = false := by rw [hd]; exact hf
    have hx := submit_refused (s := s.taken) (tag := tag) hb hp hinvalid
    rw [hcode] at hx
    have hexec := hsubmit ht (by simp [hb]) (by rw [hp]; exact Nat.zero_lt_succ _)
    rw [hx] at hexec
    exact hexec
  · have hvalid : s.taken.validOrder d = true := by
      cases d with
      | masterClaim f => exact hf f rfl
      | rackArm g time => rfl
      | rackHalt g => rfl
    obtain ⟨-, hordered, hempty⟩ := submit_ordered (s := s.taken) (tag := tag) hb hp hvalid hn
    have hbegun : Told.Event s.control [] [] s (s.taken.submitted tag d) := told_event_of_link (s := s) (u := s.taken.submitted tag d) rfl rfl
    have hevent := hordered.told hbegun
    obtain ⟨happlied, hlast, hrack, hcount⟩ := hordered.records hconcluded
    refine ⟨_, hsubmit ht (by simp [hb]) (by rw [hp]; exact Nat.zero_lt_succ _), ?_, happlied, hlast, hrack, hcount, fun hphase => ?_,
      fun f hd ha => hconcluded.belief.trans (hordered.claims f hd (.inr ha))⟩
    · rw [hconcluded.orders]
      exact hempty
    · refine .of_event (before := s.taken) hevent rfl (hconcluded.told (.of_none ?_))
      rw [hordered.roster]
      exact hphase

end Sys2Proof.Machine

/-! PROOFS. Unicast frames (R77): Leave Acks (R107), Rack Requests (R160 to R162), Rack Refusals (R168), and those that go on. -/

namespace Sys2Proof.Machine
variable {s t u w x e before noted : State} {p q : Port} {f o : FrameNo} {h : Header} {d : RackDirective} {seq : Word16}

/-! ### The leave's tag (R107) -/

theorem notify_leaveTag (left : Option FrameNo) (before s : State) : (notify left before s).roster.leaveTag =
    if before.roster.ownState ≠ .departed ∧ s.roster.ownState = .departed then none else s.roster.leaveTag := by
  have hlock (k : RackTime → RackTime) (u : State) : (changeLock k u).roster = u.roster := by
    unfold changeLock
    dsimp only
    split_ifs <;> rfl
  have hfollow (former left : Option FrameNo) (u : State) : (followMaster former left u).roster = u.roster := by
    unfold followMaster
    dsimp only
    split_ifs <;> first | rfl | exact hlock ..
  have hraised := (raises_only (noticeEvents before s) s).1
  unfold notify
  dsimp only
  rw [notices_eq]
  generalize (noticeEvents before s).foldl (fun v e => raise e v) s = v at hraised
  have hv : (followMaster before.roster.belief left v).roster = s.roster := (hfollow ..).trans (by rw [hraised])
  generalize followMaster before.roster.belief left v = v at hv
  unfold notifyDeparture
  rw [hv]
  split
  · dsimp only
    split <;> rfl
  · rw [hv]

theorem round_leaveTag (h : e.calm noted) : (round before noted e).roster.leaveTag =
    if noted.roster.ownState ≠ .departed ∧ (advance e).roster.ownState = .departed then none else (advance e).roster.leaveTag := by
  have hann := announce_of_calm (calm_advance h)
  have hupdate (u : State) : (updateIfChanged before u).roster.leaveTag = u.roster.leaveTag := by
    unfold updateIfChanged
    split
    · rfl
    · rw [makeRosterUpdate_parts]
  have hsync (u : State) : (syncResend (syncRefresh u)).roster.leaveTag = u.roster.leaveTag := by rw [(synced u).parts]
  rw [round_eq, (granted .b _).roster, (granted .a _).roster, State.readied, hsync, hupdate, hann, notify_leaveTag]

theorem advance_leaveTag (e : State) : (advance e).roster.leaveTag = e.roster.leaveTag := by rw [advance_roster]

/-- A tag that is dropped stays so. -/
theorem round_leaveTag_none (h : e.roster.leaveTag = none) : (round before e e).roster.leaveTag = none := by
  rw [round_leaveTag (.inl rfl), advance_leaveTag, h]
  exact ite_self _

/-- R107: where an event completes the leave, its tag goes. -/
theorem concludeFrom_leaveTag (hc : e.calm noted) (hn : noted.roster.ownState ≠ .departed) (hd : (advance e).roster.ownState = .departed) :
    (concludeFrom before noted e).roster.leaveTag = none := by
  have hfirst : (round before noted e).roster.leaveTag = none := (round_leaveTag hc).trans (if_pos ⟨hn, hd⟩)
  unfold concludeFrom
  dsimp only
  generalize round before noted e = s1 at hfirst
  exact round_leaveTag_none (round_leaveTag_none hfirst)

/-! ### What is heard (R73) -/

theorem told_event_heard (p : Port) (s : State) : Told.Event s.control [] [] s (s.heard p) := by
  have hport (q : Port) := heard_link (s := s) (p := p) q
  have hdrops (q : Port) : ((s.heard p).port q).counters.controlDrops = (s.port q).counters.controlDrops := by
    rcases port_cases p q with rfl | rfl
    · rw [heard_port]
    · rw [heard_port_other]
  refine ⟨rfl, fun q _ => ?_, fun q _ => ?_, ?_, rfl⟩
  · obtain ⟨-, -, -, hcontrol, -, -⟩ := hport q
    exact Prod.ext hcontrol (hdrops q)
  · obtain ⟨-, hsend, -, -, hreply, hrequest⟩ := hport q
    exact ⟨hsend, fun k => hreply.trans k, fun k => hrequest.trans k⟩
  · rw [List.length_nil, ite_self]
    exact (BitVec.add_zero _).symm

/-! ### Leave Acks (R107) -/

theorem exec_leaveAck {b : LeaveAckBody} (hp : s.passes p ⟨h, .leaveAck b⟩) (ho : h.origin = eightByte o) (hne : o ≠ s.own)
    (hd : b.dest = eightByte s.own) : exec (.leaveAck p h b) s = .next (concludeFrom s s (takeLeaveAck b.acking b.incarnation (s.heard p))) := by
  have hreceive := receive_of_passes hp (countNotJoined p) (foreignFrame p h (takeUnicast p ⟨h, .leaveAck b⟩ b.dest
    fun _ => takeLeaveAck b.acking b.incarnation))
  rw [foreignFrame_of_other (s := s.heard p) ho hne] at hreceive
  refine congrArg (fun v : State => Host.Outcome.next (conclude s v)) (hreceive.trans ?_)
  unfold takeUnicast
  rw [hd, toEight_eightByte]
  exact if_pos rfl

theorem takeLeaveAck_of_match (hphase : s.roster.phase = .announced) (f : FrameNo) :
    takeLeaveAck (eightByte f) s.roster.incarnation s = leaveWaitSet f s := by
  unfold takeLeaveAck
  rw [toEight_eightByte]
  exact if_pos ⟨hphase, rfl⟩

theorem takeLeaveAck_of_other {acking : Byte} {i : Word16} (h : i ≠ s.roster.incarnation) : takeLeaveAck acking i s = s := by
  unfold takeLeaveAck
  split
  · exact if_neg fun k => h k.2
  · rfl

/-- R107: a leave that waits on, its event concluded. -/
theorem waits_concluded (hw : e.waiting) (hb : s.roster.belief = e.roster.belief) (ht : t = concludeFrom s s e) :
    t.roster.waitSet = e.roster.waitSet ∧ t.roster.ownState = e.roster.ownState := by
  have hconcludes := concludesAs_of_waiting (before := s) (noted := s) (.inl hb) hw
  have hadv : (advance e).roster = e.roster := by
    rw [advance_of_waiting hw]
    exact (settleTaps_only e).roster
  rw [← ht] at hconcludes
  rw [hconcludes.waitSet, hconcludes.shows.ownState, hadv]
  exact ⟨rfl, rfl⟩

/-- R107: a leave that completes, its event concluded. -/
theorem completes_concluded (hphase : e.roster.phase = .announced) (hempty : e.roster.waitSet = 0) (hb : s.roster.belief = e.roster.belief)
    (hs : s.roster.ownState ≠ .departed) (ht : t = concludeFrom s s e) :
    t.roster.ownState = .departed ∧ t.roster.phase = .none ∧ t.roster.leaveTag = none := by
  have hcalm : e.calm s := .inl hb
  have honly := (settleTaps_only e).roster
  have hannounce : announceLeave (settleTaps e) = settleTaps e := if_neg fun k => by
    rw [honly, hphase] at k
    exact nomatch k.1
  have hadv : (advance e).roster = { e.roster with ownState := .departed, phase := .none } := by
    have hcomplete : advance e = (settleTaps e).onRoster fun r => { r with ownState := .departed, phase := .none } := by
      unfold advance
      rw [hannounce]
      exact if_pos (by rw [honly]; exact ⟨hphase, hempty⟩)
    rw [hcomplete]
    exact congrArg (fun r : Roster => { r with ownState := .departed, phase := .none }) honly
  have hwaiting : (advance e).waiting := .of_none (by rw [hadv])
  have hconcludes := concludesAs (before := s) hcalm (steadyLeave_round hcalm hwaiting)
  have htag := concludeFrom_leaveTag (before := s) hcalm hs (show (advance e).roster.ownState = .departed by rw [hadv])
  rw [← ht] at hconcludes htag
  rw [hconcludes.shows.ownState, hconcludes.shows.phase, hadv]
  exact ⟨rfl, rfl, htag⟩

/-! ### Rack Requests (R160 to R162) -/

theorem exec_rackRequest {b : RackRequestBody} (hp : s.passes p ⟨h, .rackRequest b⟩) (ho : h.origin = eightByte o) (hne : o ≠ s.own)
    (hd : b.dest = eightByte s.own) (hx : x = takeRequest o b.seq b.block (s.heard p)) :
    exec (.rackRequest p h b) s = .next (concludeFrom s x x) := by
  have hreceive := receive_of_passes hp (countNotJoined p) (foreignFrame p h (takeUnicast p ⟨h, .rackRequest b⟩ b.dest
    fun o => takeRequest o b.seq b.block))
  rw [foreignFrame_of_other (s := s.heard p) ho hne] at hreceive
  rw [hx]
  refine congrArg (fun v : State => Host.Outcome.next (concludeFrom s v v)) (hreceive.trans ?_)
  unfold takeUnicast
  rw [hd, toEight_eightByte]
  exact if_pos rfl

section request
variable {block : RackBlock}

theorem takeRequest_of_malformed (hb : parseBlock block = none) :
    takeRequest o seq block s = s.onOrderCounters fun c => { c with malformed := countUp c.malformed } := by
  unfold takeRequest
  rw [hb]

theorem takeRequest_of_other (hb : parseBlock block = some d) (hm : s.roster.belief ≠ some s.own) :
    takeRequest o seq block s = sendRefusal o seq .notMaster s := by
  unfold takeRequest
  rw [hb]
  exact if_neg hm

theorem takeRequest_of_invalid (hb : parseBlock block = some d) (hm : s.roster.belief = some s.own) (hv : s.validOrder d = false) :
    takeRequest o seq block s = sendRefusal o seq .notCandidate s := by
  unfold takeRequest
  rw [hb]
  exact (if_pos hm).trans (if_neg (by rw [hv]; exact nofun))

theorem takeRequest_of_valid (hb : parseBlock block = some d) (hm : s.roster.belief = some s.own) (hv : s.validOrder d = true) :
    takeRequest o seq block s = resubmit s (order o seq d s) := by
  unfold takeRequest
  rw [hb]
  exact (if_pos hm).trans (if_pos hv)

end request

/-- R162: a refusal sent, its event concluded. -/
theorem refusal_concluded {r : RefusalReason} (hne : o ≠ s.own) (hx : x = sendRefusal o seq r (s.heard p)) (ht : NotedConcluded s x t) :
    t.orders.counters.refusals = min (s.orders.counters.refusals + 1) (2 ^ 32 - 1) ∧ t.orders.applied = s.orders.applied ∧
      (s.roster.phase = .none → Told s.control [] [(o, .rackRefusal ⟨eightByte o, reasonCode r, seq⟩)] s t) := by
  have hsend : x = sendUnicast o (.rackRefusal ⟨eightByte o, reasonCode r, seq⟩)
      ((s.heard p).onOrderCounters fun c => { c with refusals := countUp c.refusals }) := hx.trans (if_neg hne)
  have hq := queueing_sendUnicast o (.rackRefusal ⟨eightByte o, reasonCode r, seq⟩)
    ((s.heard p).onOrderCounters fun c => { c with refusals := countUp c.refusals })
  have hheard : Told.Event s.control [] [] s ((s.heard p).onOrderCounters fun c => { c with refusals := countUp c.refusals }) :=
    (told_event_heard p s).congr rfl (fun _ => rfl) rfl
  have hevent := hheard.unicast o (.rackRefusal ⟨eightByte o, reasonCode r, seq⟩)
  have horders := congrArg State.orders hq.only
  have hroster := congrArg State.roster hq.only
  rw [← hsend] at hevent horders hroster
  refine ⟨?_, ?_, fun hphase => .of_event hevent rfl (ht.told (.of_none ?_))⟩
  · rw [ht.orders, horders]
    rfl
  · rw [ht.orders, horders]
    rfl
  · rw [hroster]
    exact hphase

/-- What pending entries dealt with toward another frame move: their statuses, and the link. -/
structure Requested (s u : State) : Prop where
  own : u.own = s.own
  roster : u.roster = s.roster
  tapEngine : u.tapEngine = s.tapEngine
  orders : u.orders = { s.orders with pending := u.orders.pending }
  seqs : u.orders.pending.map PendingEntry.seq = s.orders.pending.map PendingEntry.seq

theorem Requested.refl (s : State) : Requested s s := ⟨rfl, rfl, rfl, rfl, rfl⟩

theorem Requested.trans (h : Requested s t) (k : Requested t u) : Requested s u where
  own := k.own.trans h.own
  roster := k.roster.trans h.roster
  tapEngine := k.tapEngine.trans h.tapEngine
  orders := by rw [k.orders, h.orders]
  seqs := k.seqs.trans h.seqs

theorem requested_requestEntry (f : FrameNo) (e : PendingEntry) (s : State) : Requested s (requestEntry f e s) := by
  have hq := queueing_sendUnicast f (.rackRequest ⟨eightByte f, e.seq, e.directive.block⟩) (setStatus e.seq .sent s)
  have hseq (k : PendingEntry) : (if k.seq = e.seq then { k with status := .sent } else k).seq = k.seq := by split <;> rfl
  unfold requestEntry
  generalize sendUnicast f _ (setStatus e.seq .sent s) = u at hq
  have hown := hq.own
  have hparts := hq.only
  unfold OnlyLinks at hparts
  refine ⟨hown, ?_, ?_, ?_, ?_⟩
  · rw [hparts]
    rfl
  · rw [hparts]
    rfl
  · rw [hparts]
    rfl
  · rw [hparts]
    change (s.orders.pending.map _).map PendingEntry.seq = _
    rw [List.map_map]
    exact List.map_congr_left fun k _ => hseq k

/-- R169: pending entries dealt with toward another frame. -/
theorem requested_deals (hb : s.roster.belief = some f) (hf : f ≠ s.own) (l : List PendingEntry) : Requested s (l.foldl dealEntry s) := by
  induction l generalizing s with
  | nil => exact .refl s
  | cons e l ih =>
    have hdeal : dealEntry s e = requestEntry f e s := by
      unfold dealEntry
      simp only [hb]
      exact if_neg hf
    have hrequested := requested_requestEntry f e s
    rw [List.foldl_cons, hdeal]
    exact hrequested.trans (ih (by rw [hrequested.roster]; exact hb) (by rw [hrequested.own]; exact hf))

/-- R161, R169: an order made for a request leaves its records to what is dealt with behind it. -/
theorem resubmitted_records (k : IsOrdered o seq d w u) (hb : w.roster.belief = some w.own) (hd : ∀ f, d = .masterClaim f → w.candidate f = true) :
    (resubmit w u).orders = { u.orders with pending := (resubmit w u).orders.pending } := by
  unfold resubmit
  split
  · rfl
  · next hne =>
    have hclaim : ∃ f, d = .masterClaim f := by
      by_contra hno
      exact hne (k.keeps fun f hf => hno ⟨f, hf⟩).symm
    obtain ⟨f, rfl⟩ := hclaim
    have hcandidate := candidate_iff.mp (hd f rfl)
    have hactive : f ≠ w.own ∨ w.roster.ownState = .active := by
      by_cases hf : f = w.own
      · unfold State.isCandidate at hcandidate
        rw [if_pos hf] at hcandidate
        exact .inr hcandidate.1
      · exact .inl hf
    have hbelief := k.claims f rfl hactive
    have hf : f ≠ u.own := by
      rw [k.own]
      intro hf
      exact hne (by rw [hb, hbelief, hf])
    exact (requested_deals hbelief hf _).orders

/-- R160, R161: a request that is ordered, its event concluded. -/
theorem request_ordered (hn : s.newOrder o seq = true) (hm : s.roster.belief = some s.own) (hd : ∀ f, d = .masterClaim f → s.candidate f = true)
    (hx : x = resubmit (s.heard p) (order o seq d (s.heard p))) (ht : NotedConcluded s x t) :
    t.orders.counters.ordered = min (s.orders.counters.ordered + 1) (2 ^ 32 - 1) ∧ t.orders.applied[o] = some seq ∧
      t.orders.lastOrder = some (s.orders.nextRackSeq, s.own) ∧ t.orders.nextRackSeq = min (s.orders.nextRackSeq + 1) (2 ^ 32 - 1) ∧
      (s.orders.pending = [] → s.roster.phase = .none → Told s.control [orderBody s o seq d] [] s t) := by
  have hordered := isOrdered_order (s := s.heard p) (o := o) (seq := seq) (d := d) hn
  have hrest := resubmitted_records hordered hm hd
  have hevent := hordered.told (told_event_heard p s)
  generalize order o seq d (s.heard p) = u at hordered hrest hevent hx
  rw [← hx] at hrest
  have horders : t.orders = { u.orders with pending := t.orders.pending, resendTimer := t.orders.resendTimer } := by
    rw [ht.orders, hrest]
  have hcalm (hp : s.orders.pending = []) : x = u := by
    rw [hx]
    refine resubmit_of_calm (.inr ?_)
    rw [hordered.orders]
    change (if _ then completed seq s.orders.pending else s.orders.pending) = []
    rw [hp]
    exact ite_self _
  refine ⟨?_, ?_, ?_, ?_, fun hp hphase => ?_⟩
  · rw [horders, hordered.orders]
    rfl
  · rw [horders, hordered.orders]
    exact Vector.getElem_set_self ..
  · rw [horders, hordered.orders]
    rfl
  · rw [horders, hordered.orders]
    rfl
  · have hxu := hcalm hp
    rw [hxu] at ht
    refine .of_event hevent rfl (ht.told (.of_none ?_))
    rw [hordered.roster]
    exact hphase

/-! ### Rack Refusals (R168) -/

theorem exec_rackRefusal {b : RackRefusalBody} (hp : s.passes p ⟨h, .rackRefusal b⟩) (ho : h.origin = eightByte o) (hne : o ≠ s.own)
    (hd : b.dest = eightByte s.own) (hx : x = takeRefusal o b.reason b.seq (s.heard p)) :
    exec (.rackRefusal p h b) s = .next (concludeFrom s x x) := by
  have hreceive := receive_of_passes hp (countNotJoined p) (foreignFrame p h (takeUnicast p ⟨h, .rackRefusal b⟩ b.dest
    fun o => takeRefusal o b.reason b.seq))
  rw [foreignFrame_of_other (s := s.heard p) ho hne] at hreceive
  rw [hx]
  refine congrArg (fun v : State => Host.Outcome.next (concludeFrom s v v)) (hreceive.trans ?_)
  unfold takeUnicast
  rw [hd, toEight_eightByte]
  exact if_pos rfl

/-- R168: what of the pending list a refusal leaves. -/
theorem takeRefusal_pending {reason : Byte} : (s.pendingEntry seq = none → (takeRefusal o reason seq s).orders.pending = s.orders.pending) ∧
    ∀ e, s.pendingEntry seq = some e →
      (reason = 2 → (takeRefusal o reason seq s).orders.pending = s.orders.pending.filter fun k => k.seq ≠ seq) ∧
      (reason = 1 → e.status = .sent → (takeRefusal o reason seq s).orders.pending =
        s.orders.pending.map fun k => if k.seq = seq then { k with status := .held } else k) ∧
      (reason = 1 → e.status ≠ .sent → (takeRefusal o reason seq s).orders.pending = s.orders.pending) := by
  have hother {r : Byte} (hr : r = 1) : r ≠ reasonCode .notCandidate := by rw [hr]; decide
  refine ⟨fun hn => ?_, fun e he => ⟨fun hr => ?_, fun hr hs => ?_, fun hr hs => ?_⟩⟩
  all_goals unfold takeRefusal
  · rw [hn]
  all_goals simp only [he]
  · rw [if_pos (show reason = reasonCode .notCandidate from hr)]
    rfl
  · rw [if_neg (hother hr), if_pos hs]
    rfl
  · rw [if_neg (hother hr), if_neg hs]

/-! ### Unicasts that go on (R77) -/

/-- R77: what a unicast for another frame makes of the part. -/
def State.forwarded (s : State) (p : Port) (f : Frame) (d : FrameNo) : State :=
  if s.openRoute d = some (otherPort p) then
    if f.header.hops.toNat < 7 then offerRelay (otherPort p) (hopOn f) s else countHopLimited p s
  else countUnroutable p s

theorem forwarded_rest (s : State) (p : Port) (f : Frame) (d : FrameNo) : (s.forwarded p f d).orders = s.orders ∧
    (s.forwarded p f d).roster = s.roster := by
  unfold State.forwarded offerRelay
  split_ifs <;> exact ⟨rfl, rfl⟩

theorem forwarded_other (s : State) (p : Port) (f : Frame) (d : FrameNo) : (s.forwarded p f d).port (otherPort p) =
    if s.openRoute d = some (otherPort p) ∧ f.header.hops.toNat < 7 then (s.port (otherPort p)).offered (hopOn f) else s.port (otherPort p) := by
  unfold State.forwarded
  by_cases hr : s.openRoute d = some (otherPort p)
  · by_cases hh : f.header.hops.toNat < 7
    · rw [if_pos hr, if_pos hh, if_pos ⟨hr, hh⟩, offerRelay_eq, onPort_self]
    · rw [if_pos hr, if_neg hh, if_neg fun k => hh k.2]
      exact onPort_other ..
  · rw [if_neg hr, if_neg fun k => hr k.1]
    exact onPort_other ..

theorem forwarded_self (s : State) (p : Port) (f : Frame) (d : FrameNo) : (s.forwarded p f d).port p = { s.port p with
    counters := { (s.port p).counters with
      hopLimited := if s.openRoute d = some (otherPort p) ∧ 7 ≤ f.header.hops.toNat then countUp (s.port p).counters.hopLimited
        else (s.port p).counters.hopLimited
      unroutable := if s.openRoute d = some (otherPort p) then (s.port p).counters.unroutable
        else countUp (s.port p).counters.unroutable } } := by
  unfold State.forwarded
  by_cases hr : s.openRoute d = some (otherPort p)
  · by_cases hh : f.header.hops.toNat < 7
    · rw [if_pos hr, if_pos hh, if_neg (by omega), if_pos hr, offerRelay_eq]
      have := onPort_other s (otherPort p) fun r => r.offered (hopOn f)
      rwa [otherPort_otherPort] at this
    · rw [if_pos hr, if_neg hh, if_pos ⟨hr, by omega⟩, if_pos hr]
      exact onPort_self ..
  · rw [if_neg hr, if_neg fun k => hr k.1, if_neg hr]
    exact onPort_self ..

theorem exec_forwarded {c : Instr} {fr : Frame} {dest : Byte} (hc : frameArrived c = some (p, fr)) (hu : unicastTo fr.body = some dest)
    (hp : s.passes p fr) (ho : fr.header.origin = eightByte o) (hne : o ≠ s.own) (hd : dest = eightByte f) (hf : f ≠ s.own) :
    exec c s = .next (concludeFrame c s ((s.heard p).forwarded p fr f)) := by
  have hforward (deliver : FrameNo → State → State) : foreignFrame p fr.header (takeUnicast p fr dest deliver) (s.heard p) =
      (s.heard p).forwarded p fr f := by
    rw [foreignFrame_of_other (s := s.heard p) ho hne]
    unfold takeUnicast
    rw [hd, toEight_eightByte]
    exact if_neg hf
  have hreceive (linked : State → State) (deliver : FrameNo → State → State) :
      receive p fr linked (foreignFrame p fr.header (takeUnicast p fr dest deliver)) s = (s.heard p).forwarded p fr f :=
    (receive_of_passes hp _ _).trans (hforward deliver)
  cases c with
  | leaveAck =>
    cases hc
    cases hu
    exact congrArg (fun v : State => Host.Outcome.next (conclude s v)) (hreceive _ _)
  | rackRequest | rackRefusal =>
    cases hc
    cases hu
    exact congrArg (fun v : State => Host.Outcome.next (concludeFrom s v v)) (hreceive _ _)
  | sample | mark | hello | timeRequest | timeReply | rosterUpdate | rackOrder =>
    cases hc
    exact nomatch hu
  | _ => exact nomatch hc

theorem steady_concludeFrame {c : Instr} {u : State} (hb : s.roster.belief = u.roster.belief) : Steady u (concludeFrame c s u) := by
  have hconclude : Steady u (conclude s u) := steady_concludeFrom (before := s) (noted := s) (s := u) hb
  have hconcludeFrom : Steady u (concludeFrom s u u) := steady_concludeFrom rfl
  cases c with
  | timeReply => exact .refl u
  | rackRequest | rackOrder | rackRefusal => exact hconcludeFrom
  | _ => exact hconclude

/-- R77: a unicast that goes on, its event concluded. -/
theorem forwarded_concluded {fr : Frame} (ho : h = fr.header) (hsettled : Settled ((s.heard p).forwarded p fr f) t)
    (hsteady : Steady ((s.heard p).forwarded p fr f) t) :
    let r := s.port (otherPort p)
    let one : Nat → Nat := fun n => min (n + 1) (2 ^ 32 - 1)
    let goesOn := (s.entry f).route = some (otherPort p) ∧ s.joined (otherPort p) = true
    t.orders = { s.orders with resendTimer := t.orders.resendTimer } ∧
    (r.inTransmission.isSome = true → (t.port (otherPort p)).relay = (if goesOn ∧ h.hops.toNat < 7 ∧ r.relay.length < 64
      then r.relay ++ [⟨⟨h.origin, h.hops + 1⟩, fr.body⟩] else r.relay)) ∧
    (7 ≥ h.hops.toNat → (t.port p).counters.hopLimited =
      (if goesOn ∧ h.hops.toNat = 7 then one (s.port p).counters.hopLimited else (s.port p).counters.hopLimited)) ∧
    (t.port p).counters.unroutable = (if goesOn then (s.port p).counters.unroutable else one (s.port p).counters.unroutable) := by
  subst ho
  have hself := forwarded_self (s.heard p) p fr f
  have hother := forwarded_other (s.heard p) p fr f
  have hrest := forwarded_rest (s.heard p) p fr f
  have hcounters := counters_of_standing (hsettled.standing p)
  rw [heard_port_other] at hother
  rw [hself] at hcounters
  have hsending := hsteady.sending (otherPort p)
  have horders := hsteady.orders
  rw [hrest.1] at horders
  rw [heard_openRoute] at hself hother hcounters
  rw [heard_port] at hcounters
  have hopen : s.openRoute f = some (otherPort p) ↔ (s.entry f).route = some (otherPort p) ∧ s.joined (otherPort p) = true := openRoute_eq_some_iff
  simp only [hopen] at hother hcounters
  intro r one goesOn
  refine ⟨horders, fun hbusy => ?_, fun hhops => ?_, congrArg PortCounters.unroutable hcounters⟩
  · obtain ⟨htrans, hrelay, -⟩ := offered_spec r (hopOn fr)
    rw [hother] at hsending
    have hsent := (hsending (by
      split
      · rw [htrans]
        exact hbusy
      · exact hbusy)).2
    rw [hsent]
    by_cases hg : goesOn ∧ fr.header.hops.toNat < 7
    · rw [if_pos hg, hrelay]
      by_cases hroom : r.relay.length < 64
      · rw [if_pos hroom, if_pos ⟨hg.1, hg.2, hroom⟩]
        rfl
      · rw [if_neg hroom, if_neg fun k => hroom k.2.2]
    · rw [if_neg hg, if_neg fun k => hg ⟨k.1, k.2.1⟩]
  · refine (congrArg PortCounters.hopLimited hcounters).trans ?_
    exact if_congr (and_congr_right fun _ => by omega) rfl rfl

/-- R107: a Leave Ack for the own frame, its event concluded. -/
theorem leaveAck_concluded {ack : LeaveAckBody} (hphase : s.roster.phase = .announced) (hleaving : s.roster.ownState = .leaving)
    (hwait : s.roster.waitSet ≠ 0) (hack : ack.acking = eightByte f) {t : State}
    (ht : t = concludeFrom s s (takeLeaveAck ack.acking ack.incarnation (s.heard p))) :
    let left := s.roster.waitSet &&& ~~~(1#8 <<< f.val)
    (ack.incarnation = s.roster.incarnation → left ≠ 0 → t.roster.waitSet = left ∧ t.roster.ownState = .leaving) ∧
    (ack.incarnation = s.roster.incarnation → left = 0 → t.roster.ownState = .departed ∧ t.roster.phase = .none ∧ t.roster.leaveTag = none) ∧
    (ack.incarnation ≠ s.roster.incarnation → t.roster.waitSet = s.roster.waitSet ∧ t.roster.ownState = .leaving) := by
  have hmatch (hi : ack.incarnation = s.roster.incarnation) : takeLeaveAck ack.acking ack.incarnation (s.heard p) = leaveWaitSet f (s.heard p) := by
    rw [hack, hi]
    exact takeLeaveAck_of_match (s := s.heard p) hphase f
  have hroster : (leaveWaitSet f (s.heard p)).roster = { s.roster with waitSet := s.roster.waitSet &&& ~~~(1#8 <<< f.val) } := rfl
  intro left
  refine ⟨fun hi hl => ?_, fun hi hl => ?_, fun hi => ?_⟩
  · rw [hmatch hi] at ht
    have hbelief : s.roster.belief = (leaveWaitSet f (s.heard p)).roster.belief := by rw [hroster]
    generalize leaveWaitSet f (s.heard p) = e at hroster hbelief ht
    have hw : e.waiting := by
      unfold State.waiting
      rw [hroster, hphase]
      exact ⟨nofun, fun _ => hl⟩
    have := waits_concluded hw hbelief ht
    rw [hroster] at this
    exact ⟨this.1, this.2.trans hleaving⟩
  · rw [hmatch hi] at ht
    have hbelief : s.roster.belief = (leaveWaitSet f (s.heard p)).roster.belief := by rw [hroster]
    generalize leaveWaitSet f (s.heard p) = e at hroster hbelief ht
    exact completes_concluded (by rw [hroster]; exact hphase) (by rw [hroster]; exact hl) hbelief (by rw [hleaving]; exact nofun) ht
  · rw [takeLeaveAck_of_other (s := s.heard p) hi] at ht
    have hw : (s.heard p).waiting := ⟨fun k => (nomatch hphase.symm.trans k), fun _ => hwait⟩
    have hroster : (s.heard p).roster = s.roster := rfl
    generalize s.heard p = e at hroster hw ht
    have := waits_concluded hw (by rw [hroster]) ht
    rw [hroster] at this
    exact ⟨this.1, this.2.trans hleaving⟩

/-- Settles O55: own origin, for the own frame by the kind, and for another frame by its route. -/
theorem unicastsReachTheirUnit : Obligations.UnicastsReachTheirUnit := by
  refine ⟨fun s p f c dest hc hu hp ho => ownDiscarded hc hp ho ?_, fun s p h o ack req ref ho hne hack hreq href => ?_,
    fun s p h o d c f dest hc hu hh hp ho hne hd hds => ?_⟩
  · cases hb : f.body <;> rw [hb] at hu <;> trivial
  · intro one ackCmd reqCmd refCmd
    refine ⟨fun hp hphase hleaving hwait f hf => ?_, fun hp => ?_, fun hp => ?_⟩
    · intro left
      have hexec := exec_leaveAck hp ho hne hack
      have hconcluded {t : State} := leaveAck_concluded (p := p) hphase hleaving hwait hf (t := t)
      generalize concludeFrom s s _ = t at hexec hconcluded
      obtain ⟨hstays, hends, hother⟩ := hconcluded rfl
      exact ⟨fun hi hl => ⟨_, hexec, hstays hi hl⟩, fun hi hl => ⟨_, hexec, hends hi hl⟩, fun hi => ⟨_, hexec, hother hi⟩⟩
    · obtain ⟨x, hx⟩ : ∃ x, x = takeRequest o req.seq req.block (s.heard p) := ⟨_, rfl⟩
      have hexec := exec_rackRequest hp ho hne hreq hx
      have ht := notedConcluded s x
      generalize concludeFrom s x x = t at hexec ht
      refine ⟨fun hb => ⟨t, hexec, ?_⟩, fun d hb hm => ⟨t, hexec, ?_⟩, fun d hb hm hv hcl => ⟨t, hexec, ?_⟩, fun d hb hm hv hn => ⟨t, hexec, ?_⟩⟩
      · rw [takeRequest_of_malformed hb] at hx
        rw [ht.orders, hx]
        exact ⟨rfl, rfl⟩
      · exact refusal_concluded hne (hx.trans (takeRequest_of_other (s := s.heard p) hb hm)) ht
      · obtain ⟨f, rfl⟩ := hcl
        exact refusal_concluded hne (hx.trans (takeRequest_of_invalid (s := s.heard p) hb hm (hv f rfl))) ht
      · have hvalid : (s.heard p).validOrder d = true := by
          cases d with
          | masterClaim f => exact hv f rfl
          | rackArm g time => rfl
          | rackHalt g => rfl
        exact request_ordered hn hm hv (hx.trans (takeRequest_of_valid (s := s.heard p) hb hm hvalid)) ht
    · obtain ⟨x, hx⟩ : ∃ x, x = takeRefusal o ref.reason ref.seq (s.heard p) := ⟨_, rfl⟩
      have hexec := exec_rackRefusal hp ho hne href hx
      have ht := notedConcluded s x
      generalize concludeFrom s x x = t at hexec ht
      have hpending : t.orders.pending = (takeRefusal o ref.reason ref.seq (s.heard p)).orders.pending := by rw [ht.orders, hx]
      obtain ⟨hnone, hsome⟩ := takeRefusal_pending (s := s.heard p) (o := o) (seq := ref.seq) (reason := ref.reason)
      rw [← hpending] at hnone hsome
      refine ⟨fun hn => ⟨t, hexec, hnone hn⟩, fun e he => ?_⟩
      obtain ⟨h1, h2, h3⟩ := hsome e he
      exact ⟨fun hr => ⟨t, hexec, h1 hr⟩, fun hr hs => ⟨t, hexec, h2 hr hs⟩, fun hr hs => ⟨t, hexec, h3 hr hs⟩⟩
  · have hexec := exec_forwarded hc hu hp (hh ▸ ho) hne hd hds
    have hsettled := settled_concludeFrame c s ((s.heard p).forwarded p f d)
    have hbelief : s.roster.belief = ((s.heard p).forwarded p f d).roster.belief := by rw [(forwarded_rest ..).2]; rfl
    have hsteady := steady_concludeFrame (c := c) hbelief
    generalize concludeFrame c s ((s.heard p).forwarded p f d) = t at hexec hsettled hsteady
    obtain ⟨horders, hrelay, hhops, hroute⟩ := forwarded_concluded hh.symm hsettled hsteady
    exact ⟨t, hexec, horders, hrelay, hhops (hh ▸ hp.2.2), hroute⟩

end Sys2Proof.Machine

/-! PROOFS. The taps of an arm group (R60, R165, R166): what a Rack Arm and a Rack Halt make of each, and what is counted. -/

namespace Sys2Proof.Machine
variable {s t u v : State} {g : Fin 16} {time : TimeValue} {k : TapNo} {rackSeq : Nat}

/-- R60: a tap that a Rack Arm arms. -/
def State.arms (s : State) (g : Fin 16) (k : TapNo) : Bool := (s.tap k).inGroup g && (s.tap k).state == .idle && !s.away

/-- R165: a tap that a Rack Arm skips. -/
def State.skips (s : State) (g : Fin 16) (k : TapNo) : Bool := (s.tap k).inGroup g && !s.arms g k

theorem armTapOf_of_arms (h : s.arms g k = true) : armTapOf g time s k = s.onTap k fun r => { r with state := .armed, armTime := time } := by
  simp only [State.arms, Bool.and_eq_true, beq_iff_eq] at h
  exact (if_pos h.1.1).trans (if_pos ⟨h.1.2, h.2⟩)

theorem armTapOf_of_skips (h : s.skips g k = true) :
    armTapOf g time s k = s.onOrderCounters fun c => { c with skippedTaps := countUp c.skippedTaps } := by
  simp only [State.skips, State.arms, Bool.and_eq_true, Bool.not_eq_true'] at h
  refine (if_pos h.1).trans (if_neg fun j => ?_)
  simp [h.1, j.1, j.2] at h

theorem armTapOf_of_neither (ha : s.arms g k = false) (hs : s.skips g k = false) : armTapOf g time s k = s := by
  refine if_neg fun h => ?_
  simp [State.skips, ha, h] at hs

/-- What arming one tap of the eight moves. -/
theorem armTapOf_spec (g : Fin 16) (time : TimeValue) (s : State) (k : TapNo) :
    (∀ j, (armTapOf g time s k).tap j = if j = k ∧ s.arms g k = true then { s.tap j with state := .armed, armTime := time } else s.tap j) ∧
    (armTapOf g time s k).orders.counters.skippedTaps =
      (if s.skips g k = true then countUp s.orders.counters.skippedTaps else s.orders.counters.skippedTaps) ∧
    (armTapOf g time s k).orders.counters.lateArms = s.orders.counters.lateArms ∧
    (armTapOf g time s k).roster = s.roster ∧ (armTapOf g time s k).clock = s.clock ∧ (armTapOf g time s k).reporter = s.reporter := by
  cases ha : s.arms g k with
  | true =>
    have hs : s.skips g k = false := by simp [State.skips, ha]
    rw [armTapOf_of_arms ha, hs]
    refine ⟨fun j => ?_, rfl, rfl, rfl, rfl, rfl⟩
    by_cases hj : j = k
    · subst hj
      rw [onTap_self, if_pos ⟨rfl, rfl⟩]
    · rw [onTap_other _ _ hj, if_neg fun h => hj h.1]
  | false =>
    have hno (j : TapNo) : ¬ (j = k ∧ false = true) := fun h => nomatch h.2
    cases hs : s.skips g k with
    | true =>
      rw [armTapOf_of_skips hs]
      exact ⟨fun j => (if_neg (hno j)).symm, rfl, rfl, rfl, rfl, rfl⟩
    | false =>
      rw [armTapOf_of_neither ha hs]
      exact ⟨fun j => (if_neg (hno j)).symm, rfl, rfl, rfl, rfl, rfl⟩

theorem arms_congr (ht : u.tap k = s.tap k) (hr : u.roster = s.roster) : u.arms g k = s.arms g k := by
  unfold State.arms State.away
  rw [ht, hr]

theorem skips_congr (ht : u.tap k = s.tap k) (hr : u.roster = s.roster) : u.skips g k = s.skips g k := by
  unfold State.skips
  rw [ht, arms_congr ht hr]

/-- A 32-bit count that has gone up `n` times. -/
def raisedBy (n c : Nat) : Nat := if n = 0 then c else min (c + n) (2 ^ 32 - 1)

theorem raisedBy_countUp (n c : Nat) : raisedBy n (countUp c) = raisedBy (n + 1) c := by
  have hup : countUp c = min (c + 1) (2 ^ 32 - 1) := rfl
  rw [hup, raisedBy, raisedBy, if_neg (Nat.succ_ne_zero n)]
  split <;> omega

/-- R60, R165: what arming the taps of a group moves. -/
theorem armTaps_spec (g : Fin 16) (time : TimeValue) {l : List TapNo} (hl : l.Nodup) (s : State) : let v := l.foldl (armTapOf g time) s
    (∀ j, v.tap j = if j ∈ l ∧ s.arms g j = true then { s.tap j with state := .armed, armTime := time } else s.tap j) ∧
    v.orders.counters.skippedTaps = raisedBy (l.filter (s.skips g)).length s.orders.counters.skippedTaps ∧
    v.orders.counters.lateArms = s.orders.counters.lateArms ∧ v.roster = s.roster ∧ v.clock = s.clock ∧ v.reporter = s.reporter := by
  induction l generalizing s with
  | nil => exact ⟨fun j => (if_neg fun h => (nomatch h.1)).symm, rfl, rfl, rfl, rfl, rfl⟩
  | cons k l ih =>
    obtain ⟨hk, hl⟩ := List.nodup_cons.mp hl
    obtain ⟨h1, h2, h3, h4, h5, h6⟩ := armTapOf_spec g time s k
    obtain ⟨i1, i2, i3, i4, i5, i6⟩ := ih hl (armTapOf g time s k)
    have htap (j : TapNo) (hj : j ∈ l) : (armTapOf g time s k).tap j = s.tap j := by
      rw [h1, if_neg]
      rintro ⟨rfl, -⟩
      exact hk hj
    have hskips : l.filter ((armTapOf g time s k).skips g) = l.filter (s.skips g) :=
      List.filter_congr fun j hj => skips_congr (htap j hj) h4
    rw [List.foldl_cons]
    refine ⟨fun j => ?_, ?_, i3.trans h3, i4.trans h4, i5.trans h5, i6.trans h6⟩
    · rw [i1]
      by_cases hj : j ∈ l
      · have harms : (armTapOf g time s k).arms g j = s.arms g j := arms_congr (htap j hj) h4
        rw [htap j hj, harms]
        exact if_congr (by simp [hj]) rfl rfl
      · rw [if_neg fun h => hj h.1, h1]
        by_cases hjk : j = k
        · subst hjk
          exact if_congr (by simp) rfl rfl
        · rw [if_neg fun h => hjk h.1, if_neg fun h => hj ((List.mem_cons.mp h.1).resolve_left hjk)]
    · rw [i2, hskips, h2, List.filter_cons]
      split
      · exact raisedBy_countUp ..
      · rfl

theorem canArm_iff : s.canArm g = true ↔ ∃ k, s.arms g k = true := by
  simp only [State.canArm, State.arms, Bool.and_eq_true, List.any_eq_true, mem_eight, true_and]
  exact ⟨fun ⟨ha, k, hk⟩ => ⟨k, hk, ha⟩, fun ⟨k, hk, ha⟩ => ⟨ha, k, hk⟩⟩

/-- R165: a Rack Arm whose time has come, and that arms a tap. -/
def State.lateArm (s : State) (g : Fin 16) (time : TimeValue) : Prop := (∃ k, s.arms g k = true) ∧ time.toNat ≤ s.clock.now

theorem applyArm_of_late (h : s.lateArm g time) : applyArm g time rackSeq s = raise (.lateArm g rackSeq time)
    ((startDue (eight.foldl (armTapOf g time) s)).onOrderCounters fun c => { c with lateArms := countUp c.lateArms }) :=
  if_pos ⟨canArm_iff.mpr h.1, h.2⟩

theorem applyArm_of_timely (h : ¬ s.lateArm g time) : applyArm g time rackSeq s = eight.foldl (armTapOf g time) s :=
  if_neg fun k => h ⟨canArm_iff.mp k.1, k.2⟩

/-- R60, R165: what a Rack Arm ahead of its time makes of the taps and the counts. -/
theorem applyArm_timely (h : ¬ s.lateArm g time) (hv : v = applyArm g time rackSeq s) :
    (∀ j, s.arms g j = true → (v.tap j).state = .armed ∧ (v.tap j).armTime = time) ∧
    v.orders.counters.skippedTaps = raisedBy (eight.filter (s.skips g)).length s.orders.counters.skippedTaps ∧
    v.orders.counters.lateArms = s.orders.counters.lateArms ∧ v.reporter = s.reporter ∧ v.clock = s.clock := by
  rw [applyArm_of_timely h] at hv
  obtain ⟨h1, h2, h3, -, h5, h6⟩ := armTaps_spec g time eight_nodup s
  rw [← hv] at h1 h2 h3 h5 h6
  refine ⟨fun j hj => ?_, h2, h3, h6, h5⟩
  rw [h1, if_pos ⟨mem_eight j, hj⟩]
  exact ⟨rfl, rfl⟩

/-- R165: what a Rack Arm whose time has come makes of them. -/
theorem applyArm_late (h : s.lateArm g time) (hv : v = applyArm g time rackSeq s) :
    (∀ j, s.arms g j = true → (v.tap j).state = .running ∧ (v.tap j).r = 0 ∧ (v.tap j).x = 0 ∧ (v.tap j).passesDone = 0) ∧
    v.orders.counters.skippedTaps = raisedBy (eight.filter (s.skips g)).length s.orders.counters.skippedTaps ∧
    v.orders.counters.lateArms = countUp s.orders.counters.lateArms ∧ v.reporter = (raise (.lateArm g rackSeq time) s).reporter ∧
    v.clock = s.clock := by
  rw [applyArm_of_late h] at hv
  obtain ⟨h1, h2, h3, -, h5, h6⟩ := armTaps_spec g time eight_nodup s
  generalize eight.foldl (armTapOf g time) s = w at h1 h2 h3 h5 h6 hv
  have honly := startDue_only w
  have htap := startDue_tap w
  generalize startDue w = d at honly htap hv
  have horders : d.orders = w.orders := by rw [honly]
  have hclock : d.clock = w.clock := by rw [honly]
  have hreporter : d.reporter = w.reporter := by rw [honly]
  have hstamp : d.stamp = s.stamp := by
    unfold State.stamp
    rw [hclock, h5]
  have hraised : (raise (.lateArm g rackSeq time) (d.onOrderCounters fun c => { c with lateArms := countUp c.lateArms })).reporter =
      (raise (.lateArm g rackSeq time) s).reporter := raise_reporter _ (hreporter.trans h6) hstamp
  have hvtap (j : TapNo) : v.tap j = d.tap j := by rw [hv]; rfl
  have hvorders : v.orders.counters = { w.orders.counters with lateArms := countUp w.orders.counters.lateArms } := by
    rw [hv, ← horders]
    rfl
  refine ⟨fun j hj => ?_, ?_, ?_, ?_, ?_⟩
  · have harmed : w.tap j = { s.tap j with state := .armed, armTime := time } := by rw [h1, if_pos ⟨mem_eight j, hj⟩]
    rw [hvtap, htap, harmed, Tap.due, if_pos ⟨rfl, by rw [h5]; exact h.2⟩]
    exact ⟨rfl, rfl, rfl, rfl⟩
  · rw [hvorders]
    exact h2
  · rw [hvorders]
    exact congrArg countUp h3
  · rw [hv]
    exact hraised
  · rw [hv, ← h5, ← hclock]
    rfl

/-! ### A Rack Halt (R166) -/

/-- R166: a tap of the group is neither Armed nor Running once halted. -/
theorem haltTapOf_self (hk : (s.tap k).armGroup = g) : ((haltTapOf g s k).tap k).state ≠ .armed ∧ ((haltTapOf g s k).tap k).state ≠ .running := by
  have hsettled (r : Tap) (hr : r.state ≠ .armed ∧ r.state ≠ .running) : r.settled.state ≠ .armed ∧ r.settled.state ≠ .running := by
    unfold Tap.settled
    split
    · exact ⟨nofun, nofun⟩
    · exact hr
  unfold haltTapOf
  split
  · rw [settleTap_tap, if_pos rfl]
    apply hsettled
    unfold haltTap
    cases hs : (s.tap k).state with
    | unbound => exact ⟨by rw [hs]; exact nofun, by rw [hs]; exact nofun⟩
    | idle => exact ⟨by rw [hs]; exact nofun, by rw [hs]; exact nofun⟩
    | armed => rw [onTap_self]; exact ⟨nofun, nofun⟩
    | running => rw [onTap_self]; exact ⟨nofun, nofun⟩
    | draining => rw [onTap_self]; exact ⟨nofun, nofun⟩
    | halted =>
      simp only [onTap_self, hs]
      exact ⟨nofun, nofun⟩
  · next h =>
    cases hs : (s.tap k).state with
    | armed => simp [Tap.inGroup, hs, hk] at h
    | running => simp [Tap.inGroup, hs, hk] at h
    | _ => exact ⟨nofun, nofun⟩

theorem haltTapOf_other {j : TapNo} (h : k ≠ j) : (haltTapOf g s j).tap k = s.tap k := by
  have hhalt : (haltTap j s).tap k = s.tap k := by
    have habandon (u : State) : (abandonPass j u).tap k = u.tap k := by
      unfold abandonPass offerMark
      dsimp only
      split_ifs <;> first | exact onTap_other _ _ h | rfl
    unfold haltTap
    split
    · exact onTap_other _ _ h
    · rw [onTap_other _ _ h, habandon, onTap_other _ _ h]
    · rw [onTap_other _ _ h, habandon, onTap_other _ _ h]
    · exact onTap_other _ _ h
    · rfl
    · rfl
  unfold haltTapOf
  split
  · rw [settleTap_tap, if_neg h, hhalt]
  · rfl

theorem haltTaps_state {l : List TapNo} (hl : l.Nodup) (s : State) (hk : k ∈ l) (hg : (s.tap k).armGroup = g) :
    ((l.foldl (haltTapOf g) s).tap k).state ≠ .armed ∧ ((l.foldl (haltTapOf g) s).tap k).state ≠ .running := by
  have hrest (l : List TapNo) (hk : k ∉ l) (u : State) : (l.foldl (haltTapOf g) u).tap k = u.tap k := by
    induction l generalizing u with
    | nil => rfl
    | cons j l ih =>
      obtain ⟨hj, hl⟩ := not_or.mp (mt List.mem_cons.mpr hk)
      exact (ih hl _).trans (haltTapOf_other hj)
  induction l generalizing s with
  | nil => exact nomatch hk
  | cons j l ih =>
    obtain ⟨hj, hl⟩ := List.nodup_cons.mp hl
    rw [List.foldl_cons]
    by_cases hkj : k = j
    · subst hkj
      rw [hrest l hj]
      exact haltTapOf_self hg
    · exact ih hl _ ((List.mem_cons.mp hk).resolve_left hkj) (by rw [haltTapOf_other hkj]; exact hg)

end Sys2Proof.Machine

/-! PROOFS. Rack Orders that arrive (R163 to R169). -/

namespace Sys2Proof.Machine
variable {s t u v w x y e before : State} {p q : Port} {f o : FrameNo} {h : Header} {b : RackOrderBody} {master : FrameNo} {d : RackDirective}
  {seq : Word16} {k : TapNo} {g : Fin 16} {time : TimeValue}

/-! ### Which orders are new (R163) -/

theorem newOrder_iff (s : State) (o : FrameNo) (seq : Word16) : s.newOrder o seq = true ↔ ∀ r, s.orders.applied[o] = some r → newAfter r seq := by
  unfold State.newOrder
  cases s.orders.applied[o] with
  | none => simp
  | some r =>
    have hsub : (seq - r).toNat = (seq.toNat + 65536 - r.toNat) % 65536 := by
      rw [BitVec.toNat_sub]
      congr 1
      omega
    simp only [Bool.and_eq_true, decide_eq_true_eq, hsub, Option.some.injEq, forall_eq', newAfter]

/-! ### Arrivals -/

/-- The part that a new Rack Order of another's comes to, heard, listed and relayed. -/
def State.relayed (s : State) (p : Port) (h : Header) (b : RackOrderBody) (master : FrameNo) : State :=
  s.listed p ⟨h, .rackOrder b⟩ master b.broadcastSeq false

/-- What the order makes of it. -/
def State.orderTaken (s : State) (p : Port) (h : Header) (b : RackOrderBody) (master o : FrameNo) (d : RackDirective) : State :=
  applyOrder (resubmit (s.relayed p h b master)) b.rackSeq.toNat master o b.seq d (s.relayed p h b master)

theorem exec_rackOrder (hp : s.passes p ⟨h, .rackOrder b⟩) (ho : h.origin = eightByte master) (hne : master ≠ s.own)
    (hx : x = takeBroadcast p ⟨h, .rackOrder b⟩ b.broadcastSeq (fun _ => none) (fun o => takeOrder o b) master (s.heard p)) :
    exec (.rackOrder p h b) s = .next (concludeOrder s x) := by
  have hreceive := receive_of_passes hp (countNotJoined p) (foreignFrame p h (takeBroadcast p ⟨h, .rackOrder b⟩ b.broadcastSeq
    (fun _ => none) fun o => takeOrder o b))
  rw [foreignFrame_of_other (s := s.heard p) ho hne, ← hx] at hreceive
  exact congrArg (fun v : State => Host.Outcome.next (concludeOrder s v)) hreceive

theorem duplicateOrder_iff (s : State) (master : FrameNo) (seq : Word16) :
    s.duplicateBroadcast master seq none = true ↔ (master, seq) ∈ s.roster.recent := by
  rw [State.duplicateBroadcast, Bool.and_eq_true, List.contains_iff_mem]
  exact and_iff_left rfl

theorem exec_rackOrder_again (hp : s.passes p ⟨h, .rackOrder b⟩) (ho : h.origin = eightByte master) (hne : master ≠ s.own)
    (hl : (master, b.broadcastSeq) ∈ s.roster.recent) : exec (.rackOrder p h b) s =
      .next (concludeOrder s ((s.heard p).onPortCounters p fun c => { c with duplicates := countUp c.duplicates })) :=
  exec_rackOrder hp ho hne (takeBroadcast_of_duplicate (s := s.heard p) ((duplicateOrder_iff (s.heard p) ..).mpr hl)).symm

theorem exec_rackOrder_new (hp : s.passes p ⟨h, .rackOrder b⟩) (ho : h.origin = eightByte master) (hne : master ≠ s.own)
    (hl : (master, b.broadcastSeq) ∉ s.roster.recent) (hb : b.origin = eightByte o) (hd : parseBlock b.block = some d) :
    exec (.rackOrder p h b) s = .next (concludeOrder s (s.orderTaken p h b master o d)) := by
  refine exec_rackOrder hp ho hne ?_
  have hnew := takeBroadcast_of_new (s := s) (p := p) (f := ⟨h, .rackOrder b⟩) (o := master) (seq := b.broadcastSeq) (incarnation := fun _ => none)
    (deliver := fun o => takeOrder o b) fun k => hl ((duplicateOrder_iff (s.heard p) ..).mp k)
  refine Eq.trans ?_ hnew.symm
  have hfresh : s.freshLife master none = false := rfl
  rw [hfresh]
  unfold takeOrder
  rw [hd, hb, toEight_eightByte]
  rfl

section relayed
variable (s p h b master)

theorem relayed_roster : (s.relayed p h b master).roster = { s.roster with recent := listBroadcast false master b.broadcastSeq s.roster.recent } :=
  listed_roster ..

theorem relayed_own : (s.relayed p h b master).own = s.own := listed_own ..

theorem relayed_entry (g : FrameNo) : (s.relayed p h b master).entry g = s.entry g := listed_entry ..

/-- What of the part the arrival leaves until the order is applied. -/
theorem relayed_parts : (s.relayed p h b master).tapEngine = s.tapEngine ∧ (s.relayed p h b master).clock = s.clock ∧
    (s.relayed p h b master).orders = s.orders ∧ (s.relayed p h b master).reporter = s.reporter := by
  have hparts := listed_parts s p ⟨h, .rackOrder b⟩ master b.broadcastSeq false
  unfold State.relayed
  refine ⟨?_, ?_, ?_, ?_⟩ <;> rw [hparts]

theorem told_event_relayed : Told.Event s.control [] [] s (s.relayed p h b master) := by
  have hport := listed_port s p ⟨h, .rackOrder b⟩ master b.broadcastSeq false
  have hnumbers := listed_numbers s p ⟨h, .rackOrder b⟩ master b.broadcastSeq false
  have hown := listed_own s p ⟨h, .rackOrder b⟩ master b.broadcastSeq false
  unfold State.relayed
  generalize s.listed p ⟨h, .rackOrder b⟩ master b.broadcastSeq false = w at hport hnumbers hown
  refine ⟨hown, fun q _ => ?_, fun q _ => ?_, ?_, hnumbers.2⟩
  · obtain ⟨-, hc, -⟩ := hport q
    exact hc
  · obtain ⟨-, -, hi, hr, hq⟩ := hport q
    exact ⟨hi, fun k => hr.trans k, fun k => hq.trans k⟩
  · rw [hnumbers.1, List.length_nil, ite_self]
    exact (BitVec.add_zero _).symm

theorem relayed_newOrder (o : FrameNo) (seq : Word16) : (s.relayed p h b master).newOrder o seq = s.newOrder o seq := by
  unfold State.newOrder
  rw [(relayed_parts s p h b master).2.2.1]

end relayed

/-! ### What an order that arrives moves -/

/-- What of the part a new order has moved when its event is concluded. -/
structure OrderTaken (s : State) (b : RackOrderBody) (master o : FrameNo) (x : State) : Prop where
  own : x.own = s.own
  entry : ∀ g, x.entry g = s.entry g
  roster : x.roster = { s.roster with belief := x.roster.belief, leaveTag := x.roster.leaveTag, recent := x.roster.recent }
  orders : x.orders = { s.orders with
    applied := s.orders.applied.set o (some b.seq)
    lastOrder := some (b.rackSeq.toNat, master)
    pending := if o = s.own then completed b.seq s.orders.pending else s.orders.pending
    counters := { s.orders.counters with
      applied := countUp s.orders.counters.applied
      skippedTaps := x.orders.counters.skippedTaps
      lateArms := x.orders.counters.lateArms } }
  told : Told.Event s.control [] [] s x

section orderTaken
variable (s p h b master d) (hn : s.newOrder o b.seq = true)
include hn

theorem orderTaken_new : OrderTaken s b master o (s.orderTaken p h b master o d) := by
  have hnew : (s.relayed p h b master).newOrder o b.seq = true := (relayed_newOrder s p h b master o b.seq).trans hn
  have happlied := applied_applyOrder (rackSeq := b.rackSeq.toNat) (master := master) (d := d) (resubmit (s.relayed p h b master)) hnew
  have hevent := told_event_relayed s p h b master
  have hroster := relayed_roster s p h b master
  have hown := relayed_own s p h b master
  have hentry := relayed_entry s p h b master
  obtain ⟨-, -, horders, -⟩ := relayed_parts s p h b master
  unfold State.orderTaken
  generalize applyOrder (resubmit (s.relayed p h b master)) b.rackSeq.toNat master o b.seq d (s.relayed p h b master) = x at happlied
  generalize s.relayed p h b master = w at *
  obtain ⟨hxown, hxlink, hxroster, hxorders⟩ := happlied
  have hxentry (g : FrameNo) : x.entry g = w.entry g := by rw [State.entry, hxroster]; rfl
  refine ⟨hxown.trans hown, fun g => (hxentry g).trans (hentry g), ?_, ?_, hevent.congr hxown hxentry hxlink⟩
  · rw [hxroster, hroster]
  · rw [hxorders, horders, hown]

/-- R163 to R167: the order applied, for what the taps and the reports go by. -/
theorem orderTaken_eq : s.orderTaken p h b master o d = finishOrder o b.seq d b.rackSeq.toNat
    (applyDirective (fun u => resubmit (s.relayed p h b master) (finishOrder o b.seq d b.rackSeq.toNat u)) d b.rackSeq.toNat
      (recordOrder b.rackSeq.toNat master o b.seq (s.relayed p h b master))) :=
  applyOrder_of_new _ ((relayed_newOrder s p h b master o b.seq).trans hn)

theorem orderTaken_claims (hf : f ≠ s.own ∨ s.roster.ownState = .active) :
    (s.orderTaken p h b master o (.masterClaim f)).roster.belief = some f := by
  refine applyOrder_claims _ ((relayed_newOrder s p h b master o b.seq).trans hn) ?_
  rw [relayed_own, relayed_roster]
  exact hf

theorem orderTaken_belief (hd : ∀ f, d ≠ .masterClaim f) : (s.orderTaken p h b master o d).roster.belief = s.roster.belief := by
  refine (applyOrder_belief _ ((relayed_newOrder s p h b master o b.seq).trans hn) hd).trans ?_
  rw [relayed_roster]

/-- R169: but for a claim for the own frame, the pending entries are requested of another. -/
theorem orderTaken_requested (hp : s.orders.pending = [] ∨ d ≠ .masterClaim s.own) :
    Requested (s.orderTaken p h b master o d) (resubmit s (s.orderTaken p h b master o d)) ∧
      (s.orders.pending = [] → resubmit s (s.orderTaken p h b master o d) = s.orderTaken p h b master o d) := by
  have htaken := orderTaken_new s p h b master d hn
  have hbelief (hd : ∀ f, d ≠ .masterClaim f) := orderTaken_belief s p h b master d hn hd
  have hclaims (f : FrameNo) (hd : d = .masterClaim f) (hf : f ≠ s.own) : (s.orderTaken p h b master o d).roster.belief = some f := by
    subst hd
    exact orderTaken_claims s p h b master hn (.inl hf)
  generalize s.orderTaken p h b master o d = x at *
  have hempty (hp : s.orders.pending = []) : resubmit s x = x := by
    refine resubmit_of_calm (.inr ?_)
    rw [htaken.orders]
    change (if _ then completed b.seq s.orders.pending else s.orders.pending) = []
    rw [hp]
    exact ite_self _
  refine ⟨?_, hempty⟩
  rcases hp with hp | hp
  · rw [hempty hp]
    exact .refl x
  · unfold resubmit
    split
    · exact .refl x
    · next hne =>
      have hclaim : ∃ f, d = .masterClaim f := by
        by_contra hno
        exact hne (hbelief fun f hf => hno ⟨f, hf⟩).symm
      obtain ⟨f, rfl⟩ := hclaim
      have hf : f ≠ s.own := fun k => hp (by rw [k])
      exact requested_deals (hclaims f rfl hf) (by rw [htaken.own]; exact hf) _

end orderTaken

/-! ### What concludes it -/

/-- The comparison that a Rack Order's Roster Update goes by. -/
theorem concludeOrder_eq (s x : State) : ∃ before, concludeOrder s x = concludeFrom before (resubmit s x) (resubmit s x) ∧
    ((resubmit s x).view = s.view ∧ before = x ∨ (resubmit s x).view ≠ s.view ∧ before = s) := by
  by_cases hv : (resubmit s x).view = s.view
  · refine ⟨x, ?_, .inl ⟨hv, rfl⟩⟩
    unfold concludeOrder
    dsimp only
    rw [if_pos hv]
  · refine ⟨s, ?_, .inr ⟨hv, rfl⟩⟩
    unfold concludeOrder
    dsimp only
    rw [if_neg hv]

theorem onlyOrder_of_view {bf : State} (hbf : y.view = s.view ∧ bf = x ∨ y.view ≠ s.view ∧ bf = s) (hxy : y = x) : bf.view = s.view := by
  subst hxy
  rcases hbf with ⟨hv, rfl⟩ | ⟨-, rfl⟩
  · exact hv
  · rfl

/-- What a Rack Order makes of the part, its event concluded, where it makes no claim for the own frame over pending entries. -/
structure OrderConcluded (s : State) (x t : State) : Prop where
  belief : t.roster.belief = x.roster.belief
  orders : t.orders = { x.orders with pending := t.orders.pending, resendTimer := t.orders.resendTimer }
  seqs : t.orders.pending.map PendingEntry.seq = x.orders.pending.map PendingEntry.seq
  taps : ∀ k, TapRests (x.tap k) (t.tap k)
  told : s.orders.pending = [] → s.roster.phase = .none → Told s.control [] [] s t
  quiet : s.orders.pending = [] → x.waiting → (∀ k, (x.tap k).state ≠ .draining) → x.upPortNow = x.clock.upPort → t.reporter = x.reporter

theorem orderConcluded (hx : OrderTaken s b master o x) (hy : Requested x (resubmit s x)) (hsame : s.orders.pending = [] → resubmit s x = x) :
    OrderConcluded s x (concludeOrder s x) := by
  obtain ⟨bf, heq, hbf⟩ := concludeOrder_eq s x
  rw [heq]
  generalize resubmit s x = y at hy hsame hbf
  have ht := notedConcluded bf y
  have htaps (k : TapNo) := concludeFrom_rests (before := bf) (noted := y) (e := y) (.inl rfl) k
  have hquiet := concludeFrom_of_quiet (before := bf) (noted := y) (e := y) rfl
  generalize concludeFrom bf y y = t at ht htaps hquiet
  refine ⟨?_, ?_, ?_, fun k => ?_, fun hp hphase => ?_, fun hp hw hk hup => ?_⟩
  · rw [ht.belief, hy.roster]
  · rw [ht.orders, hy.orders]
  · rw [ht.orders]
    exact hy.seqs
  · have : y.tap k = x.tap k := by rw [State.tap, hy.tapEngine]; rfl
    rw [← this]
    exact htaps k
  · have hyx := hsame hp
    rw [hyx] at ht
    have hphase : x.roster.phase = .none := by rw [hx.roster]; exact hphase
    exact .of_event hx.told (onlyOrder_of_view hbf hyx) (ht.told (.of_none hphase))
  · have hyx := hsame hp
    rw [hyx, noticeEvents_self] at hquiet
    exact hquiet hw hk hup (em _)

/-! ### A tap of the group, and the reports -/

section arm
variable (s p h b master d) (hn : s.newOrder o b.seq = true)
include hn

/-- The taps, the counts, the clock and the reports that an order leaves, by those that its directive leaves. -/
theorem orderTaken_directed : ∃ r v : State, v = applyDirective (fun u => resubmit (s.relayed p h b master)
      (finishOrder o b.seq d b.rackSeq.toNat u)) d b.rackSeq.toNat r ∧
    r.tapEngine = s.tapEngine ∧ r.clock = s.clock ∧ r.reporter = s.reporter ∧ r.roster.ownState = s.roster.ownState ∧
    r.orders.counters.skippedTaps = s.orders.counters.skippedTaps ∧ r.orders.counters.lateArms = s.orders.counters.lateArms ∧
    (s.orderTaken p h b master o d).tapEngine = v.tapEngine ∧ (s.orderTaken p h b master o d).clock = v.clock ∧
    (s.orderTaken p h b master o d).orders.counters = v.orders.counters ∧
    (s.orders.pending = [] → (s.orderTaken p h b master o d).reporter = (raise (.rackApplied o d b.seq b.rackSeq.toNat) v).reporter) := by
  have hroster := relayed_roster s p h b master
  obtain ⟨htaps, hclock, horders, hreporter⟩ := relayed_parts s p h b master
  rw [orderTaken_eq s p h b master d hn]
  generalize s.relayed p h b master = w at *
  have hdirected := directed_applyDirective (fun u => resubmit w (finishOrder o b.seq d b.rackSeq.toNat u)) d b.rackSeq.toNat
    (recordOrder b.rackSeq.toNat master o b.seq w)
  have hown : w.roster.ownState = s.roster.ownState := by rw [hroster]
  have hskipped : w.orders.counters.skippedTaps = s.orders.counters.skippedTaps := by rw [horders]
  have hlate : w.orders.counters.lateArms = s.orders.counters.lateArms := by rw [horders]
  refine ⟨recordOrder b.rackSeq.toNat master o b.seq w, _, rfl, htaps, hclock, hreporter, hown, hskipped, hlate, ?_⟩
  have hpending := hdirected.pending
  generalize applyDirective (fun u => resubmit w (finishOrder o b.seq d b.rackSeq.toNat u)) d b.rackSeq.toNat
    (recordOrder b.rackSeq.toNat master o b.seq w) = v at hpending
  obtain ⟨-, -, -, ktaps, kclock, korders⟩ := finishOrder_spec o b.seq d b.rackSeq.toNat v
  refine ⟨ktaps, kclock, by rw [korders], fun hp => ?_⟩
  have hempty : v.orders.pending = [] := by
    rw [hpending]
    exact (congrArg RackOrders.pending horders).trans hp
  unfold finishOrder
  dsimp only
  split
  · unfold completePending State.pendingEntry
    rw [show (raise (.rackApplied o d b.seq b.rackSeq.toNat) v).orders.pending = [] from hempty]
    rfl
  · rfl

end arm

theorem applyDirective_arm (rest : State → State) (rackSeq : Nat) (s : State) :
    applyDirective rest (.rackArm g time) rackSeq s = applyArm g time rackSeq s := rfl

theorem applyDirective_halt (rest : State → State) (rackSeq : Nat) (s : State) :
    applyDirective rest (.rackHalt g) rackSeq s = eight.foldl (haltTapOf g) s := rfl

theorem applyArm_draining {rackSeq : Nat} (hk : (s.tap k).state ≠ .draining) : ((applyArm g time rackSeq s).tap k).state ≠ .draining := by
  have harmed : ((eight.foldl (armTapOf g time) s).tap k).state ≠ .draining := by
    rw [(armTaps_spec g time eight_nodup s).1]
    split
    · exact nofun
    · exact hk
  by_cases hl : s.lateArm g time
  · rw [applyArm_of_late hl]
    have htap (u : State) : (raise (.lateArm g rackSeq time) (u.onOrderCounters fun c => { c with lateArms := countUp c.lateArms })).tap k = u.tap k := rfl
    rw [htap, startDue_tap]
    unfold Tap.due
    split
    · exact nofun
    · exact harmed
  · rw [applyArm_of_timely hl]
    exact harmed

theorem TapRests.stands {k k' : Tap} (h : TapRests k k') (hk : k.state ≠ .draining) : k'.state = k.state :=
  h.state.resolve_right fun j => hk j.1

theorem TapRests.record {k k' : Tap} (h : TapRests k k') : k'.armTime = k.armTime ∧ k'.r = k.r ∧ k'.x = k.x ∧ k'.passesDone = k.passesDone := by
  rw [h.parts]
  exact ⟨rfl, rfl, rfl, rfl⟩

/-- R165: a Rack Arm that arrives, its event concluded. -/
theorem rackArm_concluded (s : State) (p : Port) (h : Header) (b : RackOrderBody) (master : FrameNo) (hn : s.newOrder o b.seq = true)
    (hd : d = .rackArm g time) (hc : OrderConcluded s (s.orderTaken p h b master o d) t) :
    (∀ k, s.arms g k = true → ¬ s.lateArm g time → (t.tap k).state = .armed ∧ (t.tap k).armTime = time) ∧
    (∀ k, s.arms g k = true → s.lateArm g time → (t.tap k).state = .running ∧ (t.tap k).r = 0 ∧ (t.tap k).x = 0 ∧ (t.tap k).passesDone = 0) ∧
    t.orders.counters.skippedTaps = raisedBy (eight.filter (s.skips g)).length s.orders.counters.skippedTaps ∧
    (s.lateArm g time → t.orders.counters.lateArms = countUp s.orders.counters.lateArms) ∧
    (¬ s.lateArm g time → t.orders.counters.lateArms = s.orders.counters.lateArms) ∧
    (s.orders.pending = [] → s.roster.phase = .none → (∀ k, (s.tap k).state ≠ .draining) → s.upPortNow = s.clock.upPort →
      (s.lateArm g time → t.reporter = (raise (.rackApplied o d b.seq b.rackSeq.toNat)
        (raise (.lateArm g b.rackSeq.toNat time) s)).reporter) ∧
      (¬ s.lateArm g time → t.reporter = (raise (.rackApplied o d b.seq b.rackSeq.toNat) s).reporter)) := by
  subst hd
  have htaken := orderTaken_new s p h b master (.rackArm g time) hn
  have hbelief := orderTaken_belief s p h b master (.rackArm g time) hn nofun
  obtain ⟨r, v, hv, hrtaps, hrclock, hrreporter, hrown, hrskipped, hrlate, hxtaps, hxclock, hxcounters, hxreporter⟩ :=
    orderTaken_directed s p h b master (.rackArm g time) hn
  generalize s.orderTaken p h b master o (.rackArm g time) = x at *
  rw [applyDirective_arm] at hv
  have hrtap (k : TapNo) : r.tap k = s.tap k := by rw [State.tap, hrtaps]; rfl
  have harms (k : TapNo) : r.arms g k = s.arms g k := by
    unfold State.arms State.away
    rw [hrtap, hrown]
  have hskips : eight.filter (r.skips g) = eight.filter (s.skips g) := List.filter_congr fun k _ => by
    unfold State.skips
    rw [hrtap, harms]
  have hlate : r.lateArm g time ↔ s.lateArm g time := by
    unfold State.lateArm
    simp only [harms, hrclock]
  have hxtap (k : TapNo) : x.tap k = v.tap k := by rw [State.tap, hxtaps]; rfl
  have htap (k : TapNo) : TapRests (v.tap k) (t.tap k) := hxtap k ▸ hc.taps k
  have hcounters : t.orders.counters = v.orders.counters := by rw [hc.orders, hxcounters]
  have hdraining (k : TapNo) (hk : (s.tap k).state ≠ .draining) : (x.tap k).state ≠ .draining := by
    rw [hxtap, hv]
    exact applyArm_draining (by rw [hrtap]; exact hk)
  have hreports (hvc : v.clock = r.clock) (hp : s.orders.pending = []) (hphase : s.roster.phase = .none)
      (hk : ∀ k, (s.tap k).state ≠ .draining) (hup : s.upPortNow = s.clock.upPort) :
      t.reporter = (raise (.rackApplied o (.rackArm g time) b.seq b.rackSeq.toNat) v).reporter := by
    have hclock : x.clock = s.clock := by rw [hxclock, hvc, hrclock]
    have hupx : x.upPortNow = x.clock.upPort := by
      rw [hclock, ← hup, State.upPortNow, hbelief]
      exact upPortFor_congr htaken.own htaken.entry _
    rw [hc.quiet hp (.of_none (by rw [htaken.roster]; exact hphase)) (fun k => hdraining k (hk k)) hupx]
    exact hxreporter hp
  have hraise {u : State} (hu : v.reporter = u.reporter) (hclock : v.clock = u.clock) :
      (raise (.rackApplied o (.rackArm g time) b.seq b.rackSeq.toNat) v).reporter =
        (raise (.rackApplied o (.rackArm g time) b.seq b.rackSeq.toNat) u).reporter :=
    raise_reporter _ hu (by unfold State.stamp; rw [hclock])
  by_cases hl : s.lateArm g time
  · obtain ⟨h1, h2, h3, h4, h5⟩ := applyArm_late (hlate.mpr hl) hv
    have hraised : (raise (.lateArm g b.rackSeq.toNat time) r).reporter = (raise (.lateArm g b.rackSeq.toNat time) s).reporter :=
      raise_reporter _ hrreporter (by unfold State.stamp; rw [hrclock])
    refine ⟨fun k hk hno => absurd hl hno, fun k hk _ => ?_, ?_, fun _ => ?_, fun hno => absurd hl hno, fun hp hphase hk hup =>
      ⟨fun _ => ?_, fun hno => absurd hl hno⟩⟩
    · obtain ⟨hs, hr, hx, hpasses⟩ := h1 k ((harms k).trans hk)
      obtain ⟨-, jr, jx, jpasses⟩ := (htap k).record
      exact ⟨((htap k).stands (by rw [hs]; exact nofun)).trans hs, jr.trans hr, jx.trans hx, jpasses.trans hpasses⟩
    · rw [hcounters, h2, hskips, hrskipped]
    · rw [hcounters, h3, hrlate]
    · exact (hreports h5 hp hphase hk hup).trans (hraise (h4.trans hraised) (h5.trans hrclock))
  · obtain ⟨h1, h2, h3, h4, h5⟩ := applyArm_timely (mt hlate.mp hl) hv
    refine ⟨fun k hk _ => ?_, fun k _ hyes => absurd hyes hl, ?_, fun hyes => absurd hyes hl, fun _ => ?_, fun hp hphase hk hup =>
      ⟨fun hyes => absurd hyes hl, fun _ => ?_⟩⟩
    · obtain ⟨hs, ha⟩ := h1 k ((harms k).trans hk)
      exact ⟨((htap k).stands (by rw [hs]; exact nofun)).trans hs, (htap k).record.1.trans ha⟩
    · rw [hcounters, h2, hskips, hrskipped]
    · rw [hcounters, h3, hrlate]
    · exact (hreports h5 hp hphase hk hup).trans (hraise (h4.trans hrreporter) (h5.trans hrclock))

/-- R166: a Rack Halt that arrives, its event concluded. -/
theorem rackHalt_concluded (s : State) (p : Port) (h : Header) (b : RackOrderBody) (master : FrameNo) (hn : s.newOrder o b.seq = true)
    (hd : d = .rackHalt g) (hc : OrderConcluded s (s.orderTaken p h b master o d) t) (hg : (s.tap k).armGroup = g) :
    (t.tap k).state ≠ .armed ∧ (t.tap k).state ≠ .running := by
  subst hd
  obtain ⟨r, v, hv, hrtaps, -, -, -, -, -, hxtaps, -⟩ := orderTaken_directed s p h b master (.rackHalt g) hn
  have hrest := hc.taps k
  generalize s.orderTaken p h b master o (.rackHalt g) = x at *
  rw [applyDirective_halt] at hv
  have hrtap : r.tap k = s.tap k := by rw [State.tap, hrtaps]; rfl
  have hxtap : x.tap k = v.tap k := by rw [State.tap, hxtaps]; rfl
  have hstate := haltTaps_state (g := g) eight_nodup r (mem_eight k) (by rw [hrtap]; exact hg)
  rw [hxtap, hv] at hrest
  rcases hrest.state with hs | ⟨-, hs⟩
  · rw [hs]
    exact hstate
  · rw [hs]
    exact ⟨nofun, nofun⟩

/-! ### An own claim that is pending where an order makes the part master (R169) -/

section claimed
variable {tag q : Word16} {st : PendingStatus}

/-- R161, R169: the pending claim is ordered at once. -/
theorem claimed_ordered (hx : OrderTaken s b master o x) (hne : o ≠ s.own) (hxb : x.roster.belief = some s.own) (hb : s.roster.belief ≠ some s.own)
    (hp : s.orders.pending = [⟨q, .masterClaim f, tag, st⟩]) (hc : s.candidate f = true) (hq : s.newOrder s.own q = true) :
    resubmit s x = order s.own q (.masterClaim f) x ∧ IsOrdered s.own q (.masterClaim f) x (resubmit s x) := by
  have hpending : x.orders.pending = [⟨q, .masterClaim f, tag, st⟩] := by
    rw [hx.orders]
    exact (if_neg hne).trans hp
  have hcandidate : x.candidate f = true := by
    have hfield : SameField s x := ⟨hx.own, by rw [hx.roster], by rw [hx.roster], by rw [hx.roster]⟩
    exact candidate_iff.mpr ((hfield.isCandidate f).mpr (candidate_iff.mp hc))
  have hnew : x.newOrder s.own q = true := by
    have happlied : x.orders.applied[s.own] = s.orders.applied[s.own] := by
      rw [hx.orders]
      exact Vector.getElem_set_ne o.isLt s.own.isLt (fun k => hne (Fin.ext k))
    unfold State.newOrder at hq ⊢
    rw [happlied]
    exact hq
  have hdeal : dealEntry x ⟨q, .masterClaim f, tag, st⟩ = order s.own q (.masterClaim f) x := by
    unfold dealEntry
    simp only [hxb]
    rw [if_pos hx.own.symm]
    unfold orderOwn
    rw [hx.own]
    exact if_pos hcandidate
  have hresubmit : resubmit s x = order s.own q (.masterClaim f) x := by
    unfold resubmit
    rw [if_neg (by rw [hxb]; exact hb), hpending]
    exact hdeal
  exact ⟨hresubmit, hresubmit ▸ isOrdered_order hnew⟩

/-- R93, R161, R169: the claim's order, and the Roster Update of the belief that it changes, its event concluded. -/
theorem claimed_concluded (hx : OrderTaken s b master o x) (hne : o ≠ s.own) (hxb : x.roster.belief = some s.own) (hb : s.roster.belief ≠ some s.own)
    (hp : s.orders.pending = [⟨q, .masterClaim f, tag, st⟩]) (hc : s.candidate f = true) (hq : s.newOrder s.own q = true) (hf : f ≠ s.own)
    (hactive : s.roster.ownState = .active) (hphase : s.roster.phase = .none) (ht : t = concludeOrder s x) :
    t.roster.belief = some f ∧ t.orders.pending = [] ∧ t.orders.applied[s.own] = some q ∧
      (∀ k, t.joined k = true → PortSends (queued (queued (s.control k) (t.ownFrame (.rackOrder ⟨s.link.broadcastSeq,
        BitVec.ofNat 32 s.orders.nextRackSeq, eightByte s.own, q, (RackDirective.masterClaim f).block⟩)))
        (t.updateFrame (s.link.broadcastSeq + 1) k)) k s t) ∧
      ((∃ k, t.joined k = true) → t.link.broadcastSeq = s.link.broadcastSeq + 2 ∧ t.roster.refreshTimer = some 25000000) := by
  obtain ⟨-, hy⟩ := claimed_ordered hx hne hxb hb hp hc hq
  obtain ⟨bf, heq, hbf⟩ := concludeOrder_eq s x
  rw [heq] at ht
  have hevent := hy.told hx.told
  generalize resubmit s x = y at *
  have hbelief : y.roster.belief = some f := hy.claims f rfl (.inl (by rw [hx.own]; exact hf))
  have hnoted := notedConcluded bf y
  rw [← ht] at hnoted
  have hyphase : y.roster.phase = .none := by rw [hy.roster, hx.roster]; exact hphase
  have hwaiting : y.waiting := .of_none hyphase
  have hconcludes := hnoted.told hwaiting
  have hadv : ShowsAs y (advance y) := by
    rw [advance_of_waiting hwaiting]
    exact .of_roster (settleTaps_only y).own (settleTaps_only y).roster
  have hchanged : (advance y).view ≠ bf.view := by
    rw [hadv.view]
    rcases hbf with ⟨-, rfl⟩ | ⟨hv, rfl⟩
    · intro k
      have : y.roster.belief = bf.roster.belief := congrArg RosterView.belief k
      rw [hbelief, hxb] at this
      exact hf (Option.some.inj this)
    · exact hv
  have hshows : ShowsAs y t := hadv.trans hconcludes.shows
  have hrackSeq : x.orders.nextRackSeq = s.orders.nextRackSeq := by rw [hx.orders]
  have hseq (hj : y.anyJoined = true) : y.link.broadcastSeq = s.link.broadcastSeq + 1 := by
    rw [hevent.seq, if_pos hj]
    rfl
  have hown : y.own = s.own := hevent.own
  refine ⟨hnoted.belief.trans hbelief, ?_, ?_, fun k hk => ?_, fun hany => ?_⟩
  · rw [hnoted.orders, hy.orders]
    have hpending : x.orders.pending = [⟨q, .masterClaim f, tag, st⟩] := by
      rw [hx.orders]
      exact (if_neg hne).trans hp
    change (if s.own = x.own then completed q x.orders.pending else x.orders.pending) = []
    rw [if_pos hx.own.symm, hpending]
    exact completed_single ⟨q, .masterClaim f, tag, st⟩
  · rw [hnoted.orders, hy.orders]
    exact Vector.getElem_set_self ..
  · have hj : y.joined k = true := (hconcludes.joined k).symm.trans hk
    have hsend := hconcludes.sends k hj
    rw [if_neg hchanged, hevent.control k hj, hseq (anyJoined_iff.mpr ⟨k, hj⟩), ← hconcludes.shows.updateFrame] at hsend
    have hframes : eventFrames [orderBody x s.own q (.masterClaim f)] [] s y k = [t.ownFrame (.rackOrder ⟨s.link.broadcastSeq,
        BitVec.ofNat 32 s.orders.nextRackSeq, eightByte s.own, q, (RackDirective.masterClaim f).block⟩)] := by
      have hframe : y.ownFrame = t.ownFrame := funext fun c => (ownFrame_congr hshows.own c).symm
      unfold orderBody
      simp only [eventFrames, List.mapIdx_cons, List.mapIdx_nil, List.filterMap_nil, List.append_nil, hframe, hrackSeq]
      rw [show s.link.broadcastSeq + BitVec.ofNat 16 0 = s.link.broadcastSeq from BitVec.add_zero _]
    rw [hframes] at hsend
    exact hsend.congr ⟨(hevent.sending k hj).1.symm, (hevent.sending k hj).2⟩ rfl
  · have hj : y.anyJoined = true := anyJoined_iff.mpr (by simpa only [hconcludes.joined] using hany)
    have hstate : t.roster.ownState = .active := by rw [hshows.ownState, hy.roster, hx.roster]; exact hactive
    have hruns : t.refreshRuns = true := by
      rw [State.refreshRuns, hstate, anyJoined_iff.mpr hany]
      rfl
    have htphase : t.roster.phase = .none := hshows.phase.trans hyphase
    refine ⟨?_, ?_⟩
    · rw [hconcludes.seq, if_pos ⟨hchanged, hj⟩, hseq hj, BitVec.add_assoc]
      rfl
    · rw [hconcludes.refresh hchanged, if_pos hruns, State.refreshPeriod, htphase]
      rfl

end claimed

/-- R163: an order that is not new, its event concluded. -/
theorem oldOrder_concluded (p : Port) (h : Header) (master : FrameNo) (d : RackDirective) (hn : s.newOrder o b.seq = false)
    (ht : t = concludeOrder s (s.orderTaken p h b master o d)) : t.orders.applied = s.orders.applied ∧
      t.orders.counters.duplicates = min (s.orders.counters.duplicates + 1) (2 ^ 32 - 1) ∧ t.orders.pending = s.orders.pending ∧
      t.roster.belief = s.roster.belief := by
  have hx : s.orderTaken p h b master o d = countDuplicate (s.relayed p h b master) :=
    applyOrder_of_old _ ((relayed_newOrder s p h b master o b.seq).trans hn)
  have hroster := relayed_roster s p h b master
  obtain ⟨-, -, horders, -⟩ := relayed_parts s p h b master
  rw [hx] at ht
  generalize s.relayed p h b master = w at *
  have hbelief : s.roster.belief = (countDuplicate w).roster.belief := by
    change _ = w.roster.belief
    rw [hroster]
  have hsteady := steady_concludeOrder hbelief
  rw [← ht] at hsteady
  have hcount : (countDuplicate w).orders = { s.orders with counters := { s.orders.counters with
      duplicates := countUp s.orders.counters.duplicates } } := by
    rw [← horders]
    rfl
  refine ⟨?_, ?_, ?_, hsteady.belief.trans hbelief.symm⟩ <;> rw [hsteady.orders, hcount]
  rfl

/-- R76: the copy of a Rack Order that goes on, its event concluded. -/
theorem relayedOrder_concluded (p : Port) (h : Header) (b : RackOrderBody) (master o : FrameNo) (d : RackDirective)
    (hj : s.joined (otherPort p) = true) (hbusy : (s.port (otherPort p)).inTransmission.isSome = true)
    (ht : t = concludeOrder s (s.orderTaken p h b master o d)) : (t.port (otherPort p)).relay =
      if h.hops.toNat < 7 ∧ (s.port (otherPort p)).relay.length < 64
      then (s.port (otherPort p)).relay ++ [⟨⟨h.origin, h.hops + 1⟩, .rackOrder b⟩] else (s.port (otherPort p)).relay := by
  have hlink : (s.orderTaken p h b master o d).link = (s.relayed p h b master).link := by
    cases hn : (s.relayed p h b master).newOrder o b.seq with
    | true => exact (applied_applyOrder (rackSeq := b.rackSeq.toNat) (master := master) (d := d) _ hn).link
    | false =>
      have hold : s.orderTaken p h b master o d = countDuplicate (s.relayed p h b master) := applyOrder_of_old _ hn
      rw [hold]
      rfl
  have hport : (s.orderTaken p h b master o d).port (otherPort p) = (s.relayed p h b master).port (otherPort p) := by
    rw [State.port, hlink]
    rfl
  have hsent : ((s.relayed p h b master).port (otherPort p)).inTransmission = (s.port (otherPort p)).inTransmission :=
    (listed_port s p ⟨h, .rackOrder b⟩ master b.broadcastSeq false (otherPort p)).2.2.1
  have hrelay := listed_relay s p ⟨h, .rackOrder b⟩ master b.broadcastSeq false hj
  have hrests := rests_concludeOrder s (s.orderTaken p h b master o d)
  rw [← ht] at hrests
  rw [(hrests.ports.sending (otherPort p) (by rw [hport, hsent]; exact hbusy)).2, hport]
  exact hrelay

/-- R75: a Rack Order heard again, its event concluded. -/
theorem repeatedOrder_concluded (p : Port) (s : State)
    (ht : t = concludeOrder s ((s.heard p).onPortCounters p fun c => { c with duplicates := countUp c.duplicates })) :
    t.orders = { s.orders with resendTimer := t.orders.resendTimer } ∧
      (t.port p).counters.duplicates = min ((s.port p).counters.duplicates + 1) (2 ^ 32 - 1) := by
  have hsettled := settled_concludeOrder s ((s.heard p).onPortCounters p fun c => { c with duplicates := countUp c.duplicates })
  have hsteady := steady_concludeOrder (before := s) (s := (s.heard p).onPortCounters p fun c => { c with duplicates := countUp c.duplicates }) rfl
  rw [← ht] at hsettled hsteady
  obtain ⟨-, -, hcounters, -⟩ := counted_concluded hsettled
  refine ⟨hsteady.orders, (congrArg PortCounters.duplicates hcounters).trans ?_⟩
  rw [heard_port]
  rfl

/-- R167: the pending list that an order leaves. -/
theorem completed_seqs (seq : Word16) (l : List PendingEntry) : (completed seq l).map PendingEntry.seq =
    if (l.takeWhile fun k => k.seq != seq).length < l.length then (l.drop ((l.takeWhile fun k => k.seq != seq).length + 1)).map PendingEntry.seq
    else l.map PendingEntry.seq := by
  have hwhile : (l.takeWhile fun k => decide (k.seq ≠ seq)) = l.takeWhile fun k => k.seq != seq := by
    congr 1
    funext k
    simp [bne, Bool.beq_eq_decide_eq]
  unfold completed
  rw [hwhile]
  split <;> rfl

/-- R163, R167: the applied table, the counts and the pending list that a new order leaves. -/
theorem newOrder_concluded (hx : OrderTaken s b master o x) (hc : OrderConcluded s x t) :
    t.orders.applied = s.orders.applied.set o (some b.seq) ∧ t.orders.lastOrder = some (b.rackSeq.toNat, master) ∧
    t.orders.counters.applied = min (s.orders.counters.applied + 1) (2 ^ 32 - 1) ∧
    t.orders.pending.map PendingEntry.seq =
      (if o = s.own ∧ (s.orders.pending.takeWhile fun k => k.seq != b.seq).length < s.orders.pending.length
        then (s.orders.pending.drop ((s.orders.pending.takeWhile fun k => k.seq != b.seq).length + 1)).map PendingEntry.seq
        else s.orders.pending.map PendingEntry.seq) := by
  have hpending : x.orders.pending = if o = s.own then completed b.seq s.orders.pending else s.orders.pending := by rw [hx.orders]
  refine ⟨by rw [hc.orders, hx.orders], by rw [hc.orders, hx.orders], ?_, ?_⟩
  · rw [hc.orders, hx.orders]
    rfl
  · rw [hc.seqs, hpending]
    by_cases ho : o = s.own
    · rw [if_pos ho, completed_seqs]
      exact if_congr (by simp [ho]) rfl rfl
    · rw [if_neg ho, if_neg fun k => ho k.1]

/-- Settles O56: by the list of broadcasts, by the applied table, and by what is pending. -/
theorem rackOrdersApplyOnce : Obligations.RackOrdersApplyOnce := by
  refine ⟨newOrder_iff, fun s p h b hp ho => ownDiscarded rfl hp ho trivial, fun s p h b master o d hp ho hne hb hd => ?_⟩
  have hexec (hl : (master, b.broadcastSeq) ∉ s.roster.recent) := exec_rackOrder_new hp ho hne hl hb hd
  intro c r older one
  refine ⟨fun hl => ⟨_, exec_rackOrder_again hp ho hne hl, repeatedOrder_concluded p s rfl⟩,
    fun hl hj hbusy => ⟨_, hexec hl, relayedOrder_concluded p h b master o d hj hbusy rfl⟩,
    fun hl hn => ⟨_, hexec hl, oldOrder_concluded p h master d hn rfl⟩, fun hl hn hclaim => ⟨_, hexec hl, ?_⟩,
    fun q f tag st hl hn hown hd hactive hbelief hphase hpending hf hcandidate hq => ⟨_, hexec hl, ?_⟩⟩
  · have hx := orderTaken_new s p h b master d hn
    obtain ⟨hreq, hsame⟩ := orderTaken_requested s p h b master d hn hclaim
    have hclaims (f : FrameNo) (hd : d = .masterClaim f) := hd ▸ orderTaken_claims s p h b master (f := f) hn
    have harm (g : Fin 16) (time : TimeValue) (t : State) := rackArm_concluded (g := g) (time := time) (t := t) s p h b master hn (d := d)
    have hhalt (g : Fin 16) (k : TapNo) (t : State) := rackHalt_concluded (g := g) (k := k) (t := t) s p h b master hn (d := d)
    have hc := orderConcluded hx hreq hsame
    generalize concludeOrder s (s.orderTaken p h b master o d) = t at *
    generalize s.orderTaken p h b master o d = x at *
    obtain ⟨happlied, hlast, hcount, hpending⟩ := newOrder_concluded hx hc
    refine ⟨happlied ▸ Vector.getElem_set_self .., fun f hf => ?_, hlast, hcount, hpending, fun f hd hf => hc.belief.trans (hclaims f hd hf),
      fun g time k hd hidle hg haway htime => ?_, fun g k hd => hhalt g k t hd hc, fun g time hd => ?_, hc.told⟩
    · rw [happlied]
      exact Vector.getElem_set_ne o.isLt f.isLt fun k => hf (Fin.ext k).symm
    · obtain ⟨htimely, -⟩ := harm g time t hd hc
      exact htimely k (by simp [State.arms, Tap.inGroup, hidle, hg, haway]) fun k => absurd k.2 (Nat.not_le.mpr htime)
    · obtain ⟨-, hruns, hskipped, hlate, hnolate, hreports⟩ := harm g time t hd hc
      intro ofGroup arms skipped late
      refine ⟨hskipped, ?_, fun hl k hk => hruns k hk hl, fun hp hphase hk hup => ?_⟩
      · split
        · next hl => exact hlate hl
        · next hl => exact hnolate hl
      · obtain ⟨hl, hno⟩ := hreports hp hphase hk hup
        split
        · next k => exact hl k
        · next k => exact hno k
  · subst hd
    have hx := orderTaken_new s p h b master (.masterClaim s.own) hn
    have hmaster := orderTaken_claims s p h b master (f := s.own) hn (.inr hactive)
    generalize s.orderTaken p h b master o (.masterClaim s.own) = x at *
    exact claimed_concluded hx hown hmaster hbelief hpending hcandidate hq hf hactive hphase rfl

end Sys2Proof.Machine

/-! PROOFS. Restart Part (R188): what it makes of each block, the frames that it places (R64, R93), and the first of them sent. -/

namespace Sys2Proof.Machine
variable {s t u v w x before : State} {p q : Port} {f : FrameNo} {tag : Word16}

/-! ### Events raised -/

/-- What raising events moves: the event list, its count and the attention line. -/
def Raised (s u : State) : Prop := u = { s with reporter := { s.reporter with
  events := u.reporter.events, eventCount := u.reporter.eventCount, attention := u.reporter.attention } }

namespace Raised

theorem refl (s : State) : Raised s s := rfl

theorem trans (h : Raised s t) (k : Raised t u) : Raised s u := by
  unfold Raised at h k ⊢
  rw [k, h]

theorem raise (info : EventInfo) (s : State) : Raised s (raise info s) := rfl

theorem ite {c : Prop} [Decidable c] (h : Raised s t) (k : Raised s u) : Raised s (if c then t else u) := by
  split
  · exact h
  · exact k

theorem foldl {α : Type} {g : State → α → State} (h : ∀ s a, Raised s (g s a)) (l : List α) (s : State) : Raised s (l.foldl g s) := by
  induction l generalizing s with
  | nil => exact .refl s
  | cons a l ih => exact (h s a).trans (ih _)

theorem own (h : Raised s u) : u.own = s.own := by
  unfold Raised at h
  rw [h]
  rfl

end Raised

theorem raised_notifyFrame (before s : State) (f : FrameNo) : Raised s (notifyFrame before s f) := by
  have hfirst (c : Prop) [Decidable c] (i : EventInfo) : Raised s (if c then raise i s else s) := .ite (.raise ..) (.refl s)
  unfold notifyFrame
  exact .ite (hfirst ..) ((hfirst ..).trans (.raise ..))

/-! ### The blocks restarted (R21, R59, R87, R89, R136, R157, R171, R188) -/

/-- The part once every block has restarted and the directive has its Done. -/
def State.restarted (s : State) (tag : Word16) : State :=
  requestWrite (restartBlocks s).roster.heldCount (postResult tag 0x5A .done (restartBlocks s))

/-- What of a restarted part stands, whatever it raises and believes. -/
structure Restarted (tag : Word16) (s u : State) : Prop where
  parts : u = { restartBlocks s with
    roster := { (restartBlocks s).roster with belief := u.roster.belief }, clock := u.clock, reporter := u.reporter }
  taken : u.reporter.directivesTaken = 1
  posted : u.reporter.resultsPosted = 1 ∧ u.reporter.results[(0 : Fin 16)] = some ⟨1, tag, 0x5A, .done⟩
  straps : u.reporter.straps = s.reporter.straps
  clock : u.clock.time = s.clock.time ∧ u.clock.settings = s.clock.settings ∧ u.clock.exchangeTimer = s.clock.exchangeTimer ∧ u.clock.upPort = none

theorem restarted_posted (tag : Word16) (s : State) : Restarted tag s (postResult tag 0x5A .done (restartBlocks s)) :=
  ⟨rfl, rfl, ⟨rfl, Vector.getElem_set_self ..⟩, rfl, ⟨rfl, rfl, rfl, rfl⟩⟩

theorem requestWrite_only (n : Word16) (u : State) : requestWrite n u = { u with reporter := { u.reporter with
    writeInProgress := (requestWrite n u).reporter.writeInProgress, writeWaiting := (requestWrite n u).reporter.writeWaiting } } := by
  unfold requestWrite State.onReporter
  split
  · rfl
  · dsimp only
    split <;> rfl

theorem Restarted.of_report (h : Restarted tag s u) (hv : v = { u with reporter := v.reporter })
    (ht : v.reporter.directivesTaken = u.reporter.directivesTaken) (hp : v.reporter.resultsPosted = u.reporter.resultsPosted)
    (hr : v.reporter.results = u.reporter.results) (hs : v.reporter.straps = u.reporter.straps) : Restarted tag s v := by
  obtain ⟨hparts, htaken, hposted, hstraps, hclock⟩ := h
  have hroster : v.roster = u.roster := by rw [hv]
  have hvclock : v.clock = u.clock := by rw [hv]
  refine ⟨?_, ht.trans htaken, by rw [hp, hr]; exact hposted, hs.trans hstraps, by rw [hvclock]; exact hclock⟩
  rw [hroster, hvclock]
  exact hv.trans (congrArg (fun x : State => { x with reporter := v.reporter }) hparts)

theorem restarted_restarted (tag : Word16) (s : State) : Restarted tag s (s.restarted tag) := by
  have h := restarted_posted tag s
  unfold State.restarted
  generalize postResult tag 0x5A .done (restartBlocks s) = u at h
  have hwrite := requestWrite_only (restartBlocks s).roster.heldCount u
  generalize requestWrite (restartBlocks s).roster.heldCount u = v at hwrite
  refine h.of_report ?_ ?_ ?_ ?_ ?_ <;> rw [hwrite]

theorem Restarted.raised (h : Restarted tag s u) (k : Raised u v) : Restarted tag s v := by
  unfold Raised at k
  refine h.of_report ?_ ?_ ?_ ?_ ?_ <;> rw [k]

theorem Restarted.own (h : Restarted tag s u) : u.own = s.own := congrArg Straps.frame h.straps

theorem Restarted.entry (h : Restarted tag s u) (f : FrameNo) : u.entry f = RosterEntry.absent := by
  rw [State.entry, h.parts]
  exact Vector.getElem_replicate ..

/-- R110: the election of an Active part alone in its roster. -/
theorem find_candidate_alone (ha : u.roster.ownState = .active) (he : ∀ f, u.entry f = RosterEntry.absent) :
    eight.find? u.candidate = if u.roster.masterCapable then some u.own else none := by
  have hcandidate (f : FrameNo) : u.isCandidate f ↔ f = u.own ∧ u.roster.masterCapable = true := by
    unfold State.isCandidate
    split
    · next hf => simp [hf, ha]
    · next hf => simp [hf, he, RosterEntry.absent]
  have hfound := elects_found u
  generalize eight.find? u.candidate = b at hfound
  cases b with
  | none => rw [if_neg fun k => hfound u.own ((hcandidate _).mpr ⟨rfl, k⟩)]
  | some f =>
    obtain ⟨hf, hm⟩ := (hcandidate f).mp hfound.1
    rw [if_pos hm, hf]

/-- R110, R113: the election of a restart, that of the own frame where it is master-capable. -/
theorem restarted_elect (h : Restarted tag s u) (hb : u.roster.belief = none) : Restarted tag s (electIfNone u) ∧
    (electIfNone u).clock = u.clock ∧ (electIfNone u).roster.belief = if s.roster.masterCapable then some s.own else none := by
  have hstate : u.roster.ownState = .active ∧ u.roster.masterCapable = s.roster.masterCapable := by
    rw [h.parts]
    exact ⟨rfl, rfl⟩
  have hfound := find_candidate_alone hstate.1 h.entry
  rw [hstate.2, h.own] at hfound
  have helect : electIfNone u = u.onRoster fun r => { r with belief := eight.find? u.candidate } := if_pos hb
  rw [helect]
  generalize eight.find? u.candidate = b at hfound
  obtain ⟨hparts, htaken, hposted, hstraps, hclock⟩ := h
  exact ⟨⟨congrArg (fun x : State => x.onRoster fun r => { r with belief := b }) hparts, htaken, hposted, hstraps, hclock⟩, rfl, hfound⟩

/-- R131, R136: the mastership that the election of a restart brings. -/
theorem restarted_follow (h : Restarted tag s u) (hl : u.clock.lock = .freeRun)
    (hb : u.roster.belief = if s.roster.masterCapable then some s.own else none) :
    let v := followMaster none u.roster.belief u
    Restarted tag s v ∧ v.roster.belief = u.roster.belief ∧ v.clock.lock = if s.roster.masterCapable then .master else .freeRun := by
  intro v
  by_cases hm : s.roster.masterCapable = true
  · rw [if_pos hm] at hb
    have hv : v = raise (.lockStateChanged u.own .master u.clock.lock) { u with clock := u.clock.toMaster } := by
      change followMaster none u.roster.belief u = _
      rw [hb, ← h.own, followMaster_to_master (former := none) (s := u) nofun, changeLock_becomes]
      exact if_neg (by rw [hl]; exact nofun)
    rw [hv, if_pos hm]
    refine ⟨?_, rfl, rfl⟩
    obtain ⟨hparts, htaken, hposted, hstraps, htime, hsettings, htimer, -⟩ := h
    have hclock : Restarted tag s { u with clock := u.clock.toMaster } :=
      ⟨congrArg (fun x : State => { x with clock := u.clock.toMaster }) hparts, htaken, hposted, hstraps, ⟨htime, hsettings, htimer, rfl⟩⟩
    exact hclock.raised (.raise ..)
  · rw [if_neg hm] at hb
    obtain ⟨-, -, -, -, -, -, -, hup⟩ := id h
    have hv : v = u := by
      change followMaster none u.roster.belief u = u
      rw [hb]
      exact followMaster_idle hup.symm
    rw [hv, if_neg hm]
    exact ⟨h, rfl, hl⟩

/-- The part when a restart has raised its events. -/
def State.restartTold (s : State) (tag : Word16) : State := notifyRestart s (electIfNone (s.restarted tag))

theorem restarted_told (tag : Word16) (s : State) : Restarted tag s (s.restartTold tag) ∧
    (s.restartTold tag).roster.belief = (if s.roster.masterCapable then some s.own else none) ∧
    (s.restartTold tag).clock.lock = if s.roster.masterCapable then .master else .freeRun := by
  have hrestarted := restarted_restarted tag s
  have hnone : (s.restarted tag).roster.belief = none ∧ (s.restarted tag).clock.lock = .freeRun := by
    unfold State.restarted requestWrite State.onReporter
    split_ifs <;> exact ⟨rfl, rfl⟩
  unfold State.restartTold
  generalize s.restarted tag = r at hrestarted hnone
  obtain ⟨helected, hclock, hbelief⟩ := restarted_elect hrestarted hnone.1
  generalize electIfNone r = e at helected hclock hbelief
  have hraised : Raised e (notifyRestartBelief s (notifyOwn s (e.others.foldl (notifyFrame s) (notifyFreeRun s e)))) := by
    have hfree : Raised e (notifyFreeRun s e) := .ite (.refl e) (.raise ..)
    have hframes := hfree.trans (.foldl (raised_notifyFrame s) e.others _)
    have hown (u : State) : Raised u (notifyOwn s u) := .ite (.refl u) (.raise ..)
    have hbelief (u : State) : Raised u (notifyRestartBelief s u) := .ite (.refl u) (.raise ..)
    exact (hframes.trans (hown _)).trans (hbelief _)
  change Restarted tag s (followMaster none e.roster.belief _) ∧ _
  unfold notifyRestart
  dsimp only
  generalize notifyRestartBelief s (notifyOwn s (e.others.foldl (notifyFrame s) (notifyFreeRun s e))) = u at hraised
  have hu := helected.raised hraised
  have hroster : u.roster = e.roster := by
    unfold Raised at hraised
    rw [hraised]
  have hlock : u.clock = e.clock := by
    unfold Raised at hraised
    rw [hraised]
  have hub : u.roster.belief = if s.roster.masterCapable then some s.own else none := by rw [hroster, hbelief]
  have hfollow := restarted_follow hu (by rw [hlock, hclock]; exact hnone.2) hub
  rw [hroster] at hfollow
  exact ⟨hfollow.1, hfollow.2.1.trans hbelief, hfollow.2.2⟩

/-! ### The frames of a restart (R64, R87, R93) -/

theorem helloIfUp_eq (p : Port) (u : State) : helloIfUp p u =
    if (u.port p).state = .joined ∨ (u.port p).state = .linked then placeHello p u else u := by
  unfold helloIfUp
  split <;> next h => simp [h]

theorem helloIfUp_only (p : Port) (u : State) : OnlyLinks u (helloIfUp p u) := by
  rw [helloIfUp_eq, placeHello_eq]
  unfold OnlyLinks
  split_ifs <;> rfl

theorem helloIfUp_self (p : Port) (u : State) : (helloIfUp p u).port p = if (u.port p).state = .joined ∨ (u.port p).state = .linked
    then (u.port p).queueing (placedFirst (u.helloFrame p) (u.control p)) else u.port p := by
  rw [helloIfUp_eq, placeHello_eq]
  split
  · exact onPort_self ..
  · rfl

theorem helloIfUp_other (p : Port) (u : State) : (helloIfUp p u).port (otherPort p) = u.port (otherPort p) := by
  rw [helloIfUp_eq, placeHello_eq]
  split
  · exact onPort_other ..
  · rfl

theorem helloIfUp_numbers (p : Port) (u : State) : (helloIfUp p u).link.broadcastSeq = u.link.broadcastSeq ∧
    (helloIfUp p u).link.unsentOwn = u.link.unsentOwn := by
  rw [helloIfUp_eq, placeHello_eq]
  split <;> exact ⟨rfl, rfl⟩

theorem OnlyLinks.shows (h : OnlyLinks s u) : ShowsAs s u := by
  unfold OnlyLinks at h
  rw [h]
  exact .of_roster rfl rfl

theorem OnlyLinks.trans (h : OnlyLinks s t) (k : OnlyLinks t u) : OnlyLinks s u := by
  unfold OnlyLinks at h k ⊢
  rw [k, h]

theorem ShowsAs.helloFrame (h : ShowsAs s u) (p : Port) : u.helloFrame p = s.helloFrame p := by
  unfold State.helloFrame State.ownHeader
  rw [h.vector, h.own]

/-- The part when a restart has placed its Hellos. -/
def State.greeting (s : State) : State := helloIfUp .b (helloIfUp .a s)

theorem greeting_only (s : State) : OnlyLinks s s.greeting := (helloIfUp_only .a s).trans (helloIfUp_only .b _)

theorem greeting_numbers (s : State) : s.greeting.link.broadcastSeq = s.link.broadcastSeq ∧ s.greeting.link.unsentOwn = s.link.unsentOwn := by
  obtain ⟨ha, ka⟩ := helloIfUp_numbers .a s
  obtain ⟨hb, kb⟩ := helloIfUp_numbers .b (helloIfUp .a s)
  exact ⟨hb.trans ha, kb.trans ka⟩

theorem greeting_port (s : State) (p : Port) : s.greeting.port p = if (s.port p).state = .joined ∨ (s.port p).state = .linked
    then (s.port p).queueing (placedFirst (s.helloFrame p) (s.control p)) else s.port p := by
  have hframe := (helloIfUp_only .a s).shows.helloFrame .b
  have hother := helloIfUp_other .a s
  have hself := helloIfUp_self .a s
  unfold State.greeting
  generalize helloIfUp .a s = u at hframe hother hself
  cases p with
  | a => exact (helloIfUp_other .b u).trans hself
  | b =>
    have : u.port .b = s.port .b := hother
    rw [helloIfUp_self, this, hframe, State.control, this]
    rfl

/-! ### An event that only the arbiters follow -/

section still
variable (hr : before.roster = x.roster) (hw : x.waiting) (hk : ∀ k, (x.tap k).state ≠ .draining) (hup : x.upPortNow = x.clock.upPort)
include hr hw hk hup

theorem readied_still (ho : x.own = before.own) (ht : timersRight x) : State.readied before before x = x := by
  have hadv : advance x = x := (advance_of_waiting hw).trans (settleTaps_of_none fun k hd => hk k hd.1)
  have hevents : noticeEvents before x = noticeEvents x x := by
    unfold noticeEvents frameEvents State.entry
    rw [hr]
  have hnotify : notify x.roster.belief before x = x := by
    rw [notify_eq _ (by rw [hr]; exact em _), hevents, noticeEvents_self, hr]
    exact followMaster_idle hup
  have hann : announce before (advance x) = x := by
    rw [hadv, announce_of_calm (.inl (congrArg Roster.belief hr))]
    exact hnotify
  rw [State.readied, hann, updateIfChanged, if_pos (ShowsAs.of_roster ho hr.symm).view, syncRefresh_of_right ht.1, syncResend_of_right ht.2]

/-- Where nothing drains, no leave moves on and the timers are right, what concludes an event that leaves the roster is what the arbiters
grant. -/
theorem concludeFrom_of_granting (ho : x.own = before.own) (ht : timersRight x) : concludeFrom before before x = grant .b (grant .a x) := by
  have hcalm : x.calm before := .inl (congrArg Roster.belief hr)
  have hround : round before before x = grant .b (grant .a x) := by rw [round_eq, readied_still hr hw hk hup ho ht]
  have hsettles : (round before before x).settles := settles_round (steadyLeave_round hcalm (waiting_advance hw))
  have htaps (k : TapNo) : ((round before before x).tap k).state ≠ .draining := by
    rcases (round_rests (before := before) hcalm k).state with h | ⟨h, -⟩
    · rw [h]
      exact hk k
    · exact absurd h (hk k)
  obtain ⟨-, hupround⟩ := round_clock (before := before) (congrArg Roster.belief hr) hup
  unfold concludeFrom
  dsimp only
  rw [← hround]
  generalize round before before x = s1 at hsettles htaps hupround
  rw [round_of_still hsettles htaps hupround, round_of_still hsettles htaps hupround]

end still

/-- What an arbiter makes of a port whose slots and relay queue are empty: it sends the head of the control queue. -/
theorem grant_emptied (hr : (s.port p).slotReply = none) (hq : (s.port p).slotRequest = none)
    (hj : (s.port p).state = .joined → (s.port p).control ≠ [])
    (hl : (s.port p).state = .linked → ∀ f, (s.port p).control.head? = some f → isHello f = true)
    (hd : (s.port p).state ≠ .joined → (s.port p).state ≠ .linked → (s.port p).control = []) :
    (grant p s).port p = if (s.port p).inTransmission.isSome = true then s.port p
      else { s.port p with control := (s.port p).control.tail, inTransmission := (s.port p).control.head? } := by
  split
  · next hbusy => rw [grant_of_busy p s hbusy]
  · next hbusy =>
    have hidle : (s.port p).inTransmission = none := Option.not_isSome_iff_eq_none.mp hbusy
    have hempty (hc : (s.port p).control = []) : s.port p =
        { s.port p with control := (s.port p).control.tail, inTransmission := (s.port p).control.head? } := by
      rw [hc, List.tail_nil, List.head?_nil, ← hc, ← hidle]
    by_cases hjoined : (s.port p).state = .joined
    · obtain ⟨f, rest, hc⟩ := List.exists_cons_of_ne_nil (hj hjoined)
      rw [grant_of_control hidle hjoined hr hq hc, onPort_self, hc]
      rfl
    · by_cases hlinked : (s.port p).state = .linked
      · cases hc : (s.port p).control with
        | nil =>
          rw [grant_of_no_hello hidle hlinked (by rw [hc]; exact nofun), ← hc]
          exact hempty hc
        | cons f rest =>
          rw [grant_of_hello hidle hlinked hc (hl hlinked f (by rw [hc]; rfl)), onPort_self]
          rfl
      · rw [grant_of_down p s ⟨hjoined, hlinked⟩]
        exact hempty (hd hjoined hlinked)

/-- The frames that a restart makes for a port. -/
def State.restartFrames (s t : State) (p : Port) : List Frame :=
  if (s.port p).state = .joined then [t.helloFrame p, t.updateFrame 0 p]
  else if (s.port p).state = .linked then [t.helloFrame p]
  else []

theorem ShowsAs.restartFrames (h : ShowsAs u t) (s : State) (p : Port) : s.restartFrames t p = s.restartFrames u p := by
  unfold State.restartFrames
  rw [h.helloFrame, h.updateFrame]

theorem Restarted.port (h : Restarted tag s w) (p : Port) : w.port p = (s.port p).restart := by
  rw [State.port, h.parts]
  cases p <;> rfl

/-- The ports when the arbiters come to grant. -/
theorem Restarted.placed (h : Restarted tag s w) (p : Port) :
    (makeRosterUpdate w.greeting).port p = { (s.port p).restart with control := s.restartFrames w p } := by
  have hshows := (greeting_only w).shows
  have hport := h.port p
  have hcontrol : w.control p = ([], 0) := by
    rw [State.control, hport]
    rfl
  have hseq : w.greeting.link.broadcastSeq = 0 := by
    rw [(greeting_numbers w).1, h.parts]
    rfl
  have hgreeting := greeting_port w p
  rw [hport, hcontrol] at hgreeting
  have hjoined : w.greeting.joined p = true ↔ (s.port p).state = .joined := by
    rw [State.joined, hgreeting, beq_iff_eq]
    split <;> exact Iff.rfl
  rw [makeRosterUpdate_port, hseq, hshows.updateFrame, State.control, hgreeting]
  unfold State.restartFrames
  by_cases hj : (s.port p).state = .joined
  · rw [if_pos (hjoined.mpr hj), if_pos (.inl hj), if_pos hj]
    have hroom := queued_of_room (k := ([w.helloFrame p], 0)) (f := w.updateFrame 0 p) (fun k => nomatch k.2) (show 1 < 16 by decide)
    exact congrArg (PortRecord.queueing (PortRecord.queueing (s.port p).restart ([w.helloFrame p], 0))) hroom
  · rw [if_neg (mt hjoined.mp hj), if_neg hj]
    by_cases hl : (s.port p).state = .linked
    · rw [if_pos (.inr hl), if_pos hl]
      rfl
    · rw [if_neg (show ¬ ((s.port p).restart.state = .joined ∨ (s.port p).restart.state = .linked) from not_or.mpr ⟨hj, hl⟩), if_neg hl]
      rfl

theorem grant_placed (h : x.port p = { (s.port p).restart with control := s.restartFrames w p }) : (grant p x).port p =
    if (s.port p).inTransmission.isSome = true then x.port p
    else { x.port p with control := (s.restartFrames w p).tail, inTransmission := (s.restartFrames w p).head? } := by
  have hstate : (x.port p).state = (s.port p).state := by rw [h]; rfl
  have hcontrol : (x.port p).control = s.restartFrames w p := by rw [h]
  have hgrant := grant_emptied (s := x) (p := p) (by rw [h]; rfl) (by rw [h]; rfl)
    (fun hj => by
      rw [hcontrol, State.restartFrames, if_pos (hstate ▸ hj)]
      exact List.cons_ne_nil _ _)
    (fun hl f hf => by
      have hne : (s.port p).state ≠ .joined := by
        rw [← hstate, hl]
        exact nofun
      rw [hcontrol, State.restartFrames, if_neg hne, if_pos (hstate ▸ hl)] at hf
      rw [← Option.some.inj hf]
      rfl)
    (fun hj hl => by rw [hcontrol, State.restartFrames, if_neg (hstate ▸ hj), if_neg (hstate ▸ hl)])
  have hsent : (x.port p).inTransmission = (s.port p).inTransmission := by rw [h]; rfl
  rw [hgrant, hsent, hcontrol]

/-- What a restart leaves, its event concluded. -/
structure RestartConcluded (tag : Word16) (s w t : State) : Prop where
  parts : t = { w with tapEngine := t.tapEngine, link := t.link, roster := { w.roster with refreshTimer := t.roster.refreshTimer } }
  presets : t.tapEngine.presets = w.tapEngine.presets
  taps : ∀ k, TapRests (w.tap k) (t.tap k)
  shows : ShowsAs w t
  refresh : t.roster.refreshTimer = if w.refreshRuns = true then some w.refreshPeriod else none
  numbers : t.link.broadcastSeq = w.link.broadcastSeq + (if w.anyJoined = true then 1 else 0) ∧ t.link.unsentOwn = w.link.unsentOwn
  port : ∀ p, t.port p = if (s.port p).inTransmission.isSome = true then { (s.port p).restart with control := s.restartFrames w p }
    else { (s.port p).restart with control := (s.restartFrames w p).tail, inTransmission := (s.restartFrames w p).head? }

theorem Restarted.upPort (h : Restarted tag s w) (hb : w.roster.belief = if s.roster.masterCapable then some s.own else none) :
    w.upPortNow = w.clock.upPort := by
  obtain ⟨-, -, -, hup⟩ := h.clock
  rw [hup, State.upPortNow, hb]
  split
  · rw [← h.own]
    exact upPortFor_own w
  · rfl

theorem restart_concluded (h : Restarted tag s w) (hb : w.roster.belief = if s.roster.masterCapable then some s.own else none)
    (hx : x = makeRosterUpdate w.greeting) : RestartConcluded tag s w (concludeFrom x x x) := by
  have hgreeting := greeting_only w
  obtain ⟨hgseq, hgunsent⟩ := greeting_numbers w
  have hup := h.upPort hb
  have hgjoined (p : Port) : w.greeting.joined p = w.joined p := by
    rw [State.joined, greeting_port]
    split <;> rfl
  have hplaced (p : Port) : x.port p = _ := hx ▸ h.placed p
  have hmade := makeRosterUpdate_parts w.greeting
  have hruns := makeRosterUpdate_refreshRuns w.greeting
  have hrefresh := makeRosterUpdate_refresh w.greeting
  have hseq := makeRosterUpdate_seq w.greeting
  have hunsent : (makeRosterUpdate w.greeting).link.unsentOwn = w.greeting.link.unsentOwn :=
    broadcast_unsent (fun seq p => .rosterUpdate ⟨seq, w.greeting.vector p⟩) w.greeting
  have hgruns := refreshRuns_congr hgreeting.shows hgjoined
  have hgany : w.greeting.anyJoined = w.anyJoined := by rw [State.anyJoined, hgjoined, hgjoined]; rfl
  have hgperiod : w.greeting.refreshPeriod = w.refreshPeriod := refreshPeriod_congr hgreeting.shows (by unfold OnlyLinks at hgreeting; rw [hgreeting])
  rw [← hx] at hmade hruns hrefresh hseq hunsent
  rw [hgruns] at hruns hrefresh
  rw [hgperiod] at hrefresh
  rw [hgany, hgseq] at hseq
  unfold OnlyLinks at hgreeting
  have hparts : x = { w with link := x.link, roster := { w.roster with refreshTimer := x.roster.refreshTimer } } := by
    obtain ⟨r, hr⟩ : ∃ r, x = { w.greeting with link := x.link, roster := { w.greeting.roster with refreshTimer := r } } := ⟨_, hmade⟩
    have : x.roster.refreshTimer = r := by rw [hr]
    rw [this]
    refine hr.trans ?_
    rw [hgreeting]
  have hxshows : ShowsAs w x := (greeting_only w).shows.trans (hx ▸ makeRosterUpdate_shows w.greeting)
  have hxtap (k : TapNo) : x.tap k = w.tap k := by rw [hparts]; rfl
  have hxunbound (k : TapNo) : (x.tap k).state ≠ .draining := by
    rw [hxtap, State.tap, h.parts]
    have hunbound : (restartBlocks s).tap k = Tap.unbound := Vector.getElem_replicate ..
    exact fun hd => nomatch (congrArg Tap.state hunbound).symm.trans hd
  have hxup : x.upPortNow = x.clock.upPort := by
    rw [hparts, ← hup]
    rfl
  have hwaiting : x.waiting := .of_none (by rw [hparts, h.parts]; rfl)
  have htimers : timersRight x := by
    refine ⟨?_, ?_⟩
    · rw [hrefresh, hruns]
      cases w.refreshRuns <;> rfl
    · rw [hparts, h.parts]
      rfl
  rw [concludeFrom_of_granting rfl hwaiting hxunbound hxup rfl htimers]
  have ha := granted .a x
  have hb := granted .b (grant .a x)
  have hpa := grant_placed (hplaced .a)
  have hpb : (grant .a x).port .b = x.port .b := ha.other
  have hgb := grant_placed (s := s) (p := .b) (x := grant .a x) (hpb.trans (hplaced .b))
  have hpt : (grant .b (grant .a x)).port .a = (grant .a x).port .a := hb.other
  have hrests (k : TapNo) : TapRests (w.tap k) ((grant .b (grant .a x)).tap k) :=
    hxtap k ▸ (grant_rests .a x k).trans (grant_rests .b (grant .a x) k)
  generalize grant .a x = y at *
  generalize grant .b y = t at *
  refine ⟨?_, ?_, hrests, ?_, ?_, ?_, fun p => ?_⟩
  · rw [hb.parts, ha.parts, hparts]
  · rw [hb.presets, ha.presets, hparts]
  · exact hxshows.trans (.trans (.of_roster (congrArg (fun r : Reporter => r.straps.frame) ha.reporter) ha.roster) (.of_roster (congrArg (fun r : Reporter => r.straps.frame) hb.reporter) hb.roster))
  · rw [hb.roster, ha.roster, hrefresh]
  · exact ⟨hb.broadcasts.1.trans (ha.broadcasts.1.trans hseq), hb.broadcasts.2.trans (ha.broadcasts.2.trans (hunsent.trans hgunsent))⟩
  · cases p with
    | a => rw [hpt, hpa, hplaced]
    | b => rw [hgb, hpb, hplaced]

/-- R64, R87, R93: what a restart leaves in a port. -/
theorem restarted_port (hp : t.port p = if (s.port p).inTransmission.isSome = true then { (s.port p).restart with control := s.restartFrames w p }
      else { (s.port p).restart with control := (s.restartFrames w p).tail, inTransmission := (s.restartFrames w p).head? })
    (hframes : s.restartFrames t p = s.restartFrames w p) :
    (t.port p).relay = [] ∧ (t.port p).counters = PortCounters.zero ∧ (t.port p).lastGranted = 8 ∧
      (t.port p).slotReply = none ∧ (t.port p).slotRequest = none ∧
      ((s.port p).inTransmission.isSome = true → (t.port p).control = s.restartFrames t p ∧
        (t.port p).inTransmission = (s.port p).inTransmission) ∧
      ((s.port p).inTransmission = none → (t.port p).control = (s.restartFrames t p).tail ∧
        (t.port p).inTransmission = (s.restartFrames t p).head?) := by
  rw [← hframes] at hp
  generalize s.restartFrames t p = made at hp
  rw [hp]
  by_cases hbusy : (s.port p).inTransmission.isSome = true
  · rw [if_pos hbusy]
    exact ⟨rfl, rfl, rfl, rfl, rfl, fun _ => ⟨rfl, rfl⟩, fun k => absurd hbusy (by rw [k]; exact nofun)⟩
  · rw [if_neg hbusy]
    exact ⟨rfl, rfl, rfl, rfl, rfl, fun k => absurd k hbusy, fun _ => ⟨rfl, rfl⟩⟩

/-- Settles O46: by the blocks restarted, the Hellos and the Roster Update placed, and the arbiters' grants. -/
theorem restartPartKeepsTheChannel : Obligations.RestartPartKeepsTheChannel := by
  intro s tag hv
  have hexec : exec (.restartPart tag) s = .next (restartPart tag s.taken) := exec_of_directive (.restartPart tag) rfl hv
  obtain ⟨hw, hbelief, hlock⟩ := restarted_told tag s.taken
  have hrestart : ∃ x, x = makeRosterUpdate (s.taken.restartTold tag).greeting ∧ restartPart tag s.taken = concludeFrom x x x := ⟨_, rfl, rfl⟩
  obtain ⟨x, hx, hpart⟩ := hrestart
  rw [hpart] at hexec
  generalize s.taken.restartTold tag = w at hw hbelief hlock hx
  have ht := restart_concluded hw hbelief hx
  generalize concludeFrom x x x = t at hexec ht
  obtain ⟨hparts, hpresets, hrests, hshows, hrefresh, ⟨hseq, hunsent⟩, hport⟩ := ht
  have hwparts := hw.parts
  obtain ⟨htime, hsettings, htimer, -⟩ := hw.clock
  have hchannel : t.channel = s.channel.clearCounts := by rw [hparts, hwparts]; rfl
  have hregion (i : Fin 18) : t.region i = if i.val < 2 then s.region i else Region.empty := by
    have : t.regions = restartRegions s.regions := by rw [hparts, hwparts]; rfl
    rw [State.region, this]
    exact Vector.getElem_ofFn ..
  have htap (k : TapNo) : t.tap k = Tap.unbound := (hrests k).unbound (by
    rw [State.tap, hwparts]
    exact Vector.getElem_replicate ..)
  have hmirrors : t.mirrorStore = s.mirrorStore.restart := by rw [hparts, hwparts]; rfl
  have hmirror (m : MirrorNo) : t.mirror m = Mirror.unbound := by
    rw [State.mirror, hmirrors]
    exact Vector.getElem_replicate ..
  have hroster : t.roster = { s.roster.restart with belief := w.roster.belief, refreshTimer := t.roster.refreshTimer } := by rw [hparts, hwparts]; rfl
  have hclock : t.clock = w.clock := by rw [hparts]
  have horders : t.orders = RackOrders.reset := by rw [hparts, hwparts]; rfl
  have hreporter : t.reporter = w.reporter := by rw [hparts]
  have hany : w.anyJoined = true ↔ s.joined .a = true ∨ s.joined .b = true := by
    rw [State.anyJoined, Bool.or_eq_true, State.joined, State.joined, hw.port, hw.port]
    rfl
  have hwseq : w.link.broadcastSeq = 0 := by
    rw [hwparts]
    rfl
  have hruns : w.refreshRuns = w.anyJoined := by
    rw [State.refreshRuns, hwparts]
    rfl
  have hperiod : w.refreshPeriod = 25000000 := by
    rw [State.refreshPeriod, hwparts]
    rfl
  refine ⟨t, hexec, hchannel, hregion 0, hregion 1, fun i hi => ?_, htap, ?_, fun m => ?_, ?_, ?_, fun p => ?_, ?_, fun f => ?_, ?_, ?_,
    hshows.belief.trans hbelief, ?_, hclock ▸ htime, hclock ▸ hsettings, hclock ▸ hlock, hclock ▸ htimer, fun p => ?_, ?_, ?_, ?_, ?_, ?_,
    hreporter ▸ hw.taken, hreporter ▸ hw.posted.1, hreporter ▸ hw.posted.2, hreporter ▸ hw.straps⟩
  · rw [hregion, if_neg (Nat.not_lt.mpr hi)]
    rfl
  · rw [hpresets, hwparts]
    rfl
  · rw [hmirror]
    rfl
  · rw [hmirrors]
    rfl
  · rw [hmirrors]
    rfl
  · rw [State.portView, hport]
    split <;> rfl
  · rw [hroster]
    rfl
  · exact hshows.entry f ▸ hw.entry f
  · rw [hroster]
    rfl
  · rw [hroster]
    rfl
  · rw [hroster]
    rfl
  · exact restarted_port (hport p) (hshows.restartFrames s p)
  · rw [hunsent, hwparts]
    rfl
  · rw [hseq, hwseq]
    exact (BitVec.zero_add _).trans (if_congr hany rfl rfl)
  · rw [hrefresh, hruns, hperiod]
    exact if_congr hany rfl rfl
  · rw [horders]
    rfl
  · rw [horders]
    rfl

end Sys2Proof.Machine

/-! PROOFS. Leave Rack and Rejoin Rack (R44, R104, R105, R108): the taps of a part that leaves, the belief that it gives up, the handover, and
what concludes them. -/

namespace Sys2Proof.Machine
variable {s t u v w x y e before noted : State} {p q : Port} {f : FrameNo} {tag : Word16} {k : TapNo}

/-! ### The taps of a part that leaves (R44) -/

theorem drainRunning_only (j : TapNo) (s : State) : OnlyTaps s (drainRunning j s) := (abandonPass_only j s).trans (onTap_only ..)

theorem leaveTap_only (j : TapNo) (s : State) : OnlyTaps s (leaveTap j s) := by
  unfold leaveTap
  split
  · exact drainRunning_only j s
  · exact onTap_only ..
  all_goals exact .refl s

theorem leaveTap_other {j : TapNo} (h : k ≠ j) (s : State) : (leaveTap j s).tap k = s.tap k := by
  have habandon : (abandonPass j s).tap k = s.tap k := by
    unfold abandonPass offerMark
    dsimp only
    split_ifs <;> first | exact onTap_other _ _ h | rfl
  unfold leaveTap drainRunning
  split
  · exact (onTap_other _ _ h).trans habandon
  · exact onTap_other _ _ h
  all_goals rfl

theorem leaveTap_self (k : TapNo) (s : State) : ((leaveTap k s).tap k).state ≠ .armed ∧ ((leaveTap k s).tap k).state ≠ .running := by
  unfold leaveTap drainRunning
  split
  · rw [onTap_self]
    exact ⟨nofun, nofun⟩
  · rw [onTap_self]
    exact ⟨nofun, nofun⟩
  all_goals next h => exact ⟨by rw [h]; exact nofun, by rw [h]; exact nofun⟩

theorem leaveTap_of_still (h : (s.tap k).state ≠ .armed ∧ (s.tap k).state ≠ .running) : leaveTap k s = s := by
  unfold leaveTap
  split
  · next hk => exact absurd hk h.2
  · next hk => exact absurd hk h.1
  all_goals rfl

theorem settled_leaveTap (j : TapNo) (s : State) : Settled s (leaveTap j s) := by
  unfold leaveTap drainRunning
  split
  · exact (settled_abandonPass ..).trans (settled_tap ..)
  · exact settled_tap ..
  all_goals exact .refl s

theorem leaveTaps_only (s : State) : OnlyTaps s (leaveTaps s) := by
  unfold leaveTaps
  generalize eight = l
  induction l generalizing s with
  | nil => exact .refl s
  | cons j l ih => exact (leaveTap_only j s).trans (ih _)

theorem settled_leaveTaps (s : State) : Settled s (leaveTaps s) := by
  unfold leaveTaps
  generalize eight = l
  induction l generalizing s with
  | nil => exact .refl s
  | cons j l ih => exact (settled_leaveTap j s).trans (ih _)

/-- R44: no tap of a part that leaves is Armed or Running. -/
theorem leaveTaps_state (s : State) (k : TapNo) : ((leaveTaps s).tap k).state ≠ .armed ∧ ((leaveTaps s).tap k).state ≠ .running := by
  have hrest (l : List TapNo) (hk : k ∉ l) (u : State) : (l.foldl (fun acc t => leaveTap t acc) u).tap k = u.tap k := by
    induction l generalizing u with
    | nil => rfl
    | cons j l ih =>
      obtain ⟨hj, hl⟩ := not_or.mp (mt List.mem_cons.mpr hk)
      exact (ih hl _).trans (leaveTap_other hj u)
  have hall (l : List TapNo) (hl : l.Nodup) (hk : k ∈ l) (u : State) :
      ((l.foldl (fun acc t => leaveTap t acc) u).tap k).state ≠ .armed ∧ ((l.foldl (fun acc t => leaveTap t acc) u).tap k).state ≠ .running := by
    induction l generalizing u with
    | nil => exact nomatch hk
    | cons j l ih =>
      obtain ⟨hj, hl⟩ := List.nodup_cons.mp hl
      rw [List.foldl_cons]
      by_cases hkj : k = j
      · subst hkj
        rw [hrest l hj]
        exact leaveTap_self k u
      · exact ih hl ((List.mem_cons.mp hk).resolve_left hkj) _
  exact hall eight eight_nodup (mem_eight k) s

theorem leaveTaps_of_still (h : ∀ k, (s.tap k).state = .idle ∨ (s.tap k).state = .unbound) : leaveTaps s = s := by
  unfold leaveTaps
  generalize eight = l
  induction l with
  | nil => rfl
  | cons j l ih =>
    rw [List.foldl_cons, leaveTap_of_still]
    · exact ih
    · rcases h j with hj | hj <;> rw [hj] <;> exact ⟨nofun, nofun⟩

/-! ### Pending entries where another frame, or none, is believed master (R169) -/

theorem requested_setStatus (seq : Word16) (st : PendingStatus) (s : State) : Requested s (setStatus seq st s) := by
  refine ⟨rfl, rfl, rfl, rfl, ?_⟩
  rw [setStatus_orders]
  change (s.orders.pending.map _).map PendingEntry.seq = _
  rw [List.map_map]
  exact List.map_congr_left fun k _ => by
    change (if k.seq = seq then { k with status := st } else k).seq = k.seq
    split <;> rfl

theorem requested_waits (hb : s.roster.belief = none) (l : List PendingEntry) : Requested s (l.foldl dealEntry s) := by
  induction l generalizing s with
  | nil => exact .refl s
  | cons e l ih =>
    have hdeal : dealEntry s e = setStatus e.seq .waiting s := by
      unfold dealEntry
      simp only [hb]
    have hrequested := requested_setStatus e.seq .waiting s
    rw [List.foldl_cons, hdeal]
    exact hrequested.trans (ih (by rw [hrequested.roster]; exact hb))

theorem requested_resubmit (before : State) (hb : s.roster.belief ≠ some s.own) : Requested s (resubmit before s) := by
  unfold resubmit
  split
  · exact .refl s
  · cases hf : s.roster.belief with
    | none => exact requested_waits hf _
    | some f => exact requested_deals hf (fun k => hb (by rw [hf, k])) _

/-! ### What a leave makes of the part (R104) -/

/-- What of the part a leave makes when it has its result. -/
structure LeaveMade (s u : State) : Prop where
  settled : Settled s u
  roster : u.roster = { s.roster with ownState := .leaving, phase := .draining, leaveTag := u.roster.leaveTag, belief := u.roster.belief }
  belief : u.roster.belief ≠ some s.own
  taps : ∀ k, (u.tap k).state ≠ .armed ∧ (u.tap k).state ≠ .running
  still : (∀ k, (s.tap k).state = .idle ∨ (s.tap k).state = .unbound) → ∀ k, u.tap k = s.tap k

theorem Settled.own (h : Settled s t) : t.own = s.own := congrArg Straps.frame h.straps

/-- R104: the part has become Leaving, and the belief has not moved. -/
structure BecomesLeaving (s y : State) : Prop where
  settled : Settled s y
  roster : y.roster = { s.roster with ownState := .leaving, phase := .draining, leaveTag := y.roster.leaveTag }

theorem isCandidate_leaving (h : BecomesLeaving s y) (f : FrameNo) : y.isCandidate f ↔ f ≠ s.own ∧ s.isCandidate f := by
  have hentry : y.entry f = s.entry f := by
    rw [State.entry, h.roster]
    rfl
  unfold State.isCandidate
  rw [h.settled.own, hentry]
  split
  · next hf =>
    rw [h.roster]
    exact ⟨fun k => (nomatch k.1), fun k => absurd hf k.1⟩
  · next hf => exact (and_iff_right hf).symm

/-- R104, R110: the belief that a part which leaves is left with. -/
theorem electIfNeeded_leaving (h : BecomesLeaving s y) (before : State) : (electIfNeeded before y).roster.belief ≠ some s.own ∧
    (∀ f, s.roster.belief = some s.own → s.successor = some f → (electIfNeeded before y).roster.belief = some f) := by
  have helects : ∀ {b}, y.elects b → b ≠ some s.own := fun {b} hb k => by
    subst k
    exact ((isCandidate_leaving h s.own).mp hb.1).1 rfl
  have hbelief : y.roster.belief = s.roster.belief := by rw [h.roster]
  have hfalls (hb : y.roster.belief = some y.own) : electIfNeeded before y = elect y := electIfNeeded_of_falls hb fun k => by
    have hactive : y.roster.ownState = .active := (if_pos rfl).mp k
    rw [h.roster] at hactive
    exact nomatch hactive
  have hfound := elects_found y
  have helected := helects hfound
  rw [← elect_belief] at hfound helected
  refine ⟨?_, fun f hb hsucc => ?_⟩
  · cases hb : y.roster.belief with
    | none =>
      by_cases hv : y.view = before.view
      · rw [electIfNeeded_of_none_same hb hv, hb]
        exact nofun
      · rw [electIfNeeded_of_none_changed hb hv]
        exact helected
    | some g =>
      by_cases hs : stands before y g
      · rw [electIfNeeded_of_stands hb hs, hb]
        intro k
        have hg : g = y.own := (Option.some.inj k).trans h.settled.own.symm
        have hb' : y.roster.belief = some y.own := by rw [hb, hg]
        have : electIfNeeded before y = elect y := hfalls hb'
        rw [electIfNeeded_of_stands hb hs] at this
        rw [← this, hb, k] at helected
        exact helected rfl
      · rw [electIfNeeded_of_falls hb hs]
        exact helected
  · rw [hfalls (by rw [hbelief, hb, h.settled.own])]
    obtain ⟨hne, hcandidate, hleast⟩ := successor_iff.mp hsucc
    have hmine : y.isCandidate f := (isCandidate_leaving h f).mpr ⟨hne, hcandidate⟩
    cases hb : (elect y).roster.belief with
    | none =>
      rw [hb] at hfound
      exact absurd hmine (hfound f)
    | some g =>
      rw [hb] at hfound
      obtain ⟨hg, hgc⟩ := (isCandidate_leaving h g).mp hfound.1
      exact congrArg some (le_antisymm (hfound.2 f hmine) (hleast g hg hgc))

theorem settled_startLeaving (tag : Word16) (s : State) : Settled s (startLeaving tag s) := by
  constructor <;> first | rfl | exact fun _ => rfl

theorem settled_electIfNeeded (before s : State) : Settled s (electIfNeeded before s) := by
  rw [electIfNeeded_only]
  constructor <;> first | rfl | exact fun _ => rfl

theorem becomesLeaving (tag : Word16) (hx : Settled s x) (hroster : x.roster = s.roster) : BecomesLeaving s (leaveTaps (startLeaving tag x)) := by
  refine ⟨(hx.trans (settled_startLeaving tag x)).trans (settled_leaveTaps _), ?_⟩
  rw [(leaveTaps_only (startLeaving tag x)).roster]
  exact congrArg (fun r : Roster => { r with ownState := .leaving, phase := .draining, leaveTag := some tag }) hroster

/-- R104, step 2: a part that leaves, from `x`, which an order made on the way has not moved but for the orders and the link. -/
theorem goLeaving_made (tag : Word16) (before : State) (hx : Settled s x) (hroster : x.roster = s.roster) (htaps : x.tapEngine = s.tapEngine) :
    let u := goLeaving tag before x
    LeaveMade s u ∧ (∀ f, s.roster.belief = some s.own → s.successor = some f → u.roster.belief = some f) ∧
      u.orders = { x.orders with pending := u.orders.pending } ∧ (x.orders.pending = [] → u.link = x.link) := by
  have honly := leaveTaps_only (startLeaving tag x)
  have hstate := leaveTaps_state (startLeaving tag x)
  have hstill : (∀ k, (s.tap k).state = .idle ∨ (s.tap k).state = .unbound) → (leaveTaps (startLeaving tag x)).tapEngine = s.tapEngine := fun h => by
    have hk (k : TapNo) : (startLeaving tag x).tap k = s.tap k := by
      change x.tapEngine.taps[k] = _
      rw [htaps]
      rfl
    rw [leaveTaps_of_still fun k => by rw [hk]; exact h k]
    exact htaps
  have hy := becomesLeaving tag hx hroster
  have horders : (leaveTaps (startLeaving tag x)).orders = x.orders := honly.orders
  have hlink : (leaveTaps (startLeaving tag x)).link = x.link := honly.link
  unfold goLeaving announce
  generalize leaveTaps (startLeaving tag x) = y at *
  obtain ⟨hne, hsucc⟩ := electIfNeeded_leaving hy before
  have hzonly := electIfNeeded_only before y
  have hzsettled := hy.settled.trans (settled_electIfNeeded before y)
  generalize electIfNeeded before y = z at hne hsucc hzonly hzsettled
  have hzroster : z.roster = { s.roster with ownState := .leaving, phase := .draining, leaveTag := y.roster.leaveTag, belief := z.roster.belief } := by
    have hz : z.roster = { y.roster with belief := z.roster.belief } := congrArg State.roster hzonly
    rw [hz, hy.roster]
  have hzorders : z.orders = y.orders := by rw [hzonly]; rfl
  have hzlink : z.link = y.link := by rw [hzonly]; rfl
  have hztaps : z.tapEngine = y.tapEngine := by rw [hzonly]; rfl
  have hn := notified_notify (resubmit before z).roster.belief before z
  have hvroster := notify_roster (resubmit before z).roster.belief (before := before) (s := z) (.inr (by rw [hzroster]; exact nofun))
  have hvsettled := hzsettled.trans (settled_notify (resubmit before z).roster.belief before z)
  generalize notify (resubmit before z).roster.belief before z = v at hn hvroster hvsettled
  have hvne : v.roster.belief ≠ some v.own := by
    rw [hvroster, hvsettled.own]
    exact hne
  have hr := requested_resubmit before hvne
  have hrsettled := hvsettled.trans (settled_resubmit before v)
  have hcalm (hp : v.orders.pending = []) : resubmit before v = v := resubmit_of_calm (.inr hp)
  generalize resubmit before v = u at hr hrsettled hcalm
  have huroster : u.roster = z.roster := hr.roster.trans hvroster
  have hutaps : u.tapEngine = y.tapEngine := (hr.tapEngine.trans hn.tapEngine).trans hztaps
  have huorders : v.orders = x.orders := (hn.orders.trans hzorders).trans horders
  refine ⟨⟨hrsettled, ?_, by rw [huroster]; exact hne, fun k => ?_, fun h k => ?_⟩, fun f hb hf => by rw [huroster]; exact hsucc f hb hf, ?_,
    fun hp => ?_⟩
  · rw [huroster]
    have htag : z.roster.leaveTag = y.roster.leaveTag := by rw [hzroster]
    rw [htag]
    exact hzroster
  · rw [State.tap, hutaps]
    exact hstate k
  · rw [State.tap, hutaps, hstill h]
    rfl
  · rw [hr.orders, huorders]
  · have := hcalm ((congrArg RackOrders.pending huorders).trans hp)
    rw [this, hn.link, hzlink, hlink]

/-! ### The handover (R104, R161) -/

/-- The part as it hands over: the own claim has taken its origin sequence and is ordered. -/
def State.handing (s : State) (f : FrameNo) : State :=
  issueOrder s.own s.orders.nextSeq (.masterClaim f) (s.onOrders fun o => { o with nextSeq := o.nextSeq + 1 })

theorem settled_handing (s : State) (f : FrameNo) : Settled s (s.handing f) := (settled_orders ..).trans (settled_issueOrder ..)

theorem handing_parts (s : State) (f : FrameNo) : (s.handing f).roster = s.roster ∧ (s.handing f).tapEngine = s.tapEngine ∧
    (s.handing f).orders = { s.orders with nextSeq := s.orders.nextSeq + 1, nextRackSeq := countUp s.orders.nextRackSeq } := by
  have hq := queueing_broadcast (fun k _ => orderBody s s.own s.orders.nextSeq (.masterClaim f) k)
    (State.sequenced (s.onOrders fun o => { o with nextSeq := o.nextSeq + 1 }))
  have hissue : s.handing f = broadcast (fun k _ => orderBody s s.own s.orders.nextSeq (.masterClaim f) k)
    (State.sequenced (s.onOrders fun o => { o with nextSeq := o.nextSeq + 1 })) := rfl
  rw [← hissue] at hq
  generalize s.handing f = i at hq
  refine ⟨?_, ?_, ?_⟩ <;> rw [hq.only] <;> rfl

theorem handing_told (s : State) (f : FrameNo) :
    Told.Event s.control [orderBody s s.own s.orders.nextSeq (.masterClaim f)] [] s (s.handing f) :=
  (told_event_of_link (s := s) (u := State.sequenced (s.onOrders fun o => { o with nextSeq := o.nextSeq + 1 })) rfl rfl).broadcast
    (orderBody s s.own s.orders.nextSeq (.masterClaim f))

theorem handing_sending (s : State) (f : FrameNo) (p : Port) : ((s.handing f).port p).inTransmission = (s.port p).inTransmission := by
  have hq := queueing_broadcast (fun k _ => orderBody s s.own s.orders.nextSeq (.masterClaim f) k)
    (State.sequenced (s.onOrders fun o => { o with nextSeq := o.nextSeq + 1 }))
  have hsent := congrArg PortRecord.inTransmission (hq.port p)
  exact hsent

/-- The claim that a handover orders is new. -/
def State.handsNew (s : State) : Bool := s.newOrder s.own s.orders.nextSeq

theorem handing_newOrder (s : State) (f : FrameNo) : (s.handing f).newOrder s.own s.orders.nextSeq = s.handsNew := by
  unfold State.handsNew State.newOrder
  rw [(handing_parts s f).2.2]

theorem handOver_of_old (tag : Word16) (f : FrameNo) (h : s.handsNew = false) :
    handOver tag f s = goLeaving tag s (countOrdered (countDuplicate (s.handing f))) :=
  if_neg (by
    change ¬ (s.handing f).newOrder s.own s.orders.nextSeq = true
    rw [handing_newOrder, h]
    exact nofun)

/-- The part of a handover that has claimed the belief for its successor and become Leaving. -/
def State.handed (s : State) (tag : Word16) (f : FrameNo) : State :=
  startLeaving tag (claimBelief f (recordOrder s.orders.nextRackSeq s.own s.own s.orders.nextSeq (s.handing f)))

theorem handOver_of_new (tag : Word16) (f : FrameNo) (h : s.handsNew = true) :
    handOver tag f s = leaveTaps (resubmit s (countOrdered (finishOrder s.own s.orders.nextSeq (.masterClaim f) s.orders.nextRackSeq
      (notify (some f) s (s.handed tag f))))) :=
  if_pos (by
    change (s.handing f).newOrder s.own s.orders.nextSeq = true
    rw [handing_newOrder, h])

theorem handed_spec (tag : Word16) (hf : f ≠ s.own) : Settled s (s.handed tag f) ∧ (s.handed tag f).link = (s.handing f).link ∧
    (s.handed tag f).tapEngine = s.tapEngine ∧
    (s.handed tag f).roster = { s.roster with ownState := .leaving, phase := .draining, leaveTag := some tag, belief := some f } ∧
    (s.handed tag f).orders = { s.orders with
      nextSeq := s.orders.nextSeq + 1
      nextRackSeq := countUp s.orders.nextRackSeq
      applied := s.orders.applied.set s.own (some s.orders.nextSeq)
      lastOrder := some (s.orders.nextRackSeq, s.own)
      counters := { s.orders.counters with applied := countUp s.orders.counters.applied } } := by
  have hsettled := settled_handing s f
  obtain ⟨hroster, htaps, horders⟩ := handing_parts s f
  unfold State.handed
  generalize s.handing f = i at *
  have hrecord := settled_recordOrder s.orders.nextRackSeq s.own s.own s.orders.nextSeq i
  have hclaim : claimBelief f (recordOrder s.orders.nextRackSeq s.own s.own s.orders.nextSeq i) =
      (recordOrder s.orders.nextRackSeq s.own s.own s.orders.nextSeq i).onRoster fun r => { r with belief := some f } := by
    refine if_neg fun k => hf ?_
    exact k.1.trans (hrecord.own.trans hsettled.own)
  refine ⟨((hsettled.trans hrecord).trans (settled_claimBelief ..)).trans (settled_startLeaving ..), ?_, ?_, ?_, ?_⟩ <;> rw [hclaim]
  · rfl
  · exact htaps
  · exact congrArg (fun r : Roster => { r with ownState := .leaving, phase := .draining, leaveTag := some tag, belief := some f }) hroster
  · exact congrArg (fun o : RackOrders => { o with
      applied := o.applied.set s.own (some s.orders.nextSeq), lastOrder := some (s.orders.nextRackSeq, s.own)
      counters := { o.counters with applied := countUp o.counters.applied } }) horders

/-- What a leave with a handover makes of the part beside. -/
structure HandedOver (s : State) (f : FrameNo) (u : State) : Prop where
  made : LeaveMade s u
  belief : u.roster.belief = some f
  seqs : u.orders.nextSeq = s.orders.nextSeq + 1 ∧ u.orders.nextRackSeq = countUp s.orders.nextRackSeq
  ordered : u.orders.counters.ordered = countUp s.orders.counters.ordered
  new : s.handsNew = true → u.orders.applied = s.orders.applied.set s.own (some s.orders.nextSeq) ∧
    u.orders.lastOrder = some (s.orders.nextRackSeq, s.own)
  old : s.handsNew = false → u.orders.applied = s.orders.applied ∧ u.orders.lastOrder = s.orders.lastOrder ∧
    u.orders.counters.duplicates = countUp s.orders.counters.duplicates
  link : s.orders.pending = [] → u.link = (s.handing f).link

theorem handedOver_old (tag : Word16) (hb : s.roster.belief = some s.own) (hs : s.successor = some f) (h : s.handsNew = false) :
    HandedOver s f (handOver tag f s) := by
  obtain ⟨hroster, htaps, horders⟩ := handing_parts s f
  have hsettled := settled_handing s f
  rw [handOver_of_old tag f h]
  obtain ⟨i, hi⟩ : ∃ i, i = s.handing f := ⟨_, rfl⟩
  rw [← hi] at hroster htaps horders hsettled ⊢
  obtain ⟨hmade, hbelief, huorders, hlink⟩ := goLeaving_made (s := s) tag s (x := countOrdered (countDuplicate i))
    ((hsettled.trans (settled_countDuplicate _)).trans (settled_countOrdered _)) hroster htaps
  generalize goLeaving tag s (countOrdered (countDuplicate i)) = u at *
  have hilink : i.link = (s.handing f).link := by rw [hi]
  have hcounted : (countOrdered (countDuplicate i)).orders = { i.orders with counters := { i.orders.counters with
      duplicates := countUp i.orders.counters.duplicates, ordered := countUp i.orders.counters.ordered } } := rfl
  rw [hcounted, horders] at huorders hlink
  refine ⟨hmade, hbelief f hb hs, ⟨?_, ?_⟩, ?_, fun k => (by rw [h] at k; exact nomatch k), fun _ => ⟨?_, ?_, ?_⟩,
    fun hp => (hlink hp).trans hilink⟩ <;> rw [huorders]

theorem handedOver_new (tag : Word16) (hs : s.successor = some f) (h : s.handsNew = true) : HandedOver s f (handOver tag f s) := by
  have hf : f ≠ s.own := (successor_iff.mp hs).1
  obtain ⟨hsettled, hlink, htaps, hroster, horders⟩ := handed_spec tag hf
  rw [handOver_of_new tag f h]
  generalize s.handed tag f = c at *
  have hn := notified_notify (some f) s c
  have hnroster := notify_roster (some f) (before := s) (s := c) (.inr (by rw [hroster]; exact nofun))
  have hvsettled := hsettled.trans (settled_notify (some f) s c)
  generalize notify (some f) s c = v at hn hnroster hvsettled
  obtain ⟨hgown, hglink, hgroster, hgtaps, -, hgorders⟩ := finishOrder_spec s.own s.orders.nextSeq (.masterClaim f) s.orders.nextRackSeq v
  have hgsettled := hvsettled.trans (settled_finishOrder s.own s.orders.nextSeq (.masterClaim f) s.orders.nextRackSeq v)
  generalize finishOrder s.own s.orders.nextSeq (.masterClaim f) s.orders.nextRackSeq v = g at *
  have hosettled := hgsettled.trans (settled_countOrdered g)
  have hoorders : (countOrdered g).orders = { g.orders with counters := { g.orders.counters with ordered := countUp g.orders.counters.ordered } } := rfl
  have horoster : (countOrdered g).roster = c.roster := hgroster.trans hnroster
  have hotaps : (countOrdered g).tapEngine = s.tapEngine := (hgtaps.trans hn.tapEngine).trans htaps
  have holink : (countOrdered g).link = (s.handing f).link := (hglink.trans hn.link).trans hlink
  generalize countOrdered g = o at *
  have hr := requested_resubmit (s := o) s (by rw [horoster, hroster, hosettled.own]; exact fun k => hf (Option.some.inj k))
  have hrsettled := hosettled.trans (settled_resubmit s o)
  have hcalm (hp : o.orders.pending = []) : resubmit s o = o := resubmit_of_calm (.inr hp)
  generalize resubmit s o = r at *
  have honly := leaveTaps_only r
  have hstate := leaveTaps_state r
  have hstill (hk : ∀ k, (r.tap k).state = .idle ∨ (r.tap k).state = .unbound) := leaveTaps_of_still hk
  have husettled := hrsettled.trans (settled_leaveTaps r)
  generalize leaveTaps r = u at *
  have huroster : u.roster = c.roster := honly.roster.trans (hr.roster.trans horoster)
  have hrtap (k : TapNo) : r.tap k = s.tap k := by
    rw [State.tap, hr.tapEngine, hotaps]
    rfl
  have huorders : u.orders = { c.orders with
      pending := r.orders.pending, counters := { c.orders.counters with ordered := countUp c.orders.counters.ordered } } := by
    rw [honly.orders, hr.orders, hoorders, hgorders, hn.orders]
  rw [horders] at huorders
  refine ⟨⟨husettled, ?_, ?_, hstate, fun hk k => ?_⟩, ?_, ⟨?_, ?_⟩, ?_, fun _ => ⟨?_, ?_⟩, fun k => (by rw [h] at k; exact nomatch k), fun hp => ?_⟩
  · rw [huroster, hroster]
  · rw [huroster, hroster]
    exact fun k => hf (Option.some.inj k)
  · rw [hstill fun j => by rw [hrtap]; exact hk j]
    exact hrtap k
  · rw [huroster, hroster]
  · rw [huorders]
  · rw [huorders]
  · rw [huorders]
  · rw [huorders]
  · rw [huorders]
  · have hpending : o.orders.pending = [] := by
      rw [hoorders, hgorders, hn.orders, horders]
      change (if s.own = v.own then completed s.orders.nextSeq s.orders.pending else s.orders.pending) = []
      rw [hp]
      exact ite_self _
    have := hcalm hpending
    rw [honly.link, this, holink]

/-! ### What concludes a leave (R105, R107) -/

/-- R88: the part is leaving, or has left. -/
def State.goes (s : State) : Prop := s.roster.ownState = .leaving ∨ s.roster.ownState = .departed

theorem goes_advance (h : s.goes) : (advance s).goes := by
  have hroster : (settleTaps s).roster = s.roster := (settleTaps_only s).roster
  have hann := announceLeave_ownState (settleTaps s)
  unfold advance completeLeave
  split
  · exact .inr rfl
  · unfold State.goes
    rw [hann, hroster]
    exact h

theorem goes_round (hc : e.calm noted) (h : e.goes) : (round before noted e).goes := by
  unfold State.goes
  rw [(round_shows (before := before) hc).1.ownState]
  exact goes_advance h

theorem goes_concludeFrom (hc : e.calm noted) (h : e.goes) : (concludeFrom before noted e).goes :=
  goes_round (.inl rfl) (goes_round (.inl rfl) (goes_round hc h))

/-- Where every tap is drained, a leave has moved on as far as it can in the first round. -/
theorem steadyLeave_of_drained (h : e.calm noted) (hd : ∀ k, (e.tap k).state = .idle ∨ (e.tap k).state = .unbound) :
    (settleTaps (round before noted e)).steadyLeave := by
  have hstate (k : TapNo) : ((advance e).tap k).state = (e.tap k).state := by
    rw [advance_tap]
    exact (tapRests_settled (e.tap k)).stands (by rcases hd k with hk | hk <;> rw [hk] <;> exact nofun)
  have hdrained : eight.all (fun k => ((advance e).tap k).drained) = true := List.all_eq_true.mpr fun k _ => by
    unfold Tap.drained
    rcases hd k with hk | hk <;> rw [hstate, hk]
  have hsteady := steadyLeave_moved (settleTaps e)
  change (advance e).steadyLeave at hsteady
  obtain ⟨hshow, hwait⟩ := round_shows (before := before) h
  unfold State.steadyLeave at hsteady ⊢
  obtain ⟨hphase, hwaits⟩ := hsteady
  rw [(settleTaps_only _).roster, hshow.phase, hwait]
  exact ⟨fun k => hphase ⟨k.1, hdrained⟩, hwaits⟩

/-- What a leave makes of the part, its event concluded. -/
structure LeaveConcluded (s e t : State) : Prop where
  goes : t.goes
  belief : t.roster.belief = e.roster.belief
  taps : ∀ k, (t.tap k).state ≠ .armed ∧ (t.tap k).state ≠ .running
  orders : t.orders = { e.orders with resendTimer := t.orders.resendTimer }
  settled : Settled s t
  told : ∀ {bs}, Told.Event s.control bs [] s e → (∀ p, (e.port p).inTransmission = (s.port p).inTransmission) →
    (∀ k, (s.tap k).state = .idle ∨ (s.tap k).state = .unbound) ∨ (∀ p, (s.port p).inTransmission.isSome = true) → Told s.control bs [] s t

theorem leave_concluded (h : LeaveMade s e) (he : x = postResult tag codeLeaveRack .accepted e) :
    LeaveConcluded s e (concludeFrom s x x) := by
  have hroster : x.roster = e.roster := by rw [he]; rfl
  have horders : x.orders = e.orders := by rw [he]; rfl
  have hlink : x.link = e.link := by rw [he]; rfl
  have hown : x.own = e.own := by rw [he]; rfl
  have htap (k : TapNo) : x.tap k = e.tap k := by rw [he]; rfl
  have hsettled : Settled s x := he ▸ h.settled.trans (settled_post ..)
  have hgoes : x.goes := by
    unfold State.goes
    rw [hroster, h.roster]
    exact .inl rfl
  have hsteady := steady_concludeFrom_of_calm (before := s) (noted := x) (e := x) (.inl rfl)
  have hrests (k : TapNo) := concludeFrom_rests (before := s) (noted := x) (e := x) (.inl rfl) k
  refine ⟨goes_concludeFrom (.inl rfl) hgoes, hsteady.belief.trans (congrArg Roster.belief hroster), fun k => ?_, by rw [hsteady.orders, horders],
    hsettled.trans (settled_concludeFrom ..), fun hevent hsent hor => ?_⟩
  · obtain ⟨harmed, hrunning⟩ := h.taps k
    rcases (hrests k).state with hs | ⟨-, hs⟩
    · rw [hs, htap]
      exact ⟨harmed, hrunning⟩
    · rw [hs]
      exact ⟨nofun, nofun⟩
  · have heventx := hevent.congr hown (fun f => by rw [State.entry, hroster]; rfl) hlink
    refine .of_event heventx rfl (concludesAs (.inl rfl) ?_)
    rcases hor with hidle | hbusy
    · exact steadyLeave_of_drained (.inl rfl) fun k => by rw [htap, h.still hidle]; exact hidle k
    · exact steadyLeave_of_inert (.inl rfl) fun p => .inl (by rw [State.port, hlink]; exact (congrArg Option.isSome (hsent p)).trans (hbusy p))

/-! ### What concluding an event leaves of the roster outside a leave -/

/-- A roster moved but for the belief, the tag of a leave and the refresh timer. -/
def RosterRests (s t : State) : Prop :=
  t.roster = { s.roster with belief := t.roster.belief, leaveTag := t.roster.leaveTag, refreshTimer := t.roster.refreshTimer }

namespace RosterRests

theorem of_eq (h : t.roster = s.roster) : RosterRests s t := by
  unfold RosterRests
  rw [h]

theorem trans (h : RosterRests s t) (k : RosterRests t u) : RosterRests s u := by
  unfold RosterRests at h k ⊢
  rw [k, h]

theorem ownState (h : RosterRests s t) : t.roster.ownState = s.roster.ownState := by
  unfold RosterRests at h
  rw [h]

theorem phase (h : RosterRests s t) : t.roster.phase = s.roster.phase := by
  unfold RosterRests at h
  rw [h]

end RosterRests

theorem rosterRests_order (o : FrameNo) (seq : Word16) (d : RackDirective) (s : State) : RosterRests s (order o seq d s) := by
  have hissue : (issueOrder o seq d s).roster = s.roster := by
    rw [issueOrder_eq, (queueing_broadcast (fun k _ => orderBody s o seq d k) s.sequenced).only]
    rfl
  have hcount (u : State) : (countOrdered u).roster = u.roster := rfl
  unfold order
  refine (RosterRests.of_eq hissue).trans (RosterRests.trans ?_ (.of_eq (hcount _)))
  generalize issueOrder o seq d s = i
  cases h : i.newOrder o seq with
  | true =>
    have happlied := applied_applyOrder (rackSeq := s.orders.nextRackSeq) (master := s.own) (d := d) id h
    generalize applyOrder id s.orders.nextRackSeq s.own o seq d i = v at happlied
    unfold RosterRests
    rw [happlied.roster]
  | false =>
    rw [applyOrder_of_old id h]
    exact .of_eq rfl

theorem rosterRests_dealEntry (s : State) (e : PendingEntry) : RosterRests s (dealEntry s e) := by
  unfold dealEntry
  split
  · exact .of_eq rfl
  · split
    · unfold orderOwn
      split
      · exact rosterRests_order ..
      · exact .of_eq rfl
    · exact .of_eq (requested_requestEntry ..).roster

theorem rosterRests_resubmit (before s : State) : RosterRests s (resubmit before s) := by
  have hfold (l : List PendingEntry) (u : State) : RosterRests u (l.foldl dealEntry u) := by
    induction l generalizing u with
    | nil => exact .of_eq rfl
    | cons e l ih => exact (rosterRests_dealEntry u e).trans (ih _)
  unfold resubmit
  split
  · exact .of_eq rfl
  · exact hfold ..

theorem rosterRests_round (hp : e.roster.phase = .none) (before noted : State) : RosterRests e (round before noted e) := by
  have hadv : (advance e).roster = e.roster := by rw [advance_of_waiting (.of_none hp), (settleTaps_only e).roster]
  have hnotify (left : Option FrameNo) (u : State) : RosterRests u (notify left noted u) := by
    have hn := (notified_notify left noted u).roster
    generalize notify left noted u = v at hn
    unfold RosterRests
    rw [hn]
  have hupdate (u : State) : RosterRests u (updateIfChanged before u) := by
    unfold updateIfChanged
    split
    · exact .of_eq rfl
    · have hmade := makeRosterUpdate_parts u
      generalize makeRosterUpdate u = v at hmade
      unfold RosterRests
      rw [hmade]
  have hsynced (u : State) : RosterRests u (syncResend (syncRefresh u)) := by
    have hs := (synced u).parts
    generalize syncResend (syncRefresh u) = v at hs
    unfold RosterRests
    rw [hs]
  have hready : RosterRests e (State.readied before noted e) := by
    unfold State.readied announce
    exact ((((RosterRests.of_eq hadv).trans (hnotify ..)).trans (rosterRests_resubmit ..)).trans (hupdate _)).trans (hsynced _)
  rw [round_eq]
  exact hready.trans (.of_eq ((granted .b _).roster.trans (granted .a _).roster))

/-- Outside a leave, concluding an event leaves the part its state. -/
theorem rosterRests_concludeFrom (hp : e.roster.phase = .none) (before noted : State) : RosterRests e (concludeFrom before noted e) := by
  have h1 := rosterRests_round hp before noted
  unfold concludeFrom
  dsimp only
  generalize round before noted e = s1 at h1
  have h2 := rosterRests_round (h1.phase.trans hp) s1 s1
  generalize round s1 s1 s1 = s2 at h2
  exact (h1.trans h2).trans (rosterRests_round ((h1.trans h2).phase.trans hp) s2 s2)

/-! ### Rejoin Rack (R108) -/

/-- The part as Rejoin Rack makes it, with its result. -/
def State.rejoined (s : State) (tag : Word16) : State :=
  postResult tag 0x25 .done (electIfNone (s.onRoster fun r => { r with ownState := .active }))

theorem rejoined_spec (s : State) (tag : Word16) : ∃ b, (s.rejoined tag).roster = { s.roster with ownState := .active, belief := b } ∧
    (s.rejoined tag).link = s.link ∧ (s.rejoined tag).own = s.own ∧ (s.rejoined tag).orders = s.orders ∧
    Settled s (s.rejoined tag) := by
  have helect : ∃ b, electIfNone (s.onRoster fun r => { r with ownState := .active }) =
      s.onRoster fun r => { r with ownState := .active, belief := b } := by
    unfold electIfNone
    split
    · exact ⟨_, rfl⟩
    · exact ⟨_, rfl⟩
  obtain ⟨b, hb⟩ := helect
  unfold State.rejoined
  rw [hb]
  refine ⟨b, rfl, rfl, rfl, rfl, Settled.trans ?_ (settled_post ..)⟩
  constructor <;> first | rfl | exact fun _ => rfl

theorem rejoin_concluded (s : State) (hp : s.roster.phase = .none) (hx : x = s.rejoined tag) (ht : t = concludeFrom s s x) :
    t.roster.ownState = .active ∧ Settled s t ∧ (s.orders.pending = [] → Told s.control [] [] s t) := by
  obtain ⟨b, hroster, hlink, hown, horders, hsettled⟩ := rejoined_spec s tag
  rw [← hx] at hroster hlink hown horders hsettled
  have hphase : x.roster.phase = .none := by rw [hroster]; exact hp
  have hrests := rosterRests_concludeFrom hphase s s
  have hconcludes (hc : x.calm s) := concludesAs_of_waiting (before := s) hc (.of_none hphase)
  have hall := hsettled.trans (settled_concludeFrom s s x)
  rw [← ht] at hrests hall hconcludes
  refine ⟨?_, hall, fun hpending => .of_event (told_event_of_link hown hlink) rfl (hconcludes (.inr (by rw [horders]; exact hpending)))⟩
  rw [hrests.ownState, hroster]

/-! ### The directives taken (R104, R108) -/

theorem exec_leaveRack_of_refused {force : Bool} {r : DirectiveResult} (hv : (s.region 0).valid = true)
    (h : leaveRack tag force s.taken = postResult tag 0x24 r s.taken) : exec (.leaveRack tag force) s = .next (postResult tag 0x24 r s.taken) := by
  have hexec : exec (.leaveRack tag force) s = .next (leaveRack tag force s.taken) := exec_of_directive (.leaveRack tag force) rfl hv
  rw [hexec, h]

theorem leaveRack_of_allowed {force : Bool} (ha : s.roster.ownState = .active)
    (h : s.roster.belief ≠ some s.own ∨ s.successor ≠ none ∨ force = true) (hx : x = postResult tag codeLeaveRack .accepted (leave tag s)) :
    leaveRack tag force s = concludeFrom s x x := by
  unfold leaveRack
  rw [if_neg fun k => k ha, if_neg, hx]
  rintro ⟨hb, hs, hf⟩
  rcases h with h | h | h
  · exact h hb
  · exact h hs
  · rw [h] at hf
    exact nomatch hf

theorem leave_of_handover (hb : s.roster.belief = some s.own) (hs : s.successor = some f) : leave tag s = handOver tag f s := by
  unfold leave
  simp only [hs]
  exact if_pos hb

theorem leave_of_none (h : s.roster.belief ≠ some s.own ∨ s.successor = none) : leave tag s = goLeaving tag s s := by
  unfold leave
  split
  · next hs => exact if_neg (h.resolve_right (by rw [hs]; exact nofun))
  · rfl

theorem handedOver (tag : Word16) (hb : s.roster.belief = some s.own) (hs : s.successor = some f) : HandedOver s f (handOver tag f s) := by
  cases h : s.handsNew with
  | true => exact handedOver_new tag hs h
  | false => exact handedOver_old tag hb hs h

theorem leave_made (tag : Word16) (s : State) : LeaveMade s (leave tag s) := by
  by_cases h : s.roster.belief ≠ some s.own ∨ s.successor = none
  · rw [leave_of_none h]
    exact (goLeaving_made tag s (.refl s) rfl rfl).1
  · obtain ⟨hb, hs⟩ := not_or.mp h
    obtain ⟨f, hf⟩ := Option.ne_none_iff_exists'.mp hs
    rw [leave_of_handover (not_not.mp hb) hf]
    exact (handedOver tag (not_not.mp hb) hf).made

theorem Told.Event.of_taken {bs : List (Word16 → Body)} {us : List (FrameNo × Body)} (h : Told.Event s.control bs us s.taken e) :
    Told.Event s.control bs us s e := ⟨h.own, h.control, h.sending, h.seq, h.unsent⟩

theorem PortSends.of_taken {k : List Frame × Nat} (h : PortSends k p s.taken t) : PortSends k p s t := ⟨h.drops, h.busy, h.idle⟩

theorem Told.of_taken {bs : List (Word16 → Body)} {us : List (FrameNo × Body)} (h : Told s.control bs us s.taken t) : Told s.control bs us s t :=
  ⟨fun hc p hp => (h.changed hc p hp).of_taken, fun hc p hp => (h.unchanged hc p hp).of_taken, h.seqChanged, h.seqUnchanged, h.seqStands, h.unsent, h.refresh⟩

/-- Settles O41: by the handover or none, and by the own part state. -/
theorem leaveAndRejoinChangeTheOwnState : Obligations.LeaveAndRejoinChangeTheOwnState := by
  refine ⟨fun s tag force hv hright => ?_, fun s tag hv hright => ?_⟩
  · intro c
    refine ⟨fun hn => exec_leaveRack_of_refused hv (if_pos hn), fun ha hb hs hf => exec_leaveRack_of_refused hv ?_, fun ha hallowed => ?_⟩
    · exact (if_neg fun k => k ha).trans (if_pos ⟨hb, hs, by rw [hf]; rfl⟩)
    · obtain ⟨x, hx⟩ : ∃ x, x = postResult tag codeLeaveRack .accepted (leave tag s.taken) := ⟨_, rfl⟩
      have hexec : exec c s = .next (leaveRack tag force s.taken) := exec_of_directive (.leaveRack tag force) rfl hv
      rw [leaveRack_of_allowed (s := s.taken) ha hallowed hx] at hexec
      have hmade := leave_made tag s.taken
      have hhanded (f : FrameNo) (hb : s.roster.belief = some s.own) (hs : s.successor = some f) : HandedOver s.taken f (leave tag s.taken) :=
        (leave_of_handover (s := s.taken) hb hs).symm ▸ handedOver (s := s.taken) tag hb hs
      have hgone (h : s.roster.belief ≠ some s.own ∨ s.successor = none) : s.orders.pending = [] → (leave tag s.taken).link = s.link := by
        obtain ⟨-, -, -, hlink⟩ := goLeaving_made (s := s.taken) tag s.taken (.refl _) rfl rfl
        rw [leave_of_none (s := s.taken) h]
        exact hlink
      generalize leave tag s.taken = e at hx hmade hhanded hgone
      have ht := leave_concluded hmade hx
      generalize concludeFrom s.taken x x = t at hexec ht
      refine ⟨t, hexec, ht.goes, by rw [ht.belief]; exact hmade.belief, ht.taps, fun f hb hs => ?_, fun hp hor => ⟨fun f hb hs => ?_, fun h => ?_⟩,
        ht.settled.entries, ht.settled.channel, ht.settled.regions, ht.settled.mirrors⟩
      · obtain ⟨-, hbelief, ⟨hseq, hrack⟩, hordered, hnew, hold, -⟩ := hhanded f hb hs
        rw [ht.belief, ht.orders]
        exact ⟨hbelief, hseq, hrack, hordered, fun h => ⟨by rw [(hnew h).1]; exact Vector.getElem_set_self .., (hnew h).2⟩, hold⟩
      · have hlink := (hhanded f hb hs).link hp
        have hentry (g : FrameNo) : e.entry g = (s.taken.handing f).entry g := by
          rw [State.entry, hmade.settled.entries, State.entry, (settled_handing s.taken f).entries]
        have hevent := (handing_told s.taken f).congr (hmade.settled.own.trans (settled_handing s.taken f).own.symm) hentry hlink
        exact .of_taken (ht.told hevent (fun p => by rw [State.port, hlink]; exact handing_sending s.taken f p) hor)
      · have hlink := hgone h hp
        exact .of_taken (ht.told (told_event_of_link hmade.settled.own hlink) (fun p => by rw [State.port, hlink]; rfl) hor)
  · have hexec : exec (.rejoinRack tag) s = .next (rejoinRack tag s.taken) := exec_of_directive (.rejoinRack tag) rfl hv
    refine ⟨fun hn => hexec.trans (congrArg Host.Outcome.next (if_neg hn)), fun hd => ?_⟩
    have hrejoin : rejoinRack tag s.taken = concludeFrom s.taken s.taken (s.taken.rejoined tag) := if_pos hd
    obtain ⟨-, hphase, -⟩ := hright
    have hnone : s.taken.roster.phase = .none := by
      by_contra hne
      exact nomatch hd.symm.trans (hphase.mpr hne)
    rw [hrejoin] at hexec
    have hconcluded {t : State} := rejoin_concluded s.taken hnone (tag := tag) rfl (t := t)
    generalize concludeFrom s.taken s.taken (s.taken.rejoined tag) = t at hexec hconcluded
    obtain ⟨hstate, hsettled, htold⟩ := hconcluded rfl
    exact ⟨t, hexec, hstate, hsettled.incarnation, hsettled.entries, hsettled.mirrors, fun hp => .of_taken (htold hp), hsettled.channel, hsettled.regions⟩

end Sys2Proof.Machine

/-! PROOFS. What ends at its event (R40, R43, R82, R105, R107): transmissions, drained taps, arm times and leaves; and what an arbiter grants
(R55 to R57, R83, R84). -/

namespace Sys2Proof.Machine
variable {s t u w x e before : State} {p q : Port} {f : FrameNo} {k : TapNo}

/-! ### Transmissions (R82) -/

/-- The part whose transmission on a port has ended. -/
def State.sentOn (s : State) (p : Port) : State :=
  s.onPort p fun r => { r with inTransmission := none, counters := { r.counters with sent := countUp r.counters.sent } }

theorem completeFrame_of_some {g : Frame} (h : (s.port p).inTransmission = some g) : completeFrame p s = s.sentOn p :=
  if_pos (by rw [h]; rfl)

theorem completeFrame_of_none (h : (s.port p).inTransmission = none) : completeFrame p s = s :=
  if_neg (by rw [h]; exact nofun)

theorem sentOn_joined (s : State) (p q : Port) : (s.sentOn p).joined q = s.joined q := by
  rcases port_cases p q with rfl | rfl
  · rw [State.joined, State.sentOn, onPort_self]; rfl
  · rw [State.joined, State.sentOn, onPort_other]; rfl

/-- R82: where the other port sends and nothing else follows, the end of a transmission brings the port its next frame. -/
theorem sentOn_concluded (hbusy : (s.port (otherPort p)).inTransmission.isSome = true) (hphase : s.roster.phase = .none)
    (hk : ∀ j, (s.tap j).state ≠ .draining) (hup : s.upPortNow = s.clock.upPort) (ht : timersRight s) :
    conclude s (s.sentOn p) = grant p (s.sentOn p) := by
  have hruns : (s.sentOn p).refreshRuns = s.refreshRuns := refreshRuns_congr (.of_roster rfl rfl) (sentOn_joined s p)
  have htimers : timersRight (s.sentOn p) := ⟨ht.1.trans hruns.symm, ht.2⟩
  have hgrants := concludeFrom_of_granting (before := s) (x := s.sentOn p) rfl (.of_none hphase) hk hup rfl htimers
  have hother : ((s.sentOn p).port (otherPort p)).inTransmission.isSome = true := by
    rw [State.sentOn, onPort_other]
    exact hbusy
  refine hgrants.trans ?_
  cases p with
  | a =>
    refine grant_of_busy .b (grant .a (s.sentOn .a)) ?_
    have := (granted .a (s.sentOn .a)).other
    change (grant .a (s.sentOn .a)).port .b = (s.sentOn .a).port .b at this
    rw [this]
    exact hother
  | b => rw [grant_of_busy .a (s.sentOn .b) hother]

/-! ### Drained taps and arm times (R40, R43) -/

/-- R43: a drained tap, its event concluded. -/
theorem drained_concluded (hd : (s.tap k).state = .draining) (hq : (s.tap k).queue = []) :
    let t := conclude s (settleTap k s)
    (t.tap k).state = .idle ∧ (t.tap k).waiting = [] ∧ (t.tap k).counters = (s.tap k).counters ∧ (t.tap k).pass = (s.tap k).pass ∧
      (t.tap k).r = (s.tap k).r ∧ (t.tap k).x = (s.tap k).x := by
  have hbelief : (settleTap k s).roster.belief = s.roster.belief := by rw [(settleTap_only k s).roster]
  have hself : (settleTap k s).tap k = { s.tap k with state := .idle, waiting := [] } := by
    rw [settleTap_tap, if_pos rfl]
    exact if_pos ⟨hd, hq⟩
  have hrests := concludeFrom_rests (before := s) (noted := s) (e := settleTap k s) (.inl hbelief.symm) k
  intro t
  change TapRests ((settleTap k s).tap k) (t.tap k) at hrests
  generalize t.tap k = r at hrests
  rw [hself] at hrests
  refine ⟨hrests.stands nofun, hrests.waiting.elim id fun h => h.2, ?_, ?_, ?_, ?_⟩ <;> rw [hrests.parts]

/-! ### Leaves (R105, R107) -/

theorem announceLeave_of_drained (hp : s.roster.phase = .draining)
    (hd : ∀ j, (s.tap j).state = .idle ∨ (s.tap j).state = .unbound ∨ ((s.tap j).state = .halted ∧ (s.tap j).queue = [])) :
    announceLeave s = s.onRoster fun r => { r with
      phase := .announced, waitSet := frameSet fun f => decide (f ≠ s.own) && (s.entry f).state == .present } := by
  refine if_pos ⟨hp, List.all_eq_true.mpr fun j _ => ?_⟩
  unfold Tap.drained
  rcases hd j with h | h | ⟨h, hq⟩
  · rw [h]
  · rw [h]
  · rw [h, hq]
    rfl

/-- R105: a leave announced, its event concluded. -/
theorem announced_concluded (hs : s.roster.ownState = .leaving) (he : e = s.onRoster fun r => { r with
      phase := .announced, waitSet := frameSet fun f => decide (f ≠ s.own) && (s.entry f).state == .present }) (ht : t = concludeFrom s s e) :
    let waits := frameSet fun f => decide (f ≠ s.own) && (s.entry f).state == .present
    (waits ≠ 0 → t.roster.phase = .announced ∧ t.roster.waitSet = waits ∧ t.roster.ownState = .leaving) ∧
      (waits = 0 → t.roster.phase = .none ∧ t.roster.ownState = .departed) := by
  intro waits
  have hbelief : s.roster.belief = e.roster.belief := by rw [he]; rfl
  have hphase : e.roster.phase = .announced := by rw [he]; rfl
  have hwaits : e.roster.waitSet = waits := by rw [he]; rfl
  have hstate : e.roster.ownState = .leaving := by rw [he]; exact hs
  refine ⟨fun hne => ?_, fun h0 => ?_⟩
  · have hwaiting : e.waiting := ⟨fun k => (nomatch hphase.symm.trans k), fun _ => by rw [hwaits]; exact hne⟩
    have hconcludes := concludesAs_of_waiting (before := s) (noted := s) (.inl hbelief) hwaiting
    have hadv : (advance e).roster = e.roster := by
      rw [advance_of_waiting hwaiting]
      exact (settleTaps_only e).roster
    rw [← ht] at hconcludes
    rw [hconcludes.shows.phase, hconcludes.waitSet, hconcludes.shows.ownState, hadv]
    exact ⟨hphase, hwaits, hstate⟩
  · obtain ⟨h1, h2, -⟩ := completes_concluded hphase (hwaits.trans h0) hbelief (by rw [hs]; exact nofun) ht
    exact ⟨h2, h1⟩

/-- R107: a leave completed, its event concluded. -/
theorem completed_concluded (hs : s.roster.ownState = .leaving) (he : e = s.onRoster fun r => { r with ownState := .departed, phase := .none })
    (ht : t = concludeFrom s s e) : t.roster.ownState = .departed ∧ t.roster.phase = .none ∧ t.roster.leaveTag = none ∧
      t.roster.entries = s.roster.entries := by
  have hcalm : e.calm s := .inl (by rw [he]; rfl)
  have hphase : e.roster.phase = .none := by rw [he]; rfl
  have hwaiting : e.waiting := .of_none hphase
  have hconcludes := concludesAs_of_waiting (before := s) hcalm hwaiting
  have hadv : (advance e).roster = e.roster := by
    rw [advance_of_waiting hwaiting]
    exact (settleTaps_only e).roster
  have hdeparted : (advance e).roster.ownState = .departed := by
    rw [hadv, he]
    rfl
  have htag := concludeFrom_leaveTag (before := s) hcalm (by rw [hs]; exact nofun) hdeparted
  have hentries := (settled_concludeFrom s s e).entries
  rw [← ht] at hconcludes htag hentries
  refine ⟨hconcludes.shows.ownState.trans hdeparted, ?_, htag, by rw [hentries, he]; rfl⟩
  rw [hconcludes.shows.phase, hadv, hphase]

/-! ### The entries of one frame (R56) -/

/-- R56: an entry stands `n` places behind the first of a Sample frame on a port. -/
def Continues (p : Port) (e : QueueEntry) (r x : Nat) (n : Nat) (q : QueueEntry) : Prop :=
  (∃ data, q.load = .line r (x + n) data) ∧ q.pass = e.pass ∧ q.half = e.half ∧ q.dests.get p = e.dests.get p

theorem follows_iff {e prev d : QueueEntry} {r x n : Nat} (h : Continues p e r x n prev) :
    prev.follows p d = true ↔ Continues p e r x (n + 1) d := by
  obtain ⟨⟨data, hload⟩, hpass, hhalf, hdests⟩ := h
  unfold QueueEntry.follows Continues
  rw [hload, ← hpass, ← hhalf, ← hdests]
  cases hd : d.load with
  | mark kind forwarded => simp
  | line r' x' data' =>
    simp only [Bool.and_eq_true, beq_iff_eq, EntryLoad.line.injEq, exists_and_left]
    constructor
    · rintro ⟨⟨⟨⟨h1, h2⟩, h3⟩, h4⟩, h5⟩
      exact ⟨⟨h3, by omega, _, rfl⟩, h1, h2, h5⟩
    · rintro ⟨⟨h3, h4, -⟩, h1, h2, h5⟩
      exact ⟨⟨⟨⟨h1, h2⟩, h3⟩, by omega⟩, h5⟩

theorem Continues.isMark {e d : QueueEntry} {r x n : Nat} (h : Continues p e r x n d) : d.isMark = false := by
  obtain ⟨⟨data, hload⟩, -⟩ := h
  unfold QueueEntry.isMark
  rw [hload]

/-- R56: a run behind an entry of a line takes the lines that follow on, as far as the room goes. -/
theorem runOf_lines {e prev : QueueEntry} {r x n room : Nat} {l : List QueueEntry} {next : Option QueueEntry} (hprev : Continues p e r x n prev)
    (h : RunOf p (some prev) room l next) : l.length ≤ room ∧ (∀ i q, l[i]? = some q → Continues p e r x (n + 1 + i) q) ∧
      (l.length < room → ∀ q, next = some q → ¬ Continues p e r x (n + 1 + l.length) q) := by
  induction l generalizing prev n room with
  | nil =>
    refine ⟨Nat.zero_le _, fun i q hi => (nomatch hi), fun hroom q hq hc => ?_⟩
    have hnext := h q hq
    unfold QueueEntry.next at hnext
    simp only [Option.all_some, decide_eq_true (show 0 < room from hroom), Bool.true_and] at hnext
    rw [(follows_iff hprev).mpr hc] at hnext
    exact nomatch hnext
  | cons d l ih =>
    obtain ⟨hnext, hrest⟩ := h
    unfold QueueEntry.next at hnext
    simp only [Option.all_some, Bool.and_eq_true, decide_eq_true_eq] at hnext
    have hd := (follows_iff hprev).mp hnext.2
    rw [hd.isMark, if_neg Bool.false_ne_true] at hrest
    obtain ⟨hlen, hall, hstop⟩ := ih hd hrest
    refine ⟨by rw [List.length_cons]; omega, fun i q hi => ?_, fun hroom q hq hc => ?_⟩
    · cases i with
      | zero => exact Option.some.inj hi ▸ hd
      | succ i => exact (show n + 1 + 1 + i = n + 1 + (i + 1) by omega) ▸ hall i q hi
    · rw [List.length_cons] at hroom hc
      exact hstop (by omega) q hq ((show n + 1 + 1 + l.length = n + 1 + (l.length + 1) by omega) ▸ hc)

/-- R56: what one frame takes: a mark alone, or a line with the lines that follow on. -/
theorem runOf_first {e : QueueEntry} {more : List QueueEntry} {next : Option QueueEntry} (h : RunOf p none 4 (e :: more) next) :
    (∀ kind forwarded, e.load = .mark kind forwarded → more = []) ∧
    (∀ r x data, e.load = .line r x data → more.length ≤ 3 ∧ (∀ n q, more[n]? = some q → Continues p e r x (n + 1) q) ∧
      (more.length < 3 → ∀ q, next = some q → ¬ Continues p e r x (more.length + 1) q)) := by
  obtain ⟨-, hrest⟩ := h
  refine ⟨fun kind forwarded hl => ?_, fun r x data hl => ?_⟩
  · have hmark : e.isMark = true := by
      unfold QueueEntry.isMark
      rw [hl]
    rw [hmark, if_pos rfl] at hrest
    cases more with
    | nil => rfl
    | cons d l => exact absurd hrest.1 (by simp [QueueEntry.next])
  · have hself : Continues p e r x 0 e := ⟨⟨data, hl⟩, rfl, rfl, rfl⟩
    rw [hself.isMark, if_neg Bool.false_ne_true] at hrest
    obtain ⟨hlen, hall, hstop⟩ := runOf_lines hself hrest
    exact ⟨hlen, fun n q hn => (show 0 + 1 + n = n + 1 by omega) ▸ hall n q hn,
      fun hroom q hq hc => hstop hroom q hq ((show more.length + 1 = 0 + 1 + more.length by omega) ▸ hc)⟩

/-! ### Levels and turns (R55, R80, R84) -/

/-- R55: a tap's level, as the statement writes it. -/
def Tap.requests (k : Tap) (p : Port) : Nat :=
  let n := (k.queue.filter fun e => e.pending.get p).length
  if k.state = .unbound then 0
  else if k.high ≤ n ∧ 1 ≤ n then 3
  else if k.low ≤ n ∧ 1 ≤ n then 2
  else if k.stop < n then 1
  else if 1 ≤ n ∧ ((∃ e ∈ k.queue, e.isMark = true ∧ e.pending.get p = true) ∨ k.state = .draining ∨ k.state = .halted) then 1
  else 0

theorem level_eq_requests (k : Tap) (p : Port) : k.level p = k.requests p := by
  have hn : k.waitingOn p = (k.queue.filter fun e => e.pending.get p).length := rfl
  have hmark : k.queue.any (fun e => e.isMark && e.pending.get p) = true ↔ ∃ e ∈ k.queue, e.isMark = true ∧ e.pending.get p = true := by
    simp [List.any_eq_true]
  unfold Tap.level Tap.requests
  simp only [hn, hmark]

theorem tapOf_pred (i : Fin 9) : (Fin.ofNat 8 (i.val - 1) : TapNo) = ⟨i.val - 1, by omega⟩ :=
  Fin.ext (Nat.mod_eq_of_lt (by omega))

/-- R56: the frame that the entries of a run make. -/
def FrameOf (j : TapNo) (p : Port) (e : QueueEntry) (more : List QueueEntry) (next : Option QueueEntry) (frame : Body) : Prop :=
  match e.load with
  | .mark kind forwarded => more = [] ∧ frame =
      .mark ⟨e.dests.get p, eightByte j, halfCode e.half, markCode kind, e.pass, BitVec.ofNat 32 forwarded, e.stamp⟩
  | .line r x _ => more.length ≤ 3 ∧ (∀ n q, more[n]? = some q → Continues p e r x (n + 1) q) ∧
      (more.length < 3 → ∀ q, next = some q → ¬ Continues p e r x (more.length + 1) q) ∧
      frame = .sample ⟨e.dests.get p, eightByte j, halfCode e.half, e.pass, BitVec.ofNat 16 r, BitVec.ofNat 16 x, e.stamp,
        (e :: more).flatMap QueueEntry.lines⟩

theorem tapFrame_run {own : FrameNo} {j : TapNo} {e : QueueEntry} {more : List QueueEntry} {next : Option QueueEntry} {g : Frame}
    (hrun : RunOf p none 4 (e :: more) next) (h : tapFrame own j p (e :: more) = some g) :
    ∃ b, g = ⟨⟨eightByte own, 0⟩, b⟩ ∧ FrameOf j p e more next b := by
  obtain ⟨hmark, hline⟩ := runOf_first hrun
  unfold FrameOf
  unfold tapFrame at h
  cases hl : e.load with
  | mark kind forwarded =>
    simp only [hl, Option.some.injEq] at h
    exact ⟨_, h.symm, hmark kind forwarded hl, rfl⟩
  | line r x data =>
    simp only [hl, Option.some.injEq] at h
    obtain ⟨hlen, hall, hstop⟩ := hline r x data hl
    exact ⟨_, h.symm, hlen, hall, hstop, rfl⟩

theorem leftBy_eq (p : Port) : QueueEntry.leftBy p = fun e => if e.pending.get p
    then (if e.pending.get (otherPort p) then some { e with pending := e.pending.set p false } else none) else some e := by
  funext e
  unfold QueueEntry.leftBy
  rw [sentOn_waits]
  rfl

/-- R55 to R57, R84: a tap granted, its frame and what stands in its queue. -/
theorem grant_tap_spec (hidle : (s.port p).inTransmission = none) (hj : (s.port p).state = .joined) (hr : (s.port p).slotReply = none)
    (hq : (s.port p).slotRequest = none) (hc : (s.port p).control = []) {i : Fin 9} (h : s.rotatingChoice p = some i) (hi : i.val ≠ 0) :
    let t : TapNo := Fin.ofNat 8 (i.val - 1)
    ∃ front back e more frame, (s.tap t).queue = front ++ back ∧ front.filter (fun e => e.pending.get p) = e :: more ∧
      grant p s = ((s.onTap t fun k => { k with queue := front.filterMap (QueueEntry.leftBy p) ++ back }).onPort p fun k =>
        { k with lastGranted := i, inTransmission := some ⟨⟨eightByte s.own, 0⟩, frame⟩ }) ∧
      FrameOf t p e more (back.find? fun e => e.pending.get p) frame := by
  intro t
  obtain ⟨g, hg, hgrant⟩ := grant_of_tap hidle hj hr hq hc h hi
  rw [← tapOf_pred i] at hg hgrant
  change tapFrame s.own t p (takeRun p none 4 (s.tap t).queue).1 = some g at hg
  obtain ⟨front, back, hqueue, hrun, hof⟩ := takeRun_spec (p := p) none 4 (s.tap t).queue
  rw [hrun] at hg
  cases hfilter : front.filter fun e => e.pending.get p with
  | nil =>
    rw [hfilter] at hg
    exact nomatch hg
  | cons e more =>
    rw [hfilter] at hg hof
    obtain ⟨b, rfl, hframe⟩ := tapFrame_run hof hg
    refine ⟨front, back, e, more, b, hqueue, hfilter, hgrant.trans ?_, hframe⟩
    have htap : (s.onTap t fun k => { k with queue := (takeRun p none 4 k.queue).2 }) =
        s.onTap t fun k => { k with queue := front.filterMap (QueueEntry.leftBy p) ++ back } :=
      onTap_congr (by rw [hrun])
    exact congrArg (fun u : State => u.onPort p fun k => { k with lastGranted := i, inTransmission := some ⟨⟨eightByte s.own, 0⟩, b⟩ }) htap

/-- Settles O58: the ends of work by the branches of their events, and the grants by the port's state, slots, queues and levels. -/
theorem workEndsAtItsEvent : Obligations.WorkEndsAtItsEvent := by
  refine ⟨fun s p k => ?_, fun s p => ?_⟩
  · intro sent drained
    refine ⟨fun f hf => ?_, fun f hf hbusy hphase hk hup ht => ?_, fun hn => ?_, fun hd hq => ?_, fun hd hq => ⟨_, rfl, drained_concluded hd hq⟩,
      fun ha ht => ?_, fun h => ?_, fun hp hs hd => ?_, fun hp hw hs => ?_⟩
    · exact congrArg (fun u : State => Host.Outcome.next (conclude s u)) (completeFrame_of_some hf)
    · refine (congrArg (fun u : State => Host.Outcome.next (conclude s u)) (completeFrame_of_some hf)).trans ?_
      exact congrArg Host.Outcome.next (sentOn_concluded hbusy hphase hk hup ht)
    · exact congrArg (fun u : State => Host.Outcome.next (conclude s u)) (completeFrame_of_none hn)
    · exact congrArg (fun u : State => Host.Outcome.next (conclude s u)) (if_pos ⟨hd, hq⟩)
    · have hstart : startIfDue k s = s.onTap k fun r => r.started (s.region (tapRegion k)).paired :=
        (startIfDue_eq k s).trans (onTap_congr (if_pos ⟨ha, ht⟩))
      have hexec : exec (.armTimeReached k) s = .next (startIfDue k s) := rfl
      rw [hstart] at hexec
      refine ⟨_, hexec, ?_, ?_, ?_, ?_, fun j hj => onTap_other _ _ hj, rfl⟩ <;> rw [onTap_self] <;> rfl
    · refine congrArg Host.Outcome.next (if_neg fun k => ?_)
      exact h.elim (fun h => h k.1) fun h => Nat.not_le.mpr h k.2
    · have hexec : exec .leaveAnnounced s = .next (conclude s (announceLeave s)) := rfl
      rw [announceLeave_of_drained hp hd] at hexec
      exact ⟨_, hexec, announced_concluded hs rfl rfl⟩
    · have hexec : exec .leaveComplete s = .next (conclude s (completeLeave s)) := rfl
      have hcomplete : completeLeave s = s.onRoster fun r => { r with ownState := .departed, phase := .none } := if_pos ⟨hp, hw⟩
      rw [hcomplete] at hexec
      exact ⟨_, hexec, completed_concluded hs rfl rfl⟩
  · intro r now own tapLevel relays level turn
    have hlevel (i : Fin 9) : level i = s.rotatingLevel p i := by
      by_cases hi : i.val = 0
      · have : i = 0 := Fin.ext hi
        subst this
        rfl
      · rw [rotatingLevel_tap hi, level_eq_requests, ← tapOf_pred i]
        exact if_neg hi
    refine ⟨fun h => ?_, fun hidle hl => ⟨fun f rest hc hf => ?_, fun hc => ?_⟩, fun hidle hj => ⟨fun b hb => ?_, fun b hr hb => ?_,
      fun f rest hr hq hc => ?_, fun hr hq hc => ⟨fun h0 => ?_, fun i hi hfirst => ?_⟩⟩⟩
    · exact h.elim (grant_of_busy p s) (grant_of_down p s)
    · exact grant_of_hello hidle hl hc hf
    · exact grant_of_no_hello hidle hl hc
    · exact grant_of_reply hidle hj hb
    · exact grant_of_request hidle hj hr hb
    · exact grant_of_control hidle hj hr hq hc
    · exact grant_of_none hidle hj hr hq hc fun i => (hlevel i).symm.trans (h0 i)
    · simp only [hlevel] at hi hfirst
      have hchoice := rotatingChoice_of_first hi hfirst
      refine ⟨fun f rest h0 hf => ?_, fun hne => ?_⟩
      · have : i = 0 := Fin.ext h0
        subst this
        exact grant_of_relay hidle hj hr hq hc hchoice hf
      · intro t
        have hspec := grant_tap_spec hidle hj hr hq hc hchoice hne
        rw [leftBy_eq] at hspec
        exact hspec

end Sys2Proof.Machine

/-! PROOFS. The stored-configuration load (R14, R28, R89, R184 to R187): its steps, and its four endings that make the part Active. -/

namespace Sys2Proof.Machine
variable {s t u w x e before noted : State} {p q : Port} {f : FrameNo} {c : StoredConfig} {m : AddressMap}

/-! ### Configuration faults -/

/-- The bit of a configuration fault among those kept since part reset. -/
def faultBit : ConfigFault → BitVec 5
  | .addressMap => 1
  | .regionPlacement => 2
  | .restartCount => 4
  | .eepromAbsent => 8
  | .configUnreadable => 16

theorem raiseConfigFault_eq (cause : ConfigFault) (s : State) : raiseConfigFault cause s = raise (.configurationFault cause)
    { s with reporter := { s.reporter with configFaults := s.reporter.configFaults ||| faultBit cause } } := by
  cases cause <;> rfl

/-! ### The stored values (R14) -/

theorem map_spec (c : StoredConfig) : (c.map = none ↔ ¬ ((c.ranks.toNat = 1 ∨ c.ranks.toNat = 2) ∧ (c.banks.toNat = 8 ∨ c.banks.toNat = 16) ∧
      14 ≤ c.rowBits.toNat ∧ c.rowBits.toNat ≤ 18 ∧ c.order.toNat ≤ 3)) ∧
    ∀ m, c.map = some m → m.ranks = c.ranks.toNat ∧ m.banks = c.banks.toNat ∧ m.rowBits = c.rowBits.toNat ∧
      (m.order, c.order) ∈ [(MapOrder.a, (0 : Byte)), (.b, 1), (.c, 2), (.d, 3)] := by
  have hranks : (c.ranks = 1 ∨ c.ranks = 2) ↔ (c.ranks.toNat = 1 ∨ c.ranks.toNat = 2) := by
    simp only [← BitVec.toNat_inj]
    rfl
  have hbanks : (c.banks = 8 ∨ c.banks = 16) ↔ (c.banks.toNat = 8 ∨ c.banks.toNat = 16) := by
    simp only [← BitVec.toNat_inj]
    rfl
  have horder : (∃ o, toOrder c.order = some o ∧ (o, c.order) ∈ [(MapOrder.a, (0 : Byte)), (.b, 1), (.c, 2), (.d, 3)] ∧ c.order.toNat ≤ 3) ∨
      (toOrder c.order = none ∧ 3 < c.order.toNat) := by
    unfold toOrder
    split_ifs with h0 h1 h2 h3
    · exact .inl ⟨_, rfl, by rw [h0]; decide, by rw [h0]; decide⟩
    · exact .inl ⟨_, rfl, by rw [h1]; decide, by rw [h1]; decide⟩
    · exact .inl ⟨_, rfl, by rw [h2]; decide, by rw [h2]; decide⟩
    · exact .inl ⟨_, rfl, by rw [h3]; decide, by rw [h3]; decide⟩
    · refine .inr ⟨rfl, ?_⟩
      bv_omega
  unfold StoredConfig.map
  rcases horder with ⟨o, ho, hm, hle⟩ | ⟨ho, hlt⟩
  · simp only [ho, hranks, hbanks]
    split
    · next h =>
      refine ⟨⟨nofun, fun k => absurd ⟨h.1, h.2.1, h.2.2.1, h.2.2.2, hle⟩ k⟩, ?_⟩
      rintro _ ⟨⟩
      exact ⟨rfl, rfl, rfl, hm⟩
    · next h => exact ⟨⟨fun _ k => h ⟨k.1, k.2.1, k.2.2.1, k.2.2.2.1⟩, fun _ => rfl⟩, nofun⟩
  · simp only [ho]
    exact ⟨⟨fun _ k => by omega, fun _ => trivial⟩, nofun⟩

/-! ### The readings (R184 to R186) -/

/-- R14: the map that stored values put in force, and its fault. -/
theorem loadMap_eq (c : StoredConfig) (s : State) : loadMap c s =
    if c.map = none then raiseConfigFault .addressMap (setMap (c.map.getD AddressMap.default) s) else setMap (c.map.getD AddressMap.default) s := by
  unfold loadMap
  cases c.map with
  | none => rw [if_pos rfl]; rfl
  | some m => rw [if_neg nofun]; rfl

theorem loadMap_map (c : StoredConfig) (s : State) : (loadMap c s).channel.map = some (c.map.getD AddressMap.default) := by
  rw [loadMap_eq]
  split <;> rfl

/-- R28, R185: the placement's fault at the distribution. -/
theorem checkPlacement_eq (h : s.channel.map = some m) : (c.faulty m → checkPlacement c s = raiseConfigFault .regionPlacement s) ∧
    (¬ c.faulty m → checkPlacement c s = s) := by
  have hlines : s.channelLines = m.lines := by simp only [State.channelLines, h, Option.map_some, Option.getD_some]
  have hiff : placementFaulty c s.channelLines = true ↔ c.faulty m := by rw [hlines]; exact placementFaulty_iff c m
  exact ⟨fun hf => if_pos (hiff.mpr hf), fun hf => if_neg fun k => hf (hiff.mp k)⟩

theorem distribute_of_none (h : s.reporter.stored = none) : distribute s = distributeDefaults s := by
  unfold distribute
  rw [h]

theorem distribute_of_some (h : s.reporter.stored = some c) : distribute s = ((checkPlacement c (loadMap c s)).onRoster fun r =>
    { r with masterCapable := c.masterCapable, autoAdmit := c.autoAdmit }).onClock (RackTime.setSettings c.timeArgs) := by
  unfold distribute
  rw [h]

theorem exec_restartCountRead (count : Option Word16) (h : s.reporter.loadStep = .restartCount) :
    exec (.restartCountRead count) s = .next (readCount count s) := congrArg Host.Outcome.next (if_pos h)

theorem exec_blockRead (block : Option (BitVec 448)) (h : s.reporter.loadStep = .firstBlock ∨ s.reporter.loadStep = .secondBlock) :
    exec (.configurationBlockRead block) s = .next (readBlock block s) := congrArg Host.Outcome.next (if_pos h)

theorem readBlock_of_some {block : Option (BitVec 448)} (h : block.bind decodeBlock = some c) : readBlock block s = takeBlock c s := by
  unfold readBlock
  rw [h]

theorem readBlock_of_none {block : Option (BitVec 448)} (h : block.bind decodeBlock = none) : readBlock block s = badBlock s := by
  unfold readBlock
  rw [h]

/-- R186: what a restart count that is read leaves behind the distribution. -/
def State.countTaken (s : State) (count : Word16) (c : StoredConfig) (w : State) : State :=
  { w with
    roster := { s.roster with masterCapable := c.masterCapable, autoAdmit := c.autoAdmit }
    clock := RackTime.setSettings c.timeArgs s.clock
    reporter := { w.reporter with loadStep := .writeBack, writeInProgress := some (count + 1) } }

theorem countTaken_distribute (count : Word16) (h : s.reporter.stored = some c) :
    beginWriteBack count (distribute s) = s.countTaken count c (checkPlacement c (loadMap c s)) := by
  have hparts : ∀ u, u = loadMap c s ∨ u = raiseConfigFault .regionPlacement (loadMap c s) → u.roster = s.roster ∧ u.clock = s.clock := by
    intro u hu
    have hload : (loadMap c s).roster = s.roster ∧ (loadMap c s).clock = s.clock := by
      rw [loadMap_eq]
      split <;> exact ⟨rfl, rfl⟩
    rcases hu with rfl | rfl
    · exact hload
    · exact hload
  have hchecked := hparts (checkPlacement c (loadMap c s)) (by unfold checkPlacement; split; exacts [.inr rfl, .inl rfl])
  rw [distribute_of_some h]
  generalize checkPlacement c (loadMap c s) = v at hchecked
  unfold State.countTaken
  rw [← hchecked.1, ← hchecked.2]
  rfl

/-- R187: the writes of a started part. -/
theorem writes_finished (n : Word16) (hl : s.reporter.loadStep = .finished) (hw : s.reporter.writeInProgress = some n) :
    exec .restartCountWriteDone s = .next { s with
      reporter := { s.reporter with writeInProgress := s.reporter.writeWaiting, writeWaiting := none } } ∧
    ∃ u, u = raise (.configurationFault .restartCount) { s with
        reporter := { s.reporter with configFaults := s.reporter.configFaults ||| 4 } } ∧
      exec .restartCountWriteFail s = .next { u with
        reporter := { u.reporter with writeInProgress := s.reporter.writeWaiting, writeWaiting := none } } := by
  have hdone : writeDone s = beginWaiting s := by
    unfold writeDone
    rw [hl, hw]
  have hfail : writeFail s = beginWaiting (raiseConfigFault .restartCount s) := by
    unfold writeFail
    rw [hl, hw]
  refine ⟨congrArg Host.Outcome.next hdone, _, rfl, congrArg Host.Outcome.next (hfail.trans ?_)⟩
  rw [raiseConfigFault_eq]
  rfl

/-! ### Becoming Active (R28, R61, R110, R120, R186) -/

/-- What waking ports moves: the ports, and events raised. -/
def Woken (s u : State) : Prop := u = { s with link := u.link, reporter := { s.reporter with
  events := u.reporter.events, eventCount := u.reporter.eventCount, attention := u.reporter.attention } }

theorem Woken.trans (h : Woken s t) (k : Woken t u) : Woken s u := by
  unfold Woken at h k ⊢
  rw [k, h]

theorem woken_setPortState (p : Port) (st : PortState) (cause : FaultCause) (s : State) : Woken s (setPortState p st cause s) := by
  unfold setPortState
  dsimp only
  split <;> rfl

theorem woken_wakePort (p : Port) (s : State) : Woken s (wakePort p s) := by
  have hcut (f : PortRecord → PortRecord) : Woken s ((cutOff p s).onPort p f) := rfl
  unfold wakePort enterTraining
  split
  · exact (hcut _).trans (woken_setPortState ..)
  · rfl

/-- R61: a port as waking it shows it. -/
def State.wokenView (s : State) (p : Port) : PortState × FaultCause × Nat × Option (FrameNo × Word16) × Option Nat × Option Nat :=
  if (s.port p).state = .dark ∧ (s.port p).signal = true then (.training, .none, 1, (s.port p).neighbour, some 2500000, none) else s.portView p

theorem wakePort_self (p : Port) (s : State) : (wakePort p s).portView p = s.wokenView p := by
  unfold wakePort State.wokenView
  split
  · rw [State.portView, enterTraining_port]
    rfl
  · rfl

theorem wakePort_other (p : Port) (s : State) : (wakePort p s).port (otherPort p) = s.port (otherPort p) := by
  unfold wakePort
  split
  · exact (onlyPort_enterTraining p s).other
  · rfl

theorem wokenView_congr (h : u.port p = s.port p) : u.wokenView p = s.wokenView p := by
  unfold State.wokenView State.portView
  rw [h]

theorem wakePorts_view (s : State) (p : Port) : (wakePort .b (wakePort .a s)).portView p = s.wokenView p := by
  cases p with
  | a =>
    have hother : (wakePort .b (wakePort .a s)).port .a = (wakePort .a s).port .a := wakePort_other .b _
    rw [State.portView, hother]
    exact wakePort_self .a s
  | b =>
    have hother : (wakePort .a s).port .b = s.port .b := wakePort_other .a s
    exact (wakePort_self .b _).trans (wokenView_congr hother)

/-- R28: the Directive region that the placement fills is valid. -/
theorem placeRegions_valid (s : State) : ((placeRegions s).region 0).valid = true := by
  have hset (d r : Region) : ((s.setRegion 0 d).setRegion 1 r).region 0 = d := by
    change ((s.regions.set 0 d).set 1 r)[0] = d
    simp
  unfold placeRegions
  split
  · split
    · exact congrArg Region.valid (hset ..)
    · exact congrArg Region.valid (hset ..)
  · exact congrArg Region.valid (hset ..)

/-- The part as its state leaves Starting. -/
def State.activated (s : State) : State :=
  electIfNone ((wakePort .b (wakePort .a (placeRegions ((s.onRoster fun r => { r with ownState := .active }).onReporter fun d =>
    { d with loadStep := .finished })))).onClock RackTime.startExchange)

theorem becomeActive_eq (s : State) : becomeActive s = concludeFrom s s s.activated := rfl

/-- R28, R61, R110, R120, R186: what of a part becomes another as it becomes Active. -/
structure Activated (s e : State) : Prop where
  parts : e = { s with
    regions := e.regions
    link := e.link
    roster := { s.roster with ownState := .active, belief := e.roster.belief }
    clock := s.clock.startExchange
    reporter := { s.reporter with
      loadStep := .finished, events := e.reporter.events, eventCount := e.reporter.eventCount, attention := e.reporter.attention } }
  placed : ∃ directive report, Placed s.reporter.stored s.channel.map directive report ∧ directive.valid = true ∧ e.regions = (s.regions.set 0 directive).set 1 report
  view : ∀ p, e.portView p = s.wokenView p
  belief : s.roster.belief = none → (∀ f, s.entry f = RosterEntry.absent) → e.roster.belief = if s.roster.masterCapable then some s.own else none

theorem activated (s : State) : Activated s s.activated := by
  obtain ⟨d, r, hplaced, hplace⟩ := placeRegions_spec ((s.onRoster fun r => { r with ownState := .active }).onReporter fun d =>
    { d with loadStep := .finished })
  have hvalid := placeRegions_valid ((s.onRoster fun r => { r with ownState := .active }).onReporter fun d => { d with loadStep := .finished })
  rw [hplace] at hvalid
  have hd : ((((s.onRoster fun r => { r with ownState := .active }).onReporter fun d =>
      { d with loadStep := .finished }).setRegion 0 d).setRegion 1 r).region 0 = d := by
    change ((s.regions.set 0 d).set 1 r)[0] = d
    simp
  rw [hd] at hvalid
  unfold State.activated
  rw [hplace]
  have hwoken := (woken_wakePort .a _).trans (woken_wakePort .b (wakePort .a (((((s.onRoster fun r => { r with ownState := .active }).onReporter
    fun d => { d with loadStep := .finished }).setRegion 0 d).setRegion 1 r))))
  have hview := wakePorts_view (((((s.onRoster fun r => { r with ownState := .active }).onReporter
    fun d => { d with loadStep := .finished }).setRegion 0 d).setRegion 1 r))
  generalize wakePort .b (wakePort .a _) = v at hwoken hview ⊢
  have hfound := find_candidate_alone (u := v.onClock RackTime.startExchange)
  have helect : ∃ b, electIfNone (v.onClock RackTime.startExchange) =
      ((v.onClock RackTime.startExchange).onRoster fun r => { r with belief := b }) ∧
      (v.roster.belief = none → b = eight.find? (v.onClock RackTime.startExchange).candidate) := by
    unfold electIfNone
    split
    · exact ⟨_, rfl, fun _ => rfl⟩
    · next h => exact ⟨v.roster.belief, rfl, fun k => absurd k h⟩
  obtain ⟨b, hb, hbelief⟩ := helect
  rw [hb]
  unfold Woken at hwoken
  have hroster : v.roster = { s.roster with ownState := .active } := by rw [hwoken]; rfl
  have hregions : v.regions = (s.regions.set 0 d).set 1 r := by rw [hwoken]; rfl
  have hown : v.own = s.own := by rw [hwoken]; rfl
  have hv : v = { s with
      regions := v.regions
      link := v.link
      roster := { s.roster with ownState := .active }
      reporter := { s.reporter with
        loadStep := .finished, events := v.reporter.events, eventCount := v.reporter.eventCount, attention := v.reporter.attention } } := by
    rw [hregions]
    exact hwoken
  refine ⟨congrArg (fun x : State => (x.onClock RackTime.startExchange).onRoster fun r => { r with belief := b }) hv, ⟨d, r, hplaced, hvalid, hregions⟩,
    hview, fun hn he => ?_⟩
  have hactive : (v.onClock RackTime.startExchange).roster.ownState = .active := by
    change v.roster.ownState = _
    rw [hroster]
  have hentry (f : FrameNo) : (v.onClock RackTime.startExchange).entry f = RosterEntry.absent := by
    change v.roster.entries[f] = _
    rw [hroster]
    exact he f
  have hb' := (hbelief (by rw [hroster]; exact hn)).trans (hfound hactive hentry)
  change b = _
  rw [hb']
  change (if v.roster.masterCapable = true then some v.own else none) = _
  rw [hown, hroster]

/-! ### What concludes it -/

/-- R178: the attention line stands as the counts say. -/
def State.attends (s : State) : Prop := s.reporter.attention = decide (s.reporter.acknowledged < s.reporter.eventCount)

theorem attends_raise (info : EventInfo) (s : State) : (raise info s).attends := rfl

theorem attends_congr (h : u.reporter = s.reporter) (hs : s.attends) : u.attends := by
  unfold State.attends
  rw [h]
  exact hs

theorem attends_raises (l : List EventInfo) (s : State) (h : l ≠ [] ∨ s.attends) : (l.foldl (fun v i => raise i v) s).attends := by
  induction l generalizing s with
  | nil => exact h.resolve_left fun k => k rfl
  | cons i l ih => exact ih _ (.inr (attends_raise i s))

theorem attends_changeLock (g : RackTime → RackTime) (h : s.attends) : (changeLock g s).attends := by
  rw [changeLock_becomes]
  split
  · exact h
  · exact attends_raise ..

theorem attends_followMaster (former left : Option FrameNo) (h : s.attends) : (followMaster former left s).attends := by
  unfold followMaster
  dsimp only
  split_ifs <;> first | exact h | exact attends_changeLock _ h

theorem attends_settleTap (j : TapNo) (h : s.attends) : (settleTap j s).attends := by
  have hposts (l : List Word16) (u : State) (hu : u.attends) : (l.foldl (fun v tag => postResult tag codeStopTap .done v) u).attends := by
    induction l generalizing u with
    | nil => exact hu
    | cons a l ih => exact ih _ hu
  unfold settleTap
  split
  · exact hposts _ _ h
  · exact h

theorem attends_settleTaps (h : s.attends) : (settleTaps s).attends := by
  unfold settleTaps
  generalize eight = l
  induction l generalizing s with
  | nil => exact h
  | cons j l ih => exact ih (attends_settleTap j h)

theorem attends_round (hc : e.calm noted) (hp : e.roster.phase = .none) (ha : e.roster.ownState = .active)
    (h : noticeEvents noted (advance e) ≠ [] ∨ e.attends) : (round before noted e).attends := by
  have hadv : advance e = settleTaps e := advance_of_waiting (.of_none hp)
  have hroster : (advance e).roster = e.roster := by rw [hadv, (settleTaps_only e).roster]
  refine attends_congr (round_units (before := before) hc).2 ?_
  rw [notify_eq _ (.inr (by rw [hroster, ha]; exact nofun))]
  exact attends_followMaster _ _ (attends_raises _ _ (h.imp_right fun k => by rw [hadv]; exact attends_settleTaps k))

theorem attends_concludeFrom (hc : e.calm noted) (hp : e.roster.phase = .none) (ha : e.roster.ownState = .active)
    (h : noticeEvents noted (advance e) ≠ [] ∨ e.attends) : (concludeFrom before noted e).attends := by
  have h1 := rosterRests_round hp before noted
  have k1 := attends_round (before := before) hc hp ha h
  unfold concludeFrom
  dsimp only
  generalize round before noted e = s1 at h1 k1
  have h2 := rosterRests_round (h1.phase.trans hp) s1 s1
  have k2 := attends_round (before := s1) (noted := s1) (.inl rfl) (h1.phase.trans hp) (h1.ownState.trans ha) (.inr k1)
  generalize round s1 s1 s1 = s2 at h2 k2
  exact attends_round (.inl rfl) ((h1.trans h2).phase.trans hp) ((h1.trans h2).ownState.trans ha) (.inr k2)

/-- What of the part is Active once it is concluded. -/
structure ActiveConcluded (s t : State) : Prop where
  ownState : t.roster.ownState = .active
  placed : Placed s.reporter.stored s.channel.map (t.region 0) (t.region 1) ∧ (t.region 0).valid = true ∧ ∀ i : Fin 18, 2 ≤ i.val → t.region i = s.region i
  channel : t.channel = s.channel
  roster : t.roster.incarnation = s.roster.incarnation ∧ t.roster.heldCount = s.roster.heldCount ∧
    t.roster.masterCapable = s.roster.masterCapable ∧ t.roster.autoAdmit = s.roster.autoAdmit
  clock : t.clock.settings = s.clock.settings ∧ t.clock.exchangeTimer = some (2 ^ s.clock.settings.k) ∧ t.clock.exponent = s.clock.settings.k
  loadStep : t.reporter.loadStep = .finished
  reporter : t.reporter.loadStatus = s.reporter.loadStatus ∧ t.reporter.stored = s.reporter.stored ∧
    t.reporter.configFaults = s.reporter.configFaults ∧ t.reporter.writeInProgress = s.reporter.writeInProgress
  view : ∀ p, t.portView p = s.wokenView p
  belief : s.orders.pending = [] → s.roster.belief = none → (∀ f, s.entry f = RosterEntry.absent) →
    t.roster.belief = if s.roster.masterCapable then some s.own else none
  attends : s.orders.pending = [] → s.roster.ownState = .starting → t.attends

theorem portView_of_standing (h : (u.port p).standing = (s.port p).standing) : u.portView p = s.portView p := by
  unfold State.portView
  exact congrArg (fun k : PortStanding => (k.state, k.cause, k.attempt, k.neighbour, k.trainingTimer, k.helloTimer)) h

theorem active_concluded (hp : s.roster.phase = .none) : ActiveConcluded s (becomeActive s) := by
  obtain ⟨hparts, ⟨d, r, hplaced, hvalid, hregions⟩, hview, hbelief⟩ := activated s
  rw [becomeActive_eq]
  generalize s.activated = e at *
  have hroster : e.roster = { s.roster with ownState := .active, belief := e.roster.belief } := by rw [hparts]
  have hphase : e.roster.phase = .none := by rw [hroster]; exact hp
  have hactive : e.roster.ownState = .active := by rw [hroster]
  have hcalm (hpending : s.orders.pending = []) : e.calm s := .inr (by rw [hparts]; exact hpending)
  have hrests := rosterRests_concludeFrom hphase s s
  have hsettled := settled_concludeFrom s s e
  have hconcluded (hpending : s.orders.pending = []) := belief_concludeFrom (before := s) (hcalm hpending)
  have hattends (hpending : s.orders.pending = []) (hs : s.roster.ownState = .starting) : (concludeFrom s s e).attends := by
    refine attends_concludeFrom (hcalm hpending) hphase hactive (.inl fun k => ?_)
    have hadv : (advance e).roster.ownState = .active := by
      rw [advance_of_waiting (.of_none hphase), (settleTaps_only e).roster]
      exact hactive
    unfold noticeEvents at k
    rw [hs, hadv, if_pos nofun] at k
    simp at k
  generalize concludeFrom s s e = t at *
  have htregions : t.regions = (s.regions.set 0 d).set 1 r := hsettled.regions.trans hregions
  have hregion (i : Fin 18) : t.region i = ((s.regions.set 0 d).set 1 r)[i.val] := congrArg (fun v : Vector Region 18 => v[i.val]) htregions
  have h0 : t.region 0 = d := (hregion 0).trans (by simp)
  have h1 : t.region 1 = r := (hregion 1).trans (by simp)
  refine ⟨hrests.ownState.trans hactive, ⟨by rw [h0, h1]; exact hplaced, by rw [h0]; exact hvalid, fun i hi => ?_⟩, ?_, ⟨?_, ?_, ?_, ?_⟩, ⟨?_, ?_, ?_⟩, ?_, ⟨?_, ?_, ?_, ?_⟩,
    fun p => ?_, fun hpending hb he => (hconcluded hpending).trans (hbelief hb he), hattends⟩
  · exact (hregion i).trans ((Vector.getElem_set_ne _ _ (by omega)).trans (Vector.getElem_set_ne _ _ (by omega)))
  · rw [hsettled.channel, hparts]
  · rw [hsettled.incarnation, hroster]
  · rw [hsettled.heldCount, hroster]
  · rw [hsettled.masterCapable, hroster]
  · rw [hsettled.autoAdmit, hroster]
  · rw [hsettled.settings, hparts]
    rfl
  · rw [hsettled.exchangeTimer, hparts]
    rfl
  · rw [hsettled.exponent, hparts]
    rfl
  · rw [hsettled.loadStep, hparts]
  · rw [hsettled.loadStatus, hparts]
  · rw [hsettled.stored, hparts]
  · rw [hsettled.configFaults, hparts]
  · rw [hsettled.writeInProgress, hparts]
  · rw [portView_of_standing (hsettled.standing p)]
    exact hview p

/-! ### The four endings (R89, R184 to R187) -/

theorem distribute_leaves (s : State) : distribute s = { s with
      channel := (distribute s).channel
      roster := { s.roster with masterCapable := (distribute s).roster.masterCapable, autoAdmit := (distribute s).roster.autoAdmit }
      clock := (distribute s).clock
      reporter := (distribute s).reporter } ∧ (distribute s).reporter.straps = s.reporter.straps := by
  cases h : s.reporter.stored with
  | none =>
    rw [distribute_of_none h]
    exact ⟨rfl, rfl⟩
  | some c =>
    have hload : ∃ l d, loadMap c s = { s with channel := l, reporter := d } ∧ d.straps = s.reporter.straps := by
      rw [loadMap_eq]
      split <;> exact ⟨_, _, rfl, rfl⟩
    obtain ⟨l, d, hload, hd⟩ := hload
    have hchecked : ∃ e, checkPlacement c (loadMap c s) = { s with channel := l, reporter := e } ∧ e.straps = s.reporter.straps := by
      unfold checkPlacement
      split
      · rw [raiseConfigFault_eq, hload]
        exact ⟨_, rfl, hd⟩
      · exact ⟨d, hload, hd⟩
    obtain ⟨e, hchecked, he⟩ := hchecked
    rw [distribute_of_some h, hchecked]
    exact ⟨rfl, he⟩

/-- The part as it stands before its state leaves Starting, its load ended at an incarnation. -/
structure Primed (incarnation : Word16) (stored : Option StoredConfig) (map : Option AddressMap) (s x : State) : Prop where
  parts : x = { s with
    channel := { s.channel with map := map }
    roster := { s.roster with
      incarnation := incarnation, heldCount := incarnation, masterCapable := x.roster.masterCapable, autoAdmit := x.roster.autoAdmit }
    clock := x.clock
    reporter := x.reporter }
  straps : x.reporter.straps = s.reporter.straps
  stored : x.reporter.stored = stored

/-- What the distribution takes from the stored values for the role and the settings. -/
def Distributes (stored : Option StoredConfig) (s x : State) : Prop :=
  x.roster.masterCapable = (stored.map StoredConfig.masterCapable).getD false ∧
    x.roster.autoAdmit = (stored.map StoredConfig.autoAdmit).getD false ∧
    (stored = none → x.clock.settings = Settings.default) ∧
    ∀ k, stored = some k → x.clock.settings = (RackTime.setSettings k.timeArgs s.clock).settings

/-- The map that the distribution puts in force. -/
def mapOf (stored : Option StoredConfig) : AddressMap := (stored.bind StoredConfig.map).getD ⟨2, 16, 17, .c⟩

theorem primed_distribute {stored : Option StoredConfig} (hroster : u.roster = { s.roster with incarnation := 0, heldCount := 0 })
    (hu : u = { s with roster := u.roster, reporter := u.reporter }) (hstraps : u.reporter.straps = s.reporter.straps)
    (hstored : u.reporter.stored = stored) :
    Primed 0 stored (some (mapOf stored)) s (distribute u) ∧ Distributes stored s (distribute u) := by
  have hclock : u.clock = s.clock := by rw [hu]
  have hchannel : u.channel = s.channel := by rw [hu]
  obtain ⟨hleaves, hkeeps⟩ := distribute_leaves u
  obtain ⟨hs, -, hc, hm, ha, hd, hset⟩ := distribute_spec u
  generalize distribute u = x at *
  rw [hstored] at hs hc hm ha hd hset
  refine ⟨⟨hleaves.trans ?_, hkeeps.trans hstraps, hs⟩, hm, ha, hd, fun k hk => ?_⟩
  · rw [hc, hroster, hchannel]
    exact congrArg (fun v : State => { v with
      channel := { s.channel with map := some (mapOf stored) }
      roster := { s.roster with
        incarnation := 0, heldCount := 0, masterCapable := x.roster.masterCapable, autoAdmit := x.roster.autoAdmit }
      clock := x.clock
      reporter := x.reporter }) hu
  · rw [hset k hk, hclock]

/-- R28, R61, R110, R120, R186: what the part is once its load has ended. -/
structure Started (incarnation : Word16) (held : Option StoredConfig) (map : Option AddressMap) (s x t : State) : Prop where
  stored : t.reporter.stored = held
  channel : t.channel = { s.channel with map := map }
  regions : ∀ i : Fin 18, 2 ≤ i.val → t.region i = s.region i
  placed : Placed held map (t.region 0) (t.region 1)
  role : t.roster.masterCapable = x.roster.masterCapable ∧ t.roster.autoAdmit = x.roster.autoAdmit ∧ t.clock.settings = x.clock.settings
  ownState : t.roster.ownState = .active
  loadStep : t.reporter.loadStep = .finished
  incarnation : t.roster.incarnation = incarnation ∧ t.roster.heldCount = incarnation
  valid : (t.region 0).valid = true
  timer : t.clock.exchangeTimer = some (2 ^ t.clock.settings.k) ∧ t.clock.exponent = t.clock.settings.k
  belief : t.roster.belief = if t.roster.masterCapable then some s.own else none
  view : ∀ p, t.portView p = s.wokenView p
  attends : t.attends

theorem started {n : Word16} {stored : Option StoredConfig} {map : Option AddressMap} (h : Primed n stored map s x)
    (hs : s.roster.ownState = .starting) (hp : s.roster.phase = .none) (hb : s.roster.belief = none)
    (he : ∀ f, s.entry f = RosterEntry.absent) (hpending : s.orders.pending = []) : Started n stored map s x (becomeActive x) := by
  obtain ⟨hparts, hstraps, hstored⟩ := h
  have hroster : x.roster = { s.roster with
      incarnation := n, heldCount := n, masterCapable := x.roster.masterCapable, autoAdmit := x.roster.autoAdmit } := by rw [hparts]
  have hchannel : x.channel = { s.channel with map := map } := by rw [hparts]
  have hregions : x.regions = s.regions := by rw [hparts]
  have hlink : x.link = s.link := by rw [hparts]
  have horders : x.orders = s.orders := by rw [hparts]
  have hown : x.own = s.own := congrArg Straps.frame hstraps
  have hentries (f : FrameNo) : x.entry f = RosterEntry.absent := by
    rw [State.entry, hroster]
    exact he f
  obtain ⟨kown, ⟨kplaced, kvalid, kregions⟩, kchannel, ⟨ki, kh, km, ka⟩, ⟨ks, ke, kx⟩, kload, ⟨-, kstored, -, -⟩, kview, kbelief, kattends⟩ :=
    active_concluded (s := x) (by rw [hroster]; exact hp)
  generalize becomeActive x = t at *
  refine ⟨kstored.trans hstored, kchannel.trans hchannel, fun i hi => (kregions i hi).trans ?_, ?_, ⟨km, ka, ks⟩, kown, kload, ⟨ki.trans ?_, kh.trans ?_⟩,
    kvalid, by rw [ks]; exact ⟨ke, kx⟩, ?_, fun p => (kview p).trans (wokenView_congr ?_), kattends ?_ ?_⟩
  · rw [State.region, hregions, State.region]
  · rw [hstored, hchannel] at kplaced
    exact kplaced
  · rw [hroster]
  · rw [hroster]
  · rw [km, ← hown]
    exact kbelief (by rw [horders]; exact hpending) (by rw [hroster]; exact hb) hentries
  · rw [State.port, hlink, State.port]
  · rw [horders]
    exact hpending
  · rw [hroster]
    exact hs

/-- R184, step 1: what an absent EEPROM makes of the part. -/
theorem exec_absent (hl : s.reporter.loadStep = .firstBlock) (hp : s.roster.phase = .none) : ∃ t, exec .eepromAbsent s = .next t ∧
    t.roster.ownState = .active ∧ t.reporter.loadStep = .finished ∧ t.reporter.loadStatus = .absent ∧ t.roster.incarnation = 0 ∧
    t.roster.heldCount = 0 ∧ t.reporter.writeInProgress = s.reporter.writeInProgress ∧ t.reporter.stored = none ∧
    t.reporter.configFaults = s.reporter.configFaults ||| 12 ∧ t.channel = { s.channel with map := some ⟨2, 16, 17, .c⟩ } ∧
    t.region 0 = ⟨true, 0, 16384, false⟩ ∧ t.region 1 = ⟨true, 16384, 8192, false⟩ ∧
    t.clock.settings = ⟨18, 2, 6, 2000, 16, 60000, ⟨0, 0⟩, 0⟩ ∧ t.roster.masterCapable = false ∧ t.roster.autoAdmit = false := by
  have hexec : exec .eepromAbsent s = .next (absent s) := congrArg Host.Outcome.next (if_pos hl)
  have hx : absent s = becomeActive (distributeDefaults (noRestartCount
      (raiseConfigFault .eepromAbsent (s.onReporter fun d => { d with loadStatus := .absent, stored := none })))) :=
    congrArg becomeActive (distribute_of_none rfl)
  have hfaults : (s.reporter.configFaults ||| faultBit .eepromAbsent) ||| faultBit .restartCount = s.reporter.configFaults ||| 12 :=
    BitVec.or_assoc ..
  obtain ⟨kown, ⟨kplaced, -, -⟩, kchannel, ⟨ki, kh, km, ka⟩, ⟨ks, -, -⟩, kload, ⟨kstatus, kstored, kfaults, kwrite⟩, -, -, -⟩ :=
    active_concluded (s := distributeDefaults (noRestartCount
      (raiseConfigFault .eepromAbsent (s.onReporter fun d => { d with loadStatus := .absent, stored := none })))) hp
  rw [← hx] at kown kplaced kchannel ki kh km ka ks kload kstatus kstored kfaults kwrite
  generalize absent s = t at *
  obtain ⟨k0, k1⟩ := kplaced.defaults rfl
  exact ⟨t, hexec, kown, kload, kstatus, ki, kh, kwrite, kstored, kfaults.trans hfaults, kchannel, k0, k1, ks, km, ka⟩

/-- R184: the second bad reading. -/
theorem badBlock_second (h : s.reporter.loadStep = .secondBlock) : badBlock s = raise (.configurationFault .configUnreadable) { s with
    reporter := { s.reporter with loadStatus := .unreadable, stored := none, loadStep := .restartCount,
                                  configFaults := s.reporter.configFaults ||| 16 } } := by
  have hne : s.reporter.loadStep ≠ .firstBlock := by rw [h]; exact nofun
  exact (if_neg hne).trans (raiseConfigFault_eq ..)

/-- R89, R185: the distribution behind a count that cannot be had. -/
theorem primed_noRestartCount (s : State) (d : Reporter) (hd : d.straps = s.reporter.straps) :
    Primed 0 d.stored (some (mapOf d.stored)) s (distribute (noRestartCount { s with reporter := d })) ∧
      Distributes d.stored s (distribute (noRestartCount { s with reporter := d })) := by
  have heq : ∃ e, noRestartCount { s with reporter := d } = { s with
        roster := { s.roster with incarnation := 0, heldCount := 0 }, reporter := e } ∧ e.straps = d.straps ∧ e.stored = d.stored :=
    ⟨_, raiseConfigFault_eq .restartCount _, rfl, rfl⟩
  obtain ⟨e, heq, hstraps, hstored⟩ := heq
  exact primed_distribute (by rw [heq]) (by rw [heq]) (by rw [heq]; exact hstraps.trans hd) (by rw [heq]; exact hstored)

theorem primed_absent (s : State) : ∃ x, absent s = becomeActive x ∧ Primed 0 none (some (mapOf none)) s x ∧ Distributes none s x := by
  have heq : ∃ d : Reporter, raiseConfigFault .eepromAbsent (s.onReporter fun d => { d with loadStatus := .absent, stored := none }) =
      { s with reporter := d } ∧ d.straps = s.reporter.straps ∧ d.stored = none := ⟨_, raiseConfigFault_eq .eepromAbsent _, rfl, rfl⟩
  obtain ⟨d, heq, hd, hn⟩ := heq
  have h := primed_noRestartCount s d hd
  rw [hn] at h
  exact ⟨_, congrArg (fun v => becomeActive (distribute (noRestartCount v))) heq, h⟩

/-- R184 to R187: the four endings of the load. -/
theorem exec_ending {c : Instr} {n : Word16} (hright : leaveRight s) (hp : s.roster.phase = .none) (hb : s.roster.belief = none)
    (he : ∀ f, s.entry f = RosterEntry.absent) (hpending : s.orders.pending = [])
    (hc : c = .eepromAbsent ∧ s.reporter.loadStep = .firstBlock ∧ n = 0 ∨
      c = .restartCountRead none ∧ s.reporter.loadStep = .restartCount ∧ n = 0 ∨
      c = .restartCountWriteDone ∧ s.reporter.loadStep = .writeBack ∧ s.reporter.writeInProgress = some n ∨
      c = .restartCountWriteFail ∧ s.reporter.loadStep = .writeBack ∧ s.reporter.writeInProgress.isSome = true ∧ n = 0) :
    let stored := if c = .eepromAbsent then none else s.reporter.stored
    let map := if s.reporter.loadStep = .writeBack then s.channel.map else some (mapOf stored)
    ∃ x t, exec c s = .next t ∧ Started n stored map s x t ∧
      (s.reporter.loadStep = .writeBack → x.roster.masterCapable = s.roster.masterCapable ∧ x.roster.autoAdmit = s.roster.autoAdmit ∧
        x.clock.settings = s.clock.settings) ∧
      (s.reporter.loadStep ≠ .writeBack → Distributes stored s x) := by
  intro stored map
  have hstarting (h : s.reporter.loadStep ≠ .finished) : s.roster.ownState = .starting := hright.1 h
  rcases hc with ⟨rfl, hl, rfl⟩ | ⟨rfl, hl, rfl⟩ | ⟨rfl, hl, hn⟩ | ⟨rfl, hl, hn, rfl⟩
  · obtain ⟨x, hx, hprimed, hdist⟩ := primed_absent s
    have hne : s.reporter.loadStep ≠ .writeBack := by rw [hl]; exact nofun
    have hmap : map = some (mapOf none) := if_neg hne
    have hexec : exec .eepromAbsent s = .next (absent s) := congrArg Host.Outcome.next (if_pos hl)
    have hstarted := started hprimed (hstarting (by rw [hl]; exact nofun)) hp hb he hpending
    rw [hmap]
    exact ⟨x, _, hexec.trans (congrArg Host.Outcome.next hx), hstarted, fun k => absurd k hne, fun _ => hdist⟩
  · obtain ⟨hprimed, hdist⟩ := primed_noRestartCount s { s.reporter with countUnreadable := true } rfl
    have hne : s.reporter.loadStep ≠ .writeBack := by rw [hl]; exact nofun
    have hmap : map = some (mapOf s.reporter.stored) := if_neg hne
    have hexec := exec_restartCountRead none hl
    have hstarted := started hprimed (hstarting (by rw [hl]; exact nofun)) hp hb he hpending
    rw [hmap]
    exact ⟨_, _, hexec, hstarted, fun k => absurd k hne, fun _ => hdist⟩
  · have hprimed : Primed n s.reporter.stored s.channel.map s (setIncarnation n (endWriteBack s)) := ⟨rfl, rfl, rfl⟩
    have hdone : writeDone s = becomeActive (setIncarnation n (endWriteBack s)) := by
      unfold writeDone
      rw [hl, hn]
    have hmap : map = s.channel.map := if_pos hl
    rw [hmap]
    exact ⟨_, _, congrArg Host.Outcome.next hdone, started hprimed (hstarting (by rw [hl]; exact nofun)) hp hb he hpending,
      fun _ => ⟨rfl, rfl, rfl⟩, fun k => absurd hl k⟩
  · have hprimed : Primed 0 s.reporter.stored s.channel.map s (noRestartCount (endWriteBack s)) := ⟨rfl, rfl, rfl⟩
    obtain ⟨m, hm⟩ := Option.isSome_iff_exists.mp hn
    have hfail : writeFail s = becomeActive (noRestartCount (endWriteBack s)) := by
      unfold writeFail
      rw [hl, hm]
    have hmap : map = s.channel.map := if_pos hl
    rw [hmap]
    exact ⟨_, _, congrArg Host.Outcome.next hfail, started hprimed (hstarting (by rw [hl]; exact nofun)) hp hb he hpending,
      fun _ => ⟨rfl, rfl, rfl⟩, fun k => absurd hl k⟩

/-- R185, R186: a restart count that is read, with stored values taken. -/
theorem exec_countRead (count : Word16) (hl : s.reporter.loadStep = .restartCount) (hs : s.reporter.stored = some c) :
    let v := if c.map = none then raiseConfigFault .addressMap (setMap (c.map.getD AddressMap.default) s)
      else setMap (c.map.getD AddressMap.default) s
    (c.faulty (c.map.getD AddressMap.default) →
      exec (.restartCountRead (some count)) s = .next (s.countTaken count c (raiseConfigFault .regionPlacement v))) ∧
    (¬ c.faulty (c.map.getD AddressMap.default) → exec (.restartCountRead (some count)) s = .next (s.countTaken count c v)) := by
  intro v
  have hexec : exec (.restartCountRead (some count)) s = .next (s.countTaken count c (checkPlacement c (loadMap c s))) :=
    (exec_restartCountRead _ hl).trans (congrArg Host.Outcome.next (countTaken_distribute count hs))
  have hv : loadMap c s = v := loadMap_eq c s
  obtain ⟨hfaulty, hright⟩ := checkPlacement_eq (c := c) (loadMap_map c s)
  rw [hexec]
  exact ⟨fun h => by rw [hfaulty h, hv], fun h => by rw [hright h, hv]⟩

/-- Settles O31: the load's steps by the cases of the reading, and its four endings by what becoming Active makes of the part and what
concluding it keeps. -/
theorem eepromEventsDriveTheLoad : Obligations.EepromEventsDriveTheLoad := by
  unfold Obligations.EepromEventsDriveTheLoad
  refine ⟨fun s block c count => ?_, fun s n hl hw => writes_finished n hl hw, fun s c n hright hp hb he hpending hc => ?_⟩
  · intro fault
    refine ⟨exec_absent, fun hl hblock => ?_, fun hl hblock => ?_, fun hl hblock => ?_, fun hl hs => ?_, map_spec c, fun hl hs => ?_⟩
    · exact (exec_blockRead block hl).trans (congrArg Host.Outcome.next (readBlock_of_some hblock))
    · exact (exec_blockRead block (.inl hl)).trans (congrArg Host.Outcome.next ((readBlock_of_none hblock).trans (if_pos hl)))
    · exact (exec_blockRead block (.inr hl)).trans (congrArg Host.Outcome.next ((readBlock_of_none hblock).trans (badBlock_second hl)))
    · exact (exec_restartCountRead _ hl).trans (congrArg (fun v => Host.Outcome.next (beginWriteBack count v)) (distribute_of_none hs))
    · have hmap := raiseConfigFault_eq .addressMap
      have hplace := raiseConfigFault_eq .regionPlacement
      have hread := exec_countRead count hl hs
      simp only [hmap, hplace] at hread
      exact hread
  · intro stored distributed map
    obtain ⟨x, t, hexec, h, hkept, hdistributed⟩ := exec_ending hright hp hb he hpending hc
    exact ⟨t, hexec, h.stored, h.channel, h.regions, h.placed.defaults, fun k m hk hm => ⟨fun hf => by
        obtain ⟨h0, h1⟩ := h.placed.faulty k m hk hm hf
        exact ⟨h0, by rw [h1]; rfl⟩, h.placed.asStored k m hk hm⟩,
      fun hd => by
        obtain ⟨h0, h1, h2⟩ := hkept hd
        exact ⟨h.role.1.trans h0, h.role.2.1.trans h1, h.role.2.2.trans h2⟩,
      fun hd => by
        obtain ⟨h0, h1, h2, h3⟩ := hdistributed hd
        exact ⟨h.role.1.trans h0, h.role.2.1.trans h1, fun hn => h.role.2.2.trans (h2 hn), fun k hk => h.role.2.2.trans (h3 k hk)⟩,
      h.ownState, h.loadStep, h.incarnation.1, h.incarnation.2, h.valid, h.timer.1, h.timer.2, h.belief, h.view, h.attends⟩

end Sys2Proof.Machine

/-! PROOFS. Sources lost and restarted (R90, R99, R101, R150, R151): what each change of a frame's entry makes of the halves of the mirrors bound
to it, of its applied record, and of its gates; then every command. -/

namespace Sys2Proof.Machine
variable {s t u v w e before noted : State} {p : Port} {f g n : FrameNo} {L : List Effect} {r l r' l' auto : Bool}

/-! ### The halves of a source (R150, R151) -/

/-- What a restart or a loss of its source makes of a half. -/
def HalfRecord.marked (restarted left : Bool) (h : HalfRecord) : HalfRecord :=
  if restarted then h.toStale else if left then h.staleFilling else h

theorem marked_marked (h : HalfRecord) : (h.marked r l).marked r' l' = h.marked (r || r') (l || l') := by
  unfold HalfRecord.marked HalfRecord.staleFilling HalfRecord.toStale
  cases r <;> cases r'
  · cases l <;> cases l'
    · rfl
    · rfl
    · rfl
    · by_cases hf : h.state = .filling <;> simp [hf]
  · cases l
    · rfl
    · by_cases hf : h.state = .filling <;> simp [hf]
  · cases l'
    · rfl
    · rfl
  · rfl

/-- What a restart or a loss of its source makes of a mirror. -/
def Mirror.marked (restarted left : Bool) (k : Mirror) : Mirror := { k with
  evenHalf := k.evenHalf.marked restarted left
  oddHalf := if k.paired then k.oddHalf.marked restarted left else k.oddHalf }

theorem Mirror.marked_marked (k : Mirror) : (k.marked r l).marked r' l' = k.marked (r || r') (l || l') := by
  unfold Mirror.marked
  cases k.paired <;> simp [Machine.marked_marked]

theorem Mirror.marked_none (k : Mirror) : k.marked false false = k := by
  unfold Mirror.marked HalfRecord.marked
  simp

theorem onHalvesOf_mirror (f : FrameNo) (F : HalfRecord → HalfRecord) (s : State) (m : MirrorNo) : (s.onHalvesOf f F).mirror m =
    if (s.mirror m).bound = true ∧ (s.mirror m).sourceFrame = f then { s.mirror m with
      evenHalf := F (s.mirror m).evenHalf, oddHalf := if (s.mirror m).paired then F (s.mirror m).oddHalf else (s.mirror m).oddHalf }
    else s.mirror m :=
  (Vector.getElem_map ..).trans (if_congr (by rw [Bool.and_eq_true, beq_iff_eq]; rfl) rfl rfl)

/-- R150: which halves a source that has left marks. -/
theorem sourceLeft_mirror (f : FrameNo) (s : State) (m : MirrorNo) : (sourceLeft f s).mirror m =
    if (s.mirror m).bound = true ∧ (s.mirror m).sourceFrame = f then (s.mirror m).marked false true else s.mirror m := onHalvesOf_mirror ..

theorem sourceRestarted_mirror (f : FrameNo) (s : State) (m : MirrorNo) : (sourceRestarted f s).mirror m =
    if (s.mirror m).bound = true ∧ (s.mirror m).sourceFrame = f then (s.mirror m).marked true false else s.mirror m := onHalvesOf_mirror ..

/-- A half that a mirror's source can mark. -/
theorem marked_half (k : Mirror) (h : Half) (hh : k.paired = true ∨ h = .even) : (k.marked r l).half h = (k.half h).marked r l := by
  cases h with
  | even => rfl
  | odd =>
    have hp : k.paired = true := hh.resolve_right nofun
    simp [Mirror.marked, Mirror.half, hp]

theorem marked_half_other (k : Mirror) (h : Half) (hh : ¬ (k.paired = true ∨ h = .even)) : (k.marked r l).half h = k.half h := by
  cases h with
  | even => exact absurd (.inr rfl) hh
  | odd =>
    have hp : k.paired = false := Bool.not_eq_true _ ▸ fun hp => hh (.inl hp)
    simp [Mirror.marked, Mirror.half, hp]

theorem marked_left (h : HalfRecord) : (h.state = .filling → h.marked false true = { h with state := .stale }) ∧
    (h.state ≠ .filling → h.marked false true = h) := ⟨fun k => if_pos k, fun k => if_neg k⟩

/-- Taking a source as left or as restarted. -/
theorem sources_mark (s : State) (f : FrameNo) (m : MirrorNo) (h : Half) :
    let k := s.mirror m
    let hit := k.bound = true ∧ k.sourceFrame = f ∧ (k.paired = true ∨ h = .even)
    sourceLeft f s = { s with mirrorStore := { s.mirrorStore with mirrors := (sourceLeft f s).mirrorStore.mirrors } } ∧
    sourceRestarted f s = { s with mirrorStore := { s.mirrorStore with mirrors := (sourceRestarted f s).mirrorStore.mirrors } } ∧
    (∀ u, u = sourceLeft f s ∨ u = sourceRestarted f s →
      u.mirror m = { k with evenHalf := (u.mirror m).evenHalf, oddHalf := (u.mirror m).oddHalf }) ∧
    (hit → (k.half h).state = .filling → ((sourceLeft f s).mirror m).half h = { k.half h with state := .stale }) ∧
    (hit → (k.half h).state ≠ .filling → ((sourceLeft f s).mirror m).half h = k.half h) ∧
    (hit → ((sourceRestarted f s).mirror m).half h = { k.half h with state := .stale }) ∧
    (¬ hit → ((sourceLeft f s).mirror m).half h = k.half h ∧ ((sourceRestarted f s).mirror m).half h = k.half h) := by
  intro k hit
  have hleft := sourceLeft_mirror f s m
  have hrestarted := sourceRestarted_mirror f s m
  refine ⟨rfl, rfl, fun u hu => ?_, ?_⟩
  · rcases hu with rfl | rfl
    · rw [hleft]
      split <;> rfl
    · rw [hrestarted]
      split <;> rfl
  · rw [hleft, hrestarted]
    by_cases hb : (s.mirror m).bound = true ∧ (s.mirror m).sourceFrame = f
    · rw [if_pos hb, if_pos hb]
      exact ⟨fun hit hf => (marked_half _ h hit.2.2).trans ((marked_left _).1 hf), fun hit hf => (marked_half _ h hit.2.2).trans ((marked_left _).2 hf),
        fun hit => marked_half _ h hit.2.2, fun hit => ⟨marked_half_other _ h fun k => hit ⟨hb.1, hb.2, k⟩,
          marked_half_other _ h fun k => hit ⟨hb.1, hb.2, k⟩⟩⟩
    · rw [if_neg hb, if_neg hb]
      exact ⟨fun hit => absurd ⟨hit.1, hit.2.1⟩ hb, fun hit => absurd ⟨hit.1, hit.2.1⟩ hb, fun hit => absurd ⟨hit.1, hit.2.1⟩ hb,
        fun _ => ⟨rfl, rfl⟩⟩

/-! ### What an operation marks -/

/-- What of a source an operation marks: the mirrors bound to it, and its applied record. -/
structure Marks (f : FrameNo) (restarted left : Bool) (s t : State) : Prop where
  mirrors : ∀ m, (s.mirror m).bound = true → (s.mirror m).sourceFrame = f → t.mirror m = (s.mirror m).marked restarted left
  applied : t.orders.applied[f] = if restarted then none else s.orders.applied[f]

namespace Marks

theorem of_same (hm : t.mirrorStore.mirrors = s.mirrorStore.mirrors) (ha : t.orders.applied[f] = s.orders.applied[f]) : Marks f false false s t where
  mirrors m _ _ := by rw [Mirror.marked_none, State.mirror, hm]; rfl
  applied := ha

theorem refl (f : FrameNo) (s : State) : Marks f false false s s := of_same rfl rfl

theorem trans (h : Marks f r l s t) (k : Marks f r' l' t u) : Marks f (r || r') (l || l') s u where
  mirrors m hb hf := by
    have ht := h.mirrors m hb hf
    rw [k.mirrors m (by rw [ht]; exact hb) (by rw [ht]; exact hf), ht, Mirror.marked_marked]
  applied := by rw [k.applied, h.applied]; cases r <;> cases r' <;> rfl

theorem sourceLeft (f g : FrameNo) (s : State) : Marks f false (decide (g = f)) s (sourceLeft g s) where
  mirrors m _ hf := by
    rw [sourceLeft_mirror, hf]
    by_cases hg : g = f
    · simp_all
    · simp [hg, Ne.symm hg, Mirror.marked_none]
  applied := rfl

theorem restarted (f g : FrameNo) (s : State) : Marks f (decide (g = f)) false s (clearRecord g (Machine.sourceRestarted g s)) where
  mirrors m _ hf := by
    change (Machine.sourceRestarted g s).mirror m = _
    rw [sourceRestarted_mirror, hf]
    by_cases hg : g = f
    · simp_all
    · simp [hg, Ne.symm hg, Mirror.marked_none]
  applied := by
    change (s.orders.applied.set g none)[f] = _
    by_cases hg : g = f
    · subst hg
      rw [if_pos (decide_eq_true rfl)]
      exact Vector.getElem_set_self ..
    · rw [if_neg (by simpa using hg)]
      exact Vector.getElem_set_ne _ _ fun k => hg (Fin.ext k)

theorem ite {c : Prop} [Decidable c] (h : c → Marks f r l s t) (k : ¬ c → Marks f r l s u) : Marks f r l s (if c then t else u) := by
  split
  · exact h ‹_›
  · exact k ‹_›

theorem cast (h : Marks f r l s t) (hr : r = r') (hl : l = l') : Marks f r' l' s t := by
  subst hr hl
  exact h

theorem onEntry (f g : FrameNo) (F : RosterEntry → RosterEntry) (s : State) : Marks f false false s (s.onEntry g F) := of_same rfl rfl

theorem leaveWaitSet (f g : FrameNo) (s : State) : Marks f false false s (leaveWaitSet g s) := of_same rfl rfl

theorem closeAccept (f g : FrameNo) (s : State) : Marks f false (decide (g = f) && (s.entry g).acceptGate) s (closeAccept g s) := by
  unfold Machine.closeAccept
  split
  · next h => exact ((onEntry f g _ s).trans (sourceLeft f g _)).cast rfl (by simp [h])
  · next h => exact (refl f s).cast rfl (by simp [h])

theorem resetGates (f g : FrameNo) (s : State) : Marks f false (decide (g = f) && (s.entry g).acceptGate) s (resetGates g s) :=
  ((closeAccept f g s).trans (onEntry f g _ _)).cast rfl (Bool.or_false _)

theorem sourceStanding (f g : FrameNo) (old : EntryState) (s : State) :
    Marks f false (decide (g = f) && decide (old = .present)) s (sourceStanding g old s) := by
  unfold Machine.sourceStanding
  split
  · next h => exact (sourceLeft f g s).cast rfl (by simp [h])
  · next h => exact (refl f s).cast rfl (by simp [h])

end Marks

/-- R101, R150: an entry that enters a state marks its frame's halves. -/
def RosterEntry.leaves (st : EntryState) (e : RosterEntry) : Bool := decide (e.state ≠ st) && match st with
  | .present => e.acceptGate
  | .absent => false
  | _ => decide (e.state = .present)

theorem Marks.enterEntry (f g : FrameNo) (st : EntryState) (s : State) :
    Marks f false (decide (g = f) && (s.entry g).leaves st) s (enterEntry g st s) := by
  have hgate : ((s.onEntry g fun e => { e with state := st }).entry g).acceptGate = (s.entry g).acceptGate := by rw [onEntry_self]
  unfold Machine.enterEntry RosterEntry.leaves
  refine .ite (fun h => (refl f s).cast rfl (by simp [h])) fun h => ?_
  cases st with
  | present => exact ((onEntry f g _ s).trans (resetGates f g _)).cast rfl (by rw [hgate]; simp [h])
  | leaving => exact ((onEntry f g _ s).trans ((onEntry f g _ _).trans (sourceStanding f g _ _))).cast rfl (by simp [h])
  | departed => exact ((onEntry f g _ s).trans ((onEntry f g _ _).trans (sourceStanding f g _ _))).cast rfl (by simp [h])
  | lost => exact ((onEntry f g _ s).trans ((sourceStanding f g _ _).trans (leaveWaitSet f g _))).cast rfl (by simp [h])
  | absent => exact ((onEntry f g _ s).trans ((onEntry f g _ _).trans (leaveWaitSet f g _))).cast rfl (by simp)

/-- R99: an announcement is of a restarted frame. -/
def RosterEntry.restarts (news : ItemNews) (e : RosterEntry) : Bool := decide (e.state ≠ .absent ∧ e.incarnation ≠ some news.incarnation)

theorem Marks.takeAnnouncement (f g : FrameNo) (news : ItemNews) (s : State) : ∃ l,
    Marks f (decide (g = f) && (s.entry g).restarts news) l s (takeAnnouncement g news s) ∧ ((s.entry g).restarts news = false ∨ g ≠ f → l = false) := by
  unfold Machine.takeAnnouncement RosterEntry.restarts
  dsimp only
  split
  · next h =>
    refine ⟨_, (((((resetGates f g s).trans (onEntry f g _ _)).trans (restarted f g _)).trans (onEntry f g _ _)).cast (by simp [h]) rfl), fun k => ?_⟩
    rcases k with k | k
    · simp [h] at k
    · simp [k]
  · next h => exact ⟨false, ((refl f s).trans (onEntry f g _ s)).cast (by simp [h]) rfl, fun _ => rfl⟩

theorem Marks.foldl {step : State → FrameNo → State} {mark : FrameNo → RosterEntry → Bool} {l : List FrameNo} (hl : l.Nodup)
    (h : ∀ u g, Marks f false (decide (g = f) && mark g (u.entry g)) u (step u g)) (he : ∀ u g, g ≠ f → (step u g).entry f = u.entry f)
    (s : State) : Marks f false (decide (f ∈ l) && mark f (s.entry f)) s (l.foldl step s) := by
  induction l generalizing s with
  | nil => exact refl f s
  | cons g l ih =>
    obtain ⟨hg, hl⟩ := List.nodup_cons.mp hl
    refine ((h s g).trans (ih hl _)).cast rfl ?_
    by_cases hgf : g = f
    · subst hgf
      simp [hg]
    · simp [hgf, Ne.symm hgf, he s g hgf]


/-! ### An entry, and what its changes mark (R99, R101, R150, R151) -/

/-- What of an entry the marking of its frame's halves goes by. -/
def RosterEntry.gated (e : RosterEntry) : EntryState × Option Word16 × Bool × Bool × Bool :=
  (e.state, e.incarnation, e.sendGate, e.acceptGate, e.restartSeen)

/-- The change of an entry of a member marks what R150 and R151 say. -/
structure Follows (auto restarted left : Bool) (old new : RosterEntry) : Prop where
  restarts : restarted = true ↔ old.incarnation ≠ new.incarnation
  marks : (old.state = .present ∧ (new.state = .leaving ∨ new.state = .departed ∨ new.state = .lost)) ∨
    (old.acceptGate = true ∧ new.acceptGate = false) ∨
    ((old.state = .leaving ∨ old.state = .departed ∨ old.state = .lost) ∧ new.state = .present ∧ old.acceptGate = true) →
    restarted = true ∨ left = true
  fresh : restarted = true → new.restartSeen = true ∧ new.acceptGate = auto ∧
    (new.state = old.state ∨ new.state = .present → new.sendGate = auto) ∧ (new.state ≠ old.state → new.state ≠ .present → new.sendGate = false)

theorem Follows.congr {a a' b b' : RosterEntry} (h : Follows auto r l a b) (ha : a'.gated = a.gated) (hb : b'.gated = b.gated) :
    Follows auto r l a' b' := by
  simp only [RosterEntry.gated, Prod.mk.injEq] at ha hb
  obtain ⟨hs, hi, -, ho, -⟩ := ha
  obtain ⟨ks, ki, kg, ko, kr⟩ := hb
  refine ⟨?_, ?_, ?_⟩
  · rw [hi, ki]
    exact h.restarts
  · rw [hs, ho, ks, ko]
    exact h.marks
  · rw [hs, ks, kg, ko, kr]
    exact h.fresh

theorem Follows.refl (auto : Bool) (a : RosterEntry) : Follows auto false l a a where
  restarts := ⟨nofun, fun k => absurd rfl k⟩
  marks k := by
    rcases k with ⟨hp, k⟩ | ⟨ho, hc⟩ | ⟨k, hp, -⟩
    · rw [hp] at k
      exact absurd k (by decide)
    · exact absurd (ho.symm.trans hc) nofun
    · rw [hp] at k
      exact absurd k (by decide)
  fresh := nofun

theorem follows_entered {st : EntryState} (hst : st ≠ .absent) (auto : Bool) (e : RosterEntry) :
    Follows auto false (e.leaves st) e (e.entered st auto) := by
  unfold RosterEntry.entered
  split
  · exact Follows.refl auto e
  · next h =>
    refine ⟨⟨nofun, fun k => absurd ?_ k⟩, fun k => .inr ?_, nofun⟩
    · cases st <;> first | rfl | exact absurd rfl hst
    · unfold RosterEntry.leaves
      rw [decide_eq_true h, Bool.true_and]
      cases st with
      | absent => exact absurd rfl hst
      | present =>
        rcases k with ⟨-, k⟩ | ⟨ho, -⟩ | ⟨-, -, ho⟩
        · exact absurd k (by simp)
        · exact ho
        · exact ho
      | leaving => simpa using k
      | departed => simpa using k
      | lost => simpa using k

/-- R94, R99: an announcement, and the state it advertises. -/
theorem follows_announced {st : EntryState} (hst : st = .present ∨ st = .leaving ∨ st = .departed) (news : ItemNews) (auto : Bool) {e a : RosterEntry}
    (he : e.state ≠ .absent) (ha : a.gated = (e.announced news auto).gated) (hl : e.restarts news = false → l = a.leaves st) :
    Follows auto (e.restarts news) l e (a.entered st auto) := by
  cases hr : e.restarts news with
  | false =>
    have hkeep : a.gated = e.gated := by
      have hi : e.incarnation = some news.incarnation := by simpa [RosterEntry.restarts, he] using hr
      have hd : decide (e.state ≠ .absent ∧ e.incarnation ≠ some news.incarnation) = false := hr
      rw [ha, RosterEntry.announced, hd]
      simp [RosterEntry.gated, hi]
    rw [hl hr]
    exact (follows_entered (by rcases hst with rfl | rfl | rfl <;> exact nofun) auto a).congr hkeep.symm rfl
  | true =>
    have hd : decide (e.state ≠ .absent ∧ e.incarnation ≠ some news.incarnation) = true := hr
    obtain ⟨-, hi⟩ := of_decide_eq_true hd
    simp only [RosterEntry.gated, RosterEntry.announced, hd, Prod.mk.injEq, if_true, Bool.true_or] at ha
    obtain ⟨hs, hai, hsend, haccept, hseen⟩ := ha
    have hrest : (a.entered st auto).incarnation = some news.incarnation ∧ (a.entered st auto).restartSeen = true := by
      rw [entered_rest (by rcases hst with rfl | rfl | rfl <;> exact nofun)]
      exact ⟨hai, hseen⟩
    refine ⟨⟨fun _ => by rw [hrest.1]; exact hi, fun _ => rfl⟩, fun _ => .inl rfl, fun _ => ⟨hrest.2, ?_, fun k => ?_, fun k1 k2 => ?_⟩⟩
    · unfold RosterEntry.entered
      rcases hst with rfl | rfl | rfl <;> (split <;> simp [haccept])
    · rw [entered_state, ← hs] at k
      unfold RosterEntry.entered
      rcases hst with rfl | rfl | rfl <;> split <;> simp_all
    · rw [entered_state, ← hs] at k1
      rw [entered_state] at k2
      unfold RosterEntry.entered
      rw [if_neg (Ne.symm k1)]
      rcases hst with rfl | rfl | rfl
      · exact absurd rfl k2
      · rfl
      · rfl

theorem follows_announced_alone (news : ItemNews) (auto : Bool) {e : RosterEntry} (he : e.state ≠ .absent) :
    Follows auto (e.restarts news) l e (e.announced news auto) := by
  cases hr : e.restarts news with
  | false =>
    have hi : e.incarnation = some news.incarnation := by simpa [RosterEntry.restarts, he] using hr
    have hd : decide (e.state ≠ .absent ∧ e.incarnation ≠ some news.incarnation) = false := hr
    refine (Follows.refl auto e).congr rfl ?_
    rw [RosterEntry.announced, hd]
    simp [RosterEntry.gated, hi]
  | true =>
    have hd : decide (e.state ≠ .absent ∧ e.incarnation ≠ some news.incarnation) = true := hr
    rw [RosterEntry.announced, hd]
    exact ⟨⟨fun _ => (of_decide_eq_true hd).2, fun _ => rfl⟩, fun _ => .inl rfl, fun _ => ⟨rfl, rfl, fun _ => rfl, fun k => absurd rfl k⟩⟩

/-! ### A vector and an announcement (R94 to R96) -/

/-- An operation marks the halves of a frame as the change of its entry says. -/
def Traced (f : FrameNo) (s t : State) : Prop := ∃ r l, Marks f r l s t ∧ (r = true → f ≠ s.own) ∧
  ((s.entry f).state ≠ .absent → (t.entry f).state ≠ .absent → Follows s.roster.autoAdmit r l (s.entry f) (t.entry f))

theorem Marks.hearNeighbour (f n : FrameNo) (p : Port) (news : Option ItemNews) (s : State) : ∃ l,
    Marks f (decide (n = f) && news.any fun i => (s.entry n).restarts i) l s (hearNeighbour p n news s) ∧
      ((∀ i, news = some i → (s.entry n).restarts i = false) ∨ n ≠ f → l = false) := by
  unfold Machine.hearNeighbour
  cases news with
  | none => exact ⟨false, .cast (.ite (fun _ => refl f s) fun _ => onEntry f n _ s) (by simp) rfl, fun _ => rfl⟩
  | some i =>
    obtain ⟨l, h, hl⟩ := takeAnnouncement f n i s
    exact ⟨_, (h.trans (onEntry f n _ _)).cast (by simp) rfl, fun k => by simp [hl (k.imp_left fun k => k i rfl)]⟩

theorem Marks.takeHops (f g : FrameNo) (p : Port) (item : VectorItem) (s : State) : Marks f false false s (takeHops p g item s) := by
  unfold Machine.takeHops
  split
  · exact onEntry f g _ s
  · exact .ite (fun _ => onEntry f g _ s) fun _ => .ite (fun _ => (onEntry f g _ s).trans (onEntry f g _ _)) fun _ =>
      .ite (fun _ => onEntry f g _ s) fun _ => onEntry f g _ s

theorem Marks.enterAdvertised (f n : FrameNo) (news : Option ItemNews) (s : State) :
    Marks f false (decide (n = f) && news.any fun i => (s.entry n).leaves (advertisedEntry i.state)) s (enterAdvertised n news s) := by
  unfold Machine.enterAdvertised
  cases news with
  | none => exact (refl f s).cast rfl (by simp)
  | some i => exact enterEntry f n _ s

/-- R96: an item marks the halves of its frame. -/
def RosterEntry.itemLeaves (p : Port) (item : VectorItem) (e : RosterEntry) : Bool :=
  if e.route = none then if e.state = .absent ∨ e.state = .lost then false else e.leaves .lost
  else if e.route = some p then (itemNews item).any fun i => e.leaves (advertisedEntry i.state) else false

theorem Marks.takeItem (f g : FrameNo) (p : Port) (item : VectorItem) (s : State) :
    Marks f false (decide (g = f) && (s.entry g).itemLeaves p item) s (takeItem p g item s) := by
  unfold Machine.takeItem RosterEntry.itemLeaves takesItem
  dsimp only
  by_cases hr : (s.entry g).route = none
  · have hnone : (s.entry g).route.isNone = true := by rw [hr]; rfl
    rw [if_pos hnone, if_pos hr]
    split
    · exact (refl f s).cast rfl (by simp)
    · exact enterEntry f g _ s
  · have hsome : ¬ (s.entry g).route.isNone = true := by simpa using hr
    rw [if_neg hsome, if_neg hr]
    by_cases hp : (s.entry g).route = some p
    · rw [if_pos (beq_iff_eq.mpr hp), if_pos hp]
      cases itemNews item with
      | none => exact (refl f s).cast rfl (by simp)
      | some i => exact ((enterEntry f g _ s).trans (onEntry f g _ _)).cast rfl (Bool.or_false _)
    · rw [if_neg fun k => hp (beq_iff_eq.mp k), if_neg hp]
      exact (refl f s).cast rfl (by simp)

theorem follows_itemTaken (p : Port) (item : VectorItem) (auto : Bool) (e : RosterEntry) :
    Follows auto false (e.itemLeaves p item) e (e.itemTaken p item auto) := by
  unfold RosterEntry.itemLeaves RosterEntry.itemTaken
  by_cases hr : e.route = none
  · rw [if_pos hr, if_pos hr]
    split
    · exact .refl auto e
    · exact follows_entered (st := .lost) nofun auto e
  · rw [if_neg hr, if_neg hr]
    cases itemNews item with
    | none => exact .refl auto e
    | some i =>
      by_cases hp : e.route = some p
      · rw [if_pos hp]
        dsimp only
        rw [if_pos hp]
        exact (follows_entered (advertisedEntry_ne_absent _) auto e).congr rfl rfl
      · rw [if_neg hp]
        dsimp only
        rw [if_neg hp]
        exact .refl auto e

/-- R95: the hop counts leave the gates of an entry that is not Absent. -/
theorem heardOf_gated (p : Port) (item : VectorItem) {e : RosterEntry} (he : e.state ≠ .absent) : (e.heardOf p item).gated = e.gated := by
  have hreached : e.reached item = e := by
    unfold RosterEntry.reached
    split
    · rfl
    · exact if_neg fun k => he k.2
  unfold RosterEntry.heardOf
  rw [hreached]
  rfl

theorem advertisedEntry_cases (st : PartState) : advertisedEntry st = .present ∨ advertisedEntry st = .leaving ∨ advertisedEntry st = .departed := by
  cases st <;> decide

theorem Marks.takeVector (f n : FrameNo) (p : Port) (items : Vector VectorItem 8) (s : State) :
    ∃ (s2 : State) (l : Bool), Marks f
        (decide (n = f) && (itemNews items[n]).any fun i => (s.entry n).restarts i)
        (l || (decide (n = f) && (itemNews items[n]).any fun i => (s2.entry n).leaves (advertisedEntry i.state)) ||
          (decide (f ∈ s.thirds n) && (s2.entry f).itemLeaves p items[f])) s (takeVector p n items s) ∧
      ((∀ i, itemNews items[n] = some i → (s.entry n).restarts i = false) ∨ n ≠ f → l = false) ∧
      s2.entry n = (Machine.hearNeighbour p n (itemNews items[n]) s).entry n ∧
      (f ∈ s.thirds n → s2.entry f = (s.entry f).heardOf p items[f]) := by
  unfold Machine.takeVector
  dsimp only
  have h1 (g : FrameNo) (hg : g ≠ n) : (Machine.hearNeighbour p n (itemNews items[n]) s).entry g = s.entry g :=
    (hearNeighbour_entry ..).trans (if_neg hg)
  obtain ⟨l, k1, hl⟩ := hearNeighbour f n p (itemNews items[n]) s
  generalize Machine.hearNeighbour p n (itemNews items[n]) s = s1 at h1 k1
  have h2 (g : FrameNo) : ((s.thirds n).foldl (fun acc f => Machine.takeHops p f items[f] acc) s1).entry g =
      if g ∈ s.thirds n then (s1.entry g).heardOf p items[g] else s1.entry g :=
    foldl_entry (F := fun f => RosterEntry.heardOf p items[f]) (fun _ => True) (fun u f _ => ⟨trivial, takeHops_entry p f items[f] u⟩)
      (thirds_nodup s n) s1 trivial g
  have k2 := foldl (step := fun acc f => Machine.takeHops p f items[f] acc) (f := f) (mark := fun _ _ => false) (thirds_nodup s n)
    (fun u g => (takeHops f g p items[g] u).cast rfl (by simp)) (fun u g hg => (takeHops_entry ..).trans (if_neg (Ne.symm hg))) s1
  generalize (s.thirds n).foldl (fun acc f => Machine.takeHops p f items[f] acc) s1 = s2 at h2 k2
  have h3 := enterAdvertised_entry n (itemNews items[n]) s2
  have k3 := enterAdvertised f n (itemNews items[n]) s2
  generalize Machine.enterAdvertised n (itemNews items[n]) s2 = s3 at h3 k3
  have k4 := foldl (step := fun acc f => Machine.takeItem p f items[f] acc) (f := f) (mark := fun f e => e.itemLeaves p items[f]) (thirds_nodup s n)
    (fun u g => takeItem f g p items[g] u) (fun u g hg => (takeItem_entry ..).trans (if_neg (Ne.symm hg))) s3
  have hn : n ∉ s.thirds n := fun k => (mem_thirds.mp k).2 rfl
  refine ⟨s2, l, ((k1.trans (k2.trans k3)).trans k4).cast (by simp) ?_, hl, ?_, fun hf => ?_⟩
  · by_cases hf : f ∈ s.thirds n
    · have hfn : f ≠ n := (mem_thirds.mp hf).2
      rw [h3, if_neg hfn]
      simp
    · simp [hf]
  · rw [h2, if_neg hn]
  · rw [h2, if_pos hf, h1 f (mem_thirds.mp hf).2]

theorem traced_takeVector (f : FrameNo) (p : Port) (items : Vector VectorItem 8) (hn : n ≠ s.own) : Traced f s (takeVector p n items s) := by
  obtain ⟨s2, l, hmarks, hl, hsender, hthird⟩ := Marks.takeVector f n p items s
  refine ⟨_, _, hmarks, fun k => ?_, fun he _ => ?_⟩
  · obtain ⟨hf, -⟩ := Bool.and_eq_true_iff.mp k
    exact of_decide_eq_true hf ▸ hn
  · rw [takeVector_entry p items s hn f]
    by_cases hf : f = n
    · subst hf
      rw [if_pos rfl]
      have hnot : f ∉ s.thirds f := fun k => (mem_thirds.mp k).2 rfl
      rw [decide_eq_true rfl, decide_eq_false hnot, Bool.true_and, Bool.true_and, Bool.false_and, Bool.or_false]
      unfold RosterEntry.neighboured
      cases hnews : itemNews items[f] with
      | none =>
        have hfalse : l = false := hl (.inl fun i hi => nomatch hnews.symm.trans hi)
        rw [hfalse]
        dsimp only
        split
        · exact .refl ..
        · exact (Follows.refl ..).congr rfl rfl
      | some i =>
        rw [hnews, hearNeighbour_entry, if_pos rfl] at hsender
        change s2.entry f = ((s.entry f).announced i s.roster.autoAdmit).hopped p (some 1) at hsender
        refine follows_announced (advertisedEntry_cases _) i _ he rfl fun hr => ?_
        have hfalse : l = false := hl (.inl fun j hj => by rw [hnews] at hj; cases hj; exact hr)
        rw [hfalse, ← hsender]
        exact Bool.false_or _
    · have hfalse : l = false := hl (.inr (Ne.symm hf))
      rw [if_neg hf, decide_eq_false (Ne.symm hf), hfalse, Bool.false_and, Bool.false_and, Bool.false_or, Bool.false_or]
      by_cases ho : f = s.own
      · rw [if_pos ho]
        exact .refl ..
      · have hmem : f ∈ s.thirds n := mem_thirds.mpr ⟨ho, hf⟩
        rw [if_neg ho, decide_eq_true hmem, Bool.true_and, hthird hmem]
        exact (follows_itemTaken p items[f] _ _).congr (heardOf_gated p items[f] he).symm rfl

theorem traced_takeRelayed (f : FrameNo) (news : Option ItemNews) (hn : n ≠ s.own) : Traced f s (takeRelayed n news s) := by
  have hentry := takeRelayed_entry n news s f
  have hown {c : Bool} (k : (decide (n = f) && c) = true) : f ≠ s.own := of_decide_eq_true (Bool.and_eq_true_iff.mp k).1 ▸ hn
  cases news with
  | none => exact ⟨false, false, .refl f s, nofun, fun _ _ => .refl ..⟩
  | some i =>
    by_cases ha : (s.entry n).state = .absent
    · rw [takeRelayed_of_absent _ ha]
      exact ⟨false, false, .refl f s, nofun, fun _ _ => .refl ..⟩
    · obtain ⟨l, hmarks, hl⟩ := Marks.takeAnnouncement f n i s
      have hroute : ((takeAnnouncement n i s).entry n).route = (s.entry n).route := by
        rw [takeAnnouncement_entry, if_pos rfl]
        rfl
      have hsender : (takeAnnouncement n i s).entry n = (s.entry n).announced i s.roster.autoAdmit := by rw [takeAnnouncement_entry, if_pos rfl]
      unfold RosterEntry.relayed at hentry
      dsimp only at hentry
      rw [if_neg ha] at hentry
      unfold takeRelayed at hentry ⊢
      dsimp only at hentry ⊢
      rw [if_neg ha, hroute] at hentry ⊢
      by_cases hr : (s.entry n).route = none
      · rw [if_neg (by rw [hr]; exact nofun)] at hentry ⊢
        rw [if_pos hr] at hentry
        refine ⟨_, l, hmarks, hown, fun he _ => ?_⟩
        rw [hentry]
        by_cases hf : f = n
        · subst hf
          rw [if_pos rfl, decide_eq_true rfl, Bool.true_and]
          exact follows_announced_alone i _ he
        · rw [if_neg hf, decide_eq_false (Ne.symm hf), Bool.false_and]
          exact .refl ..
      · rw [if_pos (Option.isSome_iff_ne_none.mpr hr)] at hentry ⊢
        rw [if_neg hr] at hentry
        refine ⟨_, _, (hmarks.trans (Marks.enterEntry f n _ _)).cast (Bool.or_false _) rfl, hown, fun he _ => ?_⟩
        rw [hentry]
        by_cases hf : f = n
        · subst hf
          rw [if_pos rfl, decide_eq_true rfl, Bool.true_and, hsender]
          refine follows_announced (advertisedEntry_cases _) i _ he rfl fun hr => ?_
          rw [hl (.inl hr)]
          simp
        · rw [if_neg hf, decide_eq_false (Ne.symm hf), Bool.false_and]
          exact .refl ..

/-- R94 to R96: what the roster takes of an arrival. -/
theorem traced_takenOf (f : FrameNo) (p : Port) (neighbour : Bool) (items : Vector VectorItem 8) (hn : n ≠ s.own) :
    Traced f s (s.takenOf p neighbour n items) := by
  unfold State.takenOf
  split
  · exact traced_takeVector f p items hn
  · exact traced_takeRelayed f _ hn

/-! ### A port lost (R97) -/

/-- R97: an entry whose frame's halves the loss of a port marks. -/
def RosterEntry.lostLeaves (e : RosterEntry) : Bool :=
  if (e.state = .present ∨ e.state = .leaving ∨ e.state = .departed) ∧ e.route = none then e.leaves .lost else false

theorem Marks.loseIfUnreachable (f g : FrameNo) (s : State) :
    Marks f false (decide (g = f) && (s.entry g).lostLeaves) s (loseIfUnreachable s g) := by
  rw [loseIfUnreachable_eq]
  unfold RosterEntry.lostLeaves
  split
  · exact enterEntry f g _ s
  · exact (refl f s).cast rfl (by simp)

theorem follows_ifLost (auto : Bool) (e : RosterEntry) : Follows auto false e.lostLeaves e (e.ifLost auto) := by
  unfold RosterEntry.lostLeaves RosterEntry.ifLost
  split
  · exact follows_entered (st := .lost) nofun auto e
  · exact .refl auto e

theorem loseIfUnreachable_other (u : State) (g : FrameNo) (hg : g ≠ f) : (loseIfUnreachable u g).entry f = u.entry f := by
  rw [loseIfUnreachable_eq]
  split
  · exact (enterEntry_entry ..).trans (if_neg (Ne.symm hg))
  · rfl

theorem traced_unreachable (f : FrameNo) (p : Port) (s : State) : Traced f s (loseUnreachable (forgetHops p s)) := by
  have hforgot : Marks f false false s (forgetHops p s) := .of_same rfl rfl
  have hmarks := Marks.foldl (step := loseIfUnreachable) (f := f) (mark := fun _ => RosterEntry.lostLeaves) (others_nodup (forgetHops p s))
    (fun u g => Marks.loseIfUnreachable f g u) (fun u g => loseIfUnreachable_other u g) (forgetHops p s)
  have hgated : ((forgetHops p s).entry f).gated = (s.entry f).gated := by
    rw [forgetHops_entry]
    rfl
  refine ⟨_, _, hforgot.trans hmarks, nofun, fun _ _ => ?_⟩
  rw [loseUnreachable_entry, Bool.false_or]
  by_cases ho : f = s.own
  · have hnot : f ∉ (forgetHops p s).others := fun k => (mem_others.mp k) ho
    have hown : ¬ f ≠ (forgetHops p s).own := fun k => k ho
    rw [if_neg hown, decide_eq_false hnot]
    exact (Follows.refl ..).congr rfl hgated
  · have hmem : f ∈ (forgetHops p s).others := mem_others.mpr ho
    have hown : f ≠ (forgetHops p s).own := ho
    rw [if_pos hown, decide_eq_true hmem, Bool.true_and]
    exact (follows_ifLost _ _).congr hgated.symm rfl

/-! ### Sources at an event -/

/-- What an event does for a frame: it leaves its entry, or leaves none, or marks its halves and its record as the change of the entry says. -/
def Sourced (f : FrameNo) (s t : State) : Prop := t.entry f = s.entry f ∨ (t.entry f).state = .absent ∨ ∃ r l,
  (∀ m, (s.mirror m).bound = true → (s.mirror m).sourceFrame = f → t.mirror m = (s.mirror m).marked r l) ∧
  (r = true → f ≠ t.own ∧ t.orders.applied[f] = none) ∧
  ((s.entry f).state ≠ .absent → (t.entry f).state ≠ .absent → Follows s.roster.autoAdmit r l (s.entry f) (t.entry f))

/-- What the rules of a source go by stands. -/
structure SourceRests (s t : State) : Prop where
  own : t.own = s.own
  entries : t.roster.entries = s.roster.entries
  autoAdmit : t.roster.autoAdmit = s.roster.autoAdmit
  mirrors : t.mirrorStore.mirrors = s.mirrorStore.mirrors
  applied : ∀ g, g ≠ s.own → t.orders.applied[g] = s.orders.applied[g]

namespace SourceRests

theorem of_same (ho : u.own = s.own) (hr : u.roster = s.roster) (hm : u.mirrorStore = s.mirrorStore) (ha : u.orders = s.orders) : SourceRests s u :=
  ⟨ho, by rw [hr], by rw [hr], by rw [hm], fun _ _ => by rw [ha]⟩

theorem refl (s : State) : SourceRests s s := of_same rfl rfl rfl rfl

theorem trans (h : SourceRests s t) (k : SourceRests t u) : SourceRests s u where
  own := k.own.trans h.own
  entries := k.entries.trans h.entries
  autoAdmit := k.autoAdmit.trans h.autoAdmit
  mirrors := k.mirrors.trans h.mirrors
  applied g hg := (k.applied g (by rw [h.own]; exact hg)).trans (h.applied g hg)

theorem entry (h : SourceRests s t) (f : FrameNo) : t.entry f = s.entry f := by rw [State.entry, h.entries]; rfl

theorem mirror (h : SourceRests s t) (m : MirrorNo) : t.mirror m = s.mirror m := by rw [State.mirror, h.mirrors]; rfl

theorem ite {c : Prop} [Decidable c] (h : SourceRests s t) (k : SourceRests s u) : SourceRests s (if c then t else u) := by split <;> assumption

end SourceRests

namespace Sourced

theorem of_entry (h : t.entry f = s.entry f) : Sourced f s t := .inl h

theorem from_rests (h : SourceRests s t) (k : Sourced f t u) : Sourced f s u := by
  rcases k with k | k | ⟨r, l, hm, hr, hf⟩
  · exact .inl (k.trans (h.entry f))
  · exact .inr (.inl k)
  · refine .inr (.inr ⟨r, l, fun m hb hs => ?_, hr, fun he => ?_⟩)
    · rw [← h.mirror m] at hb hs ⊢
      exact hm m hb hs
    · rw [← h.autoAdmit, ← h.entry f] at *
      exact hf he

theorem to_rests (h : SourceRests t u) (k : Sourced f s t) : Sourced f s u := by
  have he := h.entry f
  rcases k with k | k | ⟨r, l, hm, hr, hf⟩
  · exact .inl (he.trans k)
  · exact .inr (.inl (by rw [he]; exact k))
  · refine .inr (.inr ⟨r, l, fun m hb hs => (h.mirror m).trans (hm m hb hs), fun k => ?_, by rw [he]; exact hf⟩)
    obtain ⟨hne, ha⟩ := hr k
    exact ⟨by rw [h.own]; exact hne, (h.applied f hne).trans ha⟩

theorem ite {c : Prop} [Decidable c] (h : c → Sourced f s t) (k : ¬ c → Sourced f s u) : Sourced f s (if c then t else u) := by
  split
  · exact h ‹_›
  · exact k ‹_›

end Sourced

theorem Traced.sourced (h : Traced f s t) (ho : t.own = s.own) : Sourced f s t := by
  obtain ⟨r, l, hmarks, hr, hf⟩ := h
  refine .inr (.inr ⟨r, l, hmarks.mirrors, fun k => ⟨by rw [ho]; exact hr k, ?_⟩, hf⟩)
  rw [hmarks.applied, k]
  rfl

/-- R99, R101, R150, R151: what an event makes of the halves of a frame whose entry is there before and after it. -/
theorem Sourced.halves (h : Sourced f s t) (he : (s.entry f).state ≠ .absent) (ht : (t.entry f).state ≠ .absent) :
    ∃ r l, Follows s.roster.autoAdmit r l (s.entry f) (t.entry f) ∧ (r = true → t.orders.applied[f] = none) ∧
      ((∀ m, (s.mirror m).bound = true → (s.mirror m).sourceFrame = f → t.mirror m = (s.mirror m).marked r l) ∨ t.entry f = s.entry f) := by
  rcases h with h | h | ⟨r, l, hm, hr, hf⟩
  · exact ⟨false, false, by rw [h]; exact .refl .., nofun, .inr h⟩
  · exact absurd h ht
  · exact ⟨r, l, hf he ht, fun k => (hr k).2, .inl hm⟩

/-! ### What concluding an event leaves of the sources (R93, R169) -/

theorem sourceRests_settled (h : Settled s t) (ha : ∀ g, g ≠ s.own → t.orders.applied[g] = s.orders.applied[g]) : SourceRests s t :=
  ⟨congrArg Straps.frame h.straps, h.entries, h.autoAdmit, by rw [h.mirrors], ha⟩

/-- An order of the own frame leaves every other frame's record. -/
theorem order_applied (seq : Word16) (d : RackDirective) (s : State) (hg : g ≠ s.own) :
    (order s.own seq d s).orders.applied[g] = s.orders.applied[g] := by
  have hissue : (issueOrder s.own seq d s).orders.applied = s.orders.applied := by
    rw [issueOrder_eq, (queueing_broadcast (fun k _ => orderBody s s.own seq d k) s.sequenced).only]
    rfl
  unfold order
  change (applyOrder id s.orders.nextRackSeq s.own s.own seq d (issueOrder s.own seq d s)).orders.applied[g] = _
  rw [← hissue]
  generalize issueOrder s.own seq d s = i
  cases h : i.newOrder s.own seq with
  | true =>
    have happlied := applied_applyOrder (rackSeq := s.orders.nextRackSeq) (master := s.own) (d := d) id h
    rw [happlied.orders]
    exact Vector.getElem_set_ne s.own.isLt g.isLt fun k => hg (Fin.ext k.symm)
  | false =>
    rw [applyOrder_of_old id h]
    rfl

theorem dealEntry_applied (s : State) (e : PendingEntry) (hg : g ≠ s.own) : (dealEntry s e).orders.applied[g] = s.orders.applied[g] := by
  unfold dealEntry
  split
  · rfl
  · split
    · unfold orderOwn
      split
      · exact order_applied _ _ s hg
      · rfl
    · exact (congrArg (fun o : RackOrders => o.applied[g]) (requested_requestEntry ..).orders).trans rfl

theorem resubmit_applied (before s : State) (hg : g ≠ s.own) : (resubmit before s).orders.applied[g] = s.orders.applied[g] := by
  have hfold (l : List PendingEntry) (u : State) (hu : g ≠ u.own) : (l.foldl dealEntry u).orders.applied[g] = u.orders.applied[g] := by
    induction l generalizing u with
    | nil => rfl
    | cons e l ih =>
      have hown : (dealEntry u e).own = u.own := congrArg Straps.frame (settled_dealEntry u e).straps
      exact (ih _ (by rw [hown]; exact hu)).trans (dealEntry_applied u e hu)
  unfold resubmit
  split
  · rfl
  · exact hfold _ s hg

theorem round_applied (before noted s : State) (hg : g ≠ s.own) : (round before noted s).orders.applied[g] = s.orders.applied[g] := by
  have hnotify (left : Option FrameNo) (u : State) : (notify left noted u).orders = u.orders := by rw [(notified_notify left noted u).parts]
  have hown (left : Option FrameNo) : (notify left noted (advance s)).own = s.own :=
    (congrArg Straps.frame (notified_notify left noted (advance s)).straps).trans (advance_own s)
  have hupdate (u : State) : (updateIfChanged before u).orders = u.orders := by
    unfold updateIfChanged
    split
    · rfl
    · rw [makeRosterUpdate_parts]
  have hsynced (u : State) : (syncResend (syncRefresh u)).orders.applied = u.orders.applied := by rw [(synced u).parts]
  have hready : (State.readied before noted s).orders.applied[g] = s.orders.applied[g] := by
    unfold State.readied announce
    rw [hsynced, hupdate, resubmit_applied _ _ (by rw [hown]; exact hg), hnotify, advance_orders]
  rw [round_eq, (granted .b _).orders, (granted .a _).orders]
  exact hready

theorem sourceRests_concludeFrom (before noted s : State) : SourceRests s (concludeFrom before noted s) := by
  have hround (before noted u : State) : SourceRests u (round before noted u) :=
    sourceRests_settled (settled_round before noted u) fun g hg => round_applied before noted u hg
  unfold concludeFrom
  dsimp only
  exact ((hround ..).trans (hround ..)).trans (hround ..)

/-! ### The events that change entries -/

namespace SourceRests

theorem of_onlyPort (h : OnlyPort p s w) : SourceRests s w := by
  have hparts := h.parts
  exact of_same h.own (by rw [hparts]) (by rw [hparts]) (by rw [hparts])

theorem onPort (p : Port) (F : PortRecord → PortRecord) (s : State) : SourceRests s (s.onPort p F) := of_same rfl rfl rfl rfl

theorem counts (p : Port) (F : PortCounters → PortCounters) (s : State) : SourceRests s (s.onPortCounters p F) := .onPort p _ s

theorem post (tag code : Word16) (r : DirectiveResult) (s : State) : SourceRests s (postResult tag code r s) := of_same rfl rfl rfl rfl

theorem taken (s : State) : SourceRests s s.taken := of_same rfl rfl rfl rfl

theorem electIfNeeded (before s : State) : SourceRests s (electIfNeeded before s) := by
  rw [electIfNeeded_only]
  exact ⟨rfl, rfl, rfl, rfl, fun _ _ => rfl⟩

end SourceRests

namespace Sourced

theorem concludes (before noted : State) (h : Sourced f s u) : Sourced f s (concludeFrom before noted u) := h.to_rests (sourceRests_concludeFrom ..)

theorem of_rests (h : SourceRests s t) : Sourced f s t := .of_entry (h.entry f)

/-- R97: a port leaves Joined. -/
theorem leavePort {enter : State → State} (h : SourceRests s (enter w)) : Sourced f s (leavePort p enter w) := by
  refine .ite (fun _ => ?_) fun _ => of_rests h
  have hstrip : SourceRests s (stripPort p (enter w)) := h.trans (.of_same rfl rfl rfl rfl)
  have hown : (loseUnreachable (forgetHops p (stripPort p (enter w)))).own = (stripPort p (enter w)).own := (entriesOnly_loseUnreachable _).own
  exact (((traced_unreachable f p _).sourced hown).from_rests hstrip).to_rests (SourceRests.electIfNeeded ..)

/-- R94 to R96, R106, R110, R111: a vector or an announcement arrives. -/
theorem takeRoster (f : FrameNo) (p : Port) (neighbour : Bool) (n : FrameNo) (items : Vector VectorItem 8) (s : State) :
    Sourced f s (takeRoster p neighbour n items s) := by
  by_cases hn : n = s.own
  · have hsame : Machine.takeRoster p neighbour n items s = s := if_pos hn
    rw [hsame]
    exact .of_entry rfl
  · have hentries := entriesOnly_takenOf p neighbour n items s
    have hqueueing := queueing_sendAll (leaveAcks (leaverOf n items[n]) s (s.takenOf p neighbour n items)) (s.takenOf p neighbour n items)
    have hacked : SourceRests (s.takenOf p neighbour n items) (s.ackedOf p neighbour n items) := by
      have hparts := hqueueing.only
      have hown := hqueueing.own
      unfold State.ackedOf
      generalize sendAll _ (s.takenOf p neighbour n items) = v at hparts hown
      unfold OnlyLinks at hparts
      exact .of_same hown (by rw [hparts]) (by rw [hparts]) (by rw [hparts])
    have honly : SourceRests (s.ackedOf p neighbour n items) (Machine.takeRoster p neighbour n items s) := by
      have hbelief := takeRoster_only p neighbour items hn
      unfold OnlyBelief at hbelief
      rw [hbelief]
      exact ⟨rfl, rfl, rfl, rfl, fun _ _ => rfl⟩
    exact ((traced_takenOf f p neighbour items hn).sourced hentries.own).to_rests (hacked.trans honly)

/-- R73: a frame arrives, and passes its checks or not. -/
theorem receive {linked joined : State → State} {k : Frame} (hl : Sourced f s (linked (countReceived p s)))
    (hj : ∀ u, SourceRests s u → Sourced f s (joined u)) : Sourced f s (receive p k linked joined s) := by
  have hreceived : SourceRests s (countReceived p s) := .counts ..
  have hheard : SourceRests s ((countReceived p s).onPort p PortRecord.goodFrame) := hreceived.trans (.onPort ..)
  unfold Machine.receive
  split
  · exact .ite (fun _ => of_rests (hheard.trans (.counts ..))) fun _ => .ite (fun _ => of_rests (hheard.trans (.counts ..))) fun _ => hj _ hheard
  · exact hl
  · exact of_rests (hreceived.trans (.counts ..))
  all_goals exact .of_entry rfl

theorem notJoined (p : Port) (s : State) : Sourced f s (countNotJoined p (countReceived p s)) :=
  of_rests (SourceRests.trans (t := countReceived p s) (.counts ..) (.counts ..))

theorem linkedHello (h : Header) (items : Vector VectorItem 8) (s : State) : Sourced f s (linkedHello p h items s) := by
  unfold Machine.linkedHello joinPort
  split
  · exact .ite (fun _ => of_rests (.of_onlyPort (onlyPort_enterFault ..))) fun _ =>
      (takeRoster ..).from_rests (.of_onlyPort (onlyPort_enterJoined ..))
  · exact of_rests (.counts ..)

theorem joinedHello (h : Header) (items : Vector VectorItem 8) (s : State) : Sourced f s (joinedHello p h items s) := by
  unfold Machine.joinedHello
  split
  · exact (takeRoster ..).from_rests (.onPort ..)
  · exact of_rests (.counts ..)

theorem rosterUpdate (h : Header) (b : RosterUpdateBody) (o : FrameNo) (s : State) :
    Sourced f s (takeBroadcast p ⟨h, .rosterUpdate b⟩ b.seq (fun o => some b.items[o].incarnation)
      (fun o => Machine.takeRoster p (h.hops == 0) o b.items) o s) := by
  refine .ite (fun _ => of_rests (.counts ..)) fun _ => (takeRoster ..).from_rests ?_
  have honly := onlyLink_relayBroadcast p ⟨h, .rosterUpdate b⟩ (s.onRoster fun r =>
    { r with recent := listBroadcast (s.freshLife o (some b.items[o].incarnation)) o b.seq r.recent })
  refine SourceRests.trans ⟨rfl, rfl, rfl, rfl, fun _ _ => rfl⟩ (t := s.onRoster fun r =>
    { r with recent := listBroadcast (s.freshLife o (some b.items[o].incarnation)) o b.seq r.recent }) ?_
  unfold OnlyLink at honly
  rw [honly]
  exact .of_same rfl rfl rfl rfl

end Sourced

/-! ### Every command -/

theorem entry_of_roster (h : t.roster = s.roster) (f : FrameNo) : t.entry f = s.entry f := by
  rw [State.entry, h]
  rfl

/-- A move that does not touch the entries leaves each as it is, or restarts the part. -/
theorem entry_move (hL : .entries ∉ L) (h : Move L s t) (f : FrameNo) : t.entry f = s.entry f ∨ (t.entry f).state = .absent := by
  cases h with
  | lose p st cause _ he _ => exact absurd he hL
  | entries v he _ => exact absurd he hL
  | roster F k =>
    refine .inl ?_
    change (F s.roster).entries[f] = s.roster.entries[f]
    rw [k.entries]
  | restart _ _ =>
    have habsent : (restartBlocks s).entry f = RosterEntry.absent := Vector.getElem_replicate ..
    exact .inr (by rw [habsent]; rfl)
  | toDram => exact .inl rfl
  | drive => exact .inl rfl
  | channel => exact .inl rfl
  | place => exact .inl rfl
  | bindTap => exact .inl rfl
  | clearTap => exact .inl rfl
  | bindMirror => exact .inl rfl
  | clearMirror => exact .inl rfl
  | presets => exact .inl rfl
  | taps => exact .inl rfl
  | mirrors => exact .inl rfl
  | store => exact .inl (entry_of_roster (onMirrorStore_roster ..) f)
  | link => exact .inl rfl
  | clock => exact .inl rfl
  | orders => exact .inl rfl
  | report => exact .inl rfl

theorem Moves.sourced (hL : .entries ∉ L) (h : Moves L s t) : Sourced f s t := by
  have hentry : t.entry f = s.entry f ∨ (t.entry f).state = .absent := by
    induction h with
    | refl => exact .inl rfl
    | tail _ k ih =>
      rcases entry_move hL k f with hk | hk
      · rw [hk]
        exact ih
      · exact .inr hk
  exact hentry.imp_right .inl

namespace Sourced

theorem onOther (tag code : Word16) (frame : Byte) (act : FrameNo → State → State) (s : State) (h : ∀ g, Sourced f s (act g s)) :
    Sourced f s (onOther tag code frame act s) := by
  unfold Machine.onOther
  split
  · exact .ite (fun _ => of_rests (.post ..)) fun _ => h _
  · exact of_rests (.post ..)

theorem onMember (tag code : Word16) (act : FrameNo → State → State) (g : FrameNo) (s : State) (h : Sourced f s (act g s)) :
    Sourced f s (onMember tag code act g s) := .ite (fun _ => of_rests (.post ..)) fun _ => h.to_rests (.post ..)

/-- R101, R102: a change of an entry that keeps its state and its incarnation, and does not close its accept gate. -/
theorem onEntry (f g : FrameNo) (F : RosterEntry → RosterEntry) (s : State)
    (h : ∀ e, (F e).state = e.state ∧ (F e).incarnation = e.incarnation ∧ (e.acceptGate = true → (F e).acceptGate = true)) :
    Sourced f s (s.onEntry g F) := by
  refine Traced.sourced ⟨false, false, .onEntry f g F s, nofun, fun _ _ => ?_⟩ rfl
  rw [onEntry_entry]
  split
  · next hf =>
    subst hf
    obtain ⟨hs, hi, ha⟩ := h (s.entry f)
    refine ⟨⟨nofun, fun k => absurd hi.symm k⟩, fun k => ?_, nofun⟩
    rw [hs] at k
    rcases k with ⟨hp, k⟩ | ⟨ho, hc⟩ | ⟨k, hp, -⟩
    · rw [hp] at k
      exact absurd k (by decide)
    · exact absurd ((ha ho).symm.trans hc) nofun
    · rw [hp] at k
      exact absurd k (by decide)
  · exact .refl ..

/-- R101, R102: both gates of an entry close. -/
theorem closeGates (f g : FrameNo) (s : State) : Sourced f s (closeGates g s) := by
  have hown : (Machine.closeGates g s).own = s.own := (entriesOnly_closeAccept g s).own
  have hentry : (Machine.closeGates g s).entry f = if f = g then { s.entry g with sendGate := false, acceptGate := false } else s.entry f := by
    unfold Machine.closeGates
    rw [onEntry_entry, closeAccept_entry, closeAccept_entry, if_pos rfl]
    split <;> rfl
  refine Traced.sourced ⟨_, _, (Marks.closeAccept f g s).trans (.onEntry f g _ _), nofun, fun _ _ => ?_⟩ hown
  rw [hentry]
  split
  · next hf =>
    subst hf
    refine ⟨⟨nofun, fun k => absurd rfl k⟩, fun k => .inr ?_, nofun⟩
    rw [decide_eq_true rfl, Bool.true_and, Bool.or_false]
    rcases k with ⟨hp, k⟩ | ⟨ho, -⟩ | ⟨-, -, ho⟩
    · dsimp only at k
      rw [hp] at k
      exact absurd k (by decide)
    · exact ho
    · exact ho
  · next hf =>
    rw [decide_eq_false (Ne.symm hf)]
    exact .refl ..

/-- R103: an entry forgotten is Absent, and every other as it was. -/
theorem forgetAt (f : FrameNo) (tag : Word16) (g : FrameNo) (s : State) : Sourced f s (forgetAt tag g s) := by
  unfold Machine.forgetAt
  refine .ite (fun h => ?_) fun _ => of_rests (.post ..)
  have hforgotten : Sourced f s (clearRecord g (enterEntry g .absent s)) := by
    have hentry : (clearRecord g (enterEntry g .absent s)).entry f = _ := enterEntry_entry g .absent s f
    by_cases hf : f = g
    · rw [if_pos hf] at hentry
      exact .inr (.inl (by rw [hentry, entered_state]))
    · rw [if_neg hf] at hentry
      exact .inl hentry
  exact concludes _ _ ((hforgotten.to_rests (SourceRests.electIfNeeded ..)).to_rests (.post ..))

theorem onPortNumber (tag : Word16) (port : Byte) (act : Port → State → State) (s : State) (h : ∀ p, Sourced f s (act p s)) :
    Sourced f s (onPortNumber tag port act s) := by
  unfold Machine.onPortNumber
  split
  · exact h _
  · exact of_rests (.post ..)

theorem portControl (f : FrameNo) (tag : Word16) (port action : Byte) (s : State) : Sourced f s (portControl tag port action s) := by
  have done (p : Port) (u : State) (hu : Sourced f s u) : Sourced f s (conclude s (postResult tag 0x30 .done u)) :=
    concludes _ _ (hu.to_rests (.post ..))
  have enable (p : Port) : Sourced f s (enablePort p s) := by
    have hdark : SourceRests s (setPortState p .dark .none (flushPort p s)) :=
      .of_onlyPort ((OnlyPort.onPort ..).trans (OnlyPort.setPortState ..))
    exact .ite (fun _ => .ite (fun _ => of_rests (hdark.trans (.of_onlyPort (onlyPort_enterTraining ..)))) fun _ => of_rests hdark) fun _ =>
      .of_entry rfl
  refine .ite (fun _ => onPortNumber _ _ _ s fun p => done p _ (enable p)) fun _ =>
    .ite (fun _ => onPortNumber _ _ _ s fun p => done p _ ?_) fun _ =>
      .ite (fun _ => onPortNumber _ _ _ s fun p => .ite (fun _ => of_rests (.post ..)) fun _ => done p _ ?_) fun _ => of_rests (.post ..)
  · exact .ite (fun _ => .of_entry rfl) fun _ => leavePort (.of_onlyPort (onlyPort_enterDisabled ..))
  · exact .ite (fun _ => .of_entry rfl) fun _ => leavePort (.of_onlyPort (onlyPort_enterTraining ..))

theorem dispatch (f : FrameNo) (d : Directive) (s : State) : Sourced f s (dispatch d s) := by
  have untouched (h : .entries ∉ Directive.effects d) : Sourced f s (Machine.dispatch d s) := (moves_dispatch d s (List.Subset.refl _)).sourced h
  cases d with
  | admitFrame tag g => exact onOther _ _ _ _ s fun g => onMember _ _ _ g s (onEntry f g _ s fun e => ⟨rfl, rfl, fun _ => rfl⟩)
  | barFrame tag g => exact onOther _ _ _ _ s fun g => onMember _ _ _ g s (closeGates f g s)
  | forgetFrame tag g => exact onOther _ _ _ _ s fun g => forgetAt f tag g s
  | acknowledgeRestart tag g =>
    unfold Machine.dispatch acknowledgeRestart
    dsimp only
    split
    · exact to_rests (.post ..) (onEntry f _ (fun e => { e with restartSeen := false }) s fun e => ⟨rfl, rfl, id⟩)
    · exact of_rests (.post ..)
  | portControl tag port action => exact portControl f tag port action s
  | _ => exact untouched of_eval

theorem takeDirective (f : FrameNo) (d : Directive) (s : State) : Sourced f s (takeDirective d s) := (dispatch f d _).from_rests (.taken s)

theorem writeAccess (f : FrameNo) (beats : List Beat) (s : State) : Sourced f s (channelCommand (.writeAccess beats) (handOn beats) s) := by
  have passed : SourceRests s { s with toDram := some (.writeAccess beats) } := .of_same rfl rfl rfl rfl
  have routed (w : WriteBurst) (v : State) : Sourced f v (passWrite w beats v) := by
    unfold passWrite
    split
    · unfold serveWrite
      split
      · refine .ite (fun _ => takeDirective f _ v) fun _ => (moves_takePartial (L := [.partials]) _ _ v of_eval).sourced of_eval
      · exact concludes _ _ ((moves_tapWrite (L := [.rack]) _ _ _ _ v of_eval).sourced of_eval)
      · exact (moves_mirrorCounters (L := [.halves]) _ _ v of_eval).sourced of_eval
      · exact .of_entry rfl
      · exact .of_entry rfl
    · exact .of_entry rfl
  refine .ite (fun _ => of_rests passed) fun _ => .from_rests passed ?_
  unfold handOn
  split
  · exact .of_entry rfl
  · exact (routed _ _).from_rests (.of_same rfl rfl rfl rfl)

end Sourced

/-- R62: loss of signal. -/
theorem sourced_loseSignal (f : FrameNo) (p : Port) (s : State) : Sourced f s (loseSignal p s) := by
  have dark : SourceRests s (enterDark p s) := .of_onlyPort (onlyPort_enterDark p s)
  unfold loseSignal
  split
  · exact .of_rests dark
  · exact .of_rests dark
  · exact .leavePort dark
  · exact .of_rests dark
  all_goals exact .of_entry rfl

theorem sourced_badCrc (f : FrameNo) (p : Port) (s : State) : Sourced f s (badCrc p s) := by
  have received : SourceRests s (countReceived p s) := .counts ..
  have scored : SourceRests s (countCrc p ((countReceived p s).onPort p PortRecord.badFrame)) :=
    (received.trans (.onPort ..)).trans (.counts ..)
  unfold badCrc
  split
  · exact .ite (fun _ => .leavePort (scored.trans (.of_onlyPort (onlyPort_enterTraining ..)))) fun _ => .of_rests scored
  · exact .of_rests (received.trans (.counts ..))
  · exact .of_rests (received.trans (.counts ..))
  all_goals exact .of_entry rfl

/-- R90, R99, R101, R150, R151: every command marks the halves of every frame as the change of its entry says. -/
theorem sourced_exec (c : Instr) (s : State) : ∃ t, exec c s = .next t ∧ ∀ f, Sourced f s t := by
  have untouched (hc : ∀ f a b, c ≠ .partReset f a b) (h : .entries ∉ effectsOf c) : ∃ t, exec c s = .next t ∧ ∀ f, Sourced f s t := by
    obtain ⟨t, hexec, hmoves⟩ := movesBy_of_ne_partReset c hc s
    exact ⟨t, hexec, fun f => hmoves.sourced h⟩
  have directive {d : Directive} (h : recordOf c = some d) : ∃ t, exec c s = .next t ∧ ∀ f, Sourced f s t :=
    ⟨_, exec_of_recordOf h s, fun f => .ite (fun _ => .takeDirective f d s) fun _ => .of_entry rfl⟩
  cases c with
  | partReset f a b => exact ⟨_, rfl, fun g => .inr (.inl (congrArg RosterEntry.state (Vector.getElem_replicate g.isLt)))⟩
  | lossOfSignal p => exact ⟨_, rfl, fun f => .concludes _ _ ((sourced_loseSignal f p _).from_rests (.onPort ..))⟩
  | neighbourTraining p =>
    exact ⟨_, rfl, fun f => .concludes _ _ (.ite (fun _ => .leavePort (.of_onlyPort (onlyPort_enterTraining p s))) fun _ => .of_entry rfl)⟩
  | badCrcFrame p => exact ⟨_, rfl, fun f => .concludes _ _ (sourced_badCrc f p s)⟩
  | hello p h b =>
    refine ⟨_, rfl, fun f => .concludes _ _ (.receive ((Sourced.linkedHello h b.items _).from_rests (.counts ..)) fun u hu => ?_)⟩
    exact Sourced.from_rests hu (.ite (fun _ => .joinedHello h b.items u) fun _ => .of_rests (.counts ..))
  | rosterUpdate p h b =>
    refine ⟨_, rfl, fun f => .concludes _ _ (.receive (.notJoined p s) fun u hu => .from_rests hu ?_)⟩
    unfold foreignFrame
    split
    · exact .ite (fun _ => .of_rests (.counts ..)) fun _ => .rosterUpdate h b _ u
    · exact .of_rests (.counts ..)
  | writeAccess beats => exact ⟨_, rfl, fun f => .writeAccess f beats s⟩
  | admitFrame tag g => exact directive rfl
  | barFrame tag g => exact directive rfl
  | forgetFrame tag g => exact directive rfl
  | acknowledgeRestart tag g => exact directive rfl
  | portEnable tag port => exact directive rfl
  | portDisable tag port => exact directive rfl
  | portRetrain tag port => exact directive rfl
  | _ => exact untouched (fun _ _ _ => nofun) of_eval

/-- Settles O40: which halves each of the two operations marks, and that every command marks those that the change of its frame's entry names. -/
theorem lostSourcesLeaveStaleHalves : Obligations.LostSourcesLeaveStaleHalves := by
  refine ⟨sources_mark, fun s c => ?_⟩
  obtain ⟨t, hexec, hsourced⟩ := sourced_exec c s
  refine ⟨t, hexec, fun f m h => ?_⟩
  intro k old new half restarted left closed returned he ht
  obtain ⟨r, l, hfollows, happlied, hmirrors⟩ := (hsourced f).halves he ht
  refine ⟨fun hb hs hh => ?_, fun hrestarted => ?_⟩
  · rcases hmirrors with hm | hsame
    · have hhalf : (t.mirror m).half h = half.marked r l := by
        rw [hm m hb hs]
        exact marked_half k h hh
      rw [hhalf]
      refine ⟨fun hmarks hf => ?_, fun _ hf hr => ?_, fun hr => ?_⟩
      · rcases hfollows.marks hmarks with rfl | rfl
        · rfl
        · cases r
          · exact (marked_left half).1 hf
          · rfl
      · have hfalse : r = false := Bool.not_eq_true _ ▸ fun k => hr (hfollows.restarts.mp k)
        subst hfalse
        cases l
        · rfl
        · exact (marked_left half).2 hf
      · rw [hfollows.restarts.mpr hr]
        rfl
    · have hnone := Follows.refl (l := false) s.roster.autoAdmit old
      have hnot : ¬ (left ∨ closed ∨ returned) := fun k => by
        have := hnone.marks (show _ by simpa only [left, closed, returned, new, hsame] using k)
        simp at this
      exact ⟨fun k => absurd k hnot, fun k => absurd k hnot, fun k => absurd (congrArg RosterEntry.incarnation hsame.symm) k⟩
  · have hr := hfollows.restarts.mpr hrestarted
    obtain ⟨hseen, haccept, hsend, hshut⟩ := hfollows.fresh hr
    exact ⟨hseen, haccept, hsend, hshut, happlied hr⟩

end Sys2Proof.Machine

/-! PROOFS. The part's own standing (R21, R44, R61, R88, R104 to R107, R110, R118, R131, R184): what of the regions, the leave, the belief and the
lock state every move keeps that is no step of the load, of a leave or of the lock state; and what concludes an event. -/

namespace Sys2Proof.Machine
variable {s t u v before noted : State} {L : List Effect} {b former left : Option FrameNo}

/-! ### The three invariants, taken apart -/

/-- R21, R29, R44, R61, R88, R105, R107, R110: the part's standing but for the tag of a leave and for the lock state. -/
structure State.stands (s : State) : Prop where
  regions : regionsRight s
  leaving : s.roster.ownState = .leaving ↔ s.roster.phase ≠ .none
  waits : s.roster.phase ≠ .announced → s.roster.waitSet = 0
  taps : s.away = true → ∀ k, ¬ (s.tap k).active
  belief : s.roster.belief = some s.own → s.roster.ownState = .active

/-- R104: the tag of a leave goes with its phase. -/
def State.tagged (s : State) : Prop := s.roster.leaveTag.isSome = true ↔ s.roster.phase ≠ .none

/-- R118, R131: the lock state is Master exactly where the belief `b` is the own frame, with no up port and no request outstanding. -/
def State.locksBy (b : Option FrameNo) (s : State) : Prop := (s.clock.lock = .master ↔ b = some s.own) ∧
  (s.clock.lock = .master → s.clock.upPort = none ∧ s.clock.outstanding = none)

/-- The three invariants together. -/
def State.inOffice (s : State) : Prop := s.stands ∧ s.tagged ∧ s.locksBy s.roster.belief

theorem inOffice_iff : s.inOffice ↔ regionsRight s ∧ leaveRight s ∧ masterRight s := by
  constructor
  · rintro ⟨h, ht, hlock, hfree⟩
    exact ⟨h.regions, ⟨h.regions.1.mpr, h.leaving, ht, h.waits, fun ha k => not_or.mp (h.taps ha k)⟩, h.belief, hlock, hfree⟩
  · rintro ⟨hr, ⟨-, hleaving, ht, hw, htaps⟩, hb, hlock, hfree⟩
    exact ⟨⟨hr, hleaving, hw, fun ha k => not_or.mpr (htaps ha k), hb⟩, ht, hlock, hfree⟩

/-- What shares regions, port states, active taps and the own standing stands alike. -/
theorem stands_of_same (hown : t.own = s.own) (hregions : t.regions = s.regions) (hport : ∀ p, (t.port p).state = (s.port p).state)
    (htap : s.away = true → ∀ k, (t.tap k).active → (s.tap k).active) (hstate : t.roster.ownState = s.roster.ownState)
    (hphase : t.roster.phase = s.roster.phase) (hwait : s.roster.waitSet = 0 → t.roster.waitSet = 0)
    (hbelief : t.roster.belief = some s.own → s.roster.belief = some s.own ∨ s.roster.ownState = .active)
    (hload : t.reporter.loadStep = s.reporter.loadStep) (hs : s.stands) : t.stands := by
  have hregion (i : Fin 18) : t.region i = s.region i := by rw [State.region, hregions]; rfl
  refine ⟨⟨?_, fun k => ⟨fun i => ?_, fun p => ?_⟩, fun i j => ?_⟩, ?_, fun k => ?_, fun ha k hk => ?_, fun k => ?_⟩
  · rw [hstate, hload]
    exact hs.regions.1
  · rw [hregion]
    exact (hs.regions.2.1 (hstate ▸ k)).1 i
  · rw [hport]
    exact (hs.regions.2.1 (hstate ▸ k)).2 p
  · rw [hregion, hregion]
    exact hs.regions.2.2 i j
  · rw [hstate, hphase]
    exact hs.leaving
  · exact hwait (hs.waits (hphase ▸ k))
  · have haway : s.away = true := by
      unfold State.away at ha ⊢
      rwa [hstate] at ha
    exact hs.taps haway k (htap haway k hk)
  · rw [hstate]
    exact (hbelief (hown ▸ k)).elim hs.belief id

/-! ### What a move keeps -/

theorem standingKept_move (hlock : .lock ∉ L ∨ .rack ∉ L) (hrestart : .restart ∉ L) (h : Move L s t) : StandingKept s.own s.roster t.roster := by
  have same (hr : t.roster = s.roster) : StandingKept s.own s.roster t.roster := hr ▸ standingKept_of rfl rfl rfl id rfl
  cases h with
  | roster F k =>
    rcases hlock with h | h
    · exact k.standing h
    · obtain ⟨ho, hb, hp, hw, ht, -⟩ := k.rack h
      exact standingKept_of ho hp ht (fun j => hw.trans j) hb
  | restart k => exact absurd k hrestart
  | lose p st cause =>
    have hr : (setPortState p st cause s).roster = s.roster := setPortState_roster ..
    exact standingKept_of (congrArg Roster.ownState hr :) (congrArg Roster.phase hr :) (congrArg Roster.leaveTag hr :)
      (fun k => (congrArg Roster.waitSet hr :).trans k) (congrArg Roster.belief hr :)
  | entries => exact standingKept_of rfl rfl rfl id rfl
  | _ => exact same (by simp [clearTap, clearMirror, bindMirrorAs])

/-- R26: a region that shares a line with no valid entry. -/
theorem apart_of_overlaps {e : Region} (h : s.overlaps e = false) (i : Fin 18) (hv : (s.region i).valid = true) : (s.region i).meets e = false := by
  have := List.any_eq_false.mp h i (by fin_cases i <;> decide)
  simpa [hv] using this

theorem meets_comm (e f : Region) : e.meets f = f.meets e := Bool.and_comm ..

/-- R21: no two valid regions share a line. -/
def State.regionsApart (s : State) : Prop :=
  ∀ i j, i ≠ j → (s.region i).valid = true → (s.region j).valid = true → (s.region i).meets (s.region j) = false

theorem regionsApart_set {i : Fin 18} {e : Region} (hs : s.regionsApart) (he : e.valid = true → s.overlaps e = false) (hr : t.regions = s.regions) :
    (t.setRegion i e).regionsApart := by
  have hregion (j : Fin 18) (hj : j ≠ i) : (t.setRegion i e).region j = s.region j := by
    rw [setRegion_other _ _ hj, State.region, hr]
    rfl
  have hnew (j : Fin 18) (hj : j ≠ i) (hv : ((t.setRegion i e).region j).valid = true) (hev : e.valid = true) :
      ((t.setRegion i e).region j).meets e = false := by
    rw [hregion j hj] at hv ⊢
    exact apart_of_overlaps (he hev) j hv
  intro j k hjk hj hk
  by_cases h1 : j = i
  · subst h1
    rw [setRegion_self] at hj ⊢
    rw [meets_comm]
    exact hnew k (Ne.symm hjk) hk hj
  · by_cases h2 : k = i
    · subst h2
      rw [setRegion_self] at hk ⊢
      exact hnew j h1 hj hk
    · rw [hregion j h1] at hj ⊢
      rw [hregion k h2] at hk ⊢
      exact hs j k hjk hj hk

theorem regionsApart_of_same (h : t.regions = s.regions) (hs : s.regionsApart) : t.regionsApart := by
  unfold State.regionsApart State.region at hs ⊢
  rw [h]
  exact hs

theorem regionsApart_restart (hs : s.regionsApart) : (restartBlocks s).regionsApart := by
  have hregion (i : Fin 18) : (restartBlocks s).region i = if i.val < 2 then s.region i else Region.empty := Vector.getElem_ofFn ..
  intro i j hij hi hj
  rw [hregion] at hi hj ⊢
  split at hi
  · next h =>
    rw [if_pos h, hregion]
    split at hj
    · next k =>
      rw [if_pos k]
      exact hs i j hij hi hj
    · exact nomatch hj
  · exact nomatch hi

theorem regionsApart_move (hplace : .place ∉ L) (h : Move L s t) (hs : s.regionsApart) : t.regionsApart := by
  cases h with
  | place i e k => exact absurd k hplace
  | bindTap n k e _ _ hb => exact regionsApart_set hs (fun _ => hb.apart) rfl
  | clearTap n => exact regionsApart_set hs nofun rfl
  | bindMirror m k e _ _ hb => exact regionsApart_set hs (fun _ => hb.apart) rfl
  | clearMirror m => exact regionsApart_set hs nofun rfl
  | restart => exact regionsApart_restart hs
  | _ => exact regionsApart_of_same (by simp) hs

/-- R40, R44: a move activates no tap of a part that is away. -/
theorem active_move (hrestart : .restart ∉ L) (h : Move L s t) (ha : s.away = true) (k : TapNo) (hk : (t.tap k).active) : (s.tap k).active := by
  cases h with
  | taps w hw => exact ((hw k).arms hk).resolve_right (by rw [ha]; exact nofun)
  | bindTap n j e _ _ hb =>
    change ((s.onTap n fun _ => j).tap k).active at hk
    by_cases hn : k = n
    · subst hn
      rw [onTap_self] at hk
      unfold Tap.active at hk
      rw [hb.idle] at hk
      exact absurd hk (by decide)
    · rwa [onTap_other s _ hn] at hk
  | clearTap n =>
    change ((s.onTap n fun _ => Tap.unbound).tap k).active at hk
    by_cases hn : k = n
    · subst hn
      rw [onTap_self] at hk
      exact absurd hk (by unfold Tap.active Tap.unbound; decide)
    · rwa [onTap_other s _ hn] at hk
  | lose p st cause =>
    rw [tap_lose] at hk
    exact hk
  | restart j => exact absurd j hrestart
  | _ => simpa [State.tap, clearMirror, bindMirrorAs] using hk

/-- The lock state, the up port and the request outstanding. -/
def State.lockView (s : State) : LockState × Option Port × Option Outstanding := (s.clock.lock, s.clock.upPort, s.clock.outstanding)

theorem lockView_move (hlock : .lock ∉ L) (hrestart : .restart ∉ L) (h : Move L s t) : t.lockView = s.lockView := by
  cases h with
  | clock F k =>
    obtain ⟨h1, h2, h3⟩ := k.lock hlock
    unfold State.lockView
    rw [onClock_clock, h1, h2, h3]
  | restart k => exact absurd k hrestart
  | _ => simp [State.lockView, clearTap, clearMirror, bindMirrorAs]

theorem lock_of_view (hv : t.lockView = s.lockView) : t.clock.lock = s.clock.lock := congrArg Prod.fst hv

theorem locksBy_of_view (ho : t.own = s.own) (hv : t.lockView = s.lockView) (h : s.locksBy b) : t.locksBy b := by
  simp only [State.lockView, Prod.mk.injEq] at hv
  obtain ⟨h1, h2, h3⟩ := hv
  unfold State.locksBy
  rw [h1, h2, h3, ho]
  exact h

/-! ### What a chain of moves keeps -/

/-- What an operation keeps that is no step of the part's own state. -/
structure Conserves (s t : State) : Prop where
  own : t.own = s.own
  ownState : t.roster.ownState = s.roster.ownState
  phase : t.roster.phase = s.roster.phase
  leaveTag : t.roster.leaveTag = s.roster.leaveTag
  waitSet : s.roster.waitSet = 0 → t.roster.waitSet = 0
  stands : s.stands → t.stands

namespace Conserves

theorem refl (s : State) : Conserves s s := ⟨rfl, rfl, rfl, rfl, id, id⟩

theorem trans (h : Conserves s t) (k : Conserves t u) : Conserves s u :=
  ⟨k.own.trans h.own, k.ownState.trans h.ownState, k.phase.trans h.phase, k.leaveTag.trans h.leaveTag,
    k.waitSet ∘ h.waitSet, k.stands ∘ h.stands⟩

theorem ite {c : Prop} [Decidable c] (h : c → Conserves s t) (k : ¬ c → Conserves s u) : Conserves s (if c then t else u) := by
  split
  · exact h ‹_›
  · exact k ‹_›

theorem tagged (h : Conserves s t) (hs : s.tagged) : t.tagged := by
  unfold State.tagged
  rw [h.leaveTag, h.phase]
  exact hs

end Conserves

/-- Effects that are no step of the load, of a leave or of a restart. -/
def calmEffects (L : List Effect) : Bool :=
  (decide (.lock ∉ L) || decide (.rack ∉ L)) && [Effect.load, .place, .restart].all fun e => decide (e ∉ L)

/-- Effects that move no region and no port's state. -/
def stillEffects (L : List Effect) : Bool := decide (.regions ∉ L) && decide (.ports ∉ L)

theorem calmEffects_iff : calmEffects L = true ↔ (.lock ∉ L ∨ .rack ∉ L) ∧ .load ∉ L ∧ .place ∉ L ∧ .restart ∉ L := by simp [calmEffects]

theorem stillEffects_iff : stillEffects L = true ↔ .regions ∉ L ∧ .ports ∉ L := by simp [stillEffects]

theorem regionsRight_move (hL : calmEffects L = true) (hstart : s.roster.ownState = .starting → stillEffects L = true) (h : Move L s t) (hs : regionsRight s) :
    regionsRight t := by
  obtain ⟨hlock, hload, hplace, hrestart⟩ := calmEffects_iff.mp hL
  have hstate := (standingKept_move hlock hrestart h).ownState
  have hstep : t.reporter.loadStep = s.reporter.loadStep := congrArg (fun k => k.2.1) (load_move hload h)
  obtain ⟨hload', hidle, hapart⟩ := hs
  refine ⟨by rw [hstate, hstep]; exact hload', fun k => ?_, regionsApart_move hplace h hapart⟩
  rw [hstate] at k
  obtain ⟨hregions, hports⟩ := stillEffects_iff.mp (hstart k)
  obtain ⟨hinvalid, hdown⟩ := hidle k
  refine ⟨fun i => ?_, fun p => ?_⟩
  · rw [State.region, regions_move hplace hregions hrestart h]
    exact hinvalid i
  · rw [show (t.port p).state = (s.port p).state from congrArg Prod.fst (portView_move hports h p)]
    exact hdown p

theorem conserves_move (hL : calmEffects L = true) (hstart : s.roster.ownState = .starting → stillEffects L = true) (h : Move L s t) : Conserves s t := by
  obtain ⟨hlock, hload, hplace, hrestart⟩ := calmEffects_iff.mp hL
  obtain ⟨hstate, hphase, htag, hwait, hbelief⟩ := standingKept_move hlock hrestart h
  have haway : t.away = s.away := by
    unfold State.away
    rw [hstate]
  refine ⟨own_move h, hstate, hphase, htag, hwait, fun hs => ⟨regionsRight_move hL hstart h hs.regions, ?_, fun k => ?_, fun ha k hk => ?_, fun k => ?_⟩⟩
  · rw [hstate, hphase]
    exact hs.leaving
  · rw [hphase] at k
    exact hwait (hs.waits k)
  · rw [haway] at ha
    exact hs.taps ha k (active_move hrestart h ha k hk)
  · rw [own_move h] at k
    rw [hstate]
    exact (hbelief k).elim hs.belief id

/-- What a chain of such moves keeps. -/
theorem Moves.conserves (h : Moves L s t) (hL : calmEffects L = true) (hstart : s.roster.ownState = .starting → stillEffects L = true) : Conserves s t := by
  induction h with
  | refl => exact .refl s
  | tail _ k ih => exact ih.trans (conserves_move hL (fun j => hstart (ih.ownState ▸ j)) k)

theorem Moves.lockView (h : Moves L s t) (hlock : .lock ∉ L) (hL : calmEffects L = true) : t.lockView = s.lockView := by
  obtain ⟨-, -, -, hrestart⟩ := calmEffects_iff.mp hL
  exact h.leaves fun _ _ => lockView_move hlock hrestart

theorem Moves.own (h : Moves L s t) : t.own = s.own := h.leaves fun _ _ => own_move

/-- A chain of moves of what an event concludes. -/
theorem Moves.conservesRack (h : Moves [.rack] s t) : Conserves s t := h.conserves rfl fun _ => rfl

theorem Moves.lockRack (h : Moves [.rack] s t) : t.lockView = s.lockView := h.lockView (by decide) rfl

end Sys2Proof.Machine

/-! PROOFS. What concludes an event keeps the part's standing and brings the lock state after the belief (R93, R104 to R107, R112, R118, R131,
R169, R192): the notices, the pending entries dealt with, and the leave that moves on. -/

namespace Sys2Proof.Machine
variable {s t u v n before noted : State} {L : List Effect} {b former left : Option FrameNo} {o f : FrameNo} {seq : Word16} {d : RackDirective}
  {rackSeq : Nat}

/-! ### The lock transition (R112, R119, R131, R132, R192) -/

theorem changeLeader_lock {up : Option Port} {c : RackTime} (h : c.lock ≠ .master) : (c.changeLeader up).lock ≠ .master := by
  unfold RackTime.changeLeader
  dsimp only
  split
  · exact nofun
  · exact nofun
  · exact nofun
  · exact nofun
  · exact h

theorem fromMaster_lock (up : Option Port) (c : RackTime) : (c.fromMaster up).lock ≠ .master := by
  unfold RackTime.fromMaster
  dsimp only
  split
  · exact nofun
  · exact nofun

/-- A transition toward another frame, or none, leaves the lock state elsewhere than Master. -/
theorem followMaster_lock (hl : left ≠ some s.own) (h : s.clock.lock = .master → former = some s.own) :
    (followMaster former left s).clock.lock ≠ .master := by
  unfold followMaster
  dsimp only
  rw [if_neg hl]
  split
  · rw [changeLock_clock]
    exact fromMaster_lock _ _
  · next hk =>
    have hne : s.clock.lock ≠ .master := fun k => hk ⟨h k, k⟩
    split
    · rw [changeLock_clock]
      exact changeLeader_lock hne
    · exact hne

theorem locksBy_of_lock (hl : s.clock.lock ≠ .master) (hb : b ≠ some s.own) : s.locksBy b :=
  ⟨⟨fun k => absurd k hl, fun k => absurd k hb⟩, fun k => absurd k hl⟩

theorem locksBy_followMaster (h : s.locksBy former) : (followMaster former left s).locksBy left := by
  have hown : (followMaster former left s).own = s.own := (notified_followMaster former left s).own
  by_cases hl : left = some s.own
  · by_cases hf : former = some s.own
    · rw [show followMaster former left s = s from (if_pos hl).trans (if_pos hf), hl, ← hf]
      exact h
    · subst hl
      unfold State.locksBy
      rw [hown, followMaster_to_master hf, changeLock_clock]
      exact ⟨⟨fun _ => rfl, fun _ => rfl⟩, fun _ => ⟨rfl, rfl⟩⟩
  · exact locksBy_of_lock (followMaster_lock hl h.1.mp) (hown ▸ hl)

/-! ### The notices (R93, R107, R112) -/

/-- What the notices tell ahead of the lock transition moves the reporter alone. -/
theorem onlyReporter_notices (before s : State) :
    OnlyReporter s (notifyBelief before (notifyOwn before (s.others.foldl (notifyFrame before) s))) := by
  have own : ∀ u, OnlyReporter u (notifyOwn before u) := fun u => by unfold notifyOwn; exact .ite (.refl u) (onlyReporter_raise ..)
  have belief : ∀ u, OnlyReporter u (notifyBelief before u) := fun u => by unfold notifyBelief; exact .ite (.refl u) (onlyReporter_raise ..)
  exact (OnlyReporter.foldl (fun u f => onlyReporter_notifyFrame before u f) _ _).trans ((own _).trans (belief _))

theorem followMaster_roster (former left : Option FrameNo) (s : State) : (followMaster former left s).roster = s.roster := by
  have changed (k : RackTime → RackTime) : (changeLock k s).roster = s.roster := by
    unfold changeLock
    dsimp only
    split <;> rfl
  unfold followMaster
  dsimp only
  split
  · split
    · rfl
    · exact changed _
  · split
    · exact changed _
    · split
      · exact changed _
      · rfl

theorem notifyDeparture_tag (h : before.roster.ownState ≠ .departed ∧ s.roster.ownState = .departed) :
    (notifyDeparture before s).roster.leaveTag = none := by
  unfold notifyDeparture
  rw [if_pos h]
  dsimp only
  split <;> rfl

/-- The lock state behind the notices is the one behind the lock transition. -/
theorem notify_lock (left : Option FrameNo) (before s : State) : ∃ u, u.own = s.own ∧ u.clock = s.clock ∧
    (notify left before s).clock = (followMaster before.roster.belief left u).clock := by
  have h := onlyReporter_notices before s
  unfold notify
  dsimp only
  generalize notifyBelief before (notifyOwn before (s.others.foldl (notifyFrame before) s)) = u at h
  exact ⟨u, congrArg Straps.frame h.2, by rw [h.1], notifyDeparture_clock _ _⟩

theorem locksBy_of_clock (ho : t.own = s.own) (hc : t.clock = s.clock) (h : s.locksBy b) : t.locksBy b := by
  unfold State.locksBy
  rw [ho, hc]
  exact h

theorem locksBy_notify (h : s.locksBy before.roster.belief) : (notify left before s).locksBy left := by
  obtain ⟨u, ho, hc, hn⟩ := notify_lock left before s
  refine locksBy_of_clock ?_ hn (locksBy_followMaster (locksBy_of_clock ho hc h))
  rw [(notified_notify ..).own, (notified_followMaster ..).own, ho]

theorem notify_lock_ne (hl : left ≠ some s.own) (h : s.clock.lock ≠ .master) : (notify left before s).clock.lock ≠ .master := by
  obtain ⟨u, ho, hc, hn⟩ := notify_lock left before s
  rw [hn]
  exact followMaster_lock (ho ▸ hl) fun k => absurd k (hc ▸ h)

/-- The notices keep the part's standing, but for the tag of a leave. -/
theorem stands_of_settled (h : Settled s t) (htaps : t.tapEngine = s.tapEngine)
    (hr : t.roster = { s.roster with leaveTag := t.roster.leaveTag, belief := t.roster.belief })
    (hb : t.roster.belief = some s.own → s.roster.ownState = .active) (hs : s.stands) : t.stands := by
  refine stands_of_same h.own h.regions (fun p => congrArg PortStanding.state (h.standing p)) (fun _ k hk => ?_) ?_ ?_ ?_ (fun k => .inr (hb k))
    h.loadStep hs
  · rwa [State.tap, htaps] at hk
  · rw [hr]
  · rw [hr]
  · rw [hr]
    exact id

theorem stands_notify (left : Option FrameNo) (before : State) (hs : s.stands) : (notify left before s).stands := by
  have h := notified_notify left before s
  refine stands_of_settled (settled_notify ..) h.tapEngine ?_ ?_ hs
  · rw [h.parts]
  · rw [h.parts]
    exact hs.belief

theorem conserves_notify (left : Option FrameNo) (h : before.roster.ownState = .departed ∨ s.roster.ownState ≠ .departed) :
    Conserves s (notify left before s) := by
  have hr := notify_roster left h
  exact ⟨(notified_notify ..).own, by rw [hr], by rw [hr], by rw [hr], by rw [hr]; exact id, stands_notify left before⟩

/-- R104, R107: a leave that has completed loses its tag with its notices. -/
theorem tagged_notify (left : Option FrameNo) (hs : s.stands)
    (h : s.tagged ∨ (before.roster.ownState ≠ .departed ∧ s.roster.ownState = .departed)) : (notify left before s).tagged := by
  by_cases hd : before.roster.ownState ≠ .departed ∧ s.roster.ownState = .departed
  · have hphase : s.roster.phase = .none := by
      by_contra hp
      have := hs.leaving.mpr hp
      rw [hd.2] at this
      exact nomatch this
    have hparts := (notified_notify left before s).parts
    have htag : (notify left before s).roster.leaveTag = none := by
      have hfollow := followMaster_roster before.roster.belief left
        (notifyBelief before (notifyOwn before (s.others.foldl (notifyFrame before) s)))
      have hnotices : (notifyBelief before (notifyOwn before (s.others.foldl (notifyFrame before) s))).roster = s.roster :=
        (congrArg State.roster (onlyReporter_notices before s).1 :)
      exact notifyDeparture_tag ⟨hd.1, (congrArg Roster.ownState (hfollow.trans hnotices)).trans hd.2⟩
    have hphase' : (notify left before s).roster.phase = .none := by rw [hparts]; exact hphase
    unfold State.tagged
    rw [htag, hphase']
    exact ⟨nofun, fun k => absurd rfl k⟩
  · have hkeep : before.roster.ownState = .departed ∨ s.roster.ownState ≠ .departed := by
      by_contra k
      obtain ⟨k1, k2⟩ := not_or.mp k
      exact hd ⟨k1, not_not.mp k2⟩
    exact (conserves_notify left hkeep).tagged (h.resolve_right hd)

/-! ### Rack orders (R161, R163 to R167) -/

theorem rack_mem : Effect.rack ∈ [Effect.rack] := List.mem_singleton_self _

theorem conserves_applyDirective (rest : State → State) (d : RackDirective) (rackSeq : Nat) (s : State) :
    Conserves s (applyDirective rest d rackSeq s) := by
  cases d with
  | masterClaim f =>
    refine .ite (fun _ => .refl s) fun _ => ?_
    have hclaim := (moves_claimBelief f s rack_mem).conservesRack
    refine hclaim.trans (conserves_notify _ ?_)
    rw [hclaim.ownState]
    exact Classical.em _
  | rackArm g time => exact (moves_applyArm g time rackSeq s rack_mem).conservesRack
  | rackHalt g => exact (Moves.foldl (fun u t => moves_haltTapOf g u t rack_mem) _ _).conservesRack

theorem conserves_applyOrder (rest : State → State) (rackSeq : Nat) (master o : FrameNo) (seq : Word16) (d : RackDirective) (s : State) :
    Conserves s (applyOrder rest rackSeq master o seq d s) :=
  .ite (fun _ => ((moves_recordOrder rackSeq master o seq s).conservesRack.trans (conserves_applyDirective ..)).trans
    (moves_finishOrder o seq d rackSeq _ rack_mem).conservesRack) fun _ => (moves_countDuplicate s).conservesRack

theorem conserves_order (o : FrameNo) (seq : Word16) (d : RackDirective) (s : State) : Conserves s (order o seq d s) :=
  ((moves_issueOrder o seq d s rack_mem).conservesRack.trans (conserves_applyOrder ..)).trans (moves_countOrdered _).conservesRack

theorem conserves_dealEntry (s : State) (e : PendingEntry) : Conserves s (dealEntry s e) := by
  unfold dealEntry
  split
  · exact (moves_setStatus _ _ s rack_mem).conservesRack
  · exact .ite (fun _ => .ite (fun _ => conserves_order ..) fun _ =>
      ((moves_removePending _ s rack_mem).trans (moves_refuseEntry ..)).conservesRack) fun _ => (moves_requestEntry _ e s rack_mem).conservesRack

theorem conserves_deals (l : List PendingEntry) (s : State) : Conserves s (l.foldl dealEntry s) := by
  induction l generalizing s with
  | nil => exact .refl s
  | cons e l ih => exact (conserves_dealEntry s e).trans (ih _)

theorem conserves_resubmit (before s : State) : Conserves s (resubmit before s) := .ite (fun _ => .refl s) fun _ => conserves_deals ..

theorem applyDirective_claim (rest : State → State) (h : s.roster.belief ≠ some f) :
    applyDirective rest (.masterClaim f) rackSeq s = notify (rest (claimBelief f s)).roster.belief s (claimBelief f s) := if_neg h

theorem applyDirective_claimed (rest : State → State) (h : s.roster.belief = some f) : applyDirective rest (.masterClaim f) rackSeq s = s := if_pos h

/-- R165, R166: an arm or a halt leaves the lock state. -/
theorem applyDirective_lockView (rest : State → State) (h : ∀ f, d ≠ .masterClaim f) :
    (applyDirective rest d rackSeq s).lockView = s.lockView := by
  cases d with
  | masterClaim f => exact absurd rfl (h f)
  | rackArm g time => exact (moves_applyArm g time rackSeq s rack_mem).lockRack
  | rackHalt g => exact (Moves.foldl (fun u t => moves_haltTapOf g u t rack_mem) _ _).lockRack

/-- R164, R192: an applied claim brings the lock state after the belief that the event leaves. -/
theorem locksBy_applyDirective_claim (rest : State → State) (h : s.locksBy s.roster.belief) (hb : s.roster.belief ≠ some f) :
    (applyDirective rest (.masterClaim f) rackSeq s).locksBy (rest (claimBelief f s)).roster.belief := by
  have hclaim := moves_claimBelief f s rack_mem
  rw [applyDirective_claim rest hb]
  exact locksBy_notify (locksBy_of_view hclaim.own hclaim.lockRack h)

/-- An order behind which nothing changes the belief brings the lock state after it. -/
theorem locksBy_applyDirective (rest : State → State) (hrest : ∀ u, (rest u).roster.belief = u.roster.belief) (h : s.locksBy s.roster.belief) :
    (applyDirective rest d rackSeq s).locksBy (applyDirective rest d rackSeq s).roster.belief := by
  by_cases hd : ∀ f, d ≠ .masterClaim f
  · rw [applyDirective_belief rest rackSeq hd]
    exact locksBy_of_view (conserves_applyDirective ..).own (applyDirective_lockView rest hd) h
  · obtain ⟨f, hf⟩ := not_forall.mp hd
    obtain rfl := not_not.mp hf
    by_cases hb : s.roster.belief = some f
    · rw [applyDirective_claimed rest hb]
      exact h
    · have hclaims := locksBy_applyDirective_claim (rackSeq := rackSeq) rest h hb
      rw [hrest, ← (notified_notify (rest (claimBelief f s)).roster.belief s (claimBelief f s)).belief, ← applyDirective_claim (rackSeq := rackSeq) rest hb]
        at hclaims
      exact hclaims

/-- A part that believes itself master and is not yet Master does not become Master by its own order. -/
theorem applyDirective_lock (rest : State → State) (hrest : ∀ u, (rest u).roster.belief = u.roster.belief) (hb : s.roster.belief = some s.own)
    (h : s.clock.lock ≠ .master) : (applyDirective rest d rackSeq s).clock.lock ≠ .master := by
  by_cases hd : ∀ f, d ≠ .masterClaim f
  · rw [lock_of_view (applyDirective_lockView rest hd)]
    exact h
  · obtain ⟨f, hf⟩ := not_forall.mp hd
    obtain rfl := not_not.mp hf
    by_cases hf : s.roster.belief = some f
    · rw [applyDirective_claimed rest hf]
      exact h
    · have hne : f ≠ s.own := fun k => hf (k ▸ hb)
      have hclaim : claimBelief f s = s.onRoster fun r => { r with belief := some f } := if_neg fun k => hne k.1
      rw [applyDirective_claim rest hf]
      refine notify_lock_ne ?_ ?_
      · rw [hrest, hclaim]
        exact fun k => hne (Option.some.inj k)
      · rw [hclaim]
        exact h

/-- What completing an order leaves: the belief and the lock state. -/
theorem finishOrder_lockView (o : FrameNo) (seq : Word16) (d : RackDirective) (rackSeq : Nat) (s : State) :
    (finishOrder o seq d rackSeq s).roster.belief = s.roster.belief ∧ (finishOrder o seq d rackSeq s).lockView = s.lockView := by
  obtain ⟨-, -, hroster, -, -, -⟩ := finishOrder_spec o seq d rackSeq s
  exact ⟨congrArg Roster.belief hroster, (moves_finishOrder o seq d rackSeq s rack_mem).lockRack⟩

theorem issueOrder_roster (o : FrameNo) (seq : Word16) (d : RackDirective) (s : State) : (issueOrder o seq d s).roster = s.roster := by
  rw [issueOrder_eq, (queueing_broadcast (fun k _ => orderBody s o seq d k) s.sequenced).only]
  rfl

theorem issueOrder_applied (o : FrameNo) (seq : Word16) (d : RackDirective) (s : State) :
    (issueOrder o seq d s).orders.applied = s.orders.applied := by
  rw [issueOrder_eq, (queueing_broadcast (fun k _ => orderBody s o seq d k) s.sequenced).only]
  rfl

theorem issueOrder_newOrder (o : FrameNo) (seq : Word16) (d : RackDirective) (s : State) :
    (issueOrder o seq d s).newOrder o seq = s.newOrder o seq := by
  unfold State.newOrder
  rw [issueOrder_applied]

/-- R163: an order that is not new is counted. -/
theorem order_of_old (h : s.newOrder o seq = false) : order o seq d s = countOrdered (countDuplicate (issueOrder o seq d s)) :=
  congrArg countOrdered (applyOrder_of_old id ((issueOrder_newOrder ..).trans h))

/-- R161, R163: an order that is new is recorded, takes effect and is completed. -/
theorem order_of_new (h : s.newOrder o seq = true) : ∃ v w, v.own = s.own ∧ v.roster = s.roster ∧ v.lockView = s.lockView ∧
    w = applyDirective (fun u => finishOrder o seq d s.orders.nextRackSeq u) d s.orders.nextRackSeq v ∧
    (order o seq d s).roster.belief = w.roster.belief ∧ (order o seq d s).lockView = w.lockView ∧ (order o seq d s).own = w.own := by
  have hissue := moves_issueOrder o seq d s rack_mem
  have hnew : (issueOrder o seq d s).newOrder o seq = true := (issueOrder_newOrder ..).trans h
  have horder : order o seq d s = countOrdered (finishOrder o seq d s.orders.nextRackSeq
      (applyDirective (fun u => finishOrder o seq d s.orders.nextRackSeq u) d s.orders.nextRackSeq
        (recordOrder s.orders.nextRackSeq s.own o seq (issueOrder o seq d s)))) := congrArg countOrdered (applyOrder_of_new id hnew)
  refine ⟨recordOrder s.orders.nextRackSeq s.own o seq (issueOrder o seq d s), _, hissue.own, issueOrder_roster .., hissue.lockRack, rfl, ?_, ?_, ?_⟩
  · rw [horder]
    exact (finishOrder_lockView ..).1
  · rw [horder]
    exact (finishOrder_lockView ..).2
  · rw [horder]
    exact (moves_finishOrder (L := [.rack]) _ _ _ _ _ rack_mem).own

theorem locksBy_order_of_new (h : s.newOrder o seq = true) (hs : s.locksBy s.roster.belief) :
    (order o seq d s).locksBy (order o seq d s).roster.belief := by
  obtain ⟨v, w, ho, hr, hv, rfl, hbelief, hview, hown⟩ := order_of_new (d := d) h
  rw [hbelief]
  exact locksBy_of_view hown hview (locksBy_applyDirective _ (fun u => (finishOrder_lockView ..).1) (hr ▸ locksBy_of_view ho hv hs))

theorem order_lock_of_new (h : s.newOrder o seq = true) (hb : s.roster.belief = some s.own) (hs : s.clock.lock ≠ .master) :
    (order o seq d s).clock.lock ≠ .master := by
  obtain ⟨v, w, ho, hr, hv, rfl, -, hview, -⟩ := order_of_new (d := d) h
  rw [lock_of_view hview]
  exact applyDirective_lock _ (fun u => (finishOrder_lockView ..).1) (by rw [hr, ho]; exact hb) (by rw [lock_of_view hv]; exact hs)

/-! ### Pending entries dealt with (R169) -/

/-- A pending entry is ordered by the part itself, as master. -/
def State.rulesOn (s : State) (e : PendingEntry) : Prop :=
  s.roster.belief = some s.own ∧ s.validOrder e.directive = true ∧ s.newOrder s.own e.seq = true

/-- What a pending entry that is not ordered leaves. -/
structure Unruled (s t : State) : Prop where
  own : t.own = s.own
  roster : t.roster = s.roster
  applied : t.orders.applied = s.orders.applied
  lockView : t.lockView = s.lockView

theorem dealEntry_ordered {e : PendingEntry} (h : s.rulesOn e) : dealEntry s e = order s.own e.seq e.directive s := by
  obtain ⟨hb, hv, -⟩ := h
  unfold dealEntry
  simp only [hb]
  exact (if_pos trivial).trans (if_pos hv)

theorem dealEntry_unruled {e : PendingEntry} (h : ¬ s.rulesOn e) : Unruled s (dealEntry s e) := by
  unfold dealEntry
  split
  · exact ⟨rfl, rfl, rfl, rfl⟩
  · next f hb =>
    split
    · next hf =>
      unfold orderOwn
      split
      · next hv =>
        rw [order_of_old (Bool.not_eq_true _ ▸ fun hn => h ⟨hf ▸ hb, hv, hn⟩)]
        have hissue := moves_issueOrder s.own e.seq e.directive s rack_mem
        exact ⟨hissue.own, issueOrder_roster .., issueOrder_applied .., hissue.lockRack⟩
      · exact ⟨rfl, rfl, rfl, rfl⟩
    · have hrequested := requested_requestEntry f e s
      exact ⟨hrequested.own, hrequested.roster, by rw [hrequested.orders], (moves_requestEntry f e s rack_mem).lockRack⟩

theorem locksBy_dealEntry (e : PendingEntry) (h : s.locksBy s.roster.belief) : (dealEntry s e).locksBy (dealEntry s e).roster.belief := by
  by_cases ho : s.rulesOn e
  · rw [dealEntry_ordered ho]
    exact locksBy_order_of_new ho.2.2 h
  · have hu := dealEntry_unruled ho
    rw [hu.roster]
    exact locksBy_of_view hu.own hu.lockView h

theorem dealEntry_lock (e : PendingEntry) (h : s.clock.lock ≠ .master) : (dealEntry s e).clock.lock ≠ .master := by
  by_cases ho : s.rulesOn e
  · rw [dealEntry_ordered ho]
    exact order_lock_of_new ho.2.2 ho.1 h
  · rw [lock_of_view (dealEntry_unruled ho).lockView]
    exact h

theorem locksBy_deals (l : List PendingEntry) (h : s.locksBy s.roster.belief) :
    (l.foldl dealEntry s).locksBy (l.foldl dealEntry s).roster.belief := by
  induction l generalizing s with
  | nil => exact h
  | cons e l ih => exact ih (locksBy_dealEntry e h)

theorem deals_lock (l : List PendingEntry) (h : s.clock.lock ≠ .master) : (l.foldl dealEntry s).clock.lock ≠ .master := by
  induction l generalizing s with
  | nil => exact h
  | cons e l ih => exact ih (dealEntry_lock e h)

/-- Two states that deal alike with pending entries: they differ in nothing that the belief is ruled by. -/
structure Alike (s n : State) : Prop where
  own : n.own = s.own
  roster : n.roster = { s.roster with leaveTag := n.roster.leaveTag }
  applied : n.orders.applied = s.orders.applied

theorem Alike.belief (h : Alike s n) : n.roster.belief = s.roster.belief := by rw [h.roster]

theorem Alike.validOrder (h : Alike s n) (d : RackDirective) : n.validOrder d = s.validOrder d := by
  unfold State.validOrder State.candidate State.counted State.capable State.entry
  rw [h.own, h.roster]

theorem Alike.newOrder (h : Alike s n) (o : FrameNo) (seq : Word16) : n.newOrder o seq = s.newOrder o seq := by
  unfold State.newOrder
  rw [h.applied]

theorem Alike.rulesOn (h : Alike s n) (e : PendingEntry) : n.rulesOn e ↔ s.rulesOn e := by
  unfold State.rulesOn
  rw [h.belief, h.own, h.validOrder, h.newOrder]

/-- The belief that an order leaves is ruled by what the two states share. -/
theorem IsOrdered.belief_eq {s' n' : State} (h : IsOrdered o seq d s s') (k : IsOrdered o seq d n n') (ha : Alike s n)
    (hs : s.roster.ownState = .active) : n'.roster.belief = s'.roster.belief := by
  have hn : n.roster.ownState = .active := by rw [ha.roster]; exact hs
  cases d with
  | masterClaim f => rw [h.claims f rfl (.inr hs), k.claims f rfl (.inr hn)]
  | rackArm g time => rw [h.keeps nofun, k.keeps nofun, ha.belief]
  | rackHalt g => rw [h.keeps nofun, k.keeps nofun, ha.belief]

theorem Alike.deal (h : Alike s n) (e : PendingEntry) (hs : s.roster.ownState = .active) : Alike (dealEntry s e) (dealEntry n e) := by
  by_cases ho : s.rulesOn e
  · have hn := (h.rulesOn e).mpr ho
    rw [dealEntry_ordered ho, dealEntry_ordered hn]
    have hordered := isOrdered_order (d := e.directive) ho.2.2
    have hordered' := isOrdered_order (d := e.directive) hn.2.2
    rw [h.own] at hordered' ⊢
    have hbelief := hordered.belief_eq hordered' h hs
    generalize order s.own e.seq e.directive s = s' at hordered hbelief
    generalize order s.own e.seq e.directive n = n' at hordered' hbelief
    refine ⟨hordered'.own.trans (h.own.trans hordered.own.symm), ?_, ?_⟩
    · rw [hordered'.roster, hordered.roster, hbelief, h.roster]
    · rw [hordered'.orders, hordered.orders, h.applied]
  · have hu := dealEntry_unruled ho
    have hv := dealEntry_unruled fun k => ho ((h.rulesOn e).mp k)
    refine ⟨hv.own.trans (h.own.trans hu.own.symm), ?_, ?_⟩
    · rw [hv.roster, hu.roster]
      exact h.roster
    · rw [hv.applied, hu.applied]
      exact h.applied

theorem Alike.deals (h : Alike s n) (l : List PendingEntry) (hs : s.roster.ownState = .active) :
    Alike (l.foldl dealEntry s) (l.foldl dealEntry n) := by
  induction l generalizing s n with
  | nil => exact h
  | cons e l ih => exact ih (h.deal e hs) ((conserves_dealEntry s e).ownState.trans hs)

/-- R169, R192: the pending entries dealt with behind the notices, whose lock transition goes toward the belief that dealing with them leaves. -/
theorem locksBy_resubmit (h : Alike s n) (hp : n.orders.pending = s.orders.pending) (hs : s.roster.belief = some s.own → s.roster.ownState = .active)
    (hn : n.locksBy (resubmit before s).roster.belief) : (resubmit before n).locksBy (resubmit before n).roster.belief := by
  by_cases hsame : before.roster.belief = s.roster.belief
  · have hn' : resubmit before n = n := if_pos (hsame.trans h.belief.symm)
    have hs' : resubmit before s = s := if_pos hsame
    rw [hs'] at hn
    rw [hn', h.belief]
    exact hn
  · have hn' : resubmit before n = s.orders.pending.foldl dealEntry n := by
      rw [← hp]
      exact if_neg fun k => hsame (k.trans h.belief)
    have hs' : resubmit before s = s.orders.pending.foldl dealEntry s := if_neg hsame
    by_cases hown : s.roster.belief = some s.own
    · have hend := (h.deals s.orders.pending (hs hown)).belief
      rw [hs'] at hn
      rw [hn', hend]
      by_cases hl : (s.orders.pending.foldl dealEntry s).roster.belief = some s.own
      · rw [hl] at hn hend ⊢
        have hdealt := locksBy_deals s.orders.pending (s := n) (by rw [h.belief, hown]; exact hn)
        rw [hend] at hdealt
        exact hdealt
      · refine locksBy_of_lock (deals_lock _ fun k => hl ?_) fun k => hl ?_
        · rw [hn.1.mp k, h.own]
        · rw [k, (conserves_deals _ n).own, h.own]
    · have hkeep := (requested_resubmit before hown).roster
      rw [hkeep, ← h.belief] at hn
      rw [hn']
      exact locksBy_deals _ hn

/-- A belief that has been notified is followed while its entries are dealt with. -/
theorem locksBy_resubmit_notified (before : State) (h : s.locksBy s.roster.belief) :
    (resubmit before s).locksBy (resubmit before s).roster.belief := by
  unfold resubmit
  split
  · exact h
  · exact locksBy_deals _ h

/-! ### What concludes an event (R43, R93, R105, R107, R169) -/

theorem stands_announceLeave (h : s.stands) : (announceLeave s).stands := by
  unfold announceLeave
  split
  · next hp =>
    have hleaving : s.roster.ownState = .leaving := h.leaving.mpr (by rw [hp.1]; exact nofun)
    exact ⟨h.regions, ⟨fun _ => nofun, fun _ => hleaving⟩, fun k => absurd rfl k, h.taps, h.belief⟩
  · exact h

theorem stands_completeLeave (h : s.stands) : (completeLeave s).stands := by
  unfold completeLeave
  split
  · next hp =>
    have hleaving : s.roster.ownState = .leaving := h.leaving.mpr (by rw [hp.1]; exact nofun)
    have hfinished : s.reporter.loadStep = .finished := by
      by_contra k
      rw [h.regions.1.mpr k] at hleaving
      exact nomatch hleaving
    have haway : s.away = true := by
      unfold State.away
      rw [hleaving]
      rfl
    refine ⟨⟨⟨nofun, fun k => absurd hfinished k⟩, nofun, h.regions.2.2⟩, ⟨nofun, fun k => absurd rfl k⟩, fun _ => hp.2, fun _ => h.taps haway, fun k => ?_⟩
    have hactive := h.belief k
    rw [hleaving] at hactive
    exact nomatch hactive
  · exact h

theorem conserves_settleTaps (s : State) : Conserves s (settleTaps s) := (moves_settleTaps s rack_mem).conservesRack

theorem stands_advance (h : s.stands) : (advance s).stands := stands_completeLeave (stands_announceLeave ((conserves_settleTaps s).stands h))

theorem tagged_announceLeave (ht : s.tagged) : (announceLeave s).tagged := by
  unfold announceLeave
  split
  · next hp => exact ⟨fun _ => nofun, fun _ => ht.mpr (by rw [hp.1]; exact nofun)⟩
  · exact ht

/-- R107: a leave that completes is told with its tag, which it then loses. -/
theorem tagged_completeLeave (h : s.stands) (ht : s.tagged) :
    (completeLeave s).tagged ∨ (s.roster.ownState = .leaving ∧ (completeLeave s).roster.ownState = .departed) := by
  unfold completeLeave
  split
  · next hp => exact .inr ⟨h.leaving.mpr (by rw [hp.1]; exact nofun), rfl⟩
  · exact .inl ht

/-- R105, R107: a leave that moves on keeps its tag, or completes. -/
theorem tagged_advance (h : s.stands) (ht : s.tagged) :
    (advance s).tagged ∨ (s.roster.ownState = .leaving ∧ (advance s).roster.ownState = .departed) := by
  have hc := conserves_settleTaps s
  rw [advance]
  refine (tagged_completeLeave (stands_announceLeave (hc.stands h)) (tagged_announceLeave (hc.tagged ht))).imp_right fun k => ⟨?_, k.2⟩
  rw [← hc.ownState, ← announceLeave_ownState]
  exact k.1

/-- R104, R107: the tag of a leave goes with its phase, or the leave has completed and is still to be told. -/
def State.tagsBy (noted s : State) : Prop := s.tagged ∨ (noted.roster.ownState ≠ .departed ∧ s.roster.ownState = .departed)

theorem inOffice_announce (hs : s.stands) (ht : noted.tagsBy s)
    (hl : s.locksBy noted.roster.belief) : (announce noted s).inOffice := by
  have hn := notified_notify (resubmit noted s).roster.belief noted s
  have hlock := locksBy_notify (left := (resubmit noted s).roster.belief) hl
  have hstands := stands_notify (resubmit noted s).roster.belief noted hs
  have htagged := tagged_notify (resubmit noted s).roster.belief hs ht
  unfold announce
  generalize notify (resubmit noted s).roster.belief noted s = n at hn hlock hstands htagged
  have hc := conserves_resubmit noted n
  refine ⟨hc.stands hstands, hc.tagged htagged, locksBy_resubmit ⟨hn.own, ?_, ?_⟩ ?_ hs.belief hlock⟩
  · rw [hn.parts]
  · rw [hn.parts]
  · rw [hn.parts]

/-- What a round does behind the notices keeps the invariants. -/
theorem inOffice_of_moves (h : Moves [.rack] s t) (hb : t.roster.belief = s.roster.belief) (hs : s.inOffice) : t.inOffice := by
  obtain ⟨hstands, htagged, hlock⟩ := hs
  have hc := h.conservesRack
  refine ⟨hc.stands hstands, hc.tagged htagged, ?_⟩
  rw [hb]
  exact locksBy_of_view hc.own h.lockRack hlock

theorem tagsBy_advance (hs : s.stands) (ht : noted.tagsBy s) (hd : s.roster.ownState = .leaving → noted.roster.ownState ≠ .departed) :
    noted.tagsBy (advance s) := by
  rcases ht with ht | ⟨hnoted, hdeparted⟩
  · exact (tagged_advance hs ht).imp_right fun k => ⟨hd k.1, k.2⟩
  · refine .inr ⟨hnoted, ?_⟩
    rw [advance, completeLeave]
    split
    · rfl
    · rw [announceLeave_ownState, (conserves_settleTaps s).ownState]
      exact hdeparted

theorem inOffice_round (hs : s.stands) (ht : noted.tagsBy s) (hl : s.locksBy noted.roster.belief)
    (hd : s.roster.ownState = .leaving → noted.roster.ownState ≠ .departed) : (round before noted s).inOffice := by
  have hlock : (advance s).locksBy noted.roster.belief := locksBy_of_clock (advance_own s) (advance_clock s) hl
  have hann := inOffice_announce (noted := noted) (stands_advance hs) (tagsBy_advance hs ht hd) hlock
  have update (u : State) : Moves [.rack] u (updateIfChanged before u) := .ite (fun _ => .refl u) fun _ => moves_makeRosterUpdate u rack_mem
  unfold round
  generalize announce noted (advance s) = u at hann
  have hmoves := ((((update u).trans (moves_syncRefresh _ rack_mem)).trans (moves_syncResend _ rack_mem)).trans (moves_grant .a _ rack_mem)).trans
    (moves_grant .b _ rack_mem)
  have hsteady := ((((steady_updateIfChanged before u).trans (steady_syncRefresh _)).trans (steady_syncResend _)).trans (steady_grant .a _)).trans
    (steady_grant .b _)
  exact inOffice_of_moves hmoves hsteady.belief hann

/-- A round that begins anew keeps the invariants. -/
theorem inOffice_again (h : s.inOffice) : (round s s s).inOffice :=
  inOffice_round h.1 (.inl h.2.1) h.2.2 fun k => by rw [k]; exact nofun

/-- What concludes an event keeps the part's standing, and brings the lock state after the belief. -/
theorem inOffice_concludeFrom (hs : s.stands) (ht : noted.tagsBy s) (hl : s.locksBy noted.roster.belief)
    (hd : s.roster.ownState = .leaving → noted.roster.ownState ≠ .departed) : (concludeFrom before noted s).inOffice :=
  inOffice_again (inOffice_again (inOffice_round hs ht hl hd))

/-- R163: what concludes the arrival of a Rack Order. -/
theorem inOffice_concludeOrder (hs : s.stands) (ht : s.tagged) (hl : (resubmit before s).locksBy (resubmit before s).roster.belief) :
    (concludeOrder before s).inOffice := by
  have hc := conserves_resubmit before s
  exact inOffice_concludeFrom (hc.stands hs) (.inl (hc.tagged ht)) hl fun k => by rw [k]; exact nofun

end Sys2Proof.Machine

/-! PROOFS. The operations of the rack, the directives and the channel keep the part's standing, belief and lock state (R34 to R42, R73 to R79, R93,
R158 to R169, R173). -/

namespace Sys2Proof.Machine
variable {s t u v before noted : State} {L : List Effect} {p : Port} {h : Header} {o : FrameNo}

/-! ### Moves that leave the belief and the lock state -/

/-- Effects that leave the belief and the lock state, and are no step of the load or of a restart. -/
def quietEffects (L : List Effect) : Bool := [Effect.rack, .lock, .load, .place, .restart].all fun e => decide (e ∉ L)

/-- Effects that leave the lock state, and are no step of the load or of a restart. -/
def eventEffects (L : List Effect) : Bool := [Effect.lock, .load, .place, .restart].all fun e => decide (e ∉ L)

theorem quietEffects_iff : quietEffects L = true ↔ .rack ∉ L ∧ eventEffects L = true := by simp [quietEffects, eventEffects]

theorem lock_of_event (hL : eventEffects L = true) : .lock ∉ L := by simp_all [eventEffects]

theorem calm_of_event (hL : eventEffects L = true) : calmEffects L = true := by simp_all [eventEffects, calmEffects]

theorem Moves.rackView (h : Moves L s t) (hL : .rack ∉ L) : t.rackView = s.rackView := h.leaves fun _ _ k => rackView_quiet k hL

/-- The standing is conserved, and the belief and the lock state are as they were. -/
structure Carried (s t : State) : Prop where
  conserves : Conserves s t
  belief : t.roster.belief = s.roster.belief
  lockView : t.lockView = s.lockView

namespace Carried

theorem refl (s : State) : Carried s s := ⟨.refl s, rfl, rfl⟩

theorem trans (h : Carried s t) (k : Carried t u) : Carried s u :=
  ⟨h.conserves.trans k.conserves, k.belief.trans h.belief, k.lockView.trans h.lockView⟩

theorem of_event (h : Moves L s t) (hL : eventEffects L = true) (hstart : s.roster.ownState = .starting → stillEffects L = true)
    (hb : t.roster.belief = s.roster.belief) : Carried s t :=
  ⟨h.conserves (calm_of_event hL) hstart, hb, h.lockView (lock_of_event hL) (calm_of_event hL)⟩

theorem of_quiet (h : Moves L s t) (hL : quietEffects L = true) (hstart : s.roster.ownState = .starting → stillEffects L = true) : Carried s t := by
  obtain ⟨hrack, hevent⟩ := quietEffects_iff.mp hL
  exact of_event h hevent hstart (congrArg (fun k => k.2.1) (h.rackView hrack))

theorem of_counts (h : Moves [] s t) : Carried s t := of_quiet h rfl fun _ => rfl

theorem of_rack (h : Moves [.rack] s t) (hb : t.roster.belief = s.roster.belief) : Carried s t := of_event h rfl (fun _ => rfl) hb

theorem inOffice (h : Carried s t) (hs : s.inOffice) : t.inOffice := by
  obtain ⟨hstands, htagged, hlock⟩ := hs
  refine ⟨h.conserves.stands hstands, h.conserves.tagged htagged, ?_⟩
  rw [h.belief]
  exact locksBy_of_view h.conserves.own h.lockView hlock

end Carried

/-! ### Events concluded (R93) -/

/-- An event whose operation leaves the lock state, concluded. -/
theorem inOffice_conclude (hc : Conserves s u) (hv : u.lockView = s.lockView) (hs : s.inOffice) : (conclude s u).inOffice := by
  obtain ⟨hstands, htagged, hlock⟩ := hs
  refine inOffice_concludeFrom (hc.stands hstands) (.inl (hc.tagged htagged)) (locksBy_of_view hc.own hv hlock) fun k => ?_
  rw [← hc.ownState, k]
  exact nofun

/-- An event whose operation has brought the lock state after the belief already, concluded. -/
theorem inOffice_concluded (h : u.inOffice) : (concludeFrom before u u).inOffice := by
  obtain ⟨hstands, htagged, hlock⟩ := h
  exact inOffice_concludeFrom hstands (.inl htagged) hlock fun k => by rw [k]; exact nofun

theorem Moves.inOffice_conclude (h : Moves L s u) (hL : eventEffects L = true) (hstart : s.roster.ownState = .starting → stillEffects L = true)
    (hs : s.inOffice) : (conclude s u).inOffice :=
  Machine.inOffice_conclude (h.conserves (calm_of_event hL) hstart) (h.lockView (lock_of_event hL) (calm_of_event hL)) hs

/-- An event that reaches nothing while the part is Starting. -/
theorem Moves.inOffice_event (h : Moves L s u) (hL : eventEffects L = true) (hstart : s.roster.ownState = .starting → u = s)
    (hs : s.inOffice) : (conclude s u).inOffice := by
  by_cases k : s.roster.ownState = .starting
  · rw [hstart k]
    exact Machine.inOffice_conclude (.refl s) rfl hs
  · exact h.inOffice_conclude hL (fun j => absurd j k) hs

theorem Course.inOffice (h : Course L s t) (hL : eventEffects L = true) (hn : s.roster.ownState ≠ .starting) (hs : s.inOffice) : t.inOffice := by
  cases h with
  | answers => exact (Carried.of_counts (moves_post ..)).inOffice hs
  | concludes h => exact h.inOffice_conclude hL (fun k => absurd k hn) hs

/-! ### Frames received (R73 to R77) -/

/-- While the part is Starting its ports are Disabled or Dark. -/
theorem State.stands.down (hs : s.stands) (hstart : s.roster.ownState = .starting) (p : Port) :
    (s.port p).state = .disabled ∨ (s.port p).state = .dark := (hs.regions.2.1 hstart).2 p

theorem receive_starting (hs : s.stands) {f : Frame} {linked joined : State → State} (hstart : s.roster.ownState = .starting) :
    receive p f linked joined s = s := receive_of_down _ _ ((hs.down hstart p).imp_right .inl)

theorem carried_counts (p : Port) (f : PortCounters → PortCounters) (s : State) : Carried s (s.onPortCounters p f) := .of_counts (moves_portCounters ..)

/-- A frame turned away is counted, and one that passes goes to what the arrival does. -/
theorem receive_carried (p : Port) (f : Frame) (joined : State → State) (s : State) :
    ∃ u, Carried s u ∧ (receive p f (countNotJoined p) joined s = u ∨ receive p f (countNotJoined p) joined s = joined u) := by
  have counted := carried_counts p (fun c => { c with received := countUp c.received }) s
  have scored : Carried s ((countReceived p s).onPort p PortRecord.goodFrame) := .of_counts (moves_scored p s)
  unfold receive
  split
  · split
    · exact ⟨_, scored.trans (carried_counts ..), .inl rfl⟩
    · split
      · exact ⟨_, scored.trans (carried_counts ..), .inl rfl⟩
      · exact ⟨_, scored, .inr rfl⟩
  · exact ⟨_, Carried.trans (t := countReceived p s) (carried_counts ..) (carried_counts ..), .inl rfl⟩
  · exact ⟨_, Carried.trans (t := countReceived p s) (carried_counts ..) (carried_counts ..), .inl rfl⟩
  all_goals exact ⟨s, .refl s, .inl rfl⟩

theorem foreignFrame_carried (p : Port) (h : Header) (act : FrameNo → State → State) (s : State) :
    Carried s (foreignFrame p h act s) ∨ ∃ o, foreignFrame p h act s = act o s := by
  unfold foreignFrame
  split
  · next o _ =>
    split
    · exact .inl (carried_counts ..)
    · exact .inr ⟨o, rfl⟩
  · exact .inl (carried_counts ..)

theorem carried_offerRelay (q : Port) (f : Frame) (s : State) : Carried s (offerRelay q f s) :=
  .of_rack (moves_offerRelay q f s rack_mem) (congrArg (fun k : State => k.roster.belief) (onlyLink_offerRelay q f s) :)

theorem takeUnicast_carried (p : Port) (f : Frame) (dest : Byte) (deliver : FrameNo → State → State) (o : FrameNo) (s : State) :
    Carried s (takeUnicast p f dest deliver o s) ∨ takeUnicast p f dest deliver o s = deliver o s := by
  unfold takeUnicast
  split
  · split
    · exact .inr rfl
    · refine .inl ?_
      split
      · split
        · exact carried_offerRelay ..
        · exact carried_counts ..
      · exact carried_counts ..
  · exact .inl (carried_counts ..)

/-- R76: a unicast is counted or passed on, or delivered. -/
theorem unicast_carried (p : Port) (h : Header) (f : Frame) (dest : Byte) (deliver : FrameNo → State → State) (s : State) :
    ∃ u, Carried s u ∧ (receive p f (countNotJoined p) (foreignFrame p h (takeUnicast p f dest deliver)) s = u ∨
      ∃ o, receive p f (countNotJoined p) (foreignFrame p h (takeUnicast p f dest deliver)) s = deliver o u) := by
  obtain ⟨u, hu, hend | hend⟩ := receive_carried p f (foreignFrame p h (takeUnicast p f dest deliver)) s
  · exact ⟨u, hu, .inl hend⟩
  · rw [hend]
    rcases foreignFrame_carried p h (takeUnicast p f dest deliver) u with k | ⟨o, k⟩
    · exact ⟨_, hu.trans k, .inl rfl⟩
    · rw [k]
      rcases takeUnicast_carried p f dest deliver o u with j | j
      · exact ⟨_, hu.trans j, .inl rfl⟩
      · exact ⟨u, hu, .inr ⟨o, j⟩⟩

/-- R75: the list of recent broadcasts is no part of the standing. -/
theorem carried_listed (f : List (FrameNo × Word16) → List (FrameNo × Word16)) (s : State) :
    Carried s (s.onRoster fun r => { r with recent := f r.recent }) :=
  ⟨⟨rfl, rfl, rfl, rfl, id, stands_of_same rfl rfl (fun _ => rfl) (fun _ _ => id) rfl rfl id .inl rfl⟩, rfl, rfl⟩

theorem takeBroadcast_carried (p : Port) (f : Frame) (seq : Word16) (i : FrameNo → Option Word16) (deliver : FrameNo → State → State) (o : FrameNo)
    (s : State) : ∃ u, Carried s u ∧ (takeBroadcast p f seq i deliver o s = u ∨ takeBroadcast p f seq i deliver o s = deliver o u) := by
  by_cases hd : s.duplicateBroadcast o seq (i o) = true
  · rw [takeBroadcast, if_pos hd]
    exact ⟨_, carried_counts .., .inl rfl⟩
  · rw [takeBroadcast, if_neg hd]
    refine ⟨_, (carried_listed (listBroadcast (s.freshLife o (i o)) o seq) s).trans (.of_rack (moves_relayBroadcast p f _ rack_mem) ?_), .inr rfl⟩
    exact (congrArg (fun k : State => k.roster.belief) (onlyLink_relayBroadcast p f _) :)

/-- R75: a broadcast is counted, or listed, passed on and delivered. -/
theorem broadcast_carried (p : Port) (h : Header) (f : Frame) (seq : Word16) (i : FrameNo → Option Word16) (deliver : FrameNo → State → State)
    (s : State) : ∃ u, Carried s u ∧ (receive p f (countNotJoined p) (foreignFrame p h (takeBroadcast p f seq i deliver)) s = u ∨
      ∃ o, receive p f (countNotJoined p) (foreignFrame p h (takeBroadcast p f seq i deliver)) s = deliver o u) := by
  obtain ⟨u, hu, hend | hend⟩ := receive_carried p f (foreignFrame p h (takeBroadcast p f seq i deliver)) s
  · exact ⟨u, hu, .inl hend⟩
  · rw [hend]
    rcases foreignFrame_carried p h (takeBroadcast p f seq i deliver) u with k | ⟨o, k⟩
    · exact ⟨_, hu.trans k, .inl rfl⟩
    · obtain ⟨v, hv, j⟩ := takeBroadcast_carried p f seq i deliver o u
      rw [k]
      exact ⟨v, hu.trans hv, j.imp_right fun j => ⟨o, j⟩⟩

/-! ### Rack Requests, refusals and rack directives (R158 to R162, R168) -/

theorem carried_takeRefusal (sender : FrameNo) (reason : Byte) (seq : Word16) (s : State) : Carried s (takeRefusal sender reason seq s) := by
  refine .of_rack (moves_takeRefusal sender reason seq s rack_mem) ?_
  unfold takeRefusal
  split
  · rfl
  · split
    · rfl
    · split
      · rfl
      · rfl

theorem carried_orderCounters (f : OrderCounters → OrderCounters) (s : State) : Carried s (s.onOrderCounters f) := .of_counts (moves_orderCounters ..)

theorem carried_sendRefusal (dest : FrameNo) (seq : Word16) (reason : RefusalReason) (s : State) : Carried s (sendRefusal dest seq reason s) := by
  have counted := carried_orderCounters (fun c => { c with refusals := countUp c.refusals }) s
  unfold sendRefusal
  dsimp only
  split
  · exact counted.trans (carried_takeRefusal ..)
  · refine counted.trans (.of_rack (moves_sendUnicast _ _ _ rack_mem) ?_)
    exact (congrArg (fun k : State => k.roster.belief) (sendUnicast_only _ _ _) :)

theorem inOffice_order (o : FrameNo) (seq : Word16) (d : RackDirective) (hs : s.inOffice) : (order o seq d s).inOffice := by
  cases hnew : s.newOrder o seq with
  | true =>
    obtain ⟨hstands, htagged, hlock⟩ := hs
    have hc := conserves_order o seq d s
    exact ⟨hc.stands hstands, hc.tagged htagged, locksBy_order_of_new hnew hlock⟩
  | false =>
    have hissue := moves_issueOrder o seq d s rack_mem
    rw [order_of_old hnew]
    exact (((Carried.of_rack hissue (congrArg Roster.belief (issueOrder_roster o seq d s))).trans (carried_orderCounters ..)).trans
      (carried_orderCounters ..)).inOffice hs

theorem inOffice_dealEntry (e : PendingEntry) (hs : s.inOffice) : (dealEntry s e).inOffice := by
  obtain ⟨hstands, htagged, hlock⟩ := hs
  have hc := conserves_dealEntry s e
  exact ⟨hc.stands hstands, hc.tagged htagged, locksBy_dealEntry e hlock⟩

theorem inOffice_resubmit (before : State) (hs : s.inOffice) : (resubmit before s).inOffice := by
  obtain ⟨hstands, htagged, hlock⟩ := hs
  have hc := conserves_resubmit before s
  exact ⟨hc.stands hstands, hc.tagged htagged, locksBy_resubmit_notified before hlock⟩

theorem inOffice_takeRequest (o : FrameNo) (seq : Word16) (block : RackBlock) (hs : s.inOffice) : (takeRequest o seq block s).inOffice := by
  unfold takeRequest
  split
  · exact (carried_orderCounters ..).inOffice hs
  · split
    · split
      · exact inOffice_resubmit s (inOffice_order _ _ _ hs)
      · exact (carried_sendRefusal ..).inOffice hs
    · exact (carried_sendRefusal ..).inOffice hs

theorem carried_post (tag code : Word16) (r : DirectiveResult) (s : State) : Carried s (postResult tag code r s) := .of_counts (moves_post ..)

theorem inOffice_takeRack (tag code : Word16) (d : Option RackDirective) (noWait : Bool) (hs : s.inOffice) :
    (takeRack tag code d noWait s).inOffice := by
  unfold takeRack
  split
  · exact (carried_post ..).inOffice hs
  · next d =>
    split
    · exact (carried_post ..).inOffice hs
    · split
      · exact (carried_post ..).inOffice hs
      · next hroom =>
        have joined (e : PendingEntry) : Moves [.rack, .seq] s (s.onOrders fun o => { o with pending := o.pending ++ [e], nextSeq := o.nextSeq + 1 }) :=
          .orders _ ⟨fun _ => by simpa using hroom, fun n => absurd of_eval n, fun n => absurd of_eval n⟩
        have submitted (e : PendingEntry) := (Carried.of_event (joined e) rfl (fun _ => rfl) rfl).trans (carried_post tag (rackCode d) .accepted _)
        exact inOffice_resubmit s (inOffice_dealEntry _ ((submitted _).inOffice hs))

theorem inOffice_rackDirective (tag code : Word16) (d : Option RackDirective) (noWait : Bool) (hs : s.inOffice) :
    (rackDirective tag code d noWait s).inOffice := inOffice_concluded (inOffice_takeRack tag code d noWait hs)

/-! ### The arrival of a Rack Order (R163 to R167, R192) -/

/-- The lock state is after the belief that dealing with the pending entries leaves. -/
def State.dealsBy (before s : State) : Prop := (resubmit before s).locksBy (resubmit before s).roster.belief

theorem resubmit_of_belief (h : before.roster.belief = v.roster.belief) (s : State) : resubmit before s = resubmit v s := by
  unfold resubmit
  rw [h]

theorem Carried.dealsBy (h : Carried s t) (hs : s.inOffice) : s.dealsBy t := by
  have hsame : resubmit s t = t := if_pos h.belief.symm
  unfold State.dealsBy
  rw [hsame]
  exact (h.inOffice hs).2.2

/-- R163, R164: what a new order makes of the part, whose lock transition goes toward the belief that its own pending entries leave. -/
theorem dealsBy_applyOrder {master : FrameNo} {seq : Word16} {d : RackDirective} {rackSeq : Nat} (hs : s.inOffice) (hu : Carried s u) :
    s.dealsBy (applyOrder (resubmit u) rackSeq master o seq d u) := by
  cases hnew : u.newOrder o seq with
  | false =>
    rw [applyOrder_of_old _ hnew]
    exact (hu.trans (carried_orderCounters ..)).dealsBy hs
  | true =>
    have hr : Carried s (recordOrder rackSeq master o seq u) := hu.trans (.of_rack (moves_recordOrder ..) rfl)
    rw [applyOrder_of_new _ hnew]
    generalize recordOrder rackSeq master o seq u = r at hr
    have finished (v : State) : Carried v (finishOrder o seq d rackSeq v) := by
      obtain ⟨hbelief, hview⟩ := finishOrder_lockView o seq d rackSeq v
      exact ⟨(moves_finishOrder o seq d rackSeq v rack_mem).conservesRack, hbelief, hview⟩
    by_cases hd : ∀ f, d ≠ .masterClaim f
    · refine ((hr.trans ⟨conserves_applyDirective .., applyDirective_belief _ _ hd, applyDirective_lockView _ hd⟩).trans (finished _)).dealsBy hs
    · obtain ⟨f, hf⟩ := not_forall.mp hd
      obtain rfl := not_not.mp hf
      by_cases hb : r.roster.belief = some f
      · rw [applyDirective_claimed _ hb]
        exact (hr.trans (finished r)).dealsBy hs
      · obtain ⟨hstands, -, hlock⟩ := hr.inOffice hs
        have hclaim := moves_claimBelief f r rack_mem
        have hdeal (v : State) : resubmit u v = resubmit s v := resubmit_of_belief hu.belief v
        rw [applyDirective_claim _ hb, hdeal]
        have hstands' : (finishOrder o seq (.masterClaim f) rackSeq (claimBelief f r)).stands :=
          (finished _).conserves.stands (hclaim.conservesRack.stands hstands)
        have hlock' := locksBy_of_view hclaim.own hclaim.lockRack hlock
        generalize claimBelief f r = c at hstands' hlock' ⊢
        obtain ⟨left, hleft⟩ : ∃ left, left = (resubmit s (finishOrder o seq (.masterClaim f) rackSeq c)).roster.belief := ⟨_, rfl⟩
        rw [← hleft]
        have hn := notified_notify left r c
        have hnlock := locksBy_notify (left := left) hlock'
        generalize notify left r c = n at hn hnlock ⊢
        have hfn := finished n
        obtain ⟨hown, -, hroster, -, -, horders⟩ := finishOrder_spec o seq (.masterClaim f) rackSeq c
        obtain ⟨hown', -, hroster', -, -, horders'⟩ := finishOrder_spec o seq (.masterClaim f) rackSeq n
        have halike : Alike (finishOrder o seq (.masterClaim f) rackSeq c) (finishOrder o seq (.masterClaim f) rackSeq n) := by
          refine ⟨by rw [hown', hown, hn.own], ?_, ?_⟩
          · rw [hroster', hroster, hn.parts]
          · rw [horders', horders, hn.orders]
        refine locksBy_resubmit halike ?_ hstands'.belief ?_
        · rw [horders', horders, hn.orders, hn.own]
        · rw [← hleft]
          exact locksBy_of_view hfn.conserves.own hfn.lockView hnlock

theorem conserves_takeOrder (master : FrameNo) (b : RackOrderBody) (s : State) : Conserves s (takeOrder master b s) := by
  unfold takeOrder
  split
  · exact conserves_applyOrder ..
  · exact (carried_orderCounters ..).conserves

theorem dealsBy_takeOrder (master : FrameNo) (b : RackOrderBody) (hs : s.inOffice) (hu : Carried s u) : s.dealsBy (takeOrder master b u) := by
  unfold takeOrder
  split
  · exact dealsBy_applyOrder hs hu
  · exact (hu.trans (carried_orderCounters ..)).dealsBy hs

theorem inOffice_rackOrder (p : Port) (h : Header) (b : RackOrderBody) (hs : s.inOffice) :
    (concludeOrder s (receive p ⟨h, .rackOrder b⟩ (countNotJoined p)
      (foreignFrame p h (takeBroadcast p ⟨h, .rackOrder b⟩ b.broadcastSeq (fun _ => none) fun o => takeOrder o b)) s)).inOffice := by
  obtain ⟨u, hu, hend | ⟨o, hend⟩⟩ := broadcast_carried p h ⟨h, .rackOrder b⟩ b.broadcastSeq (fun _ => none) (fun o => takeOrder o b) s
  · obtain ⟨hstands, htagged, -⟩ := hu.inOffice hs
    rw [hend]
    exact inOffice_concludeOrder hstands htagged (hu.dealsBy hs)
  · obtain ⟨hstands, htagged, -⟩ := hu.inOffice hs
    have hc := conserves_takeOrder o b u
    rw [hend]
    exact inOffice_concludeOrder (hc.stands hstands) (hc.tagged htagged) (dealsBy_takeOrder o b hs hu)

theorem inOffice_rackRequest (p : Port) (h : Header) (b : RackRequestBody) (hs : s.inOffice) :
    (receive p ⟨h, .rackRequest b⟩ (countNotJoined p)
      (foreignFrame p h (takeUnicast p ⟨h, .rackRequest b⟩ b.dest fun o => takeRequest o b.seq b.block)) s).inOffice := by
  obtain ⟨u, hu, hend | ⟨o, hend⟩⟩ := unicast_carried p h ⟨h, .rackRequest b⟩ b.dest (fun o => takeRequest o b.seq b.block) s
  · rw [hend]
    exact hu.inOffice hs
  · rw [hend]
    exact inOffice_takeRequest _ _ _ (hu.inOffice hs)

theorem inOffice_rackRefusal (p : Port) (h : Header) (b : RackRefusalBody) (hs : s.inOffice) :
    (receive p ⟨h, .rackRefusal b⟩ (countNotJoined p)
      (foreignFrame p h (takeUnicast p ⟨h, .rackRefusal b⟩ b.dest fun o => takeRefusal o b.reason b.seq)) s).inOffice := by
  obtain ⟨u, hu, hend | ⟨o, hend⟩⟩ := unicast_carried p h ⟨h, .rackRefusal b⟩ b.dest (fun o => takeRefusal o b.reason b.seq) s
  · rw [hend]
    exact hu.inOffice hs
  · rw [hend]
    exact (hu.trans (carried_takeRefusal ..)).inOffice hs

end Sys2Proof.Machine

/-! PROOFS. A leave, its end, a rejoining and a restart (R103 to R108, R188), the refresh (R93, R113), the exchange timer (R120, R121, R129) and the
leader's reply (R122 to R128) keep the part's standing, belief and lock state. -/

namespace Sys2Proof.Machine
variable {s t u v x y z before noted : State} {p : Port} {f : FrameNo} {tag : Word16} {c : RackTime} {offset : Int} {good : Bool}

/-! ### Leave Rack (R103, R104) -/

theorem finished_of_active (hs : s.stands) (ha : s.roster.ownState ≠ .starting) : s.reporter.loadStep = .finished := by
  by_contra k
  exact ha (hs.regions.1.mpr k)

theorem phase_of_active (hs : s.stands) (ha : s.roster.ownState ≠ .leaving) : s.roster.phase = .none := by
  by_contra k
  exact ha (hs.leaving.mpr k)

theorem LeaveMade.stands (h : LeaveMade s u) (hs : s.stands) (ha : s.roster.ownState = .active) : u.stands := by
  have hstate : u.roster.ownState = .leaving := by rw [h.roster]
  have hphase : u.roster.phase = .draining := by rw [h.roster]
  refine ⟨⟨?_, fun k => ?_, regionsApart_of_same h.settled.regions hs.regions.2.2⟩, ?_, fun _ => ?_, fun _ k hk => ?_, fun k => ?_⟩
  · rw [hstate, h.settled.loadStep, finished_of_active hs (by rw [ha]; exact nofun)]
    exact ⟨nofun, fun k => absurd rfl k⟩
  · rw [hstate] at k
    exact nomatch k
  · rw [hstate, hphase]
    exact ⟨fun _ => nofun, fun _ => rfl⟩
  · rw [h.roster]
    exact hs.waits (by rw [phase_of_active hs (by rw [ha]; exact nofun)]; exact nofun)
  · exact hk.elim (h.taps k).1 (h.taps k).2
  · exact absurd k (h.settled.own ▸ h.belief)

theorem tag_goLeaving (tag : Word16) (before x : State) : (goLeaving tag before x).roster.leaveTag = some tag := by
  have hmoved := (((moves_leaveTaps (startLeaving tag x) rack_mem).trans (moves_electIfNeeded before _ rack_mem))).conservesRack
  have htag : (startLeaving tag x).roster.leaveTag = some tag := rfl
  have hstate : (startLeaving tag x).roster.ownState = .leaving := rfl
  unfold goLeaving announce
  generalize electIfNeeded before (leaveTaps (startLeaving tag x)) = z at hmoved
  have hnotified := conserves_notify (resubmit before z).roster.belief (before := before) (s := z)
    (.inr (by rw [hmoved.ownState, hstate]; exact nofun))
  rw [((hmoved.trans hnotified).trans (conserves_resubmit before _)).leaveTag, htag]

theorem resubmit_lock (before : State) (h : s.clock.lock ≠ .master) : (resubmit before s).clock.lock ≠ .master := by
  unfold resubmit
  split
  · exact h
  · exact deals_lock _ h

/-- R104, R118: a part that leaves and is not master behind is Master in lock state no longer. -/
theorem lock_goLeaving (tag : Word16) (hs : s.inOffice) (hx : Settled s x) (hroster : x.roster = s.roster) (hview : x.lockView = s.lockView) :
    (goLeaving tag s x).clock.lock ≠ .master := by
  obtain ⟨-, -, hlock⟩ := hs
  have hy := becomesLeaving tag hx hroster
  have hyview : (leaveTaps (startLeaving tag x)).lockView = s.lockView :=
    ((moves_leaveTaps (startLeaving tag x) rack_mem).lockRack.trans rfl).trans hview
  unfold goLeaving announce
  generalize leaveTaps (startLeaving tag x) = y at hy hyview
  have hne := (electIfNeeded_leaving hy s).1
  have helect := moves_electIfNeeded s y rack_mem
  have hown : (electIfNeeded s y).own = s.own := helect.own.trans hy.settled.own
  have hlocks := locksBy_of_view hown (helect.lockRack.trans hyview) hlock
  generalize electIfNeeded s y = z at hne hown hlocks
  have hresubmit := requested_resubmit s (hown ▸ hne)
  have hnotify : (notify (resubmit s z).roster.belief s z).clock.lock ≠ .master := fun k => by
    have hleft := (locksBy_notify (left := (resubmit s z).roster.belief) hlocks).1.mp k
    rw [(notified_notify ..).own, hown, hresubmit.roster] at hleft
    exact hne hleft
  exact resubmit_lock s hnotify

theorem handing_lockView (s : State) (f : FrameNo) : (s.handing f).lockView = s.lockView :=
  (moves_issueOrder s.own s.orders.nextSeq (.masterClaim f) (s.onOrders fun o => { o with nextSeq := o.nextSeq + 1 }) rack_mem).lockRack

/-- R104: a part that has its leave accepted keeps the tag of it, and is Master no longer. -/
theorem leave_leaves (tag : Word16) (hs : s.inOffice) : (leave tag s).roster.leaveTag = some tag ∧ (leave tag s).clock.lock ≠ .master := by
  by_cases h : s.roster.belief ≠ some s.own ∨ s.successor = none
  · rw [leave_of_none h]
    exact ⟨tag_goLeaving tag s s, lock_goLeaving tag hs (.refl s) rfl rfl⟩
  · obtain ⟨hb, hsucc⟩ := not_or.mp h
    obtain ⟨f, hf⟩ := Option.ne_none_iff_exists'.mp hsucc
    rw [leave_of_handover (not_not.mp hb) hf]
    cases hnew : s.handsNew with
    | false =>
      rw [handOver_of_old tag f hnew]
      obtain ⟨hroster, -, -⟩ := handing_parts s f
      exact ⟨tag_goLeaving .., lock_goLeaving tag hs (((settled_handing s f).trans (settled_countDuplicate _)).trans (settled_countOrdered _))
        hroster (handing_lockView s f)⟩
    | true =>
      rw [handOver_of_new tag f hnew]
      have hne : f ≠ s.own := (successor_iff.mp hf).1
      obtain ⟨hsettled, -, -, hroster, -⟩ := handed_spec tag hne
      have hview : (s.handed tag f).lockView = s.lockView :=
        (moves_claimBelief f (recordOrder s.orders.nextRackSeq s.own s.own s.orders.nextSeq (s.handing f)) rack_mem).lockRack.trans (handing_lockView s f)
      have hlock := locksBy_notify (left := some f) (locksBy_of_view hsettled.own hview hs.2.2)
      have hnotified := conserves_notify (some f) (before := s) (s := s.handed tag f) (.inr (by rw [hroster]; exact nofun))
      have htag : (s.handed tag f).roster.leaveTag = some tag := by rw [hroster]
      rw [← hnotified.leaveTag] at htag
      have hnlock : (notify (some f) s (s.handed tag f)).clock.lock ≠ .master := fun k => by
        have hleft := hlock.1.mp k
        rw [hnotified.own, hsettled.own] at hleft
        exact hne (Option.some.inj hleft)
      generalize notify (some f) s (s.handed tag f) = n at htag hnlock
      have hfinish := moves_finishOrder s.own s.orders.nextSeq (.masterClaim f) s.orders.nextRackSeq n rack_mem
      have hcount : Moves [.rack] n (countOrdered (finishOrder s.own s.orders.nextSeq (.masterClaim f) s.orders.nextRackSeq n)) :=
        hfinish.trans (moves_countOrdered _)
      generalize countOrdered (finishOrder s.own s.orders.nextSeq (.masterClaim f) s.orders.nextRackSeq n) = m at hcount
      have hmlock : m.clock.lock ≠ .master := by
        rw [lock_of_view hcount.lockRack]
        exact hnlock
      have hleave := moves_leaveTaps (resubmit s m) rack_mem
      refine ⟨?_, ?_⟩
      · rw [((hcount.conservesRack.trans (conserves_resubmit s m)).trans hleave.conservesRack).leaveTag]
        exact htag
      · rw [lock_of_view hleave.lockRack]
        exact resubmit_lock s hmlock

theorem inOffice_leave (tag : Word16) (hs : s.inOffice) (ha : s.roster.ownState = .active) : (leave tag s).inOffice := by
  have hmade := leave_made tag s
  obtain ⟨htag, hlock⟩ := leave_leaves tag hs
  refine ⟨hmade.stands hs.1 ha, ?_, locksBy_of_lock hlock (hmade.settled.own ▸ hmade.belief)⟩
  unfold State.tagged
  rw [htag, hmade.roster]
  exact ⟨fun _ => nofun, fun _ => rfl⟩

theorem inOffice_leaveRack (tag : Word16) (force : Bool) (hs : s.inOffice) : (leaveRack tag force s).inOffice := by
  unfold leaveRack
  split
  · exact (carried_post ..).inOffice hs
  · next ha =>
    split
    · exact (carried_post ..).inOffice hs
    · exact inOffice_concluded ((carried_post ..).inOffice (inOffice_leave tag hs (not_not.mp ha)))

/-! ### The leave announced and complete, and Rejoin Rack (R105, R107, R108) -/

theorem inOffice_leaveAnnounced (hs : s.inOffice) : (conclude s (announceLeave s)).inOffice := by
  obtain ⟨hstands, htagged, hlock⟩ := hs
  refine inOffice_concludeFrom (stands_announceLeave hstands) (.inl (tagged_announceLeave htagged)) (locksBy_of_clock ?_ ?_ hlock) fun k => ?_
  · exact (moves_announceLeave (L := [.rack, .lock]) s of_eval of_eval).own
  · unfold announceLeave
    split <;> rfl
  · rw [← announceLeave_ownState, k]
    exact nofun

theorem inOffice_leaveComplete (hs : s.inOffice) : (conclude s (completeLeave s)).inOffice := by
  obtain ⟨hstands, htagged, hlock⟩ := hs
  refine inOffice_concludeFrom (stands_completeLeave hstands) ?_ (locksBy_of_clock ?_ ?_ hlock) fun k => ?_
  · exact (tagged_completeLeave hstands htagged).imp_right fun k => ⟨by rw [k.1]; exact nofun, k.2⟩
  · exact (moves_completeLeave (L := [.rack, .lock]) s of_eval of_eval).own
  · unfold completeLeave
    split <;> rfl
  · rcases tagged_completeLeave hstands htagged with - | ⟨-, j⟩
    · unfold completeLeave at k
      split at k
      · exact nomatch k
      · rw [k]
        exact nofun
    · rw [j] at k
      exact nomatch k

theorem inOffice_rejoinRack (tag : Word16) (hs : s.inOffice) : (rejoinRack tag s).inOffice := by
  unfold rejoinRack
  split
  · next hd =>
    obtain ⟨hstands, htagged, hlock⟩ := hs
    have hphase := phase_of_active hstands (by rw [hd]; exact nofun)
    have hfinished := finished_of_active hstands (by rw [hd]; exact nofun)
    obtain ⟨y, hy⟩ : ∃ y, y = s.onRoster fun r => { r with ownState := .active } := ⟨_, rfl⟩
    have hystands : y.stands := by
      subst hy
      exact ⟨⟨⟨nofun, fun k => absurd hfinished k⟩, nofun, hstands.regions.2.2⟩,
        ⟨nofun, fun k => absurd hphase k⟩, hstands.waits, nofun, fun _ => rfl⟩
    have hytagged : y.tagged := by
      subst hy
      exact htagged
    have hylock : y.locksBy s.roster.belief := by
      subst hy
      exact hlock
    have hstate : y.roster.ownState = .active := by rw [hy]; rfl
    rw [← hy]
    have hmoved := (moves_electIfNone y rack_mem).trans (moves_post tag 0x25 .done _)
    have hc := hmoved.conservesRack
    refine inOffice_concludeFrom (hc.stands hystands) (.inl (hc.tagged hytagged)) (locksBy_of_view hc.own hmoved.lockRack hylock) fun k => ?_
    rw [hc.ownState, hstate] at k
    exact nomatch k
  · exact (carried_post ..).inOffice hs

/-! ### Restart Part (R188) -/

theorem stands_restartBlocks (hs : s.stands) (ha : s.roster.ownState ≠ .starting) : (restartBlocks s).stands := by
  refine ⟨⟨⟨nofun, fun k => absurd (finished_of_active hs ha) k⟩, nofun, regionsApart_restart hs.regions.2.2⟩, ⟨nofun, fun k => absurd rfl k⟩,
    fun _ => rfl, nofun, fun _ => rfl⟩

theorem inOffice_restartTold (tag : Word16) (hs : s.stands) (ha : s.roster.ownState ≠ .starting) : (s.restartTold tag).inOffice := by
  have hblocks := stands_restartBlocks hs ha
  have htagged : (restartBlocks s).tagged := ⟨nofun, fun k => absurd rfl k⟩
  have hquiet : Moves [.writes] (restartBlocks s) (s.restarted tag) := (moves_post ..).trans (moves_requestWrite _ _ of_eval)
  have hrestarted := Carried.of_quiet hquiet rfl fun _ => rfl
  have hfree : (s.restarted tag).clock.lock ≠ .master := by
    rw [lock_of_view hrestarted.lockView]
    exact nofun
  have helect := moves_electIfNone (s.restarted tag) rack_mem
  have hefree : (electIfNone (s.restarted tag)).clock.lock ≠ .master := by
    rw [lock_of_view helect.lockRack]
    exact hfree
  have hc := hrestarted.conserves.trans helect.conservesRack
  unfold State.restartTold
  generalize electIfNone (s.restarted tag) = e at hc hefree
  have hraised : Moves [] e (notifyRestartBelief s (notifyOwn s (e.others.foldl (notifyFrame s) (notifyFreeRun s e)))) := by
    have free : Moves [] e (notifyFreeRun s e) := .ite (fun _ => .refl e) fun _ => moves_raise ..
    have belief (v : State) : Moves [] v (notifyRestartBelief s v) := .ite (fun _ => .refl v) fun _ => moves_raise ..
    exact ((free.trans (.foldl (fun v f => moves_notifyFrame s v f) _ _)).trans (moves_notifyOwn ..)).trans (belief _)
  change (followMaster none e.roster.belief (notifyRestartBelief s (notifyOwn s (e.others.foldl (notifyFrame s) (notifyFreeRun s e))))).inOffice
  have hcarried := Carried.of_counts hraised
  generalize notifyRestartBelief s (notifyOwn s (e.others.foldl (notifyFrame s) (notifyFreeRun s e))) = w at hcarried
  have hwfree : w.clock.lock ≠ .master := by
    rw [lock_of_view hcarried.lockView]
    exact hefree
  have hfollow : Conserves w (followMaster none e.roster.belief w) :=
    (moves_followMaster (L := [.lock]) none e.roster.belief w of_eval).conserves rfl fun _ => rfl
  have hend := (hc.trans hcarried.conserves).trans hfollow
  refine ⟨hend.stands hblocks, hend.tagged htagged, ?_⟩
  rw [followMaster_roster, hcarried.belief]
  exact locksBy_followMaster (locksBy_of_lock hwfree nofun)

theorem carried_makeRosterUpdate (s : State) : Carried s (makeRosterUpdate s) :=
  .of_rack (moves_makeRosterUpdate s rack_mem) (by rw [makeRosterUpdate_parts])

theorem carried_helloIfUp (p : Port) (s : State) : Carried s (helloIfUp p s) := by
  refine .of_rack ?_ (congrArg (fun k : State => k.roster.belief) (helloIfUp_only p s) :)
  unfold helloIfUp
  split
  · exact moves_placeHello p s rack_mem
  · exact moves_placeHello p s rack_mem
  all_goals exact .refl s

theorem inOffice_restartPart (tag : Word16) (hs : s.inOffice) (ha : s.roster.ownState ≠ .starting) : (restartPart tag s).inOffice :=
  inOffice_concluded ((((carried_helloIfUp .a _).trans (carried_helloIfUp .b _)).trans (carried_makeRosterUpdate _)).inOffice
    (inOffice_restartTold tag hs.1 ha))

/-! ### The refresh timer (R93, R113) -/

theorem inOffice_refresh (hs : s.inOffice) : (refresh s).inOffice := by
  unfold refresh
  split
  · obtain ⟨hstands, htagged, hlock⟩ := hs
    have helect := moves_refreshElection s rack_mem
    have hc := helect.conservesRack
    refine inOffice_concluded ((carried_makeRosterUpdate _).inOffice ?_)
    exact inOffice_announce (hc.stands hstands) (.inl (hc.tagged htagged)) (locksBy_of_view hc.own helect.lockRack hlock)
  · exact hs

/-! ### The exchange timer (R120, R121, R129) -/

theorem expire_lock_ne (h : c.lock ≠ .master) : c.expire.lock ≠ .master := by
  obtain ⟨hlost, haged, hkept⟩ := expire_lock c
  by_cases hl : c.loses
  · rw [(hlost hl).1]
    exact nofun
  · by_cases hh : c.lock = .holdover
    · rw [(haged hh).2]
      split <;> exact nofun
    · rw [(hkept hl hh).1]
      exact h

theorem requested_lock (c : RackTime) : c.requested.lock = c.lock := by
  unfold RackTime.requested
  split <;> rfl

/-- R120, R121: an expiry leaves a Master as it is, with no request, and makes of no other lock state the Master's. -/
theorem locksBy_exchanged {b : Option FrameNo} (h : s.locksBy b) : s.exchanged.locksBy b := by
  obtain ⟨-, hown, -, -⟩ := exchanged_parts s
  obtain ⟨hiff, hfree⟩ := h
  have hclock := exchanged_clock s
  by_cases hl : s.clock.lock = .master
  · obtain ⟨hup, hout⟩ := hfree hl
    have hkept := (expire_lock s.clock).2.2 (fun k => by rcases k.2 with k | k <;> rw [hl] at k <;> exact nomatch k) (by rw [hl]; exact nofun)
    obtain ⟨-, hnone, -, hexpired, -, -⟩ := expire_rest s.clock
    rw [requested_of_none (hexpired.trans hup)] at hclock
    unfold State.locksBy
    rw [hown, hclock]
    exact ⟨(iff_of_eq (congrArg (· = LockState.master) hkept.1)).trans hiff, fun _ => ⟨hexpired.trans hup, hnone⟩⟩
  · refine locksBy_of_lock ?_ fun k => hl (hiff.mpr (k.trans (congrArg some hown)))
    rw [hclock]
    change s.clock.expire.requested.lock ≠ .master
    rw [requested_lock]
    exact expire_lock_ne hl

theorem conserves_makeRequest (s : State) : Conserves s (makeRequest s) := by
  have hparts := makeRequest_parts s
  have hport (q : Port) : ((makeRequest s).port q).state = (s.port q).state := by
    unfold makeRequest
    split
    · rfl
    · next p hp => cases p <;> cases q <;> rfl
  generalize makeRequest s = t at hparts hport
  have hroster : t.roster = s.roster := by rw [hparts]
  have hown : t.own = s.own := by rw [hparts]; rfl
  refine ⟨hown, by rw [hroster], by rw [hroster], by rw [hroster], by rw [hroster]; exact id, stands_of_same hown (by rw [hparts]) hport ?_
    (by rw [hroster]) (by rw [hroster]) (by rw [hroster]; exact id) (by rw [hroster]; exact .inl) (by rw [hparts])⟩
  rw [hparts]
  exact fun _ _ => id

theorem inOffice_expireExchange (hs : s.inOffice) : (expireExchange s).inOffice := by
  unfold expireExchange
  split
  · obtain ⟨hstands, htagged, hlock⟩ := hs
    have hexpire : Conserves s (changeLock RackTime.expire s) :=
      (moves_changeLock (L := [.lock]) RackTime.expire s (kept_expire of_eval)).conserves rfl fun _ => rfl
    have hstart (u : State) : Conserves u (u.onClock RackTime.startExchange) :=
      (moves_startExchange (L := [.exchange]) u of_eval).conserves rfl fun _ => rfl
    have hc : Conserves s s.exchanged := (hexpire.trans (conserves_makeRequest _)).trans (hstart _)
    refine inOffice_concludeFrom (hc.stands hstands) (.inl (hc.tagged htagged)) (locksBy_exchanged hlock) fun k => ?_
    have hstate : s.roster.ownState = .leaving := hc.ownState.symm.trans k
    rw [hstate]
    exact nofun
  · exact hs

/-! ### The leader's reply (R122 to R128) -/

theorem approach_lock (h : c.lock ≠ .master) : (c.approach offset good).lock ≠ .master := by
  have hbegun : (if c.lock = .holdover then { c with lock := .acquiring, within := 0, holdoverAge := 0 } else c).lock ≠ .master := by
    split
    · exact nofun
    · exact h
  unfold RackTime.approach
  dsimp only
  generalize (if c.lock = .holdover then { c with lock := .acquiring, within := 0, holdoverAge := 0 } else c) = d at hbegun ⊢
  generalize (if offset.natAbs ≤ d.settings.lock * 256 then countTo 255 d.within else 0) = within
  split
  · exact nofun
  · exact hbegun

theorem toAcquiring_lock (c : RackTime) : c.toAcquiring.lock ≠ .master := nofun

theorem keepLock_lock (h : c.lock ≠ .master) : (c.keepLock offset good).lock ≠ .master := by
  unfold RackTime.keepLock
  dsimp only
  split
  · exact toAcquiring_lock c
  · split
    · split
      · exact toAcquiring_lock c
      · exact h
    · exact h

/-- R127, R128: steering makes no clock a Master's. -/
theorem steer_lock (h : c.lock ≠ .master) : (c.steer offset good).lock ≠ .master := by
  have hservo : (c.servo offset).lock = c.lock := rfl
  unfold RackTime.steer
  split
  · exact approach_lock (hservo ▸ h)
  · exact approach_lock (hservo ▸ h)
  · exact keepLock_lock (hservo ▸ h)
  · exact hservo ▸ h
  · next hk => exact absurd hk h

theorem acceptExchange_lock (quality : Byte) (h : s.clock.lock ≠ .master) : (acceptExchange offset quality good s).clock.lock ≠ .master := by
  rw [acceptExchange_clock]
  split
  · exact toAcquiring_lock (s.clock.accepted quality good)
  · exact steer_lock h

theorem inOffice_takeReply (p : Port) (b : TimeReplyBody) (hs : s.inOffice) : (takeReply p b s).inOffice := by
  have hmoved := moves_takeReply p b s (List.Subset.refl _)
  have hc := hmoved.conserves rfl fun _ => rfl
  have hbelief : (takeReply p b s).roster.belief = s.roster.belief := congrArg (fun k => k.2.1) (hmoved.rackView of_eval)
  obtain ⟨hstands, htagged, hiff, hfree⟩ := hs
  refine ⟨hc.stands hstands, hc.tagged htagged, ?_⟩
  rw [hbelief]
  by_cases hl : s.clock.lock = .master
  · have hlate : ¬ s.clock.matches p b = true := fun k => by
      rw [matches_iff, (hfree hl).2] at k
      exact nomatch k
    rw [takeReply, if_neg hlate]
    exact ⟨hiff, hfree⟩
  · refine locksBy_of_lock ?_ fun k => hl (hiff.mpr (k.trans (congrArg some hc.own)))
    unfold takeReply
    split
    · dsimp only
      split
      · exact hl
      · exact acceptExchange_lock _ hl
    · exact hl

theorem inOffice_timeReply (p : Port) (h : Header) (b : TimeReplyBody) (hs : s.inOffice) :
    (receive p ⟨h, .timeReply b⟩ (countNotJoined p) (neighbourFrame p h (takeReply p b)) s).inOffice := by
  obtain ⟨u, hu, hend | hend⟩ := receive_carried p ⟨h, .timeReply b⟩ (neighbourFrame p h (takeReply p b)) s
  · rw [hend]
    exact hu.inOffice hs
  · rw [hend, neighbourFrame]
    split
    · exact inOffice_takeReply p b (hu.inOffice hs)
    · exact (carried_counts ..).inOffice (hu.inOffice hs)

end Sys2Proof.Machine

/-! PROOFS. The load and its endings (R28, R61, R184 to R187), and every other command, keep the part's standing, belief and lock state. -/

namespace Sys2Proof.Machine
variable {s t u v : State} {L : List Effect} {p : Port}

/-! ### The load (R28, R61, R184 to R187) -/

/-- A part whose load is unfinished, but for its ports and the step of the load. -/
structure State.loads (s : State) : Prop where
  regions : ∀ i, (s.region i).valid = false
  phase : s.roster.phase = .none
  waitSet : s.roster.waitSet = 0
  tag : s.roster.leaveTag = none
  belief : s.roster.belief ≠ some s.own
  lock : s.clock.lock ≠ .master

theorem loads_of_inOffice (hs : s.inOffice) (hl : s.reporter.loadStep ≠ .finished) : s.loads := by
  obtain ⟨hstands, htagged, hlock⟩ := hs
  have hstart := hstands.regions.1.mpr hl
  have hphase := phase_of_active hstands (by rw [hstart]; exact nofun)
  have hbelief : s.roster.belief ≠ some s.own := fun k => by
    have hactive := hstands.belief k
    rw [hstart] at hactive
    exact nomatch hactive
  refine ⟨(hstands.regions.2.1 hstart).1, hphase, hstands.waits (by rw [hphase]; exact nofun), ?_, hbelief, fun k => hbelief (hlock.1.mp k)⟩
  exact Option.not_isSome_iff_eq_none.mp fun k => htagged.mp k hphase

/-- The effects of the load ahead of its end. -/
def readingEffects : List Effect := [.channel, .identity, .settings, .load, .writes]

theorem loads_reading (h : Moves readingEffects s t) (hs : s.loads) : t.loads := by
  have hview := h.rackView of_eval
  simp only [State.rackView, Prod.mk.injEq] at hview
  obtain ⟨-, hbelief, hphase, hwait, htag, -⟩ := hview
  have hregions : t.regions = s.regions := h.leaves fun _ _ => regions_move of_eval of_eval of_eval
  have hlock : t.lockView = s.lockView := h.leaves fun _ _ => lockView_move of_eval of_eval
  refine ⟨fun i => ?_, hphase.trans hs.phase, hwait.trans hs.waitSet, htag.trans hs.tag, ?_, ?_⟩
  · rw [State.region, hregions]
    exact hs.regions i
  · rw [hbelief, h.own]
    exact hs.belief
  · rw [lock_of_view hlock]
    exact hs.lock

/-- A step of the load that is not its end leaves the part Starting. -/
theorem inOffice_reading (h : Moves readingEffects s t) (hl : s.reporter.loadStep ≠ .finished) (hl' : t.reporter.loadStep ≠ .finished)
    (hs : s.inOffice) : t.inOffice := by
  have hloads := loads_reading h (loads_of_inOffice hs hl)
  have hstart := hs.1.regions.1.mpr hl
  have hstate : t.roster.ownState = .starting := (congrArg Prod.fst (h.rackView of_eval)).trans hstart
  have hports (p : Port) : t.portView p = s.portView p := h.leaves fun _ _ k => portView_move of_eval k p
  refine ⟨⟨⟨⟨fun _ => hl', fun _ => hstate⟩, fun _ => ⟨hloads.regions, fun p => ?_⟩, fun i j _ hi => ?_⟩, ?_, fun _ => hloads.waitSet, fun k => ?_,
    fun k => absurd k hloads.belief⟩, ?_, locksBy_of_lock hloads.lock hloads.belief⟩
  · rw [show (t.port p).state = (s.port p).state from congrArg Prod.fst (hports p)]
    exact hs.1.down hstart p
  · rw [hloads.regions i] at hi
    exact nomatch hi
  · rw [hstate, hloads.phase]
    exact ⟨nofun, fun k => absurd rfl k⟩
  · unfold State.away at k
    rw [hstate] at k
    exact nomatch k
  · unfold State.tagged
    rw [hloads.tag, hloads.phase]
    exact ⟨nofun, fun k => absurd rfl k⟩

/-- R28: the entries that the placement fills share no line. -/
theorem placeRegions_apart (s : State) : ∃ directive report, placeRegions s = (s.setRegion 0 directive).setRegion 1 report ∧
    (report.valid = true → directive.meets report = false) := by
  unfold placeRegions
  split
  · next c _ =>
    split
    · exact ⟨_, _, rfl, nofun⟩
    · next hfaulty =>
      refine ⟨_, _, rfl, fun _ => ?_⟩
      simp only [placementFaulty, Bool.or_eq_true, not_or, Bool.not_eq_true] at hfaulty
      exact hfaulty.2
  · exact ⟨_, _, rfl, fun _ => rfl⟩

theorem placed_apart {directive report : Region} (hs : ∀ i, (s.region i).valid = false) (h : report.valid = true → directive.meets report = false) :
    ((s.setRegion 0 directive).setRegion 1 report).regionsApart := by
  have hfree (e : Region) : s.overlaps e = false := by
    refine List.any_eq_false.mpr fun i _ => ?_
    simp [hs i]
  have hapart : s.regionsApart := fun i j _ hi => by
    rw [hs i] at hi
    exact nomatch hi
  refine regionsApart_set (regionsApart_set hapart (fun _ => hfree directive) rfl) (fun hr => List.any_eq_false.mpr fun i _ => ?_) rfl
  by_cases hi : i = 0
  · subst hi
    rw [setRegion_self]
    simp [h hr]
  · rw [setRegion_other _ _ hi]
    simp [hs i]

/-- R28, R61, R110, R186: the part becomes Active, its regions placed. -/
theorem inOffice_becomeActive (hs : s.loads) : (becomeActive s).inOffice := by
  obtain ⟨y, hy⟩ : ∃ y, y = placeRegions ((s.onRoster fun r => { r with ownState := .active }).onReporter fun d => { d with loadStep := .finished }) :=
    ⟨_, rfl⟩
  obtain ⟨directive, report, hplace, happart⟩ := placeRegions_apart
    ((s.onRoster fun r => { r with ownState := .active }).onReporter fun d => { d with loadStep := .finished })
  have hstands : y.stands := by
    rw [hy, hplace]
    exact ⟨⟨⟨nofun, fun k => absurd rfl k⟩, nofun, placed_apart hs.regions happart⟩, ⟨nofun, fun k => absurd hs.phase k⟩, fun _ => hs.waitSet, nofun,
      fun _ => rfl⟩
  have htagged : y.tagged := by
    rw [hy, hplace]
    change s.roster.leaveTag.isSome = true ↔ s.roster.phase ≠ .none
    rw [hs.tag, hs.phase]
    exact ⟨nofun, fun k => absurd rfl k⟩
  have hlock : y.locksBy s.roster.belief := by
    rw [hy, hplace]
    exact locksBy_of_lock (s := s) hs.lock hs.belief
  have hstate : y.roster.ownState = .active := by rw [hy, hplace]; rfl
  change (conclude s (electIfNone ((wakePort .b (wakePort .a (placeRegions
    ((s.onRoster fun r => { r with ownState := .active }).onReporter fun d => { d with loadStep := .finished })))).onClock RackTime.startExchange))).inOffice
  rw [← hy]
  have hmoved : Moves [.ports, .exchange, .rack] y (electIfNone ((wakePort .b (wakePort .a y)).onClock RackTime.startExchange)) :=
    (((moves_wakePort .a y of_eval).trans (moves_wakePort .b _ of_eval)).trans (moves_startExchange _ of_eval)).trans (moves_electIfNone _ of_eval)
  have hc := hmoved.conserves rfl fun k => by rw [hstate] at k; exact nomatch k
  refine inOffice_concludeFrom (hc.stands hstands) (.inl (hc.tagged htagged)) (locksBy_of_view hc.own (hmoved.lockView of_eval rfl) hlock) fun k => ?_
  rw [hc.ownState, hstate] at k
  exact nomatch k

theorem moves_reads (f : Reporter → Reporter) (s : State) (hf : (s.reporter.right → (f s.reporter).right) ∧ (f s.reporter).straps = s.reporter.straps ∧
    (f s.reporter).directivesTaken = s.reporter.directivesTaken ∧ (f s.reporter).partialDirectives = s.reporter.partialDirectives ∧
    (f s.reporter).acknowledged = s.reporter.acknowledged) : Moves readingEffects s (s.onReporter f) := moves_load f s of_eval of_eval hf

theorem moves_countless (s : State) : Moves readingEffects s (noRestartCount s) :=
  (moves_setIncarnation 0 s of_eval).trans (moves_raiseConfigFault _ _ of_eval)

theorem inOffice_absent (hs : s.loads) : (absent s).inOffice :=
  inOffice_becomeActive (loads_reading ((((moves_reads _ s ⟨id, rfl, rfl, rfl, rfl⟩).trans (moves_raiseConfigFault _ _ of_eval)).trans
    (moves_countless _)).trans (moves_distribute _ of_eval)) hs)

theorem inOffice_readBlock (block : Option (BitVec 448)) (hl : s.reporter.loadStep ≠ .finished) (hs : s.inOffice) : (readBlock block s).inOffice := by
  unfold readBlock
  split
  · exact inOffice_reading (moves_reads _ s ⟨id, rfl, rfl, rfl, rfl⟩) hl nofun hs
  · unfold badBlock
    split
    · exact inOffice_reading (moves_reads _ s ⟨id, rfl, rfl, rfl, rfl⟩) hl nofun hs
    · exact inOffice_reading ((moves_reads _ s ⟨id, rfl, rfl, rfl, rfl⟩).trans (moves_raiseConfigFault _ _ of_eval)) hl nofun hs

theorem inOffice_readCount (count : Option Word16) (hl : s.reporter.loadStep ≠ .finished) (hs : s.inOffice) : (readCount count s).inOffice := by
  unfold readCount
  split
  · exact inOffice_reading ((moves_distribute s of_eval).trans (moves_reads _ _ ⟨id, rfl, rfl, rfl, rfl⟩)) hl nofun hs
  · exact inOffice_becomeActive (loads_reading (((moves_reads _ s ⟨id, rfl, rfl, rfl, rfl⟩).trans (moves_countless _)).trans
      (moves_distribute _ of_eval)) (loads_of_inOffice hs hl))

/-- What of the reporter is no part of the standing. -/
theorem carried_onReporter (f : Reporter → Reporter) (hl : (f s.reporter).loadStep = s.reporter.loadStep) (hs : (f s.reporter).straps = s.reporter.straps) :
    Carried s (s.onReporter f) :=
  have hown : (s.onReporter f).own = s.own := congrArg Straps.frame hs
  ⟨⟨hown, rfl, rfl, rfl, id, stands_of_same hown rfl (fun _ => rfl) (fun _ _ => id) rfl rfl id .inl hl⟩, rfl, rfl⟩

theorem inOffice_writeDone (hs : s.inOffice) : (writeDone s).inOffice := by
  unfold writeDone
  split
  · next hl _ =>
    exact inOffice_becomeActive (loads_reading ((moves_reads _ s ⟨id, rfl, rfl, rfl, rfl⟩).trans (moves_setIncarnation _ _ of_eval))
      (loads_of_inOffice hs (by rw [hl]; exact nofun)))
  · exact (carried_onReporter _ rfl rfl).inOffice hs
  · exact hs

theorem inOffice_writeFail (hs : s.inOffice) : (writeFail s).inOffice := by
  unfold writeFail
  split
  · next hl _ =>
    exact inOffice_becomeActive (loads_reading ((moves_reads _ s ⟨id, rfl, rfl, rfl, rfl⟩).trans (moves_countless _))
      (loads_of_inOffice hs (by rw [hl]; exact nofun)))
  · exact (((carried_onReporter _ rfl rfl).trans (.of_counts (moves_raise ..))).trans (carried_onReporter _ rfl rfl)).inOffice hs
  · exact hs

/-! ### Directives (R173) -/

theorem inOffice_dispatch (d : Directive) (hn : s.roster.ownState ≠ .starting) (hs : s.inOffice) : (dispatch d s).inOffice := by
  have quiet {L : List Effect} {t : State} (h : Moves L s t) (hL : quietEffects L = true) : t.inOffice :=
    (Carried.of_quiet h hL fun k => absurd k hn).inOffice hs
  cases d with
  | unbindTap tag t =>
    exact (course_onTapNumber (L := [.regions, .bindings]) _ _ _ _ s fun t => course_unbindTapAt tag t s (by decide) (by decide)).inOffice rfl hn hs
  | stopTap tag t => exact (course_onTapNumber (L := [.rack]) _ _ _ _ s fun t => course_stopTapAt tag t s rack_mem).inOffice rfl hn hs
  | haltTap tag t => exact (course_onTapNumber (L := [.rack]) _ _ _ _ s fun t => course_haltTapAt tag t s rack_mem).inOffice rfl hn hs
  | forgetFrame tag f =>
    exact (course_onOther (L := entryEffects) _ _ _ _ s fun f => course_forgetAt tag f s (List.Subset.refl _)).inOffice rfl hn hs
  | portControl tag port action =>
    exact (course_portControl (L := portEffects) tag port action s (by decide) (by decide) fun _ => List.Subset.refl _).inOffice rfl hn hs
  | leaveRack tag force => exact inOffice_leaveRack tag force hs
  | rejoinRack tag => exact inOffice_rejoinRack tag hs
  | masterClaim tag f noWait => exact inOffice_rackDirective _ _ _ _ hs
  | rackArm tag g time noWait => exact inOffice_rackDirective _ _ _ _ hs
  | rackHalt tag g noWait => exact inOffice_rackDirective _ _ _ _ hs
  | restartPart tag => exact inOffice_restartPart tag hs hn
  | _ => exact quiet (moves_dispatch _ s (List.Subset.refl _)) rfl

theorem inOffice_takeDirective (d : Directive) (hn : s.roster.ownState ≠ .starting) (hs : s.inOffice) : (takeDirective d s).inOffice :=
  inOffice_dispatch d hn ((carried_onReporter _ rfl rfl).inOffice hs)

theorem starting_of_region {i : Fin 18} (hs : s.stands) (h : (s.region i).valid = true) : s.roster.ownState ≠ .starting := fun k => by
  rw [(hs.regions.2.1 k).1 i] at h
  exact nomatch h

theorem inOffice_directive (d : Directive) (hs : s.inOffice) : (throughRegion (takeDirective d) s).inOffice := by
  unfold throughRegion
  split
  · next h => exact inOffice_takeDirective d (starting_of_region hs.1 h) hs
  · exact hs

end Sys2Proof.Machine

/-! PROOFS. Every command keeps regions, load, leave, belief and lock state consistent, together (R21, R29, R61, R88, R104 to R110, R118, R131,
R184). -/

namespace Sys2Proof.Machine
variable {s t u v : State} {p : Port}

/-! ### Writes (R11, R18, R23) -/

theorem carried_channel (f : Channel → Channel) (s : State) : Carried s (s.onChannel f) :=
  .of_quiet (Moves.channel (L := [.channel]) f of_eval) rfl fun _ => rfl

/-- A part that is Starting routes no line to a block. -/
theorem starting_of_route {line : Nat} {r : Route} (hs : s.stands) (h : s.routeOfLine line = some r) : s.roster.ownState ≠ .starting := by
  obtain ⟨i, hi, -⟩ := Option.map_eq_some_iff.mp h
  have hvalid := List.find?_some hi
  simp only [Region.contains, Bool.and_eq_true] at hvalid
  obtain ⟨⟨hv, -⟩, -⟩ := hvalid
  exact starting_of_region hs hv

theorem inOffice_passWrite (w : WriteBurst) (beats : List Beat) (hs : s.inOffice) : (passWrite w beats s).inOffice := by
  unfold passWrite
  split
  · unfold serveWrite
    split
    · next hroute =>
      unfold directiveWrite
      split
      · exact inOffice_takeDirective _ (starting_of_route hs.1 hroute) hs
      · exact (Carried.of_quiet (moves_takePartial (L := [.partials]) _ _ s of_eval) rfl fun _ => rfl).inOffice hs
    · exact (moves_tapWrite (L := [.rack]) _ _ _ _ s rack_mem).inOffice_conclude rfl (fun _ => rfl) hs
    · exact (Carried.of_quiet (moves_mirrorCounters (L := [.halves]) _ _ s of_eval) rfl fun _ => rfl).inOffice hs
    · exact hs
    · exact hs
  · exact hs

theorem inOffice_writeAccess (beats : List Beat) (hs : s.inOffice) : (channelCommand (.writeAccess beats) (handOn beats) s).inOffice := by
  have passed : Carried s { s with toDram := some (.writeAccess beats) } := .of_quiet (Moves.one (.toDram (L := [.toDram]) s _ of_eval)) rfl fun _ => rfl
  unfold channelCommand
  dsimp only
  split
  · exact passed.inOffice hs
  · unfold handOn
    split
    · exact passed.inOffice hs
    · exact inOffice_passWrite _ _ ((passed.trans (carried_channel ..)).inOffice hs)

/-! ### Ports that are down while the part is Starting (R29, R61) -/

theorem loseSignal_starting (hs : s.stands) (hstart : s.roster.ownState = .starting) (p : Port) :
    loseSignal p (setSignal p false s) = setSignal p false s := by
  have hstate : ((setSignal p false s).port p).state = (s.port p).state := by cases p <;> rfl
  unfold loseSignal
  rw [hstate]
  rcases hs.down hstart p with h | h <;> rw [h]

theorem inOffice_lossOfSignal (p : Port) (hs : s.inOffice) : (conclude s (loseSignal p (setSignal p false s))).inOffice := by
  by_cases hstart : s.roster.ownState = .starting
  · rw [loseSignal_starting hs.1 hstart]
    exact (moves_setSignal (L := [.signal]) p false s of_eval).inOffice_conclude rfl (fun _ => rfl) hs
  · exact (moves_signalLost (L := .signal :: portEffects) p s (by decide) (by decide)).inOffice_conclude rfl (fun k => absurd k hstart) hs

theorem detectSignal_starting (hstart : s.roster.ownState = .starting) (p : Port) : detectSignal p (setSignal p true s) = setSignal p true s :=
  if_neg fun k => k.2 hstart

theorem inOffice_signalDetected (p : Port) (hs : s.inOffice) : (detectSignal p (setSignal p true s)).inOffice := by
  by_cases hstart : s.roster.ownState = .starting
  · rw [detectSignal_starting hstart]
    exact (Carried.of_quiet (moves_setSignal (L := [.signal]) p true s of_eval) rfl fun _ => rfl).inOffice hs
  · have hmoved : Moves [.signal, .ports] s (detectSignal p (setSignal p true s)) :=
      (moves_setSignal p true s of_eval).trans (moves_detectSignal p _ of_eval)
    exact (Carried.of_quiet hmoved rfl fun k => absurd k hstart).inOffice hs

/-- A port that is Disabled or Dark is in no other state. -/
theorem state_of_down (hs : s.stands) (hstart : s.roster.ownState = .starting) (p : Port) (st : PortState) (h1 : st ≠ .disabled) (h2 : st ≠ .dark) :
    (s.port p).state ≠ st := fun k => by
  subst k
  exact (hs.down hstart p).elim h1 h2

theorem badCrc_starting (hs : s.stands) (hstart : s.roster.ownState = .starting) (p : Port) : badCrc p s = s := by
  unfold badCrc
  rcases hs.down hstart p with h | h <;> rw [h]

/-! ### Every command -/

/-- A command that leaves the belief, the lock state, the regions and the port states. -/
theorem inOffice_of_quiet {c : Instr} (hc : ∀ f a b, c ≠ .partReset f a b) (hq : quietEffects (effectsOf c) = true) (hl : stillEffects (effectsOf c) = true)
    (hs : s.inOffice) : ∃ t, exec c s = .next t ∧ t.inOffice := by
  obtain ⟨t, ht, hmoves⟩ := movesBy_of_ne_partReset c hc s
  exact ⟨t, ht, (Carried.of_quiet hmoves hq fun _ => hl).inOffice hs⟩

theorem exec_inOffice (c : Instr) (hs : s.inOffice) : ∃ t, exec c s = .next t ∧ t.inOffice := by
  have quiet {c : Instr} (hc : ∀ f a b, c ≠ .partReset f a b) (hq : quietEffects (effectsOf c) = true) (hl : stillEffects (effectsOf c) = true) :=
    inOffice_of_quiet hc hq hl hs
  have idle {p : Port} {f : Frame} {linked joined : State → State} (hstart : s.roster.ownState = .starting) : receive p f linked joined s = s :=
    receive_starting hs.1 hstart
  cases c with
  | partReset f a b => exact ⟨_, rfl, inOffice_iff.mpr ⟨regionsRight_reset _ _ _, leaveRight_reset _ _ _, masterRight_reset _ _ _⟩⟩
  | eepromAbsent =>
    refine ⟨_, rfl, ?_⟩
    split
    · next hl => exact inOffice_absent (loads_of_inOffice hs (by rw [hl]; exact nofun))
    · exact hs
  | configurationBlockRead block =>
    refine ⟨_, rfl, ?_⟩
    split
    · next hl => exact inOffice_readBlock block (by rcases hl with h | h <;> rw [h] <;> exact nofun) hs
    · exact hs
  | restartCountRead count =>
    refine ⟨_, rfl, ?_⟩
    split
    · next hl => exact inOffice_readCount count (by rw [hl]; exact nofun) hs
    · exact hs
  | restartCountWriteDone => exact ⟨_, rfl, inOffice_writeDone hs⟩
  | restartCountWriteFail => exact ⟨_, rfl, inOffice_writeFail hs⟩
  | channelResetAssert => exact quiet nofun rfl rfl
  | channelResetRelease => exact quiet nofun rfl rfl
  | openRow r b n => exact quiet nofun rfl rfl
  | read r b c a k => exact quiet nofun rfl rfl
  | write r b c a k => exact quiet nofun rfl rfl
  | writeAccess beats => exact ⟨_, rfl, inOffice_writeAccess beats hs⟩
  | close r b => exact quiet nofun rfl rfl
  | closeAll r => exact quiet nofun rfl rfl
  | refresh r => exact quiet nofun rfl rfl
  | selfRefreshEnter r => exact quiet nofun rfl rfl
  | selfRefreshExit r => exact quiet nofun rfl rfl
  | powerDownEnter r => exact quiet nofun rfl rfl
  | powerDownExit r => exact quiet nofun rfl rfl
  | modeSet r v => exact quiet nofun rfl rfl
  | partialDirective n k => exact quiet nofun rfl rfl
  | signalDetected p => exact ⟨_, rfl, inOffice_signalDetected p hs⟩
  | lossOfSignal p => exact ⟨_, rfl, inOffice_lossOfSignal p hs⟩
  | neighbourTraining p =>
    exact ⟨_, rfl, (moves_neighbourTrains p s (List.Subset.refl _)).inOffice_event rfl
      (fun k => if_neg (state_of_down hs.1 k p .joined nofun nofun)) hs⟩
  | alignmentComplete p =>
    exact ⟨_, rfl, (moves_align (L := [.ports, .rack]) p s of_eval of_eval).inOffice_event rfl
      (fun k => if_neg (state_of_down hs.1 k p .training nofun nofun)) hs⟩
  | trainingTimeout p =>
    obtain ⟨t, ht, hmoves⟩ := movesBy_of_ne_partReset (.trainingTimeout p) nofun s
    refine ⟨t, ht, ?_⟩
    by_cases hstart : s.roster.ownState = .starting
    · have hsame : trainingExpires p s = s := if_neg (state_of_down hs.1 hstart p .training nofun nofun)
      injection ht with ht
      rw [← ht, hsame]
      exact hs
    · exact (Carried.of_quiet hmoves rfl fun k => absurd k hstart).inOffice hs
  | helloTimer p => exact ⟨_, rfl, (moves_helloExpires p s rack_mem).inOffice_conclude rfl (fun _ => rfl) hs⟩
  | badCrcFrame p => exact ⟨_, rfl, (moves_badCrc p s (List.Subset.refl _)).inOffice_event rfl (fun k => badCrc_starting hs.1 k p) hs⟩
  | malformedFrame p fault => exact quiet nofun rfl rfl
  | sample p h b =>
    exact ⟨_, rfl, (moves_sampleReceived (L := [.halves, .bytes, .rack]) p h s b of_eval of_eval of_eval).inOffice_event rfl idle hs⟩
  | mark p h b => exact ⟨_, rfl, (moves_markReceived (L := [.halves, .rack]) p h s b of_eval of_eval).inOffice_event rfl idle hs⟩
  | timeRequest p h b => exact ⟨_, rfl, (moves_timeRequestReceived p h s b rack_mem).inOffice_event rfl idle hs⟩
  | timeReply p h b => exact ⟨_, rfl, inOffice_timeReply p h b hs⟩
  | hello p h b => exact ⟨_, rfl, (moves_helloReceived p h s b (List.Subset.refl _)).inOffice_event rfl idle hs⟩
  | rosterUpdate p h b =>
    exact ⟨_, rfl, (moves_rosterUpdateReceived (L := .recent :: entryEffects) p h s b (by decide) (by decide)).inOffice_event rfl idle hs⟩
  | leaveAck p h b => exact ⟨_, rfl, (moves_leaveAckReceived p h s b rack_mem).inOffice_event rfl idle hs⟩
  | rackRequest p h b => exact ⟨_, rfl, inOffice_concluded (inOffice_rackRequest p h b hs)⟩
  | rackOrder p h b => exact ⟨_, rfl, inOffice_rackOrder p h b hs⟩
  | rackRefusal p h b => exact ⟨_, rfl, inOffice_concluded (inOffice_rackRefusal p h b hs)⟩
  | transmissionComplete p => exact ⟨_, rfl, (moves_completeFrame p s rack_mem).inOffice_conclude rfl (fun _ => rfl) hs⟩
  | tapDrained t => exact ⟨_, rfl, (moves_settleTap t s rack_mem).inOffice_conclude rfl (fun _ => rfl) hs⟩
  | armTimeReached t => exact quiet nofun rfl rfl
  | leaveAnnounced => exact ⟨_, rfl, inOffice_leaveAnnounced hs⟩
  | leaveComplete => exact ⟨_, rfl, inOffice_leaveComplete hs⟩
  | refreshTimerExpiry => exact ⟨_, rfl, inOffice_refresh hs⟩
  | exchangeTimerExpiry => exact ⟨_, rfl, inOffice_expireExchange hs⟩
  | resendTimerExpiry =>
    refine ⟨_, rfl, ?_⟩
    unfold resend
    split
    · exact (moves_resendAll s rack_mem).inOffice_conclude rfl (fun _ => rfl) hs
    · exact hs
  | tick => exact quiet nofun rfl rfl
  | _ => exact ⟨_, exec_of_recordOf rfl s, inOffice_directive _ hs⟩

/-- Settles O23: what concludes every event brings the lock state after the belief, and no operation moves the rest of the standing but the load, a
leave and a restart. -/
theorem regionsLeaveAndMasterStayRight : Obligations.RegionsLeaveAndMasterStayRight := by
  intro s t h hstep
  unfold step at hstep
  split at hstep
  · injection hstep with hstep
    exact hstep ▸ h
  · next c rest _ =>
    have hqueued : (s.withPending rest).inOffice := inOffice_iff.mpr h
    obtain ⟨u, hu, hend⟩ := exec_inOffice c hqueued
    rw [hu] at hstep
    injection hstep with hstep
    exact inOffice_iff.mp (hstep ▸ hend)

end Sys2Proof.Machine
